-- ==== Sys2Proof/Word.lean ====
section
/-!
DEFINITION. The word types of the device (R5, R54, R57, R66) and the names of its repeated parts that commands and
State share: halves, processors, requesters (R8, R53, R457).
-/

namespace Sys2Proof

/-- A register, general register or memory word (R5, R54). -/
abbrev Word := BitVec 32

/-- One octet. -/
abbrev Byte := BitVec 8

/-- A Timebase count, a firing count or any other 64-bit quantity (R23, R38). -/
abbrev Count := BitVec 64

/-- A general register number, g0 to g31 (R54). -/
abbrev Reg := Fin 32

/-- Half A and Half B (R8). -/
inductive Half where
  | a | b
  deriving DecidableEq, Repr

/-- A programmable part: Wale engine En, a Main Processor, or Custody (R53). -/
inductive Proc where
  | eng (n : Fin 64)
  | mp (h : Half)
  | custody
  deriving DecidableEq, Repr

/-- A requester of the Control Space, in the order of R457. -/
inductive Req where
  | eng (n : Fin 64)
  | mp (h : Half)
  | custody
  | host
  | tap
  deriving DecidableEq, Repr

/-- The two all-channel receivers (R160). -/
inductive Acr where
  | s | w
  deriving DecidableEq, Repr

/-- A receive path of one frame: a lane, the trunk transceiver, or an ACR channel through digitizer 0 or 1 (R17, R163,
R203). -/
inductive Path where
  | lane (n : Fin 16)
  | trunk
  | acr (a : Acr) (k : Fin 128) (dig : Fin 2)
  deriving DecidableEq, Repr

end Sys2Proof
end

