-- ==== Sys2Proof/Signals.lean ====
section
/-!
DEFINITION. What the commands that stand for events outside the registers carry: what a receiver measured, what a bus
or a link delivered, what a verification found. They are operands of `Instr`.
-/

namespace Sys2Proof

/-- A complex sample of a digitizer or of a channel (R160). -/
structure Sample where
  i : Int
  q : Int
  deriving DecidableEq, Repr, Inhabited

/-- What stands where an SFD is expected: the 16 bits on FSK, first bit highest, or the chips in error of each of the two
O-QPSK symbols (R191). -/
inductive SfdSeen where
  | fsk (w : BitVec 16)
  | oqpsk (e1 e2 : Fin 33)
  deriving DecidableEq, Repr

/-- What the measures of a frame are made of (R192, R193). -/
structure Measures where
  /-- power of each sample of the detection window at the aerial port, in 10^−15 mW -/
  window : List Nat
  /-- signal and error power, summed over the PSDU or the data symbols in one unit -/
  signal : Nat
  error : Nat
  /-- measured less nominal frequency deviation of each PSDU symbol, in 0.1 % of the nominal -/
  devs : List Int
  /-- the lane's or the trunk's ADC clipped during the frame -/
  clipped : Bool
  deriving DecidableEq, Repr

/-- A frame as the demodulator gives it, a coded one after its FEC: its PHR, first bit highest (O-QPSK: the octet), whether the
PHR passes its check, the octets of the PSDU it declares as they came on air, whitened where its DW bit says so, and on an ACR
path the samples that entered the rank stage from preamble detection to frame end (R170, R188). -/
structure RxEnd where
  phr : BitVec 16
  phrOk : Bool
  onAir : List Byte
  m : Measures
  chain : List Sample
  deriving DecidableEq, Repr

/-- A source address (R212). -/
inductive Source where
  | short (a : Nat)
  | ext (a : Nat)
  deriving DecidableEq, Repr

/-- A received copy as its post-processing role has parsed it (R16, stage 2). -/
structure FrameIn where
  path : Path
  /-- the half whose post-processing role parsed it -/
  half : Half
  source : Source
  fc : Nat
  /-- MAC header with the auxiliary security header, and the secured payload with its MIC -/
  header : List Byte
  payload : List Byte
  lqw0 : BitVec 32
  lqw1 : BitVec 32
  /-- receive timestamp: count and word 2 (R36) -/
  rxCount : Nat
  rxWord2 : BitVec 32
  /-- next sample instant the CSL IE gives, rounded down to a tick -/
  csl : Option Nat
  /-- count at which the frame ended -/
  ended : Nat
  ackReq : Bool
  fsk : Bool
  deriving DecidableEq, Repr

/-- What the decryption of a copy gives: the payload, the fragment IE (DGSIZE, DGTAG, OFFSET in octets; R251), and
whether it is a datagram or a fragment of one, and not an acknowledgement or a transaction's response. -/
structure Opened where
  payload : List Byte
  frag : Option (Nat × Nat × Nat)
  datagram : Bool
  deriving DecidableEq, Repr

/-- What a result record reports of a transaction (R252, R256 to R258). -/
inductive Report where
  /-- the verified acknowledgement of fragment `frag` of a transaction sent in fragments of `size` octets; size 0 where
  the payload went whole (R252) -/
  | acked (frag size : Nat)
  /-- the transaction is complete: every fragment acknowledged and the response received, or a group radiated -/
  | complete (response : List Byte)
  /-- no frame of it is on air or awaits acknowledgement -/
  | idle
  /-- the role or the security engine gives up with a status of R256 -/
  | failed (status : Nat)
  deriving DecidableEq, Repr

/-- A result record (R257) with the kind, resource and placement generation of the role that wrote it (R119). -/
structure ResultRec where
  kind : Nat
  res : Nat
  gen : Nat
  lsn : Nat
  report : Report
  lqw0 : BitVec 32
  lqw1 : BitVec 32
  deriving DecidableEq, Repr

/-- A frame of the Anchor Sync Bus (R324, R325). -/
structure BusFrame where
  type : Nat
  addr : Nat
  data : List Byte
  deriving DecidableEq, Repr, Inhabited

/-- How a bus frame ends for this station (R327): its own, acknowledged or not or with a bit error; another station's,
received intact, its SOF `sofAgo` ticks back; or one with a CRC or format error, or a stuff error. -/
inductive BusEnd where
  | own (acked : Bool) (bitError : Bool)
  | other (src : Nat) (f : BusFrame) (sofAgo : Nat)
  | crcError
  | stuffError
  deriving DecidableEq, Repr

/-- A trunk frame as received (R195, R196, R207): the combined header with its CRC-8, the payload with its CRC-32 as decoded and
still scrambled, and the energies of short-training repetitions 1 to 4 on T_A and 5 to 8 on T_B. `soundings` holds the SNR of the 48 data
sub-carriers, in 0.25 dB, of each sounding symbol; `startAgo` the ticks since the frame's first symbol. -/
structure TrunkRx where
  header : BitVec 40
  crc8 : BitVec 8
  scrambled : List Byte
  soundings : List (List Int)
  m : Measures
  energyA : Nat
  energyB : Nat
  startAgo : Nat
  deriving DecidableEq, Repr

/-- A received AMP datagram (R319): its source address and port, and the header fields. -/
structure AmpIn where
  ver : Nat
  stream : Fin 64
  src : Nat
  port : Nat
  seq : Nat
  ack : Nat
  flags : Nat
  window : Nat
  body : List Byte
  /-- its UDP destination port, and the identifier of its 802.1Q tag -/
  dport : Nat := 0xB8F2
  tag : Option Nat := none
  deriving DecidableEq, Repr

/-- A sub-band of the Seal: frequency range in 25 Hz units, hourly limit in 100 ms, listen-before-talk flag (R305). -/
structure SubBand where
  lo : Nat
  hi : Nat
  limit : Nat
  lbt : Bool
  deriving DecidableEq, Repr

/-- What the Seal says of one lane, or of the trunk (R305). Levels in 0.5 dB steps; RSSI in 0.25 dB steps. -/
structure SealLane where
  maxPower : Int := 0
  ranges : List (Nat × Nat) := []
  subs : List SubBand := []
  lbtThr : Int := 0
  lbtListen : Nat := 0
  lbtGap : Nat := 0
  deriving DecidableEq, Repr

/-- The Regulatory Seal (R305): one part for each of the 16 lanes, then the trunk. -/
structure Seal where
  version : Nat
  region : Nat
  lanes : List SealLane
  deriving DecidableEq, Repr

/-- What a write of LOCK freezes (R396, R451): an event channel, a Splint cell, or TST_DBGCTL. -/
inductive LockReg where
  | channel (k : Fin 256)
  | cell (c : Fin 32)
  | dbgctl
  deriving DecidableEq, Repr

end Sys2Proof
end

