-- ==== Sys2Proof/Config.lean ====
section
/-!
DEFINITION. What one device carries from the factory, the published cryptographic functions taken as
uninterpreted, and the free values: opaque constants of which nothing can be proved (log entries 2 and 3).
-/

namespace Sys2Proof.Config

-- Marked: DESIGN CHOICE, log entry 2.
/-- EUI-64 of the device, DEV_EUILO and DEV_EUIHI, reset value "Device" (R208, R461). -/
opaque eui64 : BitVec 64

-- Marked: DESIGN CHOICE, log entry 2.
/-- Vorur's organisation identifier, which the manual does not give (R221, R251, R255). -/
opaque oui : BitVec 24

-- Marked: DESIGN CHOICE, log entry 2.
/-- Factory constants of sentinel ring k: T0, RATE, KV and KT, reset value "Factory" (R359, R370). -/
opaque ringT0 : Nat → BitVec 16
-- Marked: DESIGN CHOICE, log entry 2.
opaque ringRate : Nat → BitVec 16
-- Marked: DESIGN CHOICE, log entry 2.
opaque ringKv : Nat → BitVec 16
-- Marked: DESIGN CHOICE, log entry 2.
opaque ringKt : Nat → BitVec 16

-- Marked: DESIGN CHOICE, log entry 2.
/-- Driver level of the trunk transceiver in 0.5 dB steps, which the manual gives no register (R194, R203). -/
opaque trunkDriver : Int

-- Marked: DESIGN CHOICE, log entry 2.
/-- The header of an enhanced acknowledgement as IEEE 802.15.4 forms it, from the node, the counter acknowledged, the
retry-after in ms of a busy answer and whether it carries frame pending (R213, R220, R255). -/
opaque ackHeader : Nat → Nat → Option Nat → Bool → List Byte

-- Marked: DESIGN CHOICE, log entry 2.
/-- One octet of the Custody ROM, whose contents the manual does not give (R59). -/
opaque romByte : Nat → Byte

-- Marked: DESIGN CHOICE, log entry 3.
/-- The n-th value the manual leaves open, n read from State.freeCtr (log entry 3). -/
opaque freeValue : Nat → Word

-- Marked: DESIGN CHOICE, log entry 2.
/-- The n-th octet drawn from a hardware noise source (R410, R413). -/
opaque noiseByte : Nat → Byte

-- Marked: DESIGN CHOICE, log entry 2.
/-- A key generated inside the device (R226). -/
opaque generatedKey : Nat → List Byte

-- Marked: DESIGN CHOICE, log entry 2.
/-- The AES block operation: key of 16 or 32 octets, and block (R226, R228, R229, R412). -/
opaque aesBlock : List Byte → List Byte → List Byte

-- Marked: DESIGN CHOICE, log entry 2.
/-- The inverse of the AES block operation, which key unwrapping uses (R226). -/
opaque aesInverse : List Byte → List Byte → List Byte

-- Marked: DESIGN CHOICE, log entry 2.
/-- SHA-256 of an octet list: word k of the digest, octets big-endian (R292, R307). -/
opaque sha256 : List Byte → Nat → Word

-- Marked: DESIGN CHOICE, log entry 2.
/-- ECDSA P-256 with SHA-256: public key, message and signature verify (R292). -/
opaque ecdsaOk : List Byte → List Byte → List Byte → Bool

-- Marked: DESIGN CHOICE, log entry 2.
/-- The length-2,304 LDPC codes of IEEE 802.16 at rates 1/2, 2/3 A and 5/6: the codeword of its information bits (R197). -/
opaque ldpcEncode : Nat → List Bool → List Bool

-- Marked: DESIGN CHOICE, log entry 2.
/-- The constellation encoder of ITU-T G.992.3: the point of the bits a sub-carrier takes (R197). -/
opaque constellation : List Bool → Int × Int

-- Marked: DESIGN CHOICE, log entry 2.
/-- The known BPSK pattern of a sounding symbol, by tone (R195). -/
opaque soundingBit : Int → Bool

-- Marked: DESIGN CHOICE, log entry 107.
/-- The digitizer code with the corrections for DC offset and image applied, and the DC offset as the tracking loop holds it
after that code: receiver, corrections in force, code (R165). -/
opaque corrected : Nat → Word → Word → Sample → Sample
-- Marked: DESIGN CHOICE, log entry 107.
opaque dcTracked : Nat → Word → Sample → Word

-- Marked: DESIGN CHOICE, log entry 107.
/-- The NCO mixer: the window centre in 25 kHz units, the number of the sample, and the sample brought to 18 bits (R167). -/
opaque mixed : Nat → Nat → Sample → Sample

-- Marked: DESIGN CHOICE, log entry 107.
/-- The polyphase channelizer at full precision: the prototype's coefficients, the channel's offset in 25 kHz units, its
width code and its input, newest first, over 12 channel samples (R167). -/
opaque channelized : List Int → Int → Nat → List Sample → Sample

-- Marked: DESIGN CHOICE, log entry 2.
/-- The fixed Q1.14 taps of the fractional delay interpolator: the delay in 1/64 sample and the tap, 0 to 3, which the
manual does not give (R167, R169). -/
opaque interpTap : Nat → Nat → Int

-- Marked: DEDUCED, log entry 32.
/-- WINDOW of the datagrams the device sends, 1 where this is 0 (R319). -/
opaque ampWindow : BitVec 8

-- Marked: DESIGN CHOICE, log entry 2.
/-- The digest the Custody ROM holds is that of this Rim public key (R293). -/
opaque romKeyOk : List Byte → Bool

end Sys2Proof.Config
end

