-- ==== Sys2Proof/Machine/RegMap.lean ====
section
/-!
DEFINITION. The register map of the Control Space (R453): one row for every register the block chapters list, with
its access code, reset value and writable bits, written from the register and field tables of the spec.
`R.NAME` is the offset of a register, with one argument for each instance number.
-/

namespace Sys2Proof.Machine

/-- The access codes of R455. `ro1` is RO at register level with a W1C field. -/
inductive Acc where
  | rw | ro | wo | w1c | rc | rwl | ro1
  deriving DecidableEq, Repr

/-- Which requesters a register's chapter opens it to for writing (R459). -/
inductive Who where
  /-- every processor and every granted engine: the chapter names no narrower set -/
  | procs
  /-- both Main Processors -/
  | mps
  /-- MP-A, MP-B and Custody -/
  | mpsCust
  /-- Custody only -/
  | cust
  /-- the Main Processor of the half the instance belongs to (R137, R159) -/
  | mpHalf
  /-- the processors of the half the instance names -/
  | half
  /-- the holder of the device lead (R208, R331) -/
  | devLead
  /-- the holder of the device lead, and the host over BAR0 (R330) -/
  | devLeadHost
  /-- Custody, a Main Processor inside an open window, the host and TAP in recovery (R307, R295, R449) -/
  | fwu
  /-- as TMRn_CTL.OWN says (R381) -/
  | tmr
  deriving DecidableEq, Repr

/-- One row of a block's register table. -/
structure RegRow where
  off : Nat
  /-- instance dimensions, outermost first: count and stride -/
  dims : List (Nat × Nat) := []
  acc : Acc
  reset : Nat := 0
  /-- reset values that differ by outermost instance -/
  resets : List Nat := []
  rw : Nat := 0
  w1c : Nat := 0
  w1s : Nat := 0
  /-- bits a read clears -/
  rc : Nat := 0
  who : Who := .procs
  /-- a banked register: one copy for each requester (R458) -/
  banked : Bool := false
  deriving DecidableEq, Repr

namespace R

abbrev DEV_ID : Nat := 0x0
abbrev DEV_EUILO : Nat := 0x4
abbrev DEV_EUIHI : Nat := 0x8
abbrev DEV_RSTCAUSE : Nat := 0x10
abbrev DEV_RSTSEC : Nat := 0x14
abbrev DEV_RSTCNT : Nat := 0x18
abbrev DEV_LOCKSTAT : Nat := 0x20
abbrev DEV_ACCERR : Nat := 0x30
abbrev DEV_ACCADDR : Nat := 0x34
abbrev DEV_ECCCNT : Nat := 0x40
abbrev DEV_ECCTHR : Nat := 0x44
abbrev RIMX_MB_FN (i : Nat) : Nat := 0x10000 + 0x40 * i
abbrev RIMX_MB_ARG (i : Nat) (j : Nat) : Nat := 0x10004 + 0x40 * i + 0x4 * j
abbrev RIMX_MB_RES (i : Nat) (j : Nat) : Nat := 0x10020 + 0x40 * i + 0x4 * j
abbrev RIMX_MB_DONE (i : Nat) : Nat := 0x1003c + 0x40 * i
abbrev RIMX_MBPEND : Nat := 0x10400
abbrev RIMX_TOKEN : Nat := 0x18000
abbrev RIMX_TKCMD : Nat := 0x18004
abbrev RIMX_TKRES : Nat := 0x18008
abbrev RIMX_TKSW_LO : Nat := 0x1800c
abbrev RIMX_TKSW_HI : Nat := 0x18010
abbrev RIMX_TKSERIAL : Nat := 0x18014
abbrev RIMX_TKREFUSE : Nat := 0x18018
abbrev RIMX_HBCFG : Nat := 0x1801c
abbrev RIMX_HB (i : Nat) : Nat := 0x18020 + 0x4 * i
abbrev RIMX_FLTLAST : Nat := 0x18028
abbrev RIMX_FLTCNT : Nat := 0x1802c
abbrev RIMX_LASTSW_LO : Nat := 0x18030
abbrev RIMX_LASTSW_HI : Nat := 0x18034
abbrev RIMX_CRCNT : Nat := 0x18038
abbrev PWR_PD_STAT (i : Nat) : Nat := 0x20000 + 0x10 * i
abbrev PWR_PD_VOTES (i : Nat) : Nat := 0x20004 + 0x10 * i
abbrev PWR_PD_SWV (i : Nat) : Nat := 0x20008 + 0x10 * i
abbrev PWR_PD_REF (i : Nat) : Nat := 0x2000c + 0x10 * i
abbrev PWR_PREPTMO : Nat := 0x20400
abbrev PWR_REFMAP_LO : Nat := 0x20404
abbrev PWR_REFMAP_HI : Nat := 0x20408
abbrev SUP_STATUS : Nat := 0x30000
abbrev SUP_LINECFG : Nat := 0x30004
abbrev SUP_LINENOM : Nat := 0x30008
abbrev SUP_LINEMEAS : Nat := 0x3000c
abbrev SUP_EVINFO : Nat := 0x30010
abbrev SUP_EVSTART_LO : Nat := 0x30014
abbrev SUP_EVSTART_HI : Nat := 0x30018
abbrev SUP_EVDUR : Nat := 0x3001c
abbrev SUP_EVPOP : Nat := 0x30020
abbrev SUP_RTCFG : Nat := 0x30024
abbrev SUP_RTRECOV : Nat := 0x30028
abbrev SUP_RTSTAT : Nat := 0x3002c
abbrev SUP_AVS : Nat := 0x30030
abbrev MGN_STATUS : Nat := 0x40000
abbrev MGN_POLICY : Nat := 0x40004
abbrev MGN_FLOOR : Nat := 0x40008
abbrev MGN_ACRWANT : Nat := 0x4000c
abbrev MGN_MPMIN : Nat := 0x40010
abbrev MGN_MPRATE : Nat := 0x40014
abbrev MGN_CALAGE : Nat := 0x40018
abbrev MGN_HOURS : Nat := 0x4001c
abbrev MGN_EOL : Nat := 0x40020
abbrev MGN_EOLLIM : Nat := 0x40024
abbrev MGN_NOTICE : Nat := 0x40028
abbrev MGN_SHORT_LO : Nat := 0x4002c
abbrev MGN_SHORT_HI : Nat := 0x40030
abbrev MGN_ARMPATH : Nat := 0x40034
abbrev MGN_LEADREQ (i : Nat) : Nat := 0x40040 + 0x4 * i
abbrev MGN_LRDADDR : Nat := 0x40060
abbrev MGN_LRDDATA : Nat := 0x40064
abbrev MGN_SN_MEAS (i : Nat) : Nat := 0x41000 + 0x20 * i
abbrev MGN_SN_ENV (i : Nat) : Nat := 0x41004 + 0x20 * i
abbrev MGN_SN_AGE (i : Nat) : Nat := 0x41008 + 0x20 * i
abbrev MGN_SN_REF (i : Nat) : Nat := 0x4100c + 0x20 * i
abbrev MGN_SN_SENS (i : Nat) : Nat := 0x41010 + 0x20 * i
abbrev TBG_CTRL : Nat := 0x80000
abbrev TBG_STATUS : Nat := 0x80004
abbrev TBG_COUNT_LO : Nat := 0x80008
abbrev TBG_COUNT_HI : Nat := 0x8000c
abbrev TBG_PPSCAP_LO : Nat := 0x80010
abbrev TBG_PPSCAP_HI : Nat := 0x80014
abbrev TBG_PPSERR : Nat := 0x80018
abbrev TBG_PPSIN_DLY : Nat := 0x8001c
abbrev TBG_PPSOUT_OFS : Nat := 0x80020
abbrev TBG_PPSOUT_W : Nat := 0x80024
abbrev TBG_PPSWIN : Nat := 0x80028
abbrev TBG_LEAD (i : Nat) : Nat := 0x80040 + 0x4 * i
abbrev TBG_LATE_CNT : Nat := 0x80060
abbrev TBG_LATE_INFO : Nat := 0x80064
abbrev TBG_LATE_FIRE_LO : Nat := 0x80068
abbrev TBG_LATE_FIRE_HI : Nat := 0x8006c
abbrev TBG_LATE_ACC : Nat := 0x80070
abbrev TBG_LATE_POP : Nat := 0x80074
abbrev GU_FIRE_LO (i : Nat) : Nat := 0x81000 + 0x100 * i
abbrev GU_FIRE_HI (i : Nat) : Nat := 0x81004 + 0x100 * i
abbrev GU_ARMCMD (i : Nat) : Nat := 0x81008 + 0x100 * i
abbrev GU_ARMRES (i : Nat) : Nat := 0x8100c + 0x100 * i
abbrev GU_ARMED (i : Nat) : Nat := 0x81010 + 0x100 * i
abbrev GU_DISARM (i : Nat) : Nat := 0x81014 + 0x100 * i
abbrev RTC_FRAC : Nat := 0x90000
abbrev RTC_SEC_LO : Nat := 0x90004
abbrev RTC_SEC_HI : Nat := 0x90008
abbrev RTC_SETSEC_LO : Nat := 0x9000c
abbrev RTC_SETSEC_HI : Nat := 0x90010
abbrev RTC_TRIM : Nat := 0x90014
abbrev RTC_SHIFT : Nat := 0x90018
abbrev RTC_CTRL : Nat := 0x9001c
abbrev RTC_STATUS : Nat := 0x90020
abbrev RTC_DISCERR : Nat := 0x90024
abbrev TMR_SNAPCMD : Nat := 0xa0000
abbrev TMR_SNAPTB_LO : Nat := 0xa0004
abbrev TMR_SNAPTB_HI : Nat := 0xa0008
abbrev TMR_STATUS : Nat := 0xa000c
abbrev TMR_SNAP_LO (i : Nat) : Nat := 0xa0800 + 0x8 * i
abbrev TMR_SNAP_HI (i : Nat) : Nat := 0xa0804 + 0x8 * i
abbrev TMR_CTL (i : Nat) : Nat := 0xa0100 + 0x20 * i
abbrev TMR_CMP_LO (i : Nat) : Nat := 0xa0104 + 0x20 * i
abbrev TMR_CMP_HI (i : Nat) : Nat := 0xa0108 + 0x20 * i
abbrev TMR_CAP_LO (i : Nat) : Nat := 0xa010c + 0x20 * i
abbrev TMR_CAP_HI (i : Nat) : Nat := 0xa0110 + 0x20 * i
abbrev TMR_FLAGS (i : Nat) : Nat := 0xa0114 + 0x20 * i
abbrev TMR_EVT (i : Nat) : Nat := 0xa0118 + 0x20 * i
abbrev EVR_STATUS : Nat := 0xb0000
abbrev EVR_LATCHCLR : Nat := 0xb0004
abbrev EVR_IMAP (i : Nat) (j : Nat) : Nat := 0xb0100 + 0x80 * i + 0x4 * j
abbrev EVR_SC_CFG (i : Nat) : Nat := 0xb0400 + 0x10 * i
abbrev EVR_SC_LUT (i : Nat) : Nat := 0xb0404 + 0x10 * i
abbrev EVR_SC_STATE (i : Nat) : Nat := 0xb0408 + 0x10 * i
abbrev EVR_CH_CFG (i : Nat) : Nat := 0xb2000 + 0x20 * i
abbrev EVR_CH_STAT (i : Nat) : Nat := 0xb2004 + 0x20 * i
abbrev EVR_CH_CONS (i : Nat) (j : Nat) : Nat := 0xb2008 + 0x20 * i + 0x4 * j
abbrev PMC_CTRL : Nat := 0xc0000
abbrev PMC_CFG (i : Nat) : Nat := 0xc0100 + 0x20 * i
abbrev PMC_THR (i : Nat) : Nat := 0xc0104 + 0x20 * i
abbrev PMC_CNT_LO (i : Nat) : Nat := 0xc0108 + 0x20 * i
abbrev PMC_CNT_HI (i : Nat) : Nat := 0xc010c + 0x20 * i
abbrev PMC_LAST_LO (i : Nat) : Nat := 0xc0110 + 0x20 * i
abbrev PMC_LAST_HI (i : Nat) : Nat := 0xc0114 + 0x20 * i
abbrev PMC_SAMP (i : Nat) : Nat := 0xc0118 + 0x20 * i
abbrev PMC_SADDR (i : Nat) : Nat := 0xc011c + 0x20 * i
abbrev WEN_CMD (i : Nat) : Nat := 0x100000 + 0x1000 * i
abbrev WEN_STATUS (i : Nat) : Nat := 0x100004 + 0x1000 * i
abbrev WEN_ROLE (i : Nat) : Nat := 0x100008 + 0x1000 * i
abbrev WEN_ENTRY (i : Nat) : Nat := 0x10000c + 0x1000 * i
abbrev WEN_SP (i : Nat) : Nat := 0x100010 + 0x1000 * i
abbrev WEN_STKLO (i : Nat) : Nat := 0x100014 + 0x1000 * i
abbrev WEN_STKHI (i : Nat) : Nat := 0x100018 + 0x1000 * i
abbrev WEN_BUDGET (i : Nat) : Nat := 0x10001c + 0x1000 * i
abbrev WEN_WDOG (i : Nat) : Nat := 0x100020 + 0x1000 * i
abbrev WEN_SWAPCFG (i : Nat) : Nat := 0x100024 + 0x1000 * i
abbrev WEN_LOADSRC (i : Nat) : Nat := 0x100028 + 0x1000 * i
abbrev WEN_LOADDST (i : Nat) : Nat := 0x10002c + 0x1000 * i
abbrev WEN_LOADLEN (i : Nat) : Nat := 0x100030 + 0x1000 * i
abbrev WEN_LOADCRC (i : Nat) : Nat := 0x100034 + 0x1000 * i
abbrev WEN_FLTCODE (i : Nat) : Nat := 0x100038 + 0x1000 * i
abbrev WEN_FLTPC (i : Nat) : Nat := 0x10003c + 0x1000 * i
abbrev WEN_FLTADDR (i : Nat) : Nat := 0x100040 + 0x1000 * i
abbrev WEN_SWPPC (i : Nat) : Nat := 0x100044 + 0x1000 * i
abbrev WEN_GRANT_BASE (i : Nat) (j : Nat) : Nat := 0x100050 + 0x1000 * i + 0x8 * j
abbrev WEN_GRANT_LIM (i : Nat) (j : Nat) : Nat := 0x100054 + 0x1000 * i + 0x8 * j
abbrev WENH_HOCMD (i : Nat) : Nat := 0x140000 + 0x1000 * i
abbrev WENH_HOSTAT (i : Nat) : Nat := 0x140004 + 0x1000 * i
abbrev WENH_HOTMO (i : Nat) : Nat := 0x140008 + 0x1000 * i
abbrev WENH_HOLDCNT (i : Nat) : Nat := 0x14000c + 0x1000 * i
abbrev WENH_FAULTMAP (i : Nat) : Nat := 0x140010 + 0x1000 * i
abbrev LAN_CMD (i : Nat) : Nat := 0x200000 + 0x1000 * i
abbrev LAN_STATUS (i : Nat) : Nat := 0x200004 + 0x1000 * i
abbrev LAN_CFG (i : Nat) : Nat := 0x200008 + 0x1000 * i
abbrev LAN_REFUSE (i : Nat) : Nat := 0x20000c + 0x1000 * i
abbrev LAN_DENY (i : Nat) : Nat := 0x200010 + 0x1000 * i
abbrev LAN_CALSTAT (i : Nat) : Nat := 0x200014 + 0x1000 * i
abbrev LAN_CALTRIM (i : Nat) (j : Nat) : Nat := 0x200018 + 0x1000 * i + 0x4 * j
abbrev LAN_CHW (i : Nat) (j : Nat) : Nat := 0x200100 + 0x1000 * i + 0x4 * j
abbrev LAN_WPROF (i : Nat) (j : Nat) : Nat := 0x200200 + 0x1000 * i + 0x4 * j
abbrev LAN_DUTY (i : Nat) (j : Nat) : Nat := 0x200300 + 0x1000 * i + 0x4 * j
abbrev ACR_CMD (i : Nat) : Nat := 0x300000 + 0x40000 * i
abbrev ACR_STATUS (i : Nat) : Nat := 0x300004 + 0x40000 * i
abbrev ACR_CFG (i : Nat) : Nat := 0x300008 + 0x40000 * i
abbrev ACR_CENTRE (i : Nat) : Nat := 0x30000c + 0x40000 * i
abbrev ACR_ALLOW (i : Nat) : Nat := 0x300010 + 0x40000 * i
abbrev ACR_ROUND (i : Nat) : Nat := 0x300014 + 0x40000 * i
abbrev ACR_TXFREEZE (i : Nat) : Nat := 0x300018 + 0x40000 * i
abbrev ACR_SKEW (i : Nat) : Nat := 0x30001c + 0x40000 * i
abbrev ACR_AGC (i : Nat) (j : Nat) : Nat := 0x300020 + 0x40000 * i + 0x4 * j
abbrev ACR_OVR (i : Nat) : Nat := 0x300028 + 0x40000 * i
abbrev ACR_CLEANAFTER (i : Nat) : Nat := 0x30002c + 0x40000 * i
abbrev ACR_CALSTAT (i : Nat) : Nat := 0x300030 + 0x40000 * i
abbrev ACR_DROP (i : Nat) (j : Nat) : Nat := 0x300040 + 0x40000 * i + 0x4 * j
abbrev ACR_HB1C (i : Nat) (j : Nat) : Nat := 0x300100 + 0x40000 * i + 0x4 * j
abbrev ACR_HB2C (i : Nat) (j : Nat) : Nat := 0x300120 + 0x40000 * i + 0x4 * j
abbrev ACR_PROTO (i : Nat) (j : Nat) : Nat := 0x308000 + 0x40000 * i + 0x4 * j
abbrev ACRK_CFG (i : Nat) (j : Nat) : Nat := 0x310000 + 0x40000 * i + 0x200 * j
abbrev ACRK_RANK (i : Nat) (j : Nat) : Nat := 0x310004 + 0x40000 * i + 0x200 * j
abbrev ACRK_FIRPEND (i : Nat) (j : Nat) : Nat := 0x310008 + 0x40000 * i + 0x200 * j
abbrev ACRK_FIRACT (i : Nat) (j : Nat) : Nat := 0x31000c + 0x40000 * i + 0x200 * j
abbrev ACRK_FIRCMD (i : Nat) (j : Nat) : Nat := 0x310010 + 0x40000 * i + 0x200 * j
abbrev ACRK_STATUS (i : Nat) (j : Nat) : Nat := 0x310014 + 0x40000 * i + 0x200 * j
abbrev ACRK_PDLY (i : Nat) (j : Nat) : Nat := 0x310018 + 0x40000 * i + 0x200 * j
abbrev ACRK_GD0 (i : Nat) (j : Nat) : Nat := 0x31001c + 0x40000 * i + 0x200 * j
abbrev ACRK_GD1 (i : Nat) (j : Nat) : Nat := 0x310020 + 0x40000 * i + 0x200 * j
abbrev ACRK_GDMIN (i : Nat) (j : Nat) : Nat := 0x310024 + 0x40000 * i + 0x200 * j
abbrev ACRK_SETTLE (i : Nat) (j : Nat) : Nat := 0x310028 + 0x40000 * i + 0x200 * j
abbrev TRK_CMD : Nat := 0x400000
abbrev TRK_STATUS : Nat := 0x400004
abbrev TRK_CFG : Nat := 0x400008
abbrev TRK_CHAN : Nat := 0x40000c
abbrev TRK_SFLEN : Nat := 0x400010
abbrev TRK_TIMES : Nat := 0x400014
abbrev TRK_EPOCH : Nat := 0x400018
abbrev TRK_ROLEEV : Nat := 0x40001c
abbrev TRK_LTHR0 : Nat := 0x400020
abbrev TRK_LTHR1 : Nat := 0x400024
abbrev TRK_LTHR2 : Nat := 0x400028
abbrev TRK_REFUSE : Nat := 0x400030
abbrev TRK_DENY : Nat := 0x400034
abbrev TRK_CNT : Nat := 0x400038
abbrev TRK_EUILO : Nat := 0x400040
abbrev TRK_EUIHI : Nat := 0x400044
abbrev TRK_SLOT_T (i : Nat) : Nat := 0x400100 + 0x8 * i
abbrev TRK_SLOT_P (i : Nat) : Nat := 0x400104 + 0x8 * i
abbrev TRK_PEER_EUILO (i : Nat) : Nat := 0x400200 + 0x40 * i
abbrev TRK_PEER_EUIHI (i : Nat) : Nat := 0x400204 + 0x40 * i
abbrev TRK_PEER_CTRL (i : Nat) : Nat := 0x400208 + 0x40 * i
abbrev TRK_PEER_MAPGEN (i : Nat) : Nat := 0x40020c + 0x40 * i
abbrev TRK_PEER_TXMAP (i : Nat) (j : Nat) : Nat := 0x400210 + 0x40 * i + 0x4 * j
abbrev TRK_PEER_RXMAP (i : Nat) (j : Nat) : Nat := 0x400228 + 0x40 * i + 0x4 * j
abbrev MAC_CTRL : Nat := 0x500000
abbrev MAC_STATUS : Nat := 0x500004
abbrev MAC_SCHED : Nat := 0x500008
abbrev MAC_DRIFT : Nat := 0x50000c
abbrev MAC_DINIT : Nat := 0x500010
abbrev MAC_DUPWIN : Nat := 0x500014
abbrev MAC_ROUTEBASE : Nat := 0x500018
abbrev MAC_ACKLANES : Nat := 0x50001c
abbrev MAC_NTCMD : Nat := 0x500020
abbrev MAC_NTRES : Nat := 0x500024
abbrev MAC_NTARG (i : Nat) : Nat := 0x500028 + 0x4 * i
abbrev MAC_NTOUT (i : Nat) : Nat := 0x500038 + 0x4 * i
abbrev MAC_CNT_REPLAY : Nat := 0x500050
abbrev MAC_CNT_LATE : Nat := 0x500054
abbrev MAC_CNT_STRANGER : Nat := 0x500058
abbrev MAC_CNT_FOREIGN : Nat := 0x50005c
abbrev MAC_CNT_NOACK : Nat := 0x500060
abbrev MAC_CNT_EVDROP : Nat := 0x500064
abbrev MAC_PHY (i : Nat) : Nat := 0x500800 + 0x4 * i
abbrev MAC_CHPLAN (i : Nat) : Nat := 0x500c00 + 0x4 * i
abbrev SEC_CTRL : Nat := 0x600000
abbrev SEC_STATUS : Nat := 0x600004
abbrev SEC_ALARM : Nat := 0x600008
abbrev SEC_ALMCAUSE : Nat := 0x60000c
abbrev SEC_HOLD : Nat := 0x600010
abbrev SEC_CNT_AUTH : Nat := 0x600014
abbrev SEC_CNT_NOKEY : Nat := 0x600018
abbrev SEC_CNT_BUSY : Nat := 0x60001c
abbrev SEC_SLOTQ : Nat := 0x600020
abbrev SEC_SLOTINFO : Nat := 0x600024
abbrev SEC_SLOTFC : Nat := 0x600028
abbrev SEC_SLOTLIM : Nat := 0x60002c
abbrev SEC_RING_BASE (i : Nat) : Nat := 0x600100 + 0x10 * i
abbrev SEC_RING_SIZE (i : Nat) : Nat := 0x600104 + 0x10 * i
abbrev SEC_RING_TAIL (i : Nat) : Nat := 0x600108 + 0x10 * i
abbrev SEC_RING_HEAD (i : Nat) : Nat := 0x60010c + 0x10 * i
abbrev MSG_CTRL : Nat := 0x700000
abbrev MSG_STATUS : Nat := 0x700004
abbrev MSG_TCBBASE : Nat := 0x700008
abbrev MSG_TCBCNT : Nat := 0x70000c
abbrev MSG_UPTBASE : Nat := 0x700010
abbrev MSG_FRAGMAX : Nat := 0x700014
abbrev MSG_REASM : Nat := 0x700018
abbrev MSG_CMD : Nat := 0x700020
abbrev MSG_CMDRES : Nat := 0x700024
abbrev MSG_CMDARG (i : Nat) : Nat := 0x700028 + 0x4 * i
abbrev MSG_CMDOUT (i : Nat) : Nat := 0x700038 + 0x4 * i
abbrev MSG_CNT_STALE : Nat := 0x700050
abbrev MSG_CNT_REASM_TO : Nat := 0x700054
abbrev MSG_CNT_REASM_BAD : Nat := 0x700058
abbrev MSG_CNT_REASM_BUSY : Nat := 0x70005c
abbrev MSG_CNT_HOLE : Nat := 0x700060
abbrev MSG_LNKPOOL (i : Nat) : Nat := 0x700080 + 0x4 * i
abbrev MSG_POOL_BASE (i : Nat) : Nat := 0x700100 + 0x10 * i
abbrev MSG_POOL_SIZE (i : Nat) : Nat := 0x700104 + 0x10 * i
abbrev MSG_POOL_CFG (i : Nat) : Nat := 0x700108 + 0x10 * i
abbrev MSG_POOL_FREE (i : Nat) : Nat := 0x70010c + 0x10 * i
abbrev HPC_STATUS : Nat := 0x800000
abbrev HPC_WBBASE_LO : Nat := 0x800004
abbrev HPC_WBBASE_HI : Nat := 0x800008
abbrev HPC_COAL : Nat := 0x80000c
abbrev HPC_QCMD : Nat := 0x800010
abbrev HPC_EVTVEC : Nat := 0x800014
abbrev HPC_CNT_ERR : Nat := 0x800018
abbrev HPC_QP_BASES (i : Nat) (j : Nat) : Nat := 0x800100 + 0x20 * i + 0x4 * j
abbrev HPC_QP_CFG (i : Nat) : Nat := 0x800118 + 0x20 * i
abbrev HPC_QP_STAT (i : Nat) : Nat := 0x80011c + 0x20 * i
abbrev ETH_CTRL : Nat := 0x810000
abbrev ETH_STATUS : Nat := 0x810004
abbrev ETH_MAC_LO : Nat := 0x810008
abbrev ETH_MAC_HI : Nat := 0x81000c
abbrev ETH_IP6 (i : Nat) : Nat := 0x810010 + 0x4 * i
abbrev ETH_PORT : Nat := 0x810020
abbrev ETH_MTU : Nat := 0x810024
abbrev ETH_AMPCFG : Nat := 0x810028
abbrev ETH_RAWRX_BASE : Nat := 0x810030
abbrev ETH_RAWRX_CTL : Nat := 0x810034
abbrev ETH_RAWTX_BASE : Nat := 0x810038
abbrev ETH_RAWTX_CTL : Nat := 0x81003c
abbrev ETH_PTPINFO : Nat := 0x810040
abbrev ETH_PTPTS (i : Nat) : Nat := 0x810044 + 0x4 * i
abbrev ETH_PTPPOP : Nat := 0x810050
abbrev ETH_CNT_DROP : Nat := 0x810054
abbrev ETH_CNT_AMPDUP : Nat := 0x810058
abbrev ETH_AMP_PEER (i : Nat) (j : Nat) : Nat := 0x810100 + 0x20 * i + 0x4 * j
abbrev ETH_AMP_CTRL (i : Nat) : Nat := 0x810110 + 0x20 * i
abbrev ETH_AMP_STAT (i : Nat) : Nat := 0x810114 + 0x20 * i
abbrev ASB_CFG : Nat := 0x820000
abbrev ASB_STATUS : Nat := 0x820004
abbrev ASB_TXCMD : Nat := 0x820008
abbrev ASB_TXRES : Nat := 0x82000c
abbrev ASB_TXD (i : Nat) : Nat := 0x820010 + 0x4 * i
abbrev ASB_RXINFO : Nat := 0x820020
abbrev ASB_RXD (i : Nat) : Nat := 0x820024 + 0x4 * i
abbrev ASB_RXPOP : Nat := 0x820034
abbrev ASB_DLY : Nat := 0x820038
abbrev ASB_SYNCINT : Nat := 0x82003c
abbrev ASB_CLOFS_LO : Nat := 0x820040
abbrev ASB_CLOFS_HI : Nat := 0x820044
abbrev ASB_SYNCERR : Nat := 0x820048
abbrev ASB_CNT : Nat := 0x82004c
abbrev CLP_TAGSTAT : Nat := 0x900000
abbrev CLP_TAGLOG : Nat := 0x900004
abbrev CLP_CAGEN : Nat := 0x900008
abbrev CLP_CASTATE : Nat := 0x90000c
abbrev CLP_TAGCFG : Nat := 0x900010
abbrev CLP_RDCTRL : Nat := 0x900100
abbrev CLP_RDWAKE : Nat := 0x900104
abbrev CLP_RDTMO : Nat := 0x900108
abbrev CLP_RDSTAT : Nat := 0x90010c
abbrev CLP_RDCAP : Nat := 0x900110
abbrev FWU_CMD : Nat := 0xa00000
abbrev FWU_STATUS : Nat := 0xa00004
abbrev FWU_SRC : Nat := 0xa00008
abbrev FWU_DST : Nat := 0xa0000c
abbrev FWU_LEN : Nat := 0xa00010
abbrev FWU_WRWIN : Nat := 0xa00014
abbrev FWU_BOOTINFO : Nat := 0xa00018
abbrev FWU_VERSION : Nat := 0xa0001c
abbrev FWU_FLOOR : Nat := 0xa00020
abbrev FWU_RFLOOR : Nat := 0xa00024
abbrev FWU_DIGEST (i : Nat) : Nat := 0xa00040 + 0x4 * i
abbrev PIO_GP_CFG (i : Nat) : Nat := 0xb00000 + 0x4 * i
abbrev TST_IDCODE : Nat := 0xc00000
abbrev TST_STATUS : Nat := 0xc00004
abbrev TST_DBGCTL : Nat := 0xc00008
abbrev ACRK_PCOEF (i : Nat) (j : Nat) (k : Nat) : Nat := 0x310100 + 0x40000 * i + 0x200 * j + 4 * k
abbrev ACRK_ACOEF (i : Nat) (j : Nat) (k : Nat) : Nat := 0x310180 + 0x40000 * i + 0x200 * j + 4 * k

end R

/-- Registers of block DEV, base 0x0000000. -/
def rowsDEV : List RegRow :=
  [ { off := 0x0, acc := .ro, reset := 0x640000b1 } /- DEV_ID -/,
    { off := 0x4, acc := .ro } /- DEV_EUILO -/,
    { off := 0x8, acc := .ro } /- DEV_EUIHI -/,
    { off := 0x10, acc := .ro, reset := 0x1 } /- DEV_RSTCAUSE -/,
    { off := 0x14, acc := .ro } /- DEV_RSTSEC -/,
    { off := 0x18, acc := .ro } /- DEV_RSTCNT -/,
    { off := 0x20, acc := .ro } /- DEV_LOCKSTAT -/,
    { off := 0x30, acc := .rc, rc := 0xFFFFFFFF } /- DEV_ACCERR -/,
    { off := 0x34, acc := .ro } /- DEV_ACCADDR -/,
    { off := 0x40, acc := .rc, rc := 0xFFFFFFFF } /- DEV_ECCCNT -/,
    { off := 0x44, acc := .rw, reset := 0x100, rw := 0xFFFFFFFF, who := .mpsCust } /- DEV_ECCTHR -/ ]

/-- Registers of block RIMX, base 0x0010000. -/
def rowsRIMX : List RegRow :=
  [ { off := 0x0, acc := .ro, dims := [(16, 0x40)], who := .cust } /- RIMX_MB_FN -/,
    { off := 0x4, acc := .ro, dims := [(16, 0x40), (6, 0x4)], who := .cust } /- RIMX_MB_ARG -/,
    { off := 0x20, acc := .rw, dims := [(16, 0x40), (6, 0x4)], rw := 0xFFFFFFFF, who := .cust } /- RIMX_MB_RES -/,
    { off := 0x3c, acc := .wo, dims := [(16, 0x40)], who := .cust } /- RIMX_MB_DONE -/,
    { off := 0x400, acc := .ro, who := .cust } /- RIMX_MBPEND -/,
    { off := 0x8000, acc := .ro, reset := 0x2 } /- RIMX_TOKEN -/,
    { off := 0x8004, acc := .wo, who := .cust } /- RIMX_TKCMD -/,
    { off := 0x8008, acc := .ro } /- RIMX_TKRES -/,
    { off := 0x800c, acc := .rw, rw := 0xFFFFFFFF, who := .cust } /- RIMX_TKSW_LO -/,
    { off := 0x8010, acc := .rw, rw := 0xFFFFFFFF, who := .cust } /- RIMX_TKSW_HI -/,
    { off := 0x8014, acc := .ro, reset := 0x1 } /- RIMX_TKSERIAL -/,
    { off := 0x8018, acc := .rc, rc := 0xFFFFFFFF } /- RIMX_TKREFUSE -/,
    { off := 0x801c, acc := .rw, reset := 0x800400fa, rw := 0x800FFFFF, who := .cust } /- RIMX_HBCFG -/,
    { off := 0x8020, acc := .wo, dims := [(2, 0x4)], who := .half } /- RIMX_HB -/,
    { off := 0x8028, acc := .ro } /- RIMX_FLTLAST -/,
    { off := 0x802c, acc := .rc, rc := 0xFFFFFFFF } /- RIMX_FLTCNT -/,
    { off := 0x8030, acc := .ro } /- RIMX_LASTSW_LO -/,
    { off := 0x8034, acc := .ro } /- RIMX_LASTSW_HI -/,
    { off := 0x8038, acc := .ro } /- RIMX_CRCNT -/ ]

/-- Registers of block PWR, base 0x0020000. -/
def rowsPWR : List RegRow :=
  [ { off := 0x0, acc := .ro, dims := [(64, 0x10)], resets := (List.replicate 54 0x80000001 ++ List.replicate 10 0) } /- PWR_PD_STAT -/,
    { off := 0x4, acc := .ro, dims := [(64, 0x10)], resets := (List.replicate 54 0x80000000 ++ List.replicate 10 0) } /- PWR_PD_VOTES -/,
    { off := 0x8, acc := .rw, dims := [(64, 0x10)], resets := (List.replicate 54 0x80000000 ++ List.replicate 10 0), rw := 0xE0000000, who := .mpsCust } /- PWR_PD_SWV -/,
    { off := 0xc, acc := .rc, dims := [(64, 0x10)], rc := 0xFFFFFFFF } /- PWR_PD_REF -/,
    { off := 0x400, acc := .rw, reset := 0x64, rw := 0xFFFF } /- PWR_PREPTMO -/,
    { off := 0x404, acc := .w1c, w1c := 0xFFFFFFFF } /- PWR_REFMAP_LO -/,
    { off := 0x408, acc := .w1c, w1c := 0xFFFFFFFF } /- PWR_REFMAP_HI -/ ]

/-- Registers of block SUP, base 0x0030000. -/
def rowsSUP : List RegRow :=
  [ { off := 0x0, acc := .ro1, reset := 0x40000000, w1c := 0x80000000, who := .mpsCust, banked := true } /- SUP_STATUS -/,
    { off := 0x4, acc := .rw, reset := 0x6e5a0a02, rw := 0xFFFFFFFF, who := .mpsCust } /- SUP_LINECFG -/,
    { off := 0x8, acc := .rw, reset := 0x3c5, rw := 0xFFFF, who := .mpsCust } /- SUP_LINENOM -/,
    { off := 0xc, acc := .ro } /- SUP_LINEMEAS -/,
    { off := 0x10, acc := .ro } /- SUP_EVINFO -/,
    { off := 0x14, acc := .ro } /- SUP_EVSTART_LO -/,
    { off := 0x18, acc := .ro } /- SUP_EVSTART_HI -/,
    { off := 0x1c, acc := .ro } /- SUP_EVDUR -/,
    { off := 0x20, acc := .wo, who := .mpsCust } /- SUP_EVPOP -/,
    { off := 0x24, acc := .rw, reset := 0x12007, rw := 0xFFFFFF07, who := .mpsCust } /- SUP_RTCFG -/,
    { off := 0x28, acc := .rw, reset := 0x7d0, rw := 0xFFFF, who := .mpsCust } /- SUP_RTRECOV -/,
    { off := 0x2c, acc := .ro } /- SUP_RTSTAT -/,
    { off := 0x30, acc := .ro1, reset := 0x3200320, w1c := 0x80000000, who := .mpsCust } /- SUP_AVS -/ ]

/-- Registers of block MGN, base 0x0040000. -/
def rowsMGN : List RegRow :=
  [ { off := 0x0, acc := .ro } /- MGN_STATUS -/,
    { off := 0x4, acc := .rw, reset := 0xe110203c, rw := 0xFFFFFFFF, who := .mps } /- MGN_POLICY -/,
    { off := 0x8, acc := .rw, reset := 0xa2801000, rw := 0xFFC0FF01, who := .cust } /- MGN_FLOOR -/,
    { off := 0xc, acc := .rw, reset := 0x100080, rw := 0x00FF00FF, who := .mps } /- MGN_ACRWANT -/,
    { off := 0x10, acc := .rw, reset := 0x6400c8, rw := 0xFFFFFFFF, who := .mpsCust } /- MGN_MPMIN -/,
    { off := 0x14, acc := .ro } /- MGN_MPRATE -/,
    { off := 0x18, acc := .rw, reset := 0x7d0, rw := 0xFFFFFF, who := .mps } /- MGN_CALAGE -/,
    { off := 0x1c, acc := .ro } /- MGN_HOURS -/,
    { off := 0x20, acc := .ro } /- MGN_EOL -/,
    { off := 0x24, acc := .rw, reset := 0x186a0, rw := 0xFFFFFF, who := .mps } /- MGN_EOLLIM -/,
    { off := 0x28, acc := .rc, rc := 0xFFFFFFFF } /- MGN_NOTICE -/,
    { off := 0x2c, acc := .ro } /- MGN_SHORT_LO -/,
    { off := 0x30, acc := .ro } /- MGN_SHORT_HI -/,
    { off := 0x34, acc := .ro, reset := 0x80 } /- MGN_ARMPATH -/,
    { off := 0x40, acc := .rw, dims := [(7, 0x4)], resets := [640, 640, 1280, 1280, 1280, 3840, 320], rw := 0xFFFF, who := .mps } /- MGN_LEADREQ -/,
    { off := 0x60, acc := .rw, rw := 0xFFFFC, who := .procs } /- MGN_LRDADDR -/,
    { off := 0x64, acc := .ro } /- MGN_LRDDATA -/,
    { off := 0x1000, acc := .ro, dims := [(96, 0x20)] } /- MGN_SN_MEAS -/,
    { off := 0x1004, acc := .ro, dims := [(96, 0x20)] } /- MGN_SN_ENV -/,
    { off := 0x1008, acc := .ro, dims := [(96, 0x20)] } /- MGN_SN_AGE -/ ] ++
  [ { off := 0x100c, acc := .ro, dims := [(96, 0x20)] } /- MGN_SN_REF -/,
    { off := 0x1010, acc := .ro, dims := [(96, 0x20)] } /- MGN_SN_SENS -/ ]

/-- Registers of block TBG, base 0x0080000. -/
def rowsTBG : List RegRow :=
  [ { off := 0x0, acc := .rw, reset := 0xa00, rw := 0x1F3D } /- TBG_CTRL -/,
    { off := 0x4, acc := .ro } /- TBG_STATUS -/,
    { off := 0x8, acc := .ro } /- TBG_COUNT_LO -/,
    { off := 0xc, acc := .ro, banked := true } /- TBG_COUNT_HI -/,
    { off := 0x10, acc := .ro } /- TBG_PPSCAP_LO -/,
    { off := 0x14, acc := .ro } /- TBG_PPSCAP_HI -/,
    { off := 0x18, acc := .ro } /- TBG_PPSERR -/,
    { off := 0x1c, acc := .rw, rw := 0xFFFF } /- TBG_PPSIN_DLY -/,
    { off := 0x20, acc := .rw, rw := 0x0FFFFFFF } /- TBG_PPSOUT_OFS -/,
    { off := 0x24, acc := .rw, reset := 0xf42400, rw := 0x07FFFFFF } /- TBG_PPSOUT_W -/,
    { off := 0x28, acc := .rw, reset := 0x640, rw := 0xFFFFFF } /- TBG_PPSWIN -/,
    { off := 0x40, acc := .ro, dims := [(7, 0x4)], resets := [0x01400280, 0x01400280, 0x02800500, 0x02800500, 0x02800500, 0x0A000F00, 0x00A00140] } /- TBG_LEAD -/,
    { off := 0x60, acc := .rc, rc := 0xFFFFFFFF } /- TBG_LATE_CNT -/,
    { off := 0x64, acc := .ro } /- TBG_LATE_INFO -/,
    { off := 0x68, acc := .ro } /- TBG_LATE_FIRE_LO -/,
    { off := 0x6c, acc := .ro } /- TBG_LATE_FIRE_HI -/,
    { off := 0x70, acc := .ro } /- TBG_LATE_ACC -/,
    { off := 0x74, acc := .wo } /- TBG_LATE_POP -/,
    { off := 0x1000, acc := .rw, dims := [(18, 0x100)], rw := 0xFFFFFFFF, who := .mps, banked := true } /- GU_FIRE_LO -/,
    { off := 0x1004, acc := .rw, dims := [(18, 0x100)], rw := 0xFFFFFFFF, who := .mps, banked := true } /- GU_FIRE_HI -/ ] ++
  [ { off := 0x1008, acc := .wo, dims := [(18, 0x100)], who := .mps } /- GU_ARMCMD -/,
    { off := 0x100c, acc := .ro, dims := [(18, 0x100)], banked := true } /- GU_ARMRES -/,
    { off := 0x1010, acc := .ro, dims := [(18, 0x100)] } /- GU_ARMED -/,
    { off := 0x1014, acc := .wo, dims := [(18, 0x100)], who := .mps } /- GU_DISARM -/ ]

/-- Registers of block RTC, base 0x0090000. -/
def rowsRTC : List RegRow :=
  [ { off := 0x0, acc := .ro } /- RTC_FRAC -/,
    { off := 0x4, acc := .ro, banked := true } /- RTC_SEC_LO -/,
    { off := 0x8, acc := .ro, banked := true } /- RTC_SEC_HI -/,
    { off := 0xc, acc := .rw, rw := 0xFFFFFFFF, who := .mpsCust } /- RTC_SETSEC_LO -/,
    { off := 0x10, acc := .rw, rw := 0xFFFF, who := .mpsCust } /- RTC_SETSEC_HI -/,
    { off := 0x14, acc := .rw, rw := 0x7FF, who := .mpsCust } /- RTC_TRIM -/,
    { off := 0x18, acc := .wo, who := .mpsCust } /- RTC_SHIFT -/,
    { off := 0x1c, acc := .rw, rw := 1, who := .mpsCust } /- RTC_CTRL -/,
    { off := 0x20, acc := .ro } /- RTC_STATUS -/,
    { off := 0x24, acc := .ro } /- RTC_DISCERR -/ ]

/-- Registers of block TMR, base 0x00A0000. -/
def rowsTMR : List RegRow :=
  [ { off := 0x0, acc := .wo, who := .mpsCust } /- TMR_SNAPCMD -/,
    { off := 0x4, acc := .ro, banked := true } /- TMR_SNAPTB_LO -/,
    { off := 0x8, acc := .ro, banked := true } /- TMR_SNAPTB_HI -/,
    { off := 0xc, acc := .ro } /- TMR_STATUS -/,
    { off := 0x800, acc := .ro, dims := [(32, 0x8)], banked := true } /- TMR_SNAP_LO -/,
    { off := 0x804, acc := .ro, dims := [(32, 0x8)], banked := true } /- TMR_SNAP_HI -/,
    { off := 0x100, acc := .rw, dims := [(32, 0x20)], rw := 0xF8FFF8FF, who := .tmr } /- TMR_CTL -/,
    { off := 0x104, acc := .rw, dims := [(32, 0x20)], rw := 0xFFFFFFFF, who := .tmr } /- TMR_CMP_LO -/,
    { off := 0x108, acc := .rw, dims := [(32, 0x20)], rw := 0xFFFF, who := .tmr } /- TMR_CMP_HI -/,
    { off := 0x10c, acc := .ro, dims := [(32, 0x20)] } /- TMR_CAP_LO -/,
    { off := 0x110, acc := .ro, dims := [(32, 0x20)], banked := true } /- TMR_CAP_HI -/,
    { off := 0x114, acc := .w1c, dims := [(32, 0x20)], w1c := 0xF, who := .tmr } /- TMR_FLAGS -/,
    { off := 0x118, acc := .rw, dims := [(32, 0x20)], rw := 0x80FF80FF, who := .tmr } /- TMR_EVT -/ ]

/-- Registers of block EVR, base 0x00B0000. -/
def rowsEVR : List RegRow :=
  [ { off := 0x0, acc := .w1c, w1c := 3, who := .mpsCust } /- EVR_STATUS -/,
    { off := 0x4, acc := .wo, who := .mpsCust } /- EVR_LATCHCLR -/,
    { off := 0x100, acc := .rw, dims := [(3, 0x80), (24, 0x4)], reset := 0x1ff01ff, rw := 0x01FF01FF, who := .mpsCust } /- EVR_IMAP -/,
    { off := 0x400, acc := .rwl, dims := [(32, 0x10)], rw := 0x7FFF00FF, w1s := 0x80000000, who := .mpsCust } /- EVR_SC_CFG -/,
    { off := 0x404, acc := .rwl, dims := [(32, 0x10)], rw := 0xFFFF, who := .mpsCust } /- EVR_SC_LUT -/,
    { off := 0x408, acc := .ro, dims := [(32, 0x10)] } /- EVR_SC_STATE -/,
    { off := 0x2000, acc := .rwl, dims := [(256, 0x20)], rw := 0x801F01FF, w1s := 0x40000000, who := .mpsCust } /- EVR_CH_CFG -/,
    { off := 0x2004, acc := .w1c, dims := [(256, 0x20)], w1c := 0xFF, rc := 0xFFFF0000, who := .mpsCust } /- EVR_CH_STAT -/,
    { off := 0x2008, acc := .rwl, dims := [(256, 0x20), (4, 0x4)], reset := 0x3ff03ff, rw := 0x03FF03FF, who := .mpsCust } /- EVR_CH_CONS -/ ]

/-- Registers of block PMC, base 0x00C0000. -/
def rowsPMC : List RegRow :=
  [ { off := 0x0, acc := .rw, rw := 1, who := .mpsCust } /- PMC_CTRL -/,
    { off := 0x100, acc := .rw, dims := [(64, 0x20)], rw := 0xFFFF9FFF, who := .mpsCust } /- PMC_CFG -/,
    { off := 0x104, acc := .rw, dims := [(64, 0x20)], rw := 0xFFFFFFFF, who := .mpsCust } /- PMC_THR -/,
    { off := 0x108, acc := .ro, dims := [(64, 0x20)] } /- PMC_CNT_LO -/,
    { off := 0x10c, acc := .ro, dims := [(64, 0x20)], banked := true } /- PMC_CNT_HI -/,
    { off := 0x110, acc := .ro, dims := [(64, 0x20)] } /- PMC_LAST_LO -/,
    { off := 0x114, acc := .ro, dims := [(64, 0x20)] } /- PMC_LAST_HI -/,
    { off := 0x118, acc := .w1c, dims := [(64, 0x20)], w1c := 0xE0000000, who := .mpsCust } /- PMC_SAMP -/,
    { off := 0x11c, acc := .ro, dims := [(64, 0x20)] } /- PMC_SADDR -/ ]

/-- Registers of block WEN, base 0x0100000. -/
def rowsWEN : List RegRow :=
  [ { off := 0x0, acc := .wo, dims := [(64, 0x1000)], who := .mpHalf } /- WEN_CMD -/,
    { off := 0x4, acc := .ro, dims := [(64, 0x1000)] } /- WEN_STATUS -/,
    { off := 0x8, acc := .rw, dims := [(64, 0x1000)], rw := 0x71F, who := .mpHalf } /- WEN_ROLE -/,
    { off := 0xc, acc := .rw, dims := [(64, 0x1000)], rw := 0xFFFFFFFF, who := .mpHalf } /- WEN_ENTRY -/,
    { off := 0x10, acc := .rw, dims := [(64, 0x1000)], rw := 0xFFFFFFFF, who := .mpHalf } /- WEN_SP -/,
    { off := 0x14, acc := .rw, dims := [(64, 0x1000)], rw := 0xFFFFFFFF, who := .mpHalf } /- WEN_STKLO -/,
    { off := 0x18, acc := .rw, dims := [(64, 0x1000)], rw := 0xFFFFFFFF, who := .mpHalf } /- WEN_STKHI -/,
    { off := 0x1c, acc := .rw, dims := [(64, 0x1000)], rw := 0xFFFF0000, who := .mpHalf } /- WEN_BUDGET -/,
    { off := 0x20, acc := .rw, dims := [(64, 0x1000)], rw := 0xFFFFFFFF, who := .mpHalf } /- WEN_WDOG -/,
    { off := 0x24, acc := .rw, dims := [(64, 0x1000)], rw := 0xFFFFFFFF, who := .mpHalf } /- WEN_SWAPCFG -/,
    { off := 0x28, acc := .rw, dims := [(64, 0x1000)], rw := 0xFFFFFFFF, who := .mpHalf } /- WEN_LOADSRC -/,
    { off := 0x2c, acc := .rw, dims := [(64, 0x1000)], rw := 0x13FFF, who := .mpHalf } /- WEN_LOADDST -/,
    { off := 0x30, acc := .rw, dims := [(64, 0x1000)], rw := 0x7FFF, who := .mpHalf } /- WEN_LOADLEN -/,
    { off := 0x34, acc := .ro, dims := [(64, 0x1000)] } /- WEN_LOADCRC -/,
    { off := 0x38, acc := .ro, dims := [(64, 0x1000)] } /- WEN_FLTCODE -/,
    { off := 0x3c, acc := .ro, dims := [(64, 0x1000)] } /- WEN_FLTPC -/,
    { off := 0x40, acc := .ro, dims := [(64, 0x1000)] } /- WEN_FLTADDR -/,
    { off := 0x44, acc := .ro, dims := [(64, 0x1000)] } /- WEN_SWPPC -/,
    { off := 0x50, acc := .rw, dims := [(64, 0x1000), (4, 0x8)], rw := 0xFFFFFF00, who := .mpHalf } /- WEN_GRANT_BASE -/,
    { off := 0x54, acc := .rw, dims := [(64, 0x1000), (4, 0x8)], rw := 0xFFFFFF03, who := .mpHalf } /- WEN_GRANT_LIM -/ ] ++
  [ { off := 0x40000, acc := .wo, dims := [(2, 0x1000)], who := .half } /- WENH_HOCMD -/,
    { off := 0x40004, acc := .ro, dims := [(2, 0x1000)] } /- WENH_HOSTAT -/,
    { off := 0x40008, acc := .rw, dims := [(2, 0x1000)], reset := 0x186a0, rw := 0xFFFFFF, who := .half } /- WENH_HOTMO -/,
    { off := 0x4000c, acc := .ro, dims := [(2, 0x1000)] } /- WENH_HOLDCNT -/,
    { off := 0x40010, acc := .w1c, dims := [(2, 0x1000)], w1c := 0xFFFFFFFF, who := .half } /- WENH_FAULTMAP -/ ]

/-- Registers of block LAN, base 0x0200000. -/
def rowsLAN : List RegRow :=
  [ { off := 0x0, acc := .wo, dims := [(16, 0x1000)], who := .mpHalf } /- LAN_CMD -/,
    { off := 0x4, acc := .ro, dims := [(16, 0x1000)] } /- LAN_STATUS -/,
    { off := 0x8, acc := .rw, dims := [(16, 0x1000)], reset := 0xa0100, rw := 0x00FF0100, who := .mpHalf } /- LAN_CFG -/,
    { off := 0xc, acc := .rc, dims := [(16, 0x1000)], rc := 0xFFFFFFFF } /- LAN_REFUSE -/,
    { off := 0x10, acc := .rc, dims := [(16, 0x1000)], rc := 0xFFFFFFFF } /- LAN_DENY -/,
    { off := 0x14, acc := .ro, dims := [(16, 0x1000)] } /- LAN_CALSTAT -/,
    { off := 0x18, acc := .ro, dims := [(16, 0x1000), (4, 0x4)] } /- LAN_CALTRIM -/,
    { off := 0x100, acc := .rw, dims := [(16, 0x1000), (64, 0x4)], rw := 0xB7FFFFFF, who := .mpHalf } /- LAN_CHW -/,
    { off := 0x200, acc := .rw, dims := [(16, 0x1000), (8, 0x4)], rw := 0xBCFF00FF, who := .mpHalf } /- LAN_WPROF -/,
    { off := 0x300, acc := .ro, dims := [(16, 0x1000), (8, 0x4)] } /- LAN_DUTY -/ ]

/-- Registers of block ACRS and ACRW (instance 0 and 1), base 0x0300000. -/
def rowsACR : List RegRow :=
  [ { off := 0x0, acc := .wo, who := .mps } /- ACR_CMD -/,
    { off := 0x4, acc := .ro1, w1c := 0x08000000, who := .mps } /- ACR_STATUS -/,
    { off := 0x8, acc := .rw, reset := 0xa01c0, rw := 0x00FF01FF, who := .mps } /- ACR_CFG -/,
    { off := 0xc, acc := .rw, reset := 0x8ef8, resets := [0x8EF8, 0], rw := 0xFFFF, who := .mps } /- ACR_CENTRE -/,
    { off := 0x10, acc := .ro, reset := 0x80, resets := [0x80, 0x10] } /- ACR_ALLOW -/,
    { off := 0x14, acc := .rw, rw := 0xFFFFF, who := .mps } /- ACR_ROUND -/,
    { off := 0x18, acc := .rw, rw := 0xFFFF, who := .mps } /- ACR_TXFREEZE -/,
    { off := 0x1c, acc := .ro } /- ACR_SKEW -/,
    { off := 0x20, acc := .rw, dims := [(2, 0x4)], reset := 0xa0000, rw := 0x87FF0000, who := .mps } /- ACR_AGC -/,
    { off := 0x28, acc := .w1c, w1c := 0xC0000000, who := .mps } /- ACR_OVR -/,
    { off := 0x2c, acc := .ro } /- ACR_CLEANAFTER -/,
    { off := 0x30, acc := .ro } /- ACR_CALSTAT -/,
    { off := 0x40, acc := .rc, dims := [(16, 0x4)], rc := 0xFFFFFFFF } /- ACR_DROP -/,
    { off := 0x100, acc := .rw, dims := [(6, 0x4)], rw := 0xFFFF, who := .mps } /- ACR_HB1C -/,
    { off := 0x120, acc := .rw, dims := [(6, 0x4)], rw := 0xFFFF, who := .mps } /- ACR_HB2C -/,
    { off := 0x8000, acc := .rw, dims := [(3072, 0x4)], rw := 0xFFFFFFFF, who := .mps } /- ACR_PROTO -/,
    { off := 0x10000, acc := .rw, dims := [(128, 0x200)], rw := 0xF7FFFFFF, who := .mps } /- ACRK_CFG -/,
    { off := 0x10004, acc := .rw, dims := [(128, 0x200)], reset := 0x402000, rw := 0xF0FFFF0F, who := .mps } /- ACRK_RANK -/,
    { off := 0x10008, acc := .rw, dims := [(128, 0x200)], rw := 0xFC7F, who := .mps } /- ACRK_FIRPEND -/,
    { off := 0x1000c, acc := .ro, dims := [(128, 0x200)] } /- ACRK_FIRACT -/ ] ++
  [ { off := 0x10010, acc := .wo, dims := [(128, 0x200)], who := .mps } /- ACRK_FIRCMD -/,
    { off := 0x10014, acc := .ro1, dims := [(128, 0x200)], w1c := 0x00600000, who := .mps } /- ACRK_STATUS -/,
    { off := 0x10018, acc := .rw, dims := [(128, 0x200)], rw := 0x00FF00FF, who := .mps } /- ACRK_PDLY -/,
    { off := 0x1001c, acc := .ro, dims := [(128, 0x200)] } /- ACRK_GD0 -/,
    { off := 0x10020, acc := .ro, dims := [(128, 0x200)] } /- ACRK_GD1 -/,
    { off := 0x10024, acc := .rw, dims := [(128, 0x200)], rw := 0xFFFF, who := .mps } /- ACRK_GDMIN -/,
    { off := 0x10028, acc := .ro, dims := [(128, 0x200)] } /- ACRK_SETTLE -/,
    { off := 0x10100, acc := .rw, dims := [(128, 0x200), (32, 0x4)], rw := 0xFFFFFFFF, who := .mps } /- ACRK_PCOEF -/,
    { off := 0x10180, acc := .ro, dims := [(128, 0x200), (32, 0x4)] } /- ACRK_ACOEF -/ ]

/-- Registers of block TRK, base 0x0400000. -/
def rowsTRK : List RegRow :=
  [ { off := 0x0, acc := .wo, who := .devLead } /- TRK_CMD -/,
    { off := 0x4, acc := .ro } /- TRK_STATUS -/,
    { off := 0x8, acc := .rw, reset := 0x803a180e, rw := 0xFFFFFFFE, who := .devLead } /- TRK_CFG -/,
    { off := 0xc, acc := .rw, reset := 0x25, rw := 0x7F, who := .devLead } /- TRK_CHAN -/,
    { off := 0x10, acc := .rw, reset := 0xfa0, rw := 0x7FFF, who := .devLead } /- TRK_SFLEN -/,
    { off := 0x14, acc := .rw, reset := 0x6407d0, rw := 0xFFFFFFFF, who := .devLead } /- TRK_TIMES -/,
    { off := 0x18, acc := .ro } /- TRK_EPOCH -/,
    { off := 0x1c, acc := .rc, rc := 0xFFFFFFFF } /- TRK_ROLEEV -/,
    { off := 0x20, acc := .rw, reset := 0x34281c10, rw := 0xFFFFFFFF, who := .devLead } /- TRK_LTHR0 -/,
    { off := 0x24, acc := .rw, reset := 0x64584c40, rw := 0xFFFFFFFF, who := .devLead } /- TRK_LTHR1 -/,
    { off := 0x28, acc := .rw, reset := 0x7c70, rw := 0xFFFF, who := .devLead } /- TRK_LTHR2 -/,
    { off := 0x30, acc := .rc, rc := 0xFFFFFFFF } /- TRK_REFUSE -/,
    { off := 0x34, acc := .rc, rc := 0xFFFFFFFF } /- TRK_DENY -/,
    { off := 0x38, acc := .rc, rc := 0xFFFFFFFF } /- TRK_CNT -/,
    { off := 0x40, acc := .ro } /- TRK_EUILO -/,
    { off := 0x44, acc := .ro } /- TRK_EUIHI -/,
    { off := 0x100, acc := .rw, dims := [(16, 0x8)], rw := 0xFFFF7FFF, who := .devLead } /- TRK_SLOT_T -/,
    { off := 0x104, acc := .rw, dims := [(16, 0x8)], rw := 0xFFFF, who := .devLead } /- TRK_SLOT_P -/,
    { off := 0x200, acc := .rw, dims := [(6, 0x40)], rw := 0xFFFFFFFF, who := .devLead } /- TRK_PEER_EUILO -/,
    { off := 0x204, acc := .rw, dims := [(6, 0x40)], rw := 0xFFFFFFFF, who := .devLead } /- TRK_PEER_EUIHI -/ ] ++
  [ { off := 0x208, acc := .rw, dims := [(6, 0x40)], rw := 0x800000FF, who := .devLead } /- TRK_PEER_CTRL -/,
    { off := 0x20c, acc := .ro, dims := [(6, 0x40)] } /- TRK_PEER_MAPGEN -/,
    { off := 0x210, acc := .ro, dims := [(6, 0x40), (6, 0x4)], reset := 0x22222222 } /- TRK_PEER_TXMAP -/,
    { off := 0x228, acc := .ro, dims := [(6, 0x40), (6, 0x4)], reset := 0x22222222 } /- TRK_PEER_RXMAP -/ ]

/-- Registers of block MAC, base 0x0500000. -/
def rowsMAC : List RegRow :=
  [ { off := 0x0, acc := .rw, reset := 0x100000, rw := 0x00FF0001 } /- MAC_CTRL -/,
    { off := 0x4, acc := .ro1, w1c := 1 } /- MAC_STATUS -/,
    { off := 0x8, acc := .rw, reset := 0x1f401f4, rw := 0xFFFFFFFF } /- MAC_SCHED -/,
    { off := 0xc, acc := .rw, reset := 0x3e800050, rw := 0xFFFFFFFF } /- MAC_DRIFT -/,
    { off := 0x10, acc := .rw, reset := 0x280, rw := 0xFFFF } /- MAC_DINIT -/,
    { off := 0x14, acc := .rw, reset := 0x7d0, rw := 0xFFFF } /- MAC_DUPWIN -/,
    { off := 0x18, acc := .rw, rw := 0xFFFFFFC0 } /- MAC_ROUTEBASE -/,
    { off := 0x1c, acc := .rw, rw := 0xFFFF } /- MAC_ACKLANES -/,
    { off := 0x20, acc := .wo, who := .mps } /- MAC_NTCMD -/,
    { off := 0x24, acc := .ro, banked := true } /- MAC_NTRES -/,
    { off := 0x28, acc := .rw, dims := [(4, 0x4)], rw := 0xFFFFFFFF, who := .mps, banked := true } /- MAC_NTARG -/,
    { off := 0x38, acc := .ro, dims := [(6, 0x4)], banked := true } /- MAC_NTOUT -/,
    { off := 0x50, acc := .rc, rc := 0xFFFFFFFF } /- MAC_CNT_REPLAY -/,
    { off := 0x54, acc := .rc, rc := 0xFFFFFFFF } /- MAC_CNT_LATE -/,
    { off := 0x58, acc := .rc, rc := 0xFFFFFFFF } /- MAC_CNT_STRANGER -/,
    { off := 0x5c, acc := .rc, rc := 0xFFFFFFFF } /- MAC_CNT_FOREIGN -/,
    { off := 0x60, acc := .rc, rc := 0xFFFFFFFF } /- MAC_CNT_NOACK -/,
    { off := 0x64, acc := .rc, rc := 0xFFFFFFFF } /- MAC_CNT_EVDROP -/,
    { off := 0x800, acc := .rw, dims := [(32, 0x4)], rw := 0xFFFFFC00 } /- MAC_PHY -/,
    { off := 0xc00, acc := .rw, dims := [(256, 0x4)], rw := 0xB7FFFFFF } /- MAC_CHPLAN -/ ]

/-- Registers of block SEC, base 0x0600000. -/
def rowsSEC : List RegRow :=
  [ { off := 0x0, acc := .rw, rw := 1, who := .cust } /- SEC_CTRL -/,
    { off := 0x4, acc := .ro } /- SEC_STATUS -/,
    { off := 0x8, acc := .wo, who := .cust } /- SEC_ALARM -/,
    { off := 0xc, acc := .ro } /- SEC_ALMCAUSE -/,
    { off := 0x10, acc := .ro, reset := 0x400 } /- SEC_HOLD -/,
    { off := 0x14, acc := .rc, rc := 0xFFFFFFFF } /- SEC_CNT_AUTH -/,
    { off := 0x18, acc := .rc, rc := 0xFFFFFFFF } /- SEC_CNT_NOKEY -/,
    { off := 0x1c, acc := .rc, rc := 0xFFFFFFFF } /- SEC_CNT_BUSY -/,
    { off := 0x20, acc := .rw, rw := 0x7FFF } /- SEC_SLOTQ -/,
    { off := 0x24, acc := .ro } /- SEC_SLOTINFO -/,
    { off := 0x28, acc := .ro } /- SEC_SLOTFC -/,
    { off := 0x2c, acc := .ro } /- SEC_SLOTLIM -/,
    { off := 0x100, acc := .rw, dims := [(2, 0x10)], rw := 0xFFFFFFE0, who := .half } /- SEC_RING_BASE -/,
    { off := 0x104, acc := .rw, dims := [(2, 0x10)], rw := 0xFFF, who := .half } /- SEC_RING_SIZE -/,
    { off := 0x108, acc := .rw, dims := [(2, 0x10)], rw := 0xFFF, who := .half } /- SEC_RING_TAIL -/,
    { off := 0x10c, acc := .ro, dims := [(2, 0x10)] } /- SEC_RING_HEAD -/ ]

/-- Registers of block MSG, base 0x0700000. -/
def rowsMSG : List RegRow :=
  [ { off := 0x0, acc := .rw, reset := 0x3e80000, rw := 0xFFFF0001 } /- MSG_CTRL -/,
    { off := 0x4, acc := .ro } /- MSG_STATUS -/,
    { off := 0x8, acc := .rw, rw := 0xFFFFF000 } /- MSG_TCBBASE -/,
    { off := 0xc, acc := .rw, reset := 0x400, rw := 0x7FFF } /- MSG_TCBCNT -/,
    { off := 0x10, acc := .rw, rw := 0xFFFFF000 } /- MSG_UPTBASE -/,
    { off := 0x14, acc := .rw, reset := 0x400, rw := 0xFFFF } /- MSG_FRAGMAX -/,
    { off := 0x18, acc := .rw, reset := 0x2710, rw := 0xFFFF } /- MSG_REASM -/,
    { off := 0x20, acc := .wo, who := .mps } /- MSG_CMD -/,
    { off := 0x24, acc := .ro, banked := true } /- MSG_CMDRES -/,
    { off := 0x28, acc := .rw, dims := [(4, 0x4)], rw := 0xFFFFFFFF, who := .mps, banked := true } /- MSG_CMDARG -/,
    { off := 0x38, acc := .ro, dims := [(4, 0x4)], banked := true } /- MSG_CMDOUT -/,
    { off := 0x50, acc := .rc, rc := 0xFFFFFFFF } /- MSG_CNT_STALE -/,
    { off := 0x54, acc := .rc, rc := 0xFFFFFFFF } /- MSG_CNT_REASM_TO -/,
    { off := 0x58, acc := .rc, rc := 0xFFFFFFFF } /- MSG_CNT_REASM_BAD -/,
    { off := 0x5c, acc := .rc, rc := 0xFFFFFFFF } /- MSG_CNT_REASM_BUSY -/,
    { off := 0x60, acc := .rc, rc := 0xFFFFFFFF } /- MSG_CNT_HOLE -/,
    { off := 0x80, acc := .rw, dims := [(16, 0x4)], rw := 0xFFFFFFFF } /- MSG_LNKPOOL -/,
    { off := 0x100, acc := .rw, dims := [(16, 0x10)], rw := 0xFFFFFFFF } /- MSG_POOL_BASE -/,
    { off := 0x104, acc := .rw, dims := [(16, 0x10)], reset := 0x10000, rw := 0xFFFFFFFF } /- MSG_POOL_SIZE -/,
    { off := 0x108, acc := .rw, dims := [(16, 0x10)], reset := 0x40064, rw := 0x8FFFFFFF } /- MSG_POOL_CFG -/ ] ++
  [ { off := 0x10c, acc := .ro, dims := [(16, 0x10)] } /- MSG_POOL_FREE -/ ]

/-- Registers of block HPC, base 0x0800000. -/
def rowsHPC : List RegRow :=
  [ { off := 0x0, acc := .ro1, w1c := 0x02000000, who := .devLeadHost } /- HPC_STATUS -/,
    { off := 0x4, acc := .rw, rw := 0xFFFFFE00, who := .devLeadHost } /- HPC_WBBASE_LO -/,
    { off := 0x8, acc := .rw, rw := 0xFFFFFFFF, who := .devLeadHost } /- HPC_WBBASE_HI -/,
    { off := 0xc, acc := .rw, reset := 0x320001, rw := 0xFFFF00FF, who := .devLeadHost } /- HPC_COAL -/,
    { off := 0x10, acc := .wo, who := .devLeadHost } /- HPC_QCMD -/,
    { off := 0x14, acc := .rw, rw := 0x3F, who := .devLeadHost } /- HPC_EVTVEC -/,
    { off := 0x18, acc := .rc, rc := 0xFFFFFFFF } /- HPC_CNT_ERR -/,
    { off := 0x100, acc := .rw, dims := [(64, 0x20), (6, 0x4)], rw := 0xFFFFFFFF, who := .devLeadHost } /- HPC_QP_BASES -/,
    { off := 0x118, acc := .rw, dims := [(64, 0x20)], rw := 0xBFFFF800, who := .devLeadHost } /- HPC_QP_CFG -/,
    { off := 0x11c, acc := .ro, dims := [(64, 0x20)] } /- HPC_QP_STAT -/ ]

/-- Registers of block ETH, base 0x0810000. -/
def rowsETH : List RegRow :=
  [ { off := 0x0, acc := .rw, rw := 0x1FFF7, who := .devLead } /- ETH_CTRL -/,
    { off := 0x4, acc := .ro } /- ETH_STATUS -/,
    { off := 0x8, acc := .rw, rw := 0xFFFFFFFF, who := .devLead } /- ETH_MAC_LO -/,
    { off := 0xc, acc := .rw, rw := 0xFFFF, who := .devLead } /- ETH_MAC_HI -/,
    { off := 0x10, acc := .rw, dims := [(4, 0x4)], rw := 0xFFFFFFFF, who := .devLead } /- ETH_IP6 -/,
    { off := 0x20, acc := .rw, reset := 0xb8f2, rw := 0xFFFF, who := .devLead } /- ETH_PORT -/,
    { off := 0x24, acc := .rw, reset := 0x5dc, rw := 0x3FFF, who := .devLead } /- ETH_MTU -/,
    { off := 0x28, acc := .rw, reset := 0x640008, rw := 0xFFFF00FF, who := .devLead } /- ETH_AMPCFG -/,
    { off := 0x30, acc := .rw, rw := 0xFFFFFFFF, who := .devLead } /- ETH_RAWRX_BASE -/,
    { off := 0x34, acc := .rw, rw := 0xFFF, who := .devLead } /- ETH_RAWRX_CTL -/,
    { off := 0x38, acc := .rw, rw := 0xFFFFFFFF, who := .devLead } /- ETH_RAWTX_BASE -/,
    { off := 0x3c, acc := .rw, rw := 0x0FFF0FFF, who := .devLead } /- ETH_RAWTX_CTL -/,
    { off := 0x40, acc := .ro } /- ETH_PTPINFO -/,
    { off := 0x44, acc := .ro, dims := [(3, 0x4)] } /- ETH_PTPTS -/,
    { off := 0x50, acc := .wo, who := .devLead } /- ETH_PTPPOP -/,
    { off := 0x54, acc := .rc, rc := 0xFFFFFFFF } /- ETH_CNT_DROP -/,
    { off := 0x58, acc := .rc, rc := 0xFFFFFFFF } /- ETH_CNT_AMPDUP -/,
    { off := 0x100, acc := .rw, dims := [(64, 0x20), (4, 0x4)], rw := 0xFFFFFFFF, who := .devLead } /- ETH_AMP_PEER -/,
    { off := 0x110, acc := .rw, dims := [(64, 0x20)], rw := 0x8000FFFF, who := .devLead } /- ETH_AMP_CTRL -/,
    { off := 0x114, acc := .ro, dims := [(64, 0x20)] } /- ETH_AMP_STAT -/ ]

/-- Registers of block ASB, base 0x0820000. -/
def rowsASB : List RegRow :=
  [ { off := 0x0, acc := .rw, reset := 0x3fffe, rw := 0xE00FFFFF, who := .mps } /- ASB_CFG -/,
    { off := 0x4, acc := .ro } /- ASB_STATUS -/,
    { off := 0x8, acc := .wo, who := .mps } /- ASB_TXCMD -/,
    { off := 0xc, acc := .ro } /- ASB_TXRES -/,
    { off := 0x10, acc := .rw, dims := [(4, 0x4)], rw := 0xFFFFFFFF, who := .mps } /- ASB_TXD -/,
    { off := 0x20, acc := .ro } /- ASB_RXINFO -/,
    { off := 0x24, acc := .ro, dims := [(4, 0x4)] } /- ASB_RXD -/,
    { off := 0x34, acc := .wo, who := .mps } /- ASB_RXPOP -/,
    { off := 0x38, acc := .rw, rw := 0xFF, who := .mps } /- ASB_DLY -/,
    { off := 0x3c, acc := .rw, reset := 0x3e8, rw := 0xFFFF, who := .mps } /- ASB_SYNCINT -/,
    { off := 0x40, acc := .ro } /- ASB_CLOFS_LO -/,
    { off := 0x44, acc := .ro } /- ASB_CLOFS_HI -/,
    { off := 0x48, acc := .ro } /- ASB_SYNCERR -/,
    { off := 0x4c, acc := .rc, rc := 0xFFFFFFFF } /- ASB_CNT -/ ]

/-- Registers of block CLP, base 0x0900000. -/
def rowsCLP : List RegRow :=
  [ { off := 0x0, acc := .ro, who := .cust } /- CLP_TAGSTAT -/,
    { off := 0x4, acc := .rc, rc := 0xFFFFFFFF, who := .cust } /- CLP_TAGLOG -/,
    { off := 0x8, acc := .ro, who := .cust } /- CLP_CAGEN -/,
    { off := 0xc, acc := .ro, who := .cust } /- CLP_CASTATE -/,
    { off := 0x10, acc := .rw, rw := 0x8000FFFF, who := .cust } /- CLP_TAGCFG -/,
    { off := 0x100, acc := .rw, reset := 0xa10, rw := 0xC000FFFF, who := .cust } /- CLP_RDCTRL -/,
    { off := 0x104, acc := .rw, reset := 0x400000, rw := 0xFFFF0000, who := .cust } /- CLP_RDWAKE -/,
    { off := 0x108, acc := .rw, reset := 0xc80464, rw := 0xFFFFFFFF, who := .cust } /- CLP_RDTMO -/,
    { off := 0x10c, acc := .ro, who := .cust } /- CLP_RDSTAT -/,
    { off := 0x110, acc := .ro, who := .cust } /- CLP_RDCAP -/ ]

/-- Registers of block FWU, base 0x0A00000. -/
def rowsFWU : List RegRow :=
  [ { off := 0x0, acc := .wo, who := .fwu } /- FWU_CMD -/,
    { off := 0x4, acc := .ro } /- FWU_STATUS -/,
    { off := 0x8, acc := .rw, rw := 0xFFFFFFFF, who := .fwu } /- FWU_SRC -/,
    { off := 0xc, acc := .rw, rw := 0xFFFFFFFF, who := .fwu } /- FWU_DST -/,
    { off := 0x10, acc := .rw, rw := 0x1FFFFFF, who := .fwu } /- FWU_LEN -/,
    { off := 0x14, acc := .ro } /- FWU_WRWIN -/,
    { off := 0x18, acc := .ro } /- FWU_BOOTINFO -/,
    { off := 0x1c, acc := .ro } /- FWU_VERSION -/,
    { off := 0x20, acc := .ro } /- FWU_FLOOR -/,
    { off := 0x24, acc := .ro } /- FWU_RFLOOR -/,
    { off := 0x40, acc := .ro, dims := [(8, 0x4)] } /- FWU_DIGEST -/ ]

/-- Registers of block PIO, base 0x0B00000. -/
def rowsPIO : List RegRow :=
  [ { off := 0x0, acc := .rw, dims := [(24, 0x4)], rw := 0x1B30F, who := .mpsCust } /- PIO_GP_CFG -/ ]

/-- Registers of block TST, base 0x0C00000. -/
def rowsTST : List RegRow :=
  [ { off := 0x0, acc := .ro, reset := 0x26400a8b } /- TST_IDCODE -/,
    { off := 0x4, acc := .ro } /- TST_STATUS -/,
    { off := 0x8, acc := .rwl, reset := 0x7, rw := 7, w1s := 0x80000000, who := .cust } /- TST_DBGCTL -/ ]

/-- Whether displacement `d` falls on an instance of the given dimensions, and the outermost instance. -/
def dimsMatch : List (Nat × Nat) → Nat → Bool
  | [], d => d == 0
  | (n, st) :: rest, d => decide (d / st < n) && dimsMatch rest (d % st)

/-- The row of a block's table that covers block offset `o`. -/
def findRow (o : Nat) (rows : List RegRow) : Option RegRow :=
  rows.find? fun r => decide (r.off ≤ o) && dimsMatch r.dims (o - r.off)

/-- A block: its base, the end of its extent (R453) and its registers. -/
structure Block where
  base : Nat
  extent : Nat
  rows : List RegRow
  deriving DecidableEq, Repr

/-- The block whose range holds a register offset, by the table of R453; none for an offset at or above
0x0D0_0000, which no register covers. -/
def blockOf (off : Nat) : Option Block :=
  if off < 0x10000 then some ⟨0x0, 0x1000, rowsDEV⟩ else
  if off < 0x20000 then some ⟨0x10000, 0x9000, rowsRIMX⟩ else
  if off < 0x30000 then some ⟨0x20000, 0x1000, rowsPWR⟩ else
  if off < 0x40000 then some ⟨0x30000, 0x1000, rowsSUP⟩ else
  if off < 0x80000 then some ⟨0x40000, 0x2000, rowsMGN⟩ else
  if off < 0x90000 then some ⟨0x80000, 0x3000, rowsTBG⟩ else
  if off < 0xa0000 then some ⟨0x90000, 0x1000, rowsRTC⟩ else
  if off < 0xb0000 then some ⟨0xa0000, 0x1000, rowsTMR⟩ else
  if off < 0xc0000 then some ⟨0xb0000, 0x4000, rowsEVR⟩ else
  if off < 0x100000 then some ⟨0xc0000, 0x1000, rowsPMC⟩ else
  if off < 0x200000 then some ⟨0x100000, 0x42000, rowsWEN⟩ else
  if off < 0x300000 then some ⟨0x200000, 0x10000, rowsLAN⟩ else
  if off < 0x340000 then some ⟨0x300000, 0x20000, rowsACR⟩ else
  if off < 0x400000 then some ⟨0x340000, 0x12000, rowsACR⟩ else
  if off < 0x500000 then some ⟨0x400000, 0x1000, rowsTRK⟩ else
  if off < 0x600000 then some ⟨0x500000, 0x1000, rowsMAC⟩ else
  if off < 0x700000 then some ⟨0x600000, 0x1000, rowsSEC⟩ else
  if off < 0x800000 then some ⟨0x700000, 0x1000, rowsMSG⟩ else
  if off < 0x810000 then some ⟨0x800000, 0x1000, rowsHPC⟩ else
  if off < 0x820000 then some ⟨0x810000, 0x1000, rowsETH⟩ else
  if off < 0x900000 then some ⟨0x820000, 0x1000, rowsASB⟩ else
  if off < 0xa00000 then some ⟨0x900000, 0x1000, rowsCLP⟩ else
  if off < 0xb00000 then some ⟨0xa00000, 0x1000, rowsFWU⟩ else
  if off < 0xc00000 then some ⟨0xb00000, 0x1000, rowsPIO⟩ else
  if off < 0xd00000 then some ⟨0xc00000, 0x1000, rowsTST⟩ else
  none

/-- What an offset of the register part of the Control Space is (R453, R460). -/
inductive Place where
  | unassigned
  | undefined
  | reg (row : RegRow)
  deriving DecidableEq, Repr

/-- The place of an offset below 0x100_0000. The two ACR receivers share one table, in which instance 1 is ACR-W,
whose channel pages exist for k = 0 to 15 and whose descriptor counters for h = 0 and 1 (R185). -/
def placeOf (off : Nat) : Place :=
  match blockOf off with
  | none => .unassigned
  | some b =>
    let o := off - b.base
    if b.extent ≤ o then .unassigned
    else if b.base = 0x340000 && decide (0x48 ≤ o ∧ o < 0x80) then .undefined
    else match findRow o b.rows with
      | none => .undefined
      | some r => .reg r

/-- The outermost instance number of an offset on a row. -/
def rowInst (r : RegRow) (off : Nat) : Nat :=
  match blockOf off, r.dims with
  | some b, (_, st) :: _ => (off - b.base - r.off) / st
  | _, _ => 0

/-- A bank of registers occupies 2^25 keys of the register file: bank 0 holds every unbanked register. -/
abbrev bankSize : Nat := 0x2000000

-- Marked: DESIGN CHOICE, log entry 4.
/-- The value a register holds before anything has written it: the reset column of its table. -/
def resetOf (key : Nat) : Word :=
  let off := key % bankSize
  match placeOf off with
  | .reg r =>
    let acr : Nat := if decide (0x340000 ≤ off ∧ off < 0x400000) then 1 else rowInst r off
    BitVec.ofNat 32 (r.resets.getD acr r.reset)
  | _ => 0#32

end Sys2Proof.Machine
end

