-- ==== Sys2Proof/Machine/Sparse.lean ====
section
/-!
DEFINITION. Sparse tables: a list of (key, value) pairs in one canonical form (keys strictly rising, no entry equal
to what an unlisted key reads as), used for the register file, for memory and for every numbered set of like things.
-/

namespace Sys2Proof.Machine

/-- A sparse table of values by number. -/
abbrev Table (α : Type) := List (Nat × α)

/-- Reads key `k`; an unlisted key reads as `dflt k`. -/
def tget {α : Type} (dflt : Nat → α) : Table α → Nat → α
  | [], k => dflt k
  | (k', v) :: r, k => if k' = k then v else tget dflt r k

/-- Inserts an entry before the first entry with a larger key. -/
def tins {α : Type} (k : Nat) (v : α) : Table α → Table α
  | [] => [(k, v)]
  | (k', v') :: r => if k < k' then (k, v) :: (k', v') :: r else (k', v') :: tins k v r

/-- Removes every entry of key `k`. -/
def tdel {α : Type} (k : Nat) : Table α → Table α
  | [] => []
  | (k', v') :: r => if k' = k then tdel k r else (k', v') :: tdel k r

/-- Writes key `k`, keeping the canonical form: writing what an unlisted key reads as removes the entry. -/
def tput {α : Type} [DecidableEq α] (dflt : Nat → α) (t : Table α) (k : Nat) (v : α) : Table α :=
  if v = dflt k then tdel k t else tins k v (tdel k t)

/-- Removes every entry whose key satisfies `p`: those keys then read as unlisted. -/
def tclear {α : Type} (p : Nat → Bool) (t : Table α) : Table α :=
  t.filter fun e => !p e.1

/-- Every listed key is at least `lo`, keys rise strictly, and no entry equals what an unlisted key reads as. -/
def twfFrom {α : Type} [DecidableEq α] (dflt : Nat → α) : Nat → Table α → Bool
  | _, [] => true
  | lo, (k, v) :: r => decide (lo ≤ k) && decide (v ≠ dflt k) && twfFrom dflt (k + 1) r

/-- The canonical form. -/
def twf {α : Type} [DecidableEq α] (dflt : Nat → α) (t : Table α) : Bool := twfFrom dflt 0 t

end Sys2Proof.Machine
end

