-- ==== Sys2Proof/Machine/Dev.lean ====
section
/-!
DEFINITION. Everything the spec gives the device, as plain data. Software-visible registers live in `regs`; what the
spec gives a block beyond its registers (queues, buffers, deadlines, conditions in progress) stands in the block's own
structure. Every field's default is its value after reset.
-/

namespace Sys2Proof.Machine

/-! ## Timebase and Gate Units (chapter 2) -/

/-- A LATE record (R41, R47, R52). -/
structure LateRec where
  kind : Nat
  unit : Nat
  slot : Nat
  cls : Nat
  fire : Nat
  acc : Nat
  deriving DecidableEq, Repr

/-- The Timebase beyond its registers (R23 to R34). -/
structure Tb where
  count : Nat := 0
  /-- the synthesizer has locked to REF_IN since reset or return from Stop (R25) -/
  everLocked : Bool := false
  /-- the synthesizer is locked to REF_IN -/
  locked : Bool := false
  /-- the state from which holdover was entered (R26) -/
  holdFrom : Nat := 0
  /-- in holdover: the frequency source is the TCXO scaled by the held ratio, otherwise the oscillator at its held
  control word (R25, R26) -/
  holdTcxo : Bool := false
  /-- e still to be slewed (R32) -/
  err : Int := 0
  /-- clock period from which the next slew step may be made -/
  slewAt : Nat := 0
  /-- Ca, the count of the last accepted edge, and the next second to judge (R30) -/
  ppsAnchor : Nat := 0
  ppsK : Nat := 1
  /-- PPS_OUT level, the clock period at which it falls, and how many boundaries have been passed or pulsed (R34) -/
  ppsOut : Bool := false
  ppsFall : Nat := 0
  ppsDone : Nat := 0
  /-- LATE record queue, oldest first (R52) -/
  late : List LateRec := []
  lateLost : Nat := 0
  /-- previous lead of each class and the clock period of its change (R40) -/
  leadPrev : Table (Nat × Nat) := []
  /-- clock period, plus 1, of the last request a Gate Unit has judged, and its requester's number (R105) -/
  judged : Table (Nat × Nat) := []
  /-- clock period, plus 1, of the last arm request of each class that has been judged (R40) -/
  judgedCls : Table Nat := []
  /-- a lead the margin planner has raised takes effect at the next tick (R40) -/
  leadDue : Bool := false
  /-- retention area of PD0: the count at Stop and the RTC periods counted until Stop (R29) -/
  retained : Option (Nat × Nat) := none
  deriving DecidableEq, Repr

/-- One arming held by a slot (R38, R43). -/
structure Arming where
  id : Nat
  cls : Nat
  fire : Nat
  param : Nat
  /-- identity of the arming it depends on (R44) -/
  pred : Option Nat := none
  /-- the outcome of an ended predecessor, and the count at which that cancels this arming (R44) -/
  doom : Option (Nat × Nat) := none
  /-- a TXS gate whose frame-complete check has passed (R47) -/
  checked : Bool := false
  deriving DecidableEq, Repr

/-- One arming slot: what it holds and its last outcome (R107); outcome 4 is "not armed since reset". -/
structure Slot where
  arm : Option Arming := none
  last : Nat := 4
  deriving DecidableEq, Repr

/-! ## Processors (chapters 3 to 5) -/

/-- Whether a Main Processor or Custody executes, `stepping` for the one instruction of STEP (R450); an engine's state is in WENn_STATUS.STATE. -/
inductive Run where
  | inReset | running | halted | stepping | lockup
  deriving DecidableEq, Repr

/-- What a processor waits for (R87, R107, R111, R113, R88, R114). -/
inductive Wait where
  | none
  | gate (rd : Reg) (id : Nat)
  | event (rd : Reg) (ch : Nat)
  | portIn (rd : Reg) (port : Nat)
  | portOut (port : Nat) (val : Word)
  | rim (tag : Nat)
  | wfi
  deriving DecidableEq, Repr

/-- One processor (R54, R55, R80). `ctl` holds the control registers by number; STATUS also holds an engine's flags. -/
structure Cpu where
  g : Vector Word 32 := Vector.replicate 32 0#32
  pc : Word := 0#32
  ctl : Table Word := []
  run : Run := .inReset
  wait : Wait := .none
  /-- clock period at which the wait began (R126) -/
  waitAt : Nat := 0
  retired : Nat := 0
  /-- region registers as instruction fetch sees them (R82) -/
  fetchRegions : Table Word := []
  /-- budget units since the last wait or swap point (R126) -/
  units : Nat := 0
  deriving DecidableEq, Repr

/-- A pending handover of a half (R128). -/
structure Handover where
  src : Nat
  tgt : Nat
  exchange : Bool
  deadline : Nat
  deriving DecidableEq, Repr

/-- A result that waits in a hold queue (R132): a plan of PLANQ, or a result record. -/
inductive HeldResult where
  | plan (words : List Word)
  | record (r : ResultRec)
  deriving DecidableEq, Repr

/-- A held result with the kind, resource and placement generation of its role (R119, R132). -/
structure Held where
  kind : Nat
  res : Nat
  gen : Nat
  what : HeldResult
  deriving DecidableEq, Repr

/-- Handovers, generations, hold queues (R119, R128, R132, R133). -/
structure Wen where
  ho : Option Handover := none
  /-- results of the new placement held until the marker passes (R132) -/
  hold : List Held := []
  /-- drain markers not yet passed: role kind, resource, old generation -/
  markers : List (Nat × Nat × Nat) := []
  /-- the placement the last handover ended: role kind, resource and generation (WENHh_HOSTAT.DRAINED, R132) -/
  ended : Nat × Nat × Nat := (0, 0, 0)
  /-- generation of each role, by 32 * kind + resource -/
  gen : Table Nat := []
  /-- LOAD commands in progress, by engine: source, destination and length when they began (R122) -/
  loads : List (Nat × Nat × Word × Nat) := []
  deriving DecidableEq, Repr

/-! ## Radios (chapters 6 and 8): lanes 0 to 15, the trunk transceiver 16 -/

/-- A transmit buffer entry (R152). `fill` 0 free, 1 being filled, 2 complete. -/
structure TxEnt where
  fill : Nat := 0
  tag : Nat := 0
  held : Bool := false
  relPend : Bool := false
  blocks : Nat := 0
  phy : Word := 0#32
  preamble : Nat := 0
  level : Int := 0
  /-- frames of a wake-up train; 0 for a single frame -/
  train : Nat := 0
  node : Nat := 0
  psdu : List Byte := []
  /-- the LSN the fill named (R158); 2^20 for a frame of no transaction -/
  lsn : Nat := 1048576
  /-- the frame counter of the fill (R265) -/
  fc : Word := 0#32
  deriving DecidableEq, Repr

/-- A frame being received on a path (R141, R190, R191). -/
structure RxFrame where
  sfd : Bool := false
  /-- clock period of the SFD, and whether the coded SFD was found (R191) -/
  sfdAt : Nat := 0
  coded : Bool := false
  /-- count and sub-tick of the receive timestamp (R37, R178) -/
  sfdCount : Nat := 0
  sub : Nat := 0
  /-- an aerial has been selected for this frame; or the SFD came before that (R146) -/
  sel : Bool := false
  divShort : Bool := false
  /-- the PHY entry its search began with (R189) -/
  phy : Word := 0#32
  /-- Timebase STATE and SLEWING at the receive timestamp (R36) -/
  tbState : Nat := 0
  slewing : Bool := false
  deriving DecidableEq, Repr

/-- What a lane radiates: channel word, level in 0.5 dB steps, aerial, PHY entry and the bits of the frame (R139, R147,
R186, R187). -/
structure OnAir where
  chan : Word
  level : Int
  aer : Nat
  phy : Word
  bits : List Bool
  deriving DecidableEq, Repr

/-- The last receive window, as listen before talk sees it (R156). -/
structure Window where
  chan : Word
  opened : Nat
  closed : Nat
  /-- highest RSSI during the last listen time before it ended, in 0.25 dB steps -/
  peak : Int
  /-- last clock period at which a frame was being received in it; none if no frame was -/
  heard : Option Nat
  deriving DecidableEq, Repr

/-- A TXS frame a DISABLE has disarmed: its handle, its transaction, its frame counter, and the channel word it would have
been sent on (R158). -/
structure Offer where
  handle : Nat
  lsn : Nat
  fc : Word
  ch : Word
  deriving DecidableEq, Repr

/-- A radio beyond its registers. `st` is the lane state of R140. -/
structure Radio where
  st : Nat := 0
  /-- clock period at which the state in progress ends -/
  until_ : Nat := 0
  /-- state entered at that end -/
  back : Nat := 0
  aer : Nat := 0
  curCh : Nat := 0
  /-- the channel word tuned, as it stood when tuned (R159) -/
  chw : Word := 0#32
  draining : Bool := false
  /-- it has drained since its last ENABLE: classes 0 to 5 stay not permitted (R157) -/
  shut : Bool := false
  /-- the frames a DISABLE with MOVE = 1 has disarmed: offered for another lane until OFF (R158) -/
  offers : List Offer := []
  offAt : Option Nat := none
  kept : List Nat := []
  enabledAt : Nat := 0
  everEnabled : Bool := false
  calPend : Nat := 0
  calRun : Nat := 0
  /-- open receive window: profile and clock period of opening -/
  win : Option (Nat × Nat) := none
  /-- an RXC has fired and the frame in progress completes first (R143) -/
  closeAfter : Bool := false
  lastWin : Option Window := none
  heard : Option Nat := none
  /-- correlation energy of the first measuring dwell, and whether an AER gate has ended diversity for this window (R146) -/
  divAer : Option Nat := none
  divEnded : Bool := false
  /-- the aerial the receiver is on, which diversity moves apart from the current aerial (R146, R147) -/
  winAer : Nat := 0
  /-- clock period at which the dwell in progress began (R146) -/
  dwellAt : Nat := 0
  /-- the PHY entry and THRESH the search in progress began with (R189) -/
  searchPhy : Word := 0#32
  searchThr : Nat := 0
  rx : Option RxFrame := none
  /-- the gain, in 6 dB steps of its 66 dB range, that the last SFD froze (R139, R191) -/
  gain : Nat := 0
  /-- entry being transmitted, and what is on air -/
  tx : Option Nat := none
  air : Option OnAir := none
  rxq : List Word := []
  filled : List Word := []
  capq : List (List Word) := []
  capLost : Nat := 0
  lt0 : Word := 0#32
  lt1 : Word := 0#32
  ltctl : Nat := 0
  /-- clock period of the last write of each compare value, and the value in force until the next (R153) -/
  lt0At : Nat := 0
  lt1At : Nat := 0
  lt0Old : Word := 0#32
  lt1Old : Word := 0#32
  /-- the temperature at which a calibration kind last ran, plus 1000; 0 for a kind that has not run (R149) -/
  calTemp : Table Int := []
  deriving DecidableEq, Repr

/-- An airtime charge in the always-on duty buckets: radio, sub-band, second, ticks (R155). -/
structure Charge where
  radio : Nat
  sub : Nat
  sec : Nat
  ticks : Nat
  deriving DecidableEq, Repr

/-! ## All-channel receivers (chapter 7) -/

/-- One path of an ACR channel (R175, R176). -/
structure AcrPath where
  settled : Bool := false
  /-- clock period at which the latest disturbance ends -/
  e : Nat := 0
  /-- the disturbance was an overload of this digitizer (R179) -/
  ovl : Bool := false
  rx : Option RxFrame := none
  /-- some sample of the frame in progress fell in an interval that an overload left unsettled (R179) -/
  mark : Bool := false
  /-- the PHY entry and THRESH the search in progress began with (R177, R189) -/
  searchPhy : Word := 0#32
  searchThr : Nat := 0
  /-- magnitudes in halves of the last 64 samples not detected, newest first, and samples still to erase (R170) -/
  mags : List Nat := []
  erase : Nat := 0
  /-- the rank stage's last inputs, its last outputs and the FIR's last outputs, newest first (R167) -/
  rankHist : List Sample := []
  firHist : List Sample := []
  fracHist : List Sample := []
  /-- samples of the frame in progress that entered the path one by one, and those of them blanked (R170) -/
  seen : Nat := 0
  hits : Nat := 0
  deriving DecidableEq, Repr

/-- A decimating stage: its last inputs, newest first, and its inputs counted (R163, R167). -/
structure Decimator where
  hist : List Sample := []
  n : Nat := 0
  deriving DecidableEq, Repr

/-- The sets of an ACR channel over a stretch of time: descriptor and bank of the active and of the pending set, and the end
of the cross-fade in progress with its length (R172). -/
structure FirSets where
  act : Word
  actC : List Word
  pend : Word
  pendC : List Word
  fade : Option (Nat × Nat)
  deriving DecidableEq, Repr

/-- One digitizer (R179, R180). -/
structure AcrDig where
  /-- an ordered step down takes effect at this clock period -/
  ordered : Option Nat := none
  /-- clock period of the last overranged sample of the event in progress -/
  lastOver : Option Nat := none
  /-- E of the event in progress -/
  e : Nat := 0
  /-- clock period of the last sample above -18 dBFS -/
  lastStrong : Nat := 0
  /-- the last code reported, clamped (R160, R179) -/
  code : Sample := ⟨0, 0⟩
  /-- DC-offset and image corrections in force, as measured (R165) -/
  dc : Word := 0#32
  image : Word := 0#32
  /-- what the calibration in progress has measured so far (R165) -/
  newDc : Word := 0#32
  newImage : Word := 0#32
  /-- samples through the mixer, the shared front stages, and the channelizer's input (R163, R167) -/
  mixN : Nat := 0
  cic : Decimator := {}
  hb1 : Decimator := {}
  hb2 : Decimator := {}
  chz : Decimator := {}
  deriving DecidableEq, Repr

/-- One receiver beyond its registers; its state is ACRx_STATUS.STATE (R162). -/
structure AcrRx where
  until_ : Nat := 0
  /-- state entered when calibration ends -/
  back : Nat := 0
  paths : Table AcrPath := []
  digs : Table AcrDig := []
  /-- clock period at which a channel's cross-fade ends, and its length X (R172) -/
  fades : Table (Nat × Nat) := []
  /-- the sets channels had up to a clock period, newest first, while a frame that began under them goes on (R172) -/
  firPast : Table (List (Nat × FirSets)) := []
  /-- the kind of calibration in progress, by its bit in FAIL (R165) -/
  kind : Option Nat := none
  /-- temperature at the last calibration plus 1000; 0 before one (R166) -/
  calTemp : Int := 0
  /-- a command whose completion CMDDONE awaits -/
  busy : Bool := false
  deriving DecidableEq, Repr

/-! ## Rand trunk and Anchor Sync Bus (chapters 8 and 14) -/

/-- A claim entered in a decision (R204). -/
structure Claim where
  prio : Nat
  eui : Nat
  deriving DecidableEq, Repr

/-- A trunk frame on air: the points of its symbols from the header on, by tone (R194 to R197). -/
structure TrunkTx where
  symbols : List (List (Int × Int × Int))
  deriving DecidableEq, Repr

/-- The trunk link beyond its registers (R198 to R207). -/
structure Trunk where
  txd : List (List Word) := []
  txc : List Word := []
  rxb : List (Word × Word) := []
  rxr : List (List Word) := []
  /-- next superframe start in the cluster count; none until a beacon has been decoded or sent -/
  sfNext : Option Nat := none
  sfLen : Nat := 640000
  sfStart : Nat := 0
  /-- slot table in force: T and P words -/
  slots : List (Word × Word) := []
  coordPrio : Nat := 0
  coordEui : Nat := 0
  /-- the coordinator of the current epoch is sitting (R204) -/
  coordKnown : Bool := false
  resigned : Bool := false
  /-- count at which the claim window closes -/
  winEnd : Option Nat := none
  entries : List Claim := []
  ownClaim : Bool := false
  ownResign : Bool := false
  /-- role before CONTENDING -/
  prevRole : Nat := 0
  /-- this station has won and sends the first beacon at the next start of the old grid -/
  takeOver : Bool := false
  /-- clock period from which TPA_EN is high, and from which it is low again (R441) -/
  paFrom : Option Nat := none
  paTo : Option Nat := none
  /-- SNR of the last sounding symbols of each peer, newest first, 48 values of 0.25 dB each (R198) -/
  snr : Table (List (List Int)) := []
  /-- peers with a map frame queued, and with a raised map that waits for MAPHOLD -/
  mapq : List Nat := []
  mapDefer : List Nat := []
  mapSentAt : Table Nat := []
  prevGen : Table Nat := []
  /-- the frames of the transmission in progress -/
  air : List TrunkTx := []
  deriving DecidableEq, Repr

/-- The Anchor Sync Bus station beyond its registers (R326 to R329). -/
structure Asb where
  /-- frames waiting, in order of submission, each with the attempts that have failed -/
  txq : List (BusFrame × Nat) := []
  /-- place in `txq` of the frame that has been started, until it completes or is dropped -/
  cur : Option Nat := none
  /-- the frame being sent -/
  sending : Option BusFrame := none
  rxq : List BusFrame := []
  /-- count at the SOF of this station's last SYNC -/
  ownSync : Option Nat := none
  /-- count at the last captured SYNC of each station, until a FOLLOW refers to it -/
  syncCaps : Table (Option Nat) := []
  /-- clock period since which the line is recessive; none while a frame is on it -/
  quiet : Option Nat := none
  /-- the bits this station drove last, dominant false: its own frame, or an ACK -/
  line : List Bool := []
  nextSync : Nat := 0
  deriving DecidableEq, Repr

/-! ## MAC (chapter 9) -/

/-- An entry of the recent-admission table (R215). -/
structure RatEnt where
  node : Nat
  fc : Nat
  /-- clock period of the commit (R215) -/
  commit : Option Nat := none
  /-- the reassembly context the admitted copy went to -/
  tag : Nat := 0
  deriving DecidableEq, Repr

/-- A key slot as it stood when Rim changed it: operations accepted before the change complete under it (R237). -/
structure SlotImage where
  slot : Nat
  key : List Byte
  attr : List Byte
  fc : Nat
  fcLim : Nat
  gcm : Nat
  gcmLim : Nat
  deriving DecidableEq, Repr

/-- A received copy between stages 3 and 8 of R16. -/
structure Copy where
  id : Nat
  node : Nat
  inn : FrameIn
  /-- hold blocks have been taken (R235) -/
  held : Bool := false
  /-- its tag has verified, at this clock period -/
  verified : Option Nat := none
  opened : Opened := ⟨[], none, false⟩
  /-- no reassembly could be opened for it (R255) -/
  busy : Bool := false
  /-- an INVALIDATE, INSERT or SETFC came between stages 3 and 6 (R216) -/
  stale : Bool := false
  /-- its node's slot before a change made while it stood in hold blocks (R237) -/
  old : Option SlotImage := none
  deriving DecidableEq, Repr

/-- The MAC beyond its registers and the node-table mirrors, which are memory. -/
structure Mac where
  rat : List RatEnt := []
  /-- event queues: the words left of each record (R222) -/
  evqA : List (List Word) := []
  evqB : List (List Word) := []
  copies : List Copy := []
  copySeq : Nat := 1
  /-- strangers reported in the current second, and that second -/
  strSec : Nat := 0
  strCnt : Nat := 0
  /-- results of role commands, by 2 * half + RES (R222) -/
  ntrq : Table (List Word) := []
  /-- trains the last PLAN of a half gave for a node and no fill has made yet, by 16,384 * half + node: 16,384 * N plus the
  node whose entry the plan used (R218, R219) -/
  trains : Table Nat := []
  deriving DecidableEq, Repr

/-! ## Security engine (chapter 10) -/

/-- A binding of R13 and R232. `dir` 0 is an encryption, found by its MATCH word; 1 a CCM* decryption, found by its frame
counter; 2 a GCM decryption, found by its IV. -/
structure Binding where
  node : Nat
  dir : Nat
  match_ : Nat
  half : Nat
  expires : Nat
  late : Bool := false
  status : Nat
  fc : Nat
  out : List Byte
  deriving DecidableEq, Repr

/-- A run of hold-memory blocks in use (R235). -/
structure HoldRun where
  buf : Nat
  start : Nat
  len : Nat
  /-- 0, 1: the ring of that half; 2 + id: a received copy -/
  owner : Nat
  deriving DecidableEq, Repr

/-- An acknowledgement whose fill waits for transmit buffer space or for a counter (R213). -/
structure AckFill where
  lane : Nat
  node : Nat
  fc : Nat
  busy : Bool
  ended : Nat
  until_ : Nat
  channel : Nat
  /-- receive timestamp of the frame: count and word 2 (R36, R222) -/
  rxCount : Nat := 0
  rxWord2 : Word := 0#32
  /-- it waits for a counter, not for space -/
  counter : Bool := false
  /-- its slot before a change made while it waited -/
  old : Option SlotImage := none
  deriving DecidableEq, Repr

/-- Why a ring's front descriptor waits (R233, R152, R235). -/
inductive SecWait where
  | none
  | reservation (until_ : Nat)
  | fill (until_ : Nat)
  /-- a request that the other half's binding answers waits for space, which no BUSY ends (R232); until `until_` in the
  order of requests -/
  | copy (until_ : Nat)
  | hold
  deriving DecidableEq, Repr

/-- The security engine beyond its registers; slot attributes are MRAM. -/
structure Sec where
  /-- next CCM* frame counter and next GCM invocation counter of each slot -/
  fc : Table Nat := []
  gcm : Table Nat := []
  /-- the limit the engine may use, once durable (R233) -/
  fcLim : Table Nat := []
  gcmLim : Table Nat := []
  /-- reservations asked for: the slot, or 32,768 more for its GCM counter -/
  requested : List Nat := []
  bindings : List Binding := []
  hold : List HoldRun := []
  waitA : SecWait := .none
  waitB : SecWait := .none
  /-- who first placed each ring entry between HEAD and TAIL, by 4096 * half + index (R231) -/
  owner : Table Nat := []
  /-- who last wrote each half's TAIL -/
  tailBy : Table Nat := []
  /-- slots whose key schedules are in the working key cache, the newest first, with the keys (R226) -/
  cache : List (Nat × List Byte) := []
  /-- slots set to BAD since reset (R238) -/
  bad : Nat := 0
  acks : List AckFill := []
  /-- the slot of a half's waiting front before a change made while it waited (R237) -/
  olds : List (Nat × SlotImage) := []
  deriving DecidableEq, Repr

/-! ## Transactions (chapter 11) -/

/-- A transaction control block (R247). `state` 0 waits for blocks, 1 admitted, 2 decided. -/
structure Tcb where
  lsn : Nat
  linkq : Nat
  tag : Word
  opc : Nat
  cls : Nat
  flow : Nat
  group : Bool
  target : Nat
  uplink : Bool := false
  dseq : Nat := 0
  /-- ledger record, none for class U -/
  ledger : Option Nat := none
  state : Nat := 0
  status : Nat := 0
  len : Nat := 0
  /-- a response is expected -/
  resp : Bool := false
  respMax : Nat := 0
  raddr : Nat := 0
  paddr : Nat := 0
  deadline : Nat := 0
  waitUntil : Option Nat := none
  pool : Nat := 0
  blocks : Nat := 0
  /-- the payload has been fetched into the pool -/
  fetched : Bool := false
  payload : List Byte := []
  /-- response, or the datagram of a delivery -/
  data : List Byte := []
  dlv : Bool := false
  count : Nat := 0
  radiated : Bool := false
  deadlinePosted : Bool := false
  /-- the number of the next arming when the deadline event was posted: gates armed from then on do not send it (R258) -/
  barFrom : Nat := 0
  /-- fragments acknowledged, and the fragment size reported with them; 0 where the payload went whole (R252, R257) -/
  acked : List Nat := []
  fragSize : Nat := 0
  /-- message-store addresses of its blocks (R262) -/
  place : List Nat := []
  lqw0 : Word := 0#32
  lqw1 : Word := 0#32
  fc : Word := 0#32
  /-- in Capacity mode, the half that homes it -/
  home : Nat := 0
  deriving DecidableEq, Repr

/-- A reassembly context (R254). -/
structure Reasm where
  node : Nat
  tag : Nat
  size : Nat
  pool : Nat
  blocks : Nat
  /-- message-store addresses of its blocks (R262) -/
  place : List Nat := []
  cls : Nat
  flow : Nat
  linkq : Nat
  /-- filled octet ranges, newest first: offset and octets -/
  parts : List (Nat × List Byte) := []
  last : Nat
  /-- counter of the first fragment admitted; none before it -/
  fc : Option Nat := none
  dups : Nat := 0
  lqw0 : Word := 0#32
  lqw1 : Word := 0#32
  marked : Bool := false
  deriving DecidableEq, Repr

/-- The message block beyond its registers and the ledger mirrors, which are memory. -/
structure Msg where
  tcbs : List Tcb := []
  nextLsn : Nat := 0
  reasm : List Reasm := []
  /-- carves of each pool, most recent first: address and blocks -/
  carves : Table (List (Nat × Nat)) := []
  used : Table Nat := []
  /-- LSNs of released transactions whose frames may not be radiated: the number of the first gate barred, plus 1 (R243, R258) -/
  barred : Table Nat := []
  /-- link queues whose next submission waits for a TCB or a record (R247, R266) -/
  stalled : List Nat := []
  deriving DecidableEq, Repr

/-! ## Token unit (chapter 12) -/

/-- A class H fault (R275): half and cause. -/
structure HFault where
  half : Nat
  cause : Nat
  deriving DecidableEq, Repr

/-- The token unit beyond its registers. -/
structure Tok where
  /-- heartbeat watched, and clock period of the last one accepted, for each half -/
  watchA : Bool := false
  watchB : Bool := false
  hbA : Nat := 0
  hbB : Nat := 0
  latched : List HFault := []
  noticeA : Bool := false
  noticeB : Bool := false
  noticeC : Bool := false
  /-- clock period since which no half holds or can take the lead (R287) -/
  noLead : Option Nat := none
  resync : Option Nat := none
  /-- S of the pending switch (R283) -/
  swAt : Option Nat := none
  rolesA : Bool := false
  rolesB : Bool := false
  /-- trail queues (R273) -/
  trailA : List ResultRec := []
  trailB : List ResultRec := []
  /-- RIMX_TOKEN as each half's Main Processor last read it, and the EPOCH with which the half has been refused a ticket
  since (R271) -/
  seenA : Option Word := none
  seenB : Option Word := none
  refusedA : Option Nat := none
  refusedB : Option Nat := none
  /-- clock periods of the last Custody restarts (R287) -/
  restarts : List Nat := []
  deriving DecidableEq, Repr

/-! ## Host links (chapter 14) -/

/-- A completion or delivery entry on its way out: its words, its data, and where a response goes (R265, R313). -/
structure Entry where
  words : List Word
  data : List Byte
  raddr : Nat
  deriving DecidableEq, Repr

/-- A queue pair beyond its registers (R311 to R316). -/
structure Qp where
  sqHead : Nat := 0
  sqTail : Nat := 0
  cqHead : Nat := 0
  cqTail : Nat := 0
  dataTail : Nat := 0
  /-- data space in use by entries the host has not passed: CQ index, start and octets -/
  data : List (Nat × Nat × Nat) := []
  unsignalled : Nat := 0
  firstAt : Nat := 0
  /-- released entries held while EN = 0, oldest first -/
  held : List Entry := []
  deriving DecidableEq, Repr

/-- A segment of an AMP stream (R319). -/
structure Segment where
  seq : Nat
  type : Nat
  flags : Nat
  body : List Byte
  deriving DecidableEq, Repr

/-- An AMP stream beyond its registers; its state is ETH_AMPs_STAT (R320, R321). -/
structure Stream where
  session : Option Nat := none
  rxNext : Nat := 1
  txNext : Nat := 1
  unacked : List Segment := []
  /-- segments not yet sent because the window is full, and releases held -/
  queued : List Segment := []
  window : Nat := 1
  rtoAt : Option Nat := none
  retries : Nat := 0
  ackAt : Option Nat := none
  partial_ : List Byte := []
  held : List Entry := []
  deriving DecidableEq, Repr

/-- What the host links carry outward, newest last: posted writes, read requests, MSI-X messages, AMP datagrams and raw
frames. -/
inductive HostOut where
  | write (addr : Nat) (data : List Byte)
  | read (addr : Nat) (len : Nat)
  | msix (vec : Nat) (addr : Nat) (data : Word)
  | amp (stream : Nat) (type : Nat) (seq : Nat) (ack : Nat) (flags : Nat) (window : Nat) (body : List Byte)
  | raw (entry : List Byte)
  deriving DecidableEq, Repr

/-- Host links beyond their registers. -/
structure HostLinks where
  qps : Table Qp := []
  streams : Table Stream := []
  nextQ : Nat := 0
  /-- transactions whose payload read is outstanding: LSN -/
  reads : List Nat := []
  out : List HostOut := []
  /-- words of the MSI-X table, 4 to a vector: address, data, vector control; and the vectors pending (R310) -/
  msix : Table Word := []
  msixPend : List Nat := []
  ptp : List (Word × Word × Word × Word) := []
  ethReady : Bool := false
  /-- submissions that an AMP stream has placed in the current clock period (R20) -/
  ampNow : List (Nat × List Word) := []
  deriving DecidableEq, Repr

/-! ## Skein, timers, RTC (chapters 17 and 18) -/

/-- The Skein beyond its registers (R391, R394, R399). -/
structure Skein where
  /-- the event each channel holds, accepted and not yet delivered -/
  held : Table Bool := []
  /-- pending latches, by 256 * processor number (R457 order, Custody 0x42) + channel -/
  latch : Table Bool := []
  /-- latches during which a further event arrived (R113), keyed alike -/
  more : Table Bool := []
  /-- sampling counters that have reached their period: 1 + the trigger's address (R405) -/
  due : Table Nat := []
  /-- 1 + the Main Processor whose instruction was the last trigger -/
  trigOf : Table Nat := []
  /-- instructions retired since the trigger, and whether the source was ineligible at some time since then -/
  after : Table Nat := []
  late : Table Bool := []
  /-- clock period at which a cell's filtered change posts; 0 none -/
  filt : Table Nat := []
  /-- count at which a counter's last window ended, plus 1 (R403) -/
  wins : Table Nat := []
  deriving DecidableEq, Repr

/-- A general timer: its count stood at `count`, with prescaler residue `res`, at clock period `since` (R379). -/
structure Tmr where
  count : Nat := 0
  res : Nat := 0
  since : Nat := 0
  /-- a match has ordered the next advance to take the count to 0 (R382) -/
  reload : Bool := false
  /-- clock period of the count's last advance, and of the last write of CMP or setting of CMPEN; none once a match has
  been taken there (R382) -/
  advAt : Option Nat := none
  wrAt : Option Nat := none
  /-- accepted edges since enabling (R384) -/
  edges : Nat := 0
  deriving DecidableEq, Repr

/-- The retention area for PD3's timers (R386): the timers, their CTL, CMP and EVT registers. -/
structure TmrKept where
  timers : Table Tmr
  regs : Table Word
  deriving DecidableEq, Repr

/-- The RTC: its total of 2^-15 s stood at `total` at crystal cycle `since` (R371 to R378). -/
structure Rtc where
  total : Nat := 0
  since : Nat := 0
  /-- RTC periods counted up to `since`, which no setting and no shift of the time moves (R29, R386) -/
  ran : Nat := 0
  /-- clock period of crystal cycle 0 -/
  clk0 : Nat := 0
  hold : Nat := 0
  /-- a seconds write not yet in force: its crystal cycle, the time it sets, and a hold ordered since (R374) -/
  setTo : Option (Nat × Nat × Nat) := none
  /-- crystal cycle at which the trim window began, and the trim in force in it -/
  winAt : Nat := 0
  trim : Int := 0
  /-- measurements since the last restart (R377) -/
  meas : Nat := 0
  /-- clock periods of the last seconds write and of the last accepted shift write (R376) -/
  setAt : Option Nat := none
  shiftAt : Option Nat := none
  deriving DecidableEq, Repr

/-! ## Firmware (chapter 13) -/

/-- What the Upsett record holds for one image (R296). -/
structure Boot where
  active : Nat := 0
  confirmed : Nat := 0
  trial : Bool := false
  tries : Nat := 0
  floor : Nat := 0
  setfmt : Nat := 0
  deriving DecidableEq, Repr

/-- The newest valid settings (R300, R301): one generation, and for each format held its copy, the Rim section of 64 octets
and then the Weave part in that format. -/
structure Settings where
  gen : Nat := 0
  copies : Table (List Byte) := []
  deriving DecidableEq, Repr

/-- One Rim call mailbox slot beyond its registers (R88, R308). -/
structure MboxState where
  /-- order of posting -/
  order : Nat := 0
  /-- the step it was posted in -/
  at_ : Nat := 0
  deriving DecidableEq, Repr

/-- Firmware state that Rim and the ROM keep in MRAM, and the progress of Upsett and of FWU. -/
structure Fw where
  weave : Boot := {}
  rim : Boot := {}
  settings : Option Settings := none
  revoked : List Nat := []
  stagedA : Bool := false
  stagedB : Bool := false
  /-- the step of R294 that has completed; 0 in reset -/
  step : Nat := 0
  /-- held for recovery: 0 no, 1 by the ROM, 2 by Rim (R295) -/
  recov : Nat := 0
  /-- Rim slot running -/
  rslot : Nat := 0
  trialEnd : Option Nat := none
  /-- half-at-a-time activation: 0 none, 1 the first half restarting, 2 the second (R302) -/
  halfwise : Nat := 0
  /-- the trial was activated half at a time -/
  byHalf : Bool := false
  /-- Main Processor domains that Rim votes back to Run once they have stopped (R283, R302) -/
  restart : List Nat := []
  /-- the slot whose image each half runs -/
  runA : Nat := 0
  runB : Nat := 0
  /-- VERSION of the image each half runs; 0 while none -/
  verA : Nat := 0
  verB : Nat := 0
  /-- FWU command in progress: command word, and source, destination and length when it began -/
  cmd : Option (Word × Nat × Nat × Nat) := none
  digested : List Byte := []
  calls : Nat := 0
  mbox : Table MboxState := []
  sealed : Option Seal := none
  /-- what the profile in each of the Seal's two copies says (R289, R305) -/
  profiles : Table (Option Seal) := []
  charges : List Charge := []
  /-- node-table snapshot in MRAM exists -/
  snapshot : Bool := false
  /-- an A2 zeroisation not yet complete, held in MRAM (R239) -/
  a2Pending : Bool := false
  deriving DecidableEq, Repr

/-! ## Supply, power domains, margin planner (chapters 15 and 16) -/

/-- A supply event record (R340). -/
structure SupEvent where
  kind : Nat
  start : Nat
  dur : Nat
  extreme : Nat
  deriving DecidableEq, Repr

/-- The mains monitor and Ride-Through beyond the SUP registers. -/
structure Sup where
  events : List SupEvent := []
  lost : Nat := 0
  /-- line event in progress: entry count, entry clock period and extreme p plus 1, or 0 while no p is known -/
  lineAt : Option (Nat × Nat × Nat) := none
  freqAt : Option (Nat × Nat × Nat) := none
  freqBad : Nat := 0
  /-- the line class has been Normal and PFW_N high since this clock period (R346) -/
  okSince : Option Nat := none
  avsSent : Option Nat := none
  avsPrev : Nat := 800
  /-- Rim has yet to vote the stopped domains back to Run (R346) -/
  voteBack : Bool := false
  deriving DecidableEq, Repr

/-- Power control beyond the PWR registers (R348, R350). -/
structure Power where
  /-- Prepare in progress: next voter to answer, and the clock period its answer was asked for -/
  prep : Table (Nat × Nat) := []
  /-- clock period at which a Run entry was ordered; 0 none -/
  entry : Table Nat := []
  /-- the device is held in reset (R334) -/
  inReset : Bool := false
  kept : Option TmrKept := none
  /-- the voter that refused a stop awaiting retry, plus 1, by domain (R351) -/
  refuser : Table Nat := []
  /-- RTC periods counted until PD2 or PD3 left Run, for the timers (R386) -/
  tmrStop : Option Nat := none
  deriving DecidableEq, Repr

/-- A sentinel ring beyond its registers (R358 to R360). -/
structure Ring where
  /-- clock period at which its burst in progress began -/
  began : Nat := 0
  weekSum : Int := 0
  weekN : Nat := 0
  tempSum : Int := 0
  /-- a first burst has completed since its domain entered Run -/
  valid : Bool := false
  eol : Nat := 0
  /-- AGE at the block's last complete calibration (R366) -/
  calAge : Nat := 0
  deriving DecidableEq, Repr

/-- A Margin Ledger event record (R368). -/
structure MgnRec where
  kind : Nat
  obj : Nat
  count : Nat
  sec : Nat
  before : Nat
  after : Nat
  mv : Nat
  serial : Nat
  deriving DecidableEq, Repr

/-- The margin planner beyond the MGN registers. -/
structure Mgn where
  rings : Table Ring := []
  recs : List MgnRec := []
  serial : Nat := 0
  week : Nat := 0
  /-- clock periods spent out of reset (R360) -/
  onTicks : Nat := 0
  /-- clock period in which the last step was applied -/
  stepAt : Option Nat := none
  /-- Main Processors whose demand is shed (R364) -/
  mpShed : List Nat := []
  /-- the offset last written to MGN_LRDADDR lies beyond the ledger (R369) -/
  ledBeyond : Bool := false
  /-- clock period since which every demand has had double headroom -/
  highSince : Option Nat := none
  /-- no lowering before this clock period -/
  noLower : Nat := 0
  lowered : Bool := false
  /-- a notice of a BAD key slot since MGN_NOTICE was last read (R237) -/
  keyNotice : Bool := false
  deriving DecidableEq, Repr

/-! ## Contactless port and TAP (chapters 19 and 21) -/

/-- A reader result record (R425). -/
structure RdRec where
  kind : Nat
  tag : Nat
  data : List Byte
  deriving DecidableEq, Repr

/-- A write of the Commissioning Area (R417), kept until its steps have taken their maximum durations: who asked for it,
when step 2 began, the page with its octets and the selector's two copies from before, the octets written, how many times
the shadow page read back wrong, and when power was lost during it. -/
structure CaWr where
  tag : Bool := false
  start : Nat := 0
  page : Nat := 0
  old : List Byte := []
  sel : List Byte := []
  new : List Byte := []
  mism : Nat := 0
  lost : Option Nat := none
  deriving DecidableEq, Repr

/-- The contactless port beyond the CLP registers of the reader. -/
structure Clp where
  /-- an external field is present at the tag antenna -/
  field : Bool := false
  /-- ISO/IEC 14443-3 state: 0 power-off, 1 IDLE, 2 READY, 3 ACTIVE, 4 HALT, 5 PROTOCOL -/
  st : Nat := 0
  uid : List Byte := []
  /-- frame size the reader named in RATS -/
  fsd : Nat := 256
  /-- group slot of AUTH1, the two random numbers, 0 no authentication, 1 AUTH1 done, 2 authenticated -/
  slot : Nat := 0
  rndR : List Byte := []
  rndT : List Byte := []
  authed : Nat := 0
  /-- failures in this session (R414) -/
  fails : Nat := 0
  /-- the one-slot key register: the group key from AUTH1, the session key from AUTH2, empty where it is erased (R411) -/
  key : List Byte := []
  /-- message counter (R413) -/
  counter : Nat := 0
  /-- the payload of a command so far, while its I-blocks are chained (R409) -/
  part : List Byte := []
  /-- status of the last reply, the block last sent, and the blocks of a chain still to send -/
  lastst : Nat := 0
  lastReply : List Byte := []
  chain : List (List Byte) := []
  /-- WTXM of each S(WTX) sent and not yet answered, and the waiting time in force by the last answer, in clock periods;
  0 where it is the tag's own (R419) -/
  wtx : List Nat := []
  waits : Nat := 0
  /-- tag configuration in force since the field's activation -/
  tagEn : Bool := false
  wp : Nat := 0
  /-- clock period at which the field was lost -/
  fieldLost : Nat := 0
  lockout : Bool := false
  /-- octets drawn from the noise source -/
  noise : Nat := 0
  tagIrq : Bool := false
  /-- the Commissioning Area has been accessed since power returned (R418) -/
  firstDone : Bool := false
  /-- writes of the shared sequencer that have not ended, newest first (R420) -/
  wrs : List CaWr := []
  rdRecs : List RdRec := []
  /-- tags of the last poll, and those that have had RATS -/
  rdTags : List (List Byte) := []
  rdRats : List Nat := []
  /-- command blocks not yet carried out (R425) -/
  rdCmds : List (List Byte) := []
  /-- a poll that a capacitance change has started (R421) -/
  rdWake : Bool := false
  /-- clock period at which the reader's field came on (R421) -/
  rdOnAt : Nat := 0
  /-- tag of the exchange in progress, the clock period its wait ends, and its waiting time -/
  rdActive : Option Nat := none
  rdWait : Option Nat := none
  rdFwt : Nat := 0
  rdNaks : Nat := 0
  rdWtx : Nat := 0
  rdWaitFrom : Nat := 0
  nextMeas : Nat := 0
  deriving DecidableEq, Repr

/-- The test access port beyond the TST registers (R444 to R450). -/
structure Tap where
  ir : Nat := 2
  tlr : Bool := true
  csDone : Bool := false
  csErr : Bool := false
  csData : Word := 0#32
  dbgDone : Bool := false
  dbgErr : Bool := false
  dbgHalted : Bool := false
  dbgData : Word := 0#32
  boundary : List Bool := []
  /-- transitions driven so far on the transmit pairs (R448) -/
  pulses : Nat := 0
  deriving DecidableEq, Repr

/-! ## The device -/

/-- Everything but the queue of commands. -/
structure Dev where
  /-- 6.25 ns clock periods since the device was first powered -/
  clk : Nat := 0
  /-- the model's own counter: how many free values have been taken -/
  freeCtr : Nat := 0
  regs : Table Word := []
  mem : Table Byte := []
  /-- flat addresses of words with a single-bit and with a double-bit error (R64, R281) -/
  ecc1 : List Nat := []
  ecc2 : List Nat := []
  /-- halves with a double-bit error in a structure of their own outside the node table and the ledger (R281) -/
  spoilt : List Nat := []
  /-- MRAM octets Custody has stored since its last FENCE, newest first: address and the octet before (R62) -/
  unfenced : List (Nat × Byte) := []
  tb : Tb := {}
  /-- slots of Gate Unit u by 16 * u + k, disarmed-but-not-ended armings, and outcomes by arming (R107) -/
  slots : Table Slot := []
  ghosts : List (Nat × Arming) := []
  outcomes : Table Nat := []
  armSeq : Nat := 1
  /-- processors by number: engines 0 to 63, MP-A 64, MP-B 65, Custody 66 -/
  cpus : Table Cpu := []
  wenA : Wen := {}
  wenB : Wen := {}
  /-- lanes 0 to 15 and the trunk transceiver 16 -/
  radios : Table Radio := []
  txents : Table TxEnt := []
  acrs : Table AcrRx := []
  /-- descriptor queues and their drop counts (R183, R184), by 16 * half + group -/
  acrq : Table (List Word) := []
  acrDrops : Table Nat := []
  trunk : Trunk := {}
  asb : Asb := {}
  mac : Mac := {}
  planq : Table (List Word) := []
  sec : Sec := {}
  msg : Msg := {}
  tok : Tok := {}
  host : HostLinks := {}
  skein : Skein := {}
  timers : Table Tmr := []
  rtc : Rtc := {}
  fw : Fw := {}
  sup : Sup := {}
  power : Power := {}
  mgn : Mgn := {}
  clp : Clp := {}
  tap : Tap := {}
  /-- the model's own output: the answer to the last read a command made: requester, offset, and the value, or none for
  an Unsupported Request or ERR -/
  bus : Option (Nat × Nat × Option Word) := none
  deriving DecidableEq, Repr

end Sys2Proof.Machine
end

