-- ==== Sys2Proof/Machine/Ops.lean ====
section
/-!
DEFINITION. The named operations over registers, bit fields, memory, processors and domains that every meaning uses.
-/

namespace Sys2Proof.Machine

/-! ## Bit fields -/

/-- Bits [lo + n - 1 : lo] of a word. -/
def fld (w : Word) (lo n : Nat) : Nat := (w.toNat >>> lo) % 2 ^ n

/-- One bit of a word. -/
def bitOf (w : Word) (i : Nat) : Bool := w.getLsbD i

/-- A word with ones in bits [lo + n - 1 : lo]. -/
def fldMask (lo n : Nat) : Word := BitVec.ofNat 32 ((2 ^ n - 1) <<< lo)

/-- `w` with bits [lo + n - 1 : lo] replaced by the low `n` bits of `v`. -/
def setFld (w : Word) (lo n v : Nat) : Word :=
  (w &&& ~~~ fldMask lo n) ||| BitVec.ofNat 32 ((v % 2 ^ n) <<< lo)

/-- `w` with one bit set or cleared. -/
def setBit (w : Word) (i : Nat) (b : Bool) : Word := setFld w i 1 (if b then 1 else 0)

/-- The word of a natural number, modulo 2^32. -/
abbrev wd (n : Nat) : Word := BitVec.ofNat 32 n

/-- A field read as a signed number of `n` bits. -/
def sfld (w : Word) (lo n : Nat) : Int :=
  let v := fld w lo n
  if v < 2 ^ (n - 1) then (v : Int) else (v : Int) - (2 ^ n : Nat)

/-- The `n`-bit two's complement pattern of an integer. -/
def patt (n : Nat) (i : Int) : Nat := (i % ((2 ^ n : Nat) : Int)).toNat

/-- Packs fields, each at its bit position, into one word. -/
def pack : List (Nat × Nat) → Word
  | [] => 0#32
  | (lo, v) :: r => BitVec.ofNat 32 (v <<< lo) ||| pack r

/-- A truth value as a number. -/
def b2n (b : Bool) : Nat := if b then 1 else 0

/-- Ceiling of a quotient. -/
def cdiv (a b : Nat) : Nat := (a + b - 1) / b

/-! ## Registers -/

/-- The value of register `k`, a Control Space offset plus its bank. -/
def Dev.reg (d : Dev) (k : Nat) : Word := tget resetOf d.regs k

/-- Sets register `k`. -/
def Dev.setReg (d : Dev) (k : Nat) (w : Word) : Dev := { d with regs := tput resetOf d.regs k w }

/-- A field of a register. -/
def Dev.f (d : Dev) (k lo n : Nat) : Nat := fld (d.reg k) lo n

/-- A bit of a register. -/
def Dev.b (d : Dev) (k i : Nat) : Bool := bitOf (d.reg k) i

/-- Sets a field of a register. -/
def Dev.setF (d : Dev) (k lo n v : Nat) : Dev := d.setReg k (setFld (d.reg k) lo n v)

/-- Sets or clears a bit of a register. -/
def Dev.setB (d : Dev) (k i : Nat) (v : Bool) : Dev := d.setReg k (setBit (d.reg k) i v)

-- Marked: DESIGN CHOICE, log entry 39.
/-- Adds to a counting field, which stops at its largest value. -/
def Dev.bumpF (d : Dev) (k lo n by_ : Nat) : Dev := d.setF k lo n (min (2 ^ n - 1) (d.f k lo n + by_))

/-- Adds one to a 32-bit counter register, saturating. -/
def Dev.bump (d : Dev) (k : Nat) : Dev := d.bumpF k 0 32 1

/-- Writes a 64-bit value to a pair of registers, low word first. -/
def Dev.setPair (d : Dev) (lo hi v : Nat) : Dev := (d.setReg lo (wd v)).setReg hi (wd (v / 2 ^ 32))

/-- The 64-bit value of a pair of registers. -/
def Dev.pair (d : Dev) (lo hi : Nat) : Nat := (d.reg lo).toNat + 2 ^ 32 * (d.reg hi).toNat

/-- Instances `i < n` of a register page, at `base + stride * i`, that something has moved from their reset value. -/
def Dev.listed (d : Dev) (base stride n : Nat) : List Nat :=
  d.regs.filterMap fun e =>
    if base ≤ e.1 && decide (e.1 < base + stride * n) && (e.1 - base) % stride == 0
    then some ((e.1 - base) / stride) else none

/-- Returns every register of an offset range, in every bank, to its reset value (R348). -/
def Dev.resetRange (d : Dev) (lo hi : Nat) : Dev :=
  { d with regs := tclear (fun k => decide (lo ≤ k % bankSize ∧ k % bankSize < hi)) d.regs }

end Sys2Proof.Machine

namespace Sys2Proof

/-! ## Requesters and processors (R457) -/

/-- The number of a half, 0 for Half A. -/
def Half.toNat : Half → Nat
  | .a => 0
  | .b => 1

/-- The number of a receiver. -/
def Acr.num : Acr → Nat
  | .s => 0
  | .w => 1

/-- The half of a number. -/
def halfOf (n : Nat) : Half := if n = 0 then .a else .b

/-- The other half. -/
def Half.other : Half → Half
  | .a => .b
  | .b => .a

/-- A processor's number: engines 0 to 63, MP-A 64, MP-B 65, Custody 66. -/
def Proc.num : Proc → Nat
  | .eng n => n.val
  | .mp h => 64 + h.toNat
  | .custody => 66

/-- A requester's number in the order of R457; DEV_ACCERR.REQ reports it (R461). -/
def Req.num : Req → Nat
  | .eng n => n.val
  | .mp h => 64 + h.toNat
  | .custody => 66
  | .host => 67
  | .tap => 68

/-- The requester a processor is. -/
def Proc.req : Proc → Req
  | .eng n => .eng n
  | .mp h => .mp h
  | .custody => .custody

/-- The half a processor belongs to; none for Custody (R8). -/
def Proc.half : Proc → Option Nat
  | .eng n => some (n.val / 32)
  | .mp h => some h.toNat
  | .custody => none

end Sys2Proof

namespace Sys2Proof.Machine

/-- The key of a requester's own copy of a banked register (R458). -/
def bankKey (r : Nat) (off : Nat) : Nat := off + bankSize * (1 + r)

/-- The quad of a lane (R8). -/
def laneQuad (n : Nat) : Nat :=
  if n < 4 then 0 else if n < 6 then 1 else if n < 10 then 2 else if n < 12 then 3 else if n < 14 then 1 else 3

/-- The half of a lane (R8). -/
def laneHalf (n : Nat) : Nat := laneQuad n / 2

/-- The lanes of a half (R8). -/
def lanesOf (h : Nat) : List Nat := (List.range 16).filter fun n => laneHalf n = h

/-- The partner of a lane (R9). -/
def lanePartner (n : Nat) : Nat :=
  if n < 6 then n + 6 else if n < 12 then n - 6 else if n < 14 then n + 2 else n - 2

/-- The half of an engine (R8). -/
def engHalf (e : Nat) : Nat := e / 32

/-! ## Time -/

/-- Clock periods in one microsecond and one millisecond. -/
abbrev us : Nat := 160
abbrev ms : Nat := 160000

/-- The Timebase count (R23). -/
def Dev.count (d : Dev) : Nat := d.tb.count

/-- TBG_STATUS.STATE (R25). -/
def Dev.tbState (d : Dev) : Nat := d.f R.TBG_STATUS 0 2

/-- TBG_STATUS.SLEWING. -/
def Dev.slewing (d : Dev) : Bool := d.b R.TBG_STATUS 3

/-- Word 2 of a timestamp record, with the Timebase state and the slewing flag of its capture (R36). -/
def stampWordOf (sub source : Nat) (corrected : Bool) (state : Nat) (slewing : Bool) : Word :=
  pack [(24, sub), (20, source), (19, b2n corrected), (17, state), (16, b2n slewing)]

/-- Word 2 of a timestamp record captured now. -/
def Dev.stampWord (d : Dev) (sub source : Nat) (corrected : Bool) : Word :=
  stampWordOf sub source corrected d.tbState d.slewing

/-! ## Domains (R347, R453) -/

/-- Domain `n` is in Run. A domain in Prepare is still in Run. -/
def Dev.pdRun (d : Dev) (n : Nat) : Bool := d.b (R.PWR_PD_STAT n) 31

/-- Domain `n` is in Prepare (R350). -/
def Dev.pdPrep (d : Dev) (n : Nat) : Bool := d.b (R.PWR_PD_STAT n) 30

/-- The domain of the register page that holds an offset (R52, R453). -/
def pdOf (off : Nat) : Nat :=
  if off < 0x80000 then 0 else
  if off < 0x90000 then
    if decide (0x81000 ≤ off ∧ off < 0x82000) then 16 + (off - 0x81000) / 0x100 else 2
  else
  if off < 0xa0000 then 0 else
  if off < 0x100000 then 3 else
  if off < 0x140000 then 42 + (off - 0x100000) / 0x8000 else
  if off < 0x141000 then 40 else
  if off < 0x200000 then 41 else
  if off < 0x300000 then 16 + (off - 0x200000) / 0x1000 else
  if off < 0x308000 then 8 else
  if off < 0x340000 then 9 else
  if off < 0x348000 then 10 else
  if off < 0x400000 then 11 else
  if off < 0x500000 then 12 else
  if off < 0x600000 then 4 else
  if off < 0x700000 then 6 else
  if off < 0x800000 then 5 else
  if off < 0x810000 then 13 else
  if off < 0x820000 then 14 else
  if off < 0x900000 then 2 else
  if off < 0x900100 then 0 else
  if off < 0xa00000 then 15 else
  if off < 0xb00000 then 1 else 7

/-- The domain of Gate Unit `u`: GU0 to GU15 share the lane's, GU16 and GU17 lie in PD2 (R52). -/
def guPd (u : Nat) : Nat := if u < 16 then 16 + u else 2

/-- The half a domain belongs to; none for the domains of no half (R351). -/
def pdHalf (n : Nat) : Option Nat :=
  if 16 ≤ n ∧ n < 32 then some (laneHalf (n - 16))
  else if n = 40 ∨ n = 41 then some (n - 40)
  else if 42 ≤ n ∧ n < 50 then some ((n - 42) / 4)
  else if 50 ≤ n ∧ n < 54 then some ((n - 50) / 2)
  else none

/-! ## Memory: flat addresses of every array (R57 to R59, R453) -/

abbrev engBase (n : Nat) : Nat := 0x100000000 + n * 0x8000
abbrev sramBase (h : Nat) : Nat := 0x200000000 + h * 0x200000
abbrev custBase : Nat := 0x300000000
abbrev mramBase : Nat := 0x400000000
abbrev storeBase : Nat := 0x500000000
abbrev ntBase (h : Nat) : Nat := 0x600000000 + h * 0x100000
abbrev ledBase (h : Nat) : Nat := 0x700000000 + h * 0x40000
abbrev flashBase : Nat := 0x800000000
abbrev romBase : Nat := 0x900000000

-- Marked: DESIGN CHOICE, log entry 5.
/-- What an octet that nothing has written reads as: 0 (log entry 5). -/
def memDflt (_ : Nat) : Byte := 0#8

-- Marked: DESIGN CHOICE, log entry 5.
/-- Memory in canonical form: addresses rising, and no octet listed that equals what an unlisted address reads as. -/
def Memory.wf (m : Table Byte) : Bool := twf memDflt m

-- Marked: DESIGN CHOICE, log entry 5.
/-- One octet of memory at a flat address; the Custody ROM is a constant of the device. -/
def Dev.rd8 (d : Dev) (a : Nat) : Byte := if a < romBase then tget memDflt d.mem a else Config.romByte (a - romBase)

/-- Stores one octet. -/
def Dev.wr8 (d : Dev) (a : Nat) (v : Byte) : Dev := { d with mem := tput memDflt d.mem a v }

/-- A halfword, little-endian. -/
def Dev.rd16 (d : Dev) (a : Nat) : BitVec 16 := d.rd8 (a + 1) ++ d.rd8 a

/-- A word, little-endian. -/
def Dev.rd32 (d : Dev) (a : Nat) : Word := d.rd8 (a + 3) ++ d.rd8 (a + 2) ++ d.rd8 (a + 1) ++ d.rd8 a

/-- Octet `i` of a word. -/
def byteOf (w : Word) (i : Nat) : Byte := (w >>> (8 * i)).setWidth 8

/-- A store replaces the whole protected words it touches, so an earlier error in them is gone (R64). -/
def Dev.unmark (d : Dev) (a : Nat) : Dev :=
  { d with ecc1 := d.ecc1.filter (· ≠ a / 4 * 4), ecc2 := d.ecc2.filter (· ≠ a / 4 * 4) }

/-- Stores a word. -/
def Dev.wr32 (d : Dev) (a : Nat) (w : Word) : Dev :=
  ((((d.wr8 a (byteOf w 0)).wr8 (a + 1) (byteOf w 1)).wr8 (a + 2) (byteOf w 2)).wr8 (a + 3) (byteOf w 3)).unmark a

/-- Stores a halfword. -/
def Dev.wr16 (d : Dev) (a : Nat) (w : Word) : Dev :=
  ((d.wr8 a (byteOf w 0)).wr8 (a + 1) (byteOf w 1)).unmark a

/-- `n` octets from address `a`. -/
def Dev.rdBytes (d : Dev) (a n : Nat) : List Byte := (List.range n).map fun i => d.rd8 (a + i)

/-- Stores octets from address `a` on. -/
def Dev.wrBytes (d : Dev) (a : Nat) : List Byte → Dev
  | [] => d
  | x :: r => Dev.wrBytes ((d.wr8 a x).unmark a) (a + 1) r

/-- Stores words from address `a` on. -/
def Dev.wrWords (d : Dev) (a : Nat) : List Word → Dev
  | [] => d
  | x :: r => Dev.wrWords (d.wr32 a x) (a + 4) r

/-- Returns a range of memory to what nothing has written, and clears its error marks. -/
def Dev.clearMem (d : Dev) (lo n : Nat) : Dev :=
  { d with
    mem := tclear (fun k => decide (lo ≤ k ∧ k < lo + n)) d.mem
    ecc1 := d.ecc1.filter fun a => !decide (lo ≤ a ∧ a < lo + n)
    ecc2 := d.ecc2.filter fun a => !decide (lo ≤ a ∧ a < lo + n) }

/-- The octets of a word, lowest first. -/
def wordBytes (w : Word) : List Byte := [byteOf w 0, byteOf w 1, byteOf w 2, byteOf w 3]

/-- A little-endian number of octets. -/
def leNat : List Byte → Nat
  | [] => 0
  | b :: r => b.toNat + 256 * leNat r

/-- The `n` octets of a number, lowest first. -/
def natBytes : Nat → Nat → List Byte
  | 0, _ => []
  | n + 1, v => BitVec.ofNat 8 v :: natBytes n (v / 256)

/-- Words of an octet list, little-endian, the last padded with zeros. -/
def bytesWords : List Byte → List Word
  | a :: b :: c :: e :: r => (e ++ c ++ b ++ a) :: bytesWords r
  | [] => []
  | l => [wd (leNat l)]

/-- One octet through the reflected CRC-32 of R122. -/
def crcByte (c : Word) (x : Byte) : Word :=
  let step (v : Word) : Word := if v.getLsbD 0 then (v >>> 1) ^^^ 0xEDB88320#32 else v >>> 1
  let v := c ^^^ x.setWidth 32
  step (step (step (step (step (step (step (step v)))))))

/-- CRC-32 of octets (R122, R290). -/
def crc32 (l : List Byte) : Word := ~~~ (l.foldl crcByte 0xFFFFFFFF#32)

/-! ## Tables of like parts -/

-- Marked: DESIGN CHOICE, log entry 4.
/-- Processor `p`. -/
def cpuDflt (_ : Nat) : Cpu := {}
def Dev.cpu (d : Dev) (p : Nat) : Cpu := tget cpuDflt d.cpus p
def Dev.setCpu (d : Dev) (p : Nat) (c : Cpu) : Dev := { d with cpus := tput cpuDflt d.cpus p c }
def Dev.onCpu (d : Dev) (p : Nat) (g : Cpu → Cpu) : Dev := d.setCpu p (g (d.cpu p))

-- Marked: DESIGN CHOICE, log entry 4.
/-- Radio `n`: a lane, or the trunk transceiver at 16. -/
def radioDflt (_ : Nat) : Radio := {}
def Dev.radio (d : Dev) (n : Nat) : Radio := tget radioDflt d.radios n
def Dev.setRadio (d : Dev) (n : Nat) (r : Radio) : Dev := { d with radios := tput radioDflt d.radios n r }
def Dev.onRadio (d : Dev) (n : Nat) (g : Radio → Radio) : Dev := d.setRadio n (g (d.radio n))

-- Marked: DESIGN CHOICE, log entry 4.
/-- Arming slot `k` of Gate Unit `u`. -/
def slotDflt (_ : Nat) : Slot := {}
def Dev.slot (d : Dev) (u k : Nat) : Slot := tget slotDflt d.slots (16 * u + k)
def Dev.setSlot (d : Dev) (u k : Nat) (s : Slot) : Dev := { d with slots := tput slotDflt d.slots (16 * u + k) s }

/-- Transmit buffer entry `h` of lane `n`. -/
def txDflt (_ : Nat) : TxEnt := {}
def Dev.txent (d : Dev) (n h : Nat) : TxEnt := tget txDflt d.txents (64 * n + h)
def Dev.setTxent (d : Dev) (n h : Nat) (e : TxEnt) : Dev := { d with txents := tput txDflt d.txents (64 * n + h) e }

/-- Handover state of half `h`. -/
def Dev.wen (d : Dev) (h : Nat) : Wen := if h = 0 then d.wenA else d.wenB
def Dev.setWen (d : Dev) (h : Nat) (w : Wen) : Dev := if h = 0 then { d with wenA := w } else { d with wenB := w }

/-- A receiver: 0 ACR-S, 1 ACR-W. -/
def acrDflt (_ : Nat) : AcrRx := {}
def Dev.acr (d : Dev) (a : Nat) : AcrRx := tget acrDflt d.acrs a
def Dev.setAcr (d : Dev) (a : Nat) (x : AcrRx) : Dev := { d with acrs := tput acrDflt d.acrs a x }

/-- A table of lists, empty where unlisted. -/
def nilDflt {α : Type} (_ : Nat) : List α := []

/-- A table of numbers, 0 where unlisted. -/
def zeroDflt (_ : Nat) : Nat := 0

/-- A table of truth values, false where unlisted. -/
def falseDflt (_ : Nat) : Bool := false

/-- A general register; g0 reads 0 (R54). -/
def Cpu.get (c : Cpu) (r : Nat) : Word := if r = 0 then 0#32 else c.g.getD r 0#32

/-- Writes a general register; a write to g0 is discarded (R54). -/
def Cpu.put (c : Cpu) (r : Nat) (w : Word) : Cpu := if r = 0 then c else { c with g := c.g.setIfInBounds r w }

-- Marked: DESIGN CHOICE, log entry 4.
/-- A control register holds its reset value until written: STATUS 0x0000_0410 and SPHI 0xFFFF_FFFC (R80). -/
def ctlDflt (k : Nat) : Word := if k = 0 then 0x410#32 else if k = 8 then 0xFFFFFFFC#32 else 0#32
def Cpu.creg (c : Cpu) (k : Nat) : Word := tget ctlDflt c.ctl k
def Cpu.setCreg (c : Cpu) (k : Nat) (w : Word) : Cpu := { c with ctl := tput ctlDflt c.ctl k w }

-- Marked: DESIGN CHOICE, log entry 3.
/-- Takes the next value the manual leaves open (log entry 3). -/
def Dev.fresh (d : Dev) : Word × Dev := (Config.freeValue d.freeCtr, { d with freeCtr := d.freeCtr + 1 })

/-! ## The token (R269, R288) -/

/-- RIMX_TOKEN.LEADER: 0 Half A, 1 Half B, 2 none. -/
def Dev.leader (d : Dev) : Nat := d.f R.RIMX_TOKEN 0 2
def Dev.capacity (d : Dev) : Bool := d.b R.RIMX_TOKEN 14
def Dev.failed (d : Dev) (h : Nat) : Bool := d.b R.RIMX_TOKEN (2 + h)
def Dev.homeLead (d : Dev) (h : Nat) : Bool := d.b R.RIMX_TOKEN (8 + h)
def Dev.elig (d : Dev) (h : Nat) : Bool := d.b R.RIMX_TOKEN (10 + h)
def Dev.resynced (d : Dev) (h : Nat) : Bool := d.b R.RIMX_TOKEN (4 + h)
def Dev.restarting (d : Dev) : Bool := d.b R.RIMX_TOKEN 13
def Dev.epoch (d : Dev) : Nat := d.f R.RIMX_TOKEN 16 16

/-- Half `h` leads for a node whose home half is `home` (R269): in Capacity mode its home half leads it. -/
def Dev.leadsNode (d : Dev) (h home : Nat) : Bool :=
  if d.capacity then d.homeLead h && decide (home = h) else decide (d.leader = h)

/-- Applies `g` for each element in turn. -/
def Dev.forEach {α : Type} (d : Dev) (l : List α) (g : Dev → α → Dev) : Dev := l.foldl g d

end Sys2Proof.Machine
end

