-- ==== Sys2Proof/Syntax.lean ====
section
/-!
DEFINITION. The commands of the device: one constructor per row of the opcode table, with the row's operands.
An event command carries what the outside world presents to the device; its docstring cites the rule.
-/

namespace Sys2Proof

/-- A command of the device (R1, R3, and the rule each constructor cites). -/
inductive Instr where
  /-- REF_IN_QUALIFIED: REF_IN edges have arrived at 10 MHz ±50 ppm continuously for 100 ms, so REF_IN becomes qualified (R24). -/
  | refInQualified
  /-- SYNTH_LOCK: The synthesizer's phase error has stayed within ±2 ns for 10 ms, so it locks to REF_IN and the Timebase enters state 2 (R25). -/
  | synthLock
  /-- REF_IN_LOST: No REF_IN edge arrives for 1 µs; the Timebase enters holdover where R25 applies (R26). -/
  | refInLost
  /-- TCXO_PRESENT: TCXO edges have been present for 100 ms; XO_PRESENT sets and the Timebase state may change under R26 (R24). -/
  | tcxoPresent
  /-- TCXO_LOST: No TCXO edge arrives for 1 µs; the frequency source changes and the state may become holdover (R26). -/
  | tcxoLost
  /-- PPS_IN_EDGE: A PPS_IN edge is captured, its alignment error is computed and it is accepted or refused (R30). -/
  | ppsInEdge (rising : Bool)
  /-- PPS_SECOND_JUDGEMENT: At Ca + k × 160,000,000 + PPSWIN, second k is judged and a miss increments PPS_MISS; three misses clear PPS_VALID (R30). -/
  | ppsSecondJudgement
  /-- SLEW_STEP: At the slew interval the count advances by 2 or by 0 instead of by 1, reducing e by one tick (R32). -/
  | slewStep
  /-- PPS_OUT_RISE: The count reaches a PPS_OUT second boundary and PPS_OUT goes high (R34). -/
  | ppsOutRise
  /-- PPS_OUT_FALL: PPS_OUT has been high for TBG_PPSOUT_W clock periods and goes low (R34). -/
  | ppsOutFall
  /-- TBG_COUNT_LO_READ: A read of TBG_COUNT_LO latches the upper 32 bits of the same count into the reader's TBG_COUNT_HI (R35). -/
  | tbgCountLoRead (r : Req)
  /-- GUN_ARMCMD: A Main Processor submits an arm request, which is judged at its acceptance count and gives OK, LATE, BUSY, NOT_PERMITTED, NO_PRED or CONFLICT (R41). -/
  | gunArmcmd (h : Half) (u : Fin 18) (w : Word)
  /-- GUN_DISARM: A Main Processor requests a disarm of a slot, which succeeds only at least 2 µs before the slot's firing count (R49). -/
  | gunDisarm (h : Half) (u : Fin 18) (w : Word)
  /-- TBG_LATE_POP: A write discards the oldest LATE record (R52). -/
  | tbgLatePop (r : Req)
  /-- RXC: An RXC gate fires at its firing count and closes the receive window (R143). -/
  | rxc (u : Fin 17) (k : Fin 16) (peak : Int)
  /-- AER: An AER gate fires and switches the aerial, or is refused by the lane (R143). -/
  | aer (u : Fin 17) (k : Fin 16)
  /-- RTN: An RTN gate fires and starts a 48 µs retune to a channel word, or is refused (R143). -/
  | rtn (u : Fin 17) (k : Fin 16)
  /-- TRN: A TRN gate fires and starts a 96 µs turn-round plus its alignment hold, or is refused (R145). -/
  | trn (u : Fin 17) (k : Fin 16) (peak : Int)
  /-- RXO: An RXO gate fires and opens a receive window with a window profile, or is refused (R143). -/
  | rxo (u : Fin 17) (k : Fin 16)
  /-- TXS: A TXS gate fires; the lane state, test control, token, slot and Seal checks decide whether transmission starts (R430). -/
  | txs (u : Fin 17) (k : Fin 16)
  /-- EVT: An EVT gate fires and posts an event on a Skein channel (R38). -/
  | evt (u : Fin 18) (k : Fin 16)
  /-- TXS_CHECK: At F − 2 µs a TXS gate checks that its frame is complete, and is missed with a LATE record if it is not (R47). -/
  | txsCheck (u : Fin 17) (k : Fin 16)
  /-- TURN_ROUND_END: A turn-round, including its hold, reaches its end and the lane enters IDLE_T or IDLE_R (R51). -/
  | turnRoundEnd (n : Fin 17)
  /-- RETUNE_END: A 48 µs retune completes and the lane returns to the state it left (R141). -/
  | retuneEnd (n : Fin 17)
  /-- ADD: Adds two registers, and sets NZCV when S = 1 (R69). -/
  | add (p : Proc) (rd : Reg) (ra : Reg) (rb : Reg) (sf : Bool)
  /-- SUB: Subtracts two registers, and sets NZCV when S = 1 (R69). -/
  | sub (p : Proc) (rd : Reg) (ra : Reg) (rb : Reg) (sf : Bool)
  /-- ADC: Adds with carry (R69). -/
  | adc (p : Proc) (rd : Reg) (ra : Reg) (rb : Reg) (sf : Bool)
  /-- SBC: Subtracts with borrow (R69). -/
  | sbc (p : Proc) (rd : Reg) (ra : Reg) (rb : Reg) (sf : Bool)
  /-- AND: Bitwise and (R69). -/
  | and_ (p : Proc) (rd : Reg) (ra : Reg) (rb : Reg) (sf : Bool)
  /-- OR: Bitwise or (R69). -/
  | or_ (p : Proc) (rd : Reg) (ra : Reg) (rb : Reg) (sf : Bool)
  /-- XOR: Bitwise exclusive or (R69). -/
  | xor_ (p : Proc) (rd : Reg) (ra : Reg) (rb : Reg) (sf : Bool)
  /-- ANDN: Ands ra with the complement of rb (R69). -/
  | andn (p : Proc) (rd : Reg) (ra : Reg) (rb : Reg) (sf : Bool)
  /-- SHL: Shifts left by rb[4:0] (R94). -/
  | shl (p : Proc) (rd : Reg) (ra : Reg) (rb : Reg) (sf : Bool)
  /-- SHR: Shifts right logically (R94). -/
  | shr (p : Proc) (rd : Reg) (ra : Reg) (rb : Reg) (sf : Bool)
  /-- SAR: Shifts right arithmetically (R94). -/
  | sar (p : Proc) (rd : Reg) (ra : Reg) (rb : Reg) (sf : Bool)
  /-- ROR: Rotates right (R94). -/
  | ror (p : Proc) (rd : Reg) (ra : Reg) (rb : Reg) (sf : Bool)
  /-- SLT: Signed set-less-than (R69). -/
  | slt (p : Proc) (rd : Reg) (ra : Reg) (rb : Reg) (sf : Bool)
  /-- SLTU: Unsigned set-less-than (R69). -/
  | sltu (p : Proc) (rd : Reg) (ra : Reg) (rb : Reg) (sf : Bool)
  /-- MIN: Signed minimum (R69). -/
  | min (p : Proc) (rd : Reg) (ra : Reg) (rb : Reg) (sf : Bool)
  /-- MAX: Signed maximum (R69). -/
  | max (p : Proc) (rd : Reg) (ra : Reg) (rb : Reg) (sf : Bool)
  /-- MUL: Gives the low 32 bits of the product (R69). -/
  | mul (p : Proc) (rd : Reg) (ra : Reg) (rb : Reg) (sf : Bool)
  /-- MULHU: Gives the high 32 bits of the unsigned product (R94). -/
  | mulhu (p : Proc) (rd : Reg) (ra : Reg) (rb : Reg) (sf : Bool)
  /-- MULHS: Gives the high 32 bits of the signed product (R94). -/
  | mulhs (p : Proc) (rd : Reg) (ra : Reg) (rb : Reg) (sf : Bool)
  /-- DIVU: Unsigned quotient; faults with DIVZ for a zero divisor (R69). -/
  | divu (p : Proc) (rd : Reg) (ra : Reg) (rb : Reg) (sf : Bool)
  /-- DIVS: Signed quotient toward zero (R69). -/
  | divs (p : Proc) (rd : Reg) (ra : Reg) (rb : Reg) (sf : Bool)
  /-- REMU: Unsigned remainder (R69). -/
  | remu (p : Proc) (rd : Reg) (ra : Reg) (rb : Reg) (sf : Bool)
  /-- REMS: Signed remainder, with the sign of ra (R69). -/
  | rems (p : Proc) (rd : Reg) (ra : Reg) (rb : Reg) (sf : Bool)
  /-- CLZ: Counts leading zeros (R69). -/
  | clz (p : Proc) (rd : Reg) (ra : Reg) (rb : Reg) (sf : Bool)
  /-- CTZ: Counts trailing zeros (R69). -/
  | ctz (p : Proc) (rd : Reg) (ra : Reg) (rb : Reg) (sf : Bool)
  /-- POPC: Counts set bits (R69). -/
  | popc (p : Proc) (rd : Reg) (ra : Reg) (rb : Reg) (sf : Bool)
  /-- BPERM: Permutes the bytes of ra under the selectors in rb (R95). -/
  | bperm (p : Proc) (rd : Reg) (ra : Reg) (rb : Reg) (sf : Bool)
  /-- MINU: Unsigned minimum (R69). -/
  | minu (p : Proc) (rd : Reg) (ra : Reg) (rb : Reg) (sf : Bool)
  /-- MAXU: Unsigned maximum (R69). -/
  | maxu (p : Proc) (rd : Reg) (ra : Reg) (rb : Reg) (sf : Bool)
  /-- ADDI: Adds a sign-extended immediate (R96). -/
  | addi (p : Proc) (rd : Reg) (ra : Reg) (imm : BitVec 16)
  /-- ANDI: Ands a zero-extended immediate (R96). -/
  | andi (p : Proc) (rd : Reg) (ra : Reg) (imm : BitVec 16)
  /-- ORI: Ors a zero-extended immediate (R96). -/
  | ori (p : Proc) (rd : Reg) (ra : Reg) (imm : BitVec 16)
  /-- XORI: Exclusive-ors a zero-extended immediate (R96). -/
  | xori (p : Proc) (rd : Reg) (ra : Reg) (imm : BitVec 16)
  /-- SHI_SHL: Shifts left by an immediate amount (R96). -/
  | shiShl (p : Proc) (rd : Reg) (ra : Reg) (amt : Fin 32) (res : Fin 512)
  /-- SHI_SHR: Shifts right logically by an immediate amount (R96). -/
  | shiShr (p : Proc) (rd : Reg) (ra : Reg) (amt : Fin 32) (res : Fin 512)
  /-- SHI_SAR: Shifts right arithmetically by an immediate amount (R96). -/
  | shiSar (p : Proc) (rd : Reg) (ra : Reg) (amt : Fin 32) (res : Fin 512)
  /-- SHI_ROR: Rotates right by an immediate amount (R96). -/
  | shiRor (p : Proc) (rd : Reg) (ra : Reg) (amt : Fin 32) (res : Fin 512)
  /-- LUI: Loads the immediate into the upper half of rd (R96). -/
  | lui (p : Proc) (rd : Reg) (ra : Reg) (imm : BitVec 16)
  /-- CMPI: Sets NZCV from ra minus an immediate (R96). -/
  | cmpi (p : Proc) (rd : Reg) (ra : Reg) (imm : BitVec 16)
  /-- EXTU: Extracts a bit field, zero-extended (R97). -/
  | extu (p : Proc) (rd : Reg) (ra : Reg) (pos : Fin 32) (wm1 : Fin 32)
  /-- EXTS: Extracts a bit field, sign-extended (R97). -/
  | exts (p : Proc) (rd : Reg) (ra : Reg) (pos : Fin 32) (wm1 : Fin 32)
  /-- INS: Inserts a bit field into rd (R97). -/
  | ins (p : Proc) (rd : Reg) (ra : Reg) (pos : Fin 32) (wm1 : Fin 32)
  /-- CLRF: Clears a bit field (R97). -/
  | clrf (p : Proc) (rd : Reg) (ra : Reg) (pos : Fin 32) (wm1 : Fin 32)
  /-- LDW: Loads a word (R98). -/
  | ldw (p : Proc) (rd : Reg) (ra : Reg) (imm : BitVec 16)
  /-- LDH: Loads a halfword, sign-extended (R98). -/
  | ldh (p : Proc) (rd : Reg) (ra : Reg) (imm : BitVec 16)
  /-- LDHU: Loads a halfword, zero-extended (R98). -/
  | ldhu (p : Proc) (rd : Reg) (ra : Reg) (imm : BitVec 16)
  /-- LDB: Loads a byte, sign-extended (R98). -/
  | ldb (p : Proc) (rd : Reg) (ra : Reg) (imm : BitVec 16)
  /-- LDBU: Loads a byte, zero-extended (R98). -/
  | ldbu (p : Proc) (rd : Reg) (ra : Reg) (imm : BitVec 16)
  /-- STW: Stores a word (R98). -/
  | stw (p : Proc) (rd : Reg) (ra : Reg) (imm : BitVec 16)
  /-- STH: Stores a halfword (R98). -/
  | sth (p : Proc) (rd : Reg) (ra : Reg) (imm : BitVec 16)
  /-- STB: Stores a byte (R98). -/
  | stb (p : Proc) (rd : Reg) (ra : Reg) (imm : BitVec 16)
  /-- LDP: Loads a register pair (R99). -/
  | ldp (p : Proc) (rd : Reg) (ra : Reg) (imm : BitVec 16)
  /-- STP: Stores a register pair (R99). -/
  | stp (p : Proc) (rd : Reg) (ra : Reg) (imm : BitVec 16)
  /-- CAS: Atomically compares and swaps a word (R100). -/
  | cas (p : Proc) (rd : Reg) (ra : Reg) (rb : Reg) (sf : Bool) (fn : Fin 1024)
  /-- FENCE: Completes once every earlier access of the processor is visible, and makes MRAM stores durable (R62). -/
  | fence (p : Proc) (rest : BitVec 26)
  /-- SYNCI: Discards the instruction cache and prefetched instructions (R101). -/
  | synci (p : Proc) (rest : BitVec 26)
  /-- BC: Branches when the condition holds (R102). -/
  | bc (p : Proc) (cond : Fin 16) (off : BitVec 22)
  /-- JMP: Jumps PC-relative (R102). -/
  | jmp (p : Proc) (off : BitVec 26)
  /-- JMPR: Jumps to ra, with an optional link (R102). -/
  | jmpr (p : Proc) (rd : Reg) (ra : Reg) (rest : BitVec 16)
  /-- CALLM: Mask call, PC-relative, that builds a checked stack frame (R73). -/
  | callm (p : Proc) (disp : BitVec 10) (mask : BitVec 16)
  /-- CALLMR: Mask call to the address in ra (R73). -/
  | callmr (p : Proc) (ra : Reg) (res : Fin 32) (mask : BitVec 16)
  /-- RETM: Mask return that checks the frame marker (R75). -/
  | retm (p : Proc) (rest : BitVec 26)
  /-- ARMG: An engine submits an arm request to a Gate Unit and receives the result (R104). -/
  | armg (p : Proc) (rd : Reg) (ra : Reg) (rb : Reg) (cls : Fin 8) (unit : Fin 32) (res : Fin 8)
  /-- DISG: An engine requests a disarm of a gate slot (R106). -/
  | disg (p : Proc) (rd : Reg) (ra : Reg) (rb : Reg) (cls : Fin 8) (unit : Fin 32) (res : Fin 8)
  /-- WAITG: Binds to the arming a slot holds, and completes at once when the slot is free (R107). -/
  | waitg (p : Proc) (rd : Reg) (ra : Reg) (imm : BitVec 16)
  /-- WAITG_OUTCOME: The outcome of the bound arming becomes visible and the waiting WAITG completes (R107). -/
  | waitgOutcome (e : Fin 64)
  /-- RDTS: Reads the 64-bit Timebase count into a register pair (R108). -/
  | rdts (p : Proc) (rd : Reg) (rest : BitVec 21)
  /-- SWP: Swap point: parks the engine when a handover is pending, which then runs steps 1 to 5 of R129 (R109). -/
  | swp (p : Proc) (rd : Reg) (ra : Reg) (imm : BitVec 16)
  /-- LIN: Reads a port of the role's resource, waiting on an empty queue (R110). -/
  | lin (p : Proc) (rd : Reg) (ra : Reg) (imm : BitVec 16)
  /-- LOUT: Writes a port of the role's resource, waiting on a full queue (R110). -/
  | lout (p : Proc) (rd : Reg) (ra : Reg) (imm : BitVec 16)
  /-- QUEUE_WAIT_END: A word arrives in, or space frees in, the queue a waiting LIN or LOUT names, and the instruction completes (R111). -/
  | queueWaitEnd (e : Fin 64)
  /-- EVPOST: Posts an event on a Skein channel, or is refused for lack of a grant (R112). -/
  | evpost (p : Proc) (rd : Reg) (ra : Reg) (imm : BitVec 16)
  /-- EVWAIT: Clears the processor's pending latch for a channel, or waits for its next delivery (R113). -/
  | evwait (p : Proc) (rd : Reg) (ra : Reg) (imm : BitVec 16)
  /-- MFC: Reads a control register (R114). -/
  | mfc (p : Proc) (rd : Reg) (ra : Reg) (cnum : Fin 64)
  /-- MTC: Writes a control register (R114). -/
  | mtc (p : Proc) (rd : Reg) (ra : Reg) (cnum : Fin 64)
  /-- ERET: Returns from an exception by restoring STATUS and continuing at EPC (R114). -/
  | eret (p : Proc) (rd : Reg) (ra : Reg) (cnum : Fin 64)
  /-- WFI: Waits until an enabled interrupt source is pending (R114). -/
  | wfi (p : Proc) (rd : Reg) (ra : Reg) (cnum : Fin 64)
  /-- SYSC: System call that takes fault SYSCALL (R114). -/
  | sysc (p : Proc) (rd : Reg) (ra : Reg) (cnum : Fin 64)
  /-- BRK: Breakpoint fault with a code (R103). -/
  | brk (p : Proc) (code : BitVec 26)
  /-- RCALL: Posts a Rim call in a free mailbox slot of the half, or returns BUSY (R88). -/
  | rcall (p : Proc) (rd : Reg) (ra : Reg) (imm : BitVec 16)
  /-- RWAIT: Waits for the reply to a Rim call tag, then takes its status and results and frees the slot (R88). -/
  | rwait (p : Proc) (rd : Reg) (ra : Reg) (imm : BitVec 16)
  /-- INTERRUPT_ENTRY: An eligible interrupt source is taken before the next instruction (R85). -/
  | interruptEntry (p : Proc)
  /-- LOAD: WENn_CMD LOAD starts copying an image into engine memory (R122). -/
  | wenLoad (r : Req) (e : Fin 64)
  /-- LOAD_DONE: The image copy ends: the CRC is written and the engine becomes READY, or it is cleared on COPY_ERROR (R122). -/
  | loadDone (e : Fin 64)
  /-- START: WENn_CMD START checks range, binding and budget, then runs the engine at its entry with a new generation (R123). -/
  | wenStart (r : Req) (e : Fin 64)
  /-- STOP: WENn_CMD STOP halts the engine at the next boundary and places a drain marker (R121). -/
  | wenStop (r : Req) (e : Fin 64)
  /-- CLEAR: WENn_CMD CLEAR unbinds the role and clears both memories to 0 (R121). -/
  | wenClear (r : Req) (e : Fin 64)
  /-- MIGRATION: WENHh_HOCMD requests a migration handover, which is refused at once or set pending (R128). -/
  | migration (r : Req) (h : Half) (src : Fin 64) (tgt : Fin 64)
  /-- EXCHANGE: WENHh_HOCMD requests an exchange handover, which is refused at once or set pending (R128). -/
  | exchange (r : Req) (h : Half) (src : Fin 64) (tgt : Fin 64)
  /-- FORCED_HANDOVER: WENHh_HOCMD with FORCE = 1 hands over the role of a halted engine at once (R135). -/
  | forcedHandover (r : Req) (h : Half) (src : Fin 64) (tgt : Fin 64) (exch : Bool)
  /-- HANDOVER_TIMEOUT: The source has not parked by the HOTMO deadline, and the request ends with TIMEOUT (R129). -/
  | handoverTimeout (h : Half)
  /-- DRAIN_MARKER: The old generation's drain marker passes the admission point, so the held results are admitted and DRAINED sets (R132). -/
  | drainMarker (h : Half)
  /-- RUN_WATCHDOG: The budget units consumed since the last wait exceed RUN_K × 1,024, and the engine halts with code 32 (R126). -/
  | runWatchdog (e : Fin 64)
  /-- WAIT_WATCHDOG: A wait lasts longer than WAIT_MS, and the engine halts with code 33 (R126). -/
  | waitWatchdog (e : Fin 64)
  /-- LANE_ENABLE: LANn_CMD ENABLE powers the lane into WARM (R141). -/
  | laneEnable (r : Req) (n : Fin 16) (mask : Fin 16)
  /-- LANE_DISABLE: LANn_CMD DISABLE disarms the lane's gates except kept slots, and drains the lane toward OFF (R157). -/
  | laneDisable (r : Req) (n : Fin 16) (move : Bool)
  /-- CALIBRATE: LANn_CMD CALIBRATE makes calibration kinds pending (R149). -/
  | calibrate (r : Req) (n : Fin 16) (mask : Fin 16)
  /-- WARM_DONE: 200 µs after ENABLE the bias has settled and the synthesizer is locked; the lane enters CAL or IDLE_R (R141). -/
  | warmDone (n : Fin 17)
  /-- CALIBRATION_START: The pending kinds start once the lane is in IDLE_R and no armed gate falls within the calibration plus 20 µs (R149). -/
  | calibrationStart (n : Fin 17)
  /-- CALIBRATION_END: Calibration completes; failed kinds keep their previous values and the lane returns to IDLE_R (R150). -/
  | calibrationEnd (n : Fin 17) (fail : Fin 16) (temp : Int) (trims : List Word)
  /-- LANE_OFF: No kept slot remains and the lane is idle, so 10 µs later it reaches OFF and DRAINING clears (R157). -/
  | laneOff (n : Fin 17)
  /-- TX_END: The last symbol of a transmission ends and the lane returns to IDLE_T (R141). -/
  | txEnd (n : Fin 17)
  /-- DIVERSITY_DWELL: A dwell period ends and the lane alternates or selects an aerial (R146). -/
  | diversityDwell (n : Fin 16) (energy : Nat)
  /-- PREAMBLE_DETECTED: ρ reaches THRESH at two consecutive evaluations and a preamble is detected on a path (R190). -/
  | preambleDetected (x : Path) (r1 r2 : Fin 257)
  /-- DETECTION_GIVEN_UP: ρ stays below THRESH for 8 evaluations before an SFD, and the search resumes (R190). -/
  | detectionGivenUp (x : Path) (rho : List Nat)
  /-- SFD_FOUND: The SFD is found, the receive timestamp is taken and the lane's gain is held (R191). -/
  | sfdFound (x : Path) (seen : SfdSeen) (back : Nat)
  /-- RECEIVED_FRAME_END: A received frame ends or is abandoned; a receive record or ACR descriptor is queued with its status (R188). -/
  | receivedFrameEnd (x : Path) (e : RxEnd) (peak : Int)
  /-- LANE_TIMER_COMPARE: A lane timer count equals its compare value and a capture record is queued (R153). -/
  | laneTimerCompare (n : Fin 16) (x : Fin 2)
  /-- ACR_ENABLE: ACRS_CMD or ACRW_CMD ENABLE powers the enabled digitizers (R162). -/
  | acrEnable (r : Req) (a : Acr)
  /-- ACR_ENABLE_DONE: 50 µs after ENABLE the receiver enters STOPPED (R162). -/
  | acrEnableDone (a : Acr)
  /-- ACR_START: START is checked and then runs calibration before RUN (R164). -/
  | acrStart (r : Req) (a : Acr)
  /-- ACR_STOP: STOP abandons every frame in progress and completes every cross-fade at once (R177). -/
  | acrStop (r : Req) (a : Acr)
  /-- ACR_CALIBRATE: CALIBRATE runs calibration from STOPPED (R165). -/
  | acrCalibrate (r : Req) (a : Acr)
  /-- ACR_DISABLE: DISABLE takes the receiver to OFF (R162). -/
  | acrDisable (r : Req) (a : Acr)
  /-- ACR_CAL_END: The 640 µs calibration ends and the receiver enters RUN, with every path unsettled, or STOPPED (R165). -/
  | acrCalEnd (a : Acr) (fail : Fin 8) (skew : Int)
  /-- ACRS_CENTRE: A write of the window centre in RUN enters RETUNE and abandons frames in progress (R177). -/
  | acrsCentre (r : Req) (w : Word)
  /-- ACR_RETUNE_END: RETUNE ends after 60 µs and the receiver returns to RUN (R177). -/
  | acrRetuneEnd
  /-- ACRSK_CFG: A channel configuration write enables, disables or changes a channel, judged for fit and limit (R168). -/
  | acrskCfg (r : Req) (a : Acr) (k : Fin 128) (w : Word)
  /-- SWAP: A SWAP in ACRSk_FIRCMD changes the FIR set, abruptly or by cross-fade (R172). -/
  | swap (r : Req) (a : Acr) (k : Fin 128) (x : Fin 256)
  /-- CROSS_FADE_END: A cross-fade completes after X output samples and the banks exchange (R172). -/
  | crossFadeEnd (a : Acr) (k : Fin 128)
  /-- ACRSK_PDLY: A phase-delay write applies at once or makes a path unsettled (R173). -/
  | acrskPdly (r : Req) (a : Acr) (k : Fin 128) (w : Word)
  /-- PATH_SETTLED: A path reaches its H-th output sample at or after E + S and becomes settled; the clean-after time may be recorded (R176). -/
  | pathSettled (a : Acr) (k : Fin 128) (dig : Fin 2)
  /-- OVERRANGED_SAMPLE: A digitizer sample is clamped, OVR is set, an overload event starts or extends and an AGC step may be ordered (R179). -/
  | overrangedSample (a : Acr) (dig : Fin 2) (x : Sample)
  /-- AGC_STEP_DOWN: An ordered 6 dB step down takes effect 1.5 µs after it was ordered (R179). -/
  | agcStepDown (a : Acr) (dig : Fin 2)
  /-- AGC_STEP_UP: A due step up is made at the first count with no preamble or frame on the digitizer's paths, or after 100 ms regardless (R180). -/
  | agcStepUp (a : Acr) (dig : Fin 2)
  /-- TRUNK_ENABLE: TRK_CMD ENABLE calibrates the trunk transceiver and takes ROLE SEEKING (R208). -/
  | trunkEnable (r : Req)
  /-- TRUNK_DISABLE: TRK_CMD DISABLE completes queued descriptors with result 3 and drains the transceiver (R208). -/
  | trunkDisable (r : Req)
  /-- CLAIM: TRK_CMD CLAIM sends a claim carrying the epoch, PRIO and EUI-64 on the Anchor Sync Bus (R204). -/
  | claim (r : Req)
  /-- RESIGN: TRK_CMD RESIGN sends a resignation from the coordinator (R204). -/
  | resign (r : Req)
  /-- CLAIM_WINDOW_END: The claim window closes and every station decides the winner and the new epoch (R204). -/
  | claimWindowEnd
  /-- SUPERFRAME_START: A superframe starts: the coordinator sends a beacon, and a member counts a missed beacon and may take ROLE SEEKING (R202). -/
  | superframeStart (heard : Bool)
  /-- TRUNK_FRAME_END: A trunk frame is received and processed as data, map or beacon, with its soundings measured (R207). -/
  | trunkFrameEnd (x : TrunkRx) (peak : Int)
  /-- MAP_FRAME_QUEUE: A recomputed receive map is queued to the peer, raised maps only after MAPHOLD (R199). -/
  | mapFrameQueue (x : Fin 6)
  /-- TRK_PEERP_CTRL: A peer write that changes the address of a valid entry resets both of its maps to generation 0 (R200). -/
  | trkPeerpCtrl (r : Req) (x : Fin 6) (w : Word)
  /-- ASB_TXCMD: Queues a PLAN or USER frame for the Anchor Sync Bus (R326). -/
  | asbTxcmd (r : Req) (w : Word)
  /-- ASB_TX_START: At bus idle the station starts its highest-priority queued frame, arbitrating bit by bit (R326). -/
  | asbTxStart (rivals : List BusFrame)
  /-- ASB_FRAME_COMPLETE: A bus frame completes at EOF: it is delivered or retried, and a FOLLOW updates the cluster offset (R327). -/
  | asbFrameComplete (x : BusEnd)
  /-- SYNC_INTERVAL: SYNCINT has elapsed and the time master queues a SYNC and a FOLLOW (R329). -/
  | syncInterval
  /-- ASB_RXPOP: Discards the oldest received bus frame (R332). -/
  | asbRxpop (r : Req)
  /-- NODE_TABLE_WRITE: A write through the node-table window is judged by field group, and a discarded write sets NTWERR (R210). -/
  | nodeTableWrite (p : Proc) (off : Nat) (size : Nat) (v : Word)
  /-- INSERT: Node-table command INSERT validates and installs an entry (R211). -/
  | ntInsert (h : Half) (role : Option (Fin 2))
  /-- INVALIDATE: Node-table command INVALIDATE removes a node from the lookup (R211). -/
  | ntInvalidate (h : Half) (role : Option (Fin 2))
  /-- SETFC: Node-table command SETFC sets FC_IN and FCV (R211). -/
  | ntSetfc (h : Half) (role : Option (Fin 2))
  /-- SYNC: Node-table command SYNC sets SAMPLE_REF and LAST_CONTACT (R211). -/
  | ntSync (h : Half) (role : Option (Fin 2))
  /-- PLAN: Node-table command PLAN computes the downlink method, TXS counts and guard (R218). -/
  | ntPlan (h : Half) (role : Option (Fin 2))
  /-- LOOKUP: Node-table command LOOKUP finds a node by short or extended address (R211). -/
  | ntLookup (h : Half) (role : Option (Fin 2))
  /-- FRAME_COPY: A parsed received copy enters the MAC hardware: address lookup and the replay test of stage 3 (R16). -/
  | frameCopy (x : FrameIn)
  /-- DECRYPT_DONE: Stage-4 decryption ends; the tag verifies, or the copy is dropped and its blocks zeroised (R236). -/
  | decryptDone (id : Nat) (datagram : Bool)
  /-- DUPLICATE_FILTER: Stage 5 admits or discards the copy, waiting while the table is full; stages 6 to 8 follow (R215). -/
  | duplicateFilter (id : Nat)
  /-- DUPWIN_EXPIRY: A recent-admission entry is removed MAC_DUPWIN ms after its commit (R215). -/
  | dupwinExpiry (node : Fin 16384) (fc : Word)
  /-- CCM_ENC: A CCM* encryption descriptor is processed with an assigned frame counter (R228). -/
  | ccmEnc (h : Half)
  /-- CCM_DEC: A CCM* decryption descriptor is processed through a hold buffer (R227). -/
  | ccmDec (h : Half)
  /-- GCM_ENC: A GCM encryption descriptor is processed (R229). -/
  | gcmEnc (h : Half)
  /-- GCM_DEC: A GCM decryption descriptor is processed (R229). -/
  | gcmDec (h : Half)
  /-- CCM_FILL: A secured PSDU is filled into a lane's transmit buffer entry and its handle is returned (R152). -/
  | ccmFill (h : Half)
  /-- SEC_RINGH_TAIL: A write of the ring tail makes descriptors available to the security engine (R230). -/
  | secRinghTail (r : Req) (h : Half) (w : Word)
  /-- RESERVATION_GRANT: Rim passes a new durable limit, and a waiting encryption proceeds (R233). -/
  | reservationGrant (k : Fin 16640) (gcm : Bool)
  /-- RESERVATION_TIMEOUT: No limit has arrived within 1 ms, and the waiting encryption ends with BUSY (R233). -/
  | reservationTimeout (h : Half)
  /-- FILL_TIMEOUT: A fill waiting for a transmit buffer entry or blocks ends with BUSY after 1 ms (R152). -/
  | fillTimeout (h : Half)
  /-- HOLD_BLOCKS_FREED: Hold blocks are freed and a waiting decryption takes its run of blocks (R235). -/
  | holdBlocksFreed (h : Half)
  /-- BINDING_EXPIRY: A Duplex encryption binding is released after 100 ms (R232). -/
  | bindingExpiry (node : Fin 16384) (dir : Fin 3) (mtr : BitVec 96)
  /-- A1: SEC_ALARM raises A1: operations end with NO_KEY, and hold buffers and the key cache are zeroised (R238). -/
  | a1 (r : Req)
  /-- A2: SEC_ALARM raises A2: A1, then every slot's key words are zeroised (R239). -/
  | a2 (r : Req)
  /-- KEY_BUS_ERROR: An integrity error on the private key bus raises A1 (R238). -/
  | keyBusError
  /-- SLOT_BAD: A slot's key words fail their ECC check; the slot becomes BAD and a seventeenth such slot raises A2 (R237). -/
  | slotBad (k : Fin 16640)
  /-- A2_ZEROISATION_DONE: A2 zeroisation completes and A2_RUN clears (R239). -/
  | a2ZeroisationDone
  /-- SEND_NODE: A SEND_NODE submission is accepted with a TCB, LSN and domain sequence, or completes as malformed (R247). -/
  | sendNode (lq : Fin 127) (entry : List Word) (payload : List Byte)
  /-- SEND_GROUP: A SEND_GROUP submission is accepted into its group domain (R253). -/
  | sendGroup (lq : Fin 127) (entry : List Word) (payload : List Byte)
  /-- LIFT_FENCE: A LIFT_FENCE submission clears a domain's fence and completes OK in its place (R261). -/
  | liftFence (lq : Fin 127) (entry : List Word) (payload : List Byte)
  /-- POOL_RESERVE: A transaction waiting in a pool's admission queue obtains its blocks, and its payload is fetched (R250). -/
  | poolReserve (x : Fin 16)
  /-- POOL_WAIT_TIMEOUT: The WAITMS admission wait expires and the transaction ends with BUSY (R250). -/
  | poolWaitTimeout (x : Fin 16)
  /-- DEADLINE: A transaction's deadline passes and it ends with DEADLINE_MISSED, or a deadline event goes to the MAC timing role (R258). -/
  | deadline (lsn : Nat)
  /-- RESULT_RECORD: A result record is admitted at the ledger and may decide an outcome (R257). -/
  | resultRecord (h : Half) (rec : ResultRec)
  /-- REASSEMBLY_TIMEOUT: A reassembly context receives no fragment for TIMEOUT ms and is discarded (R254). -/
  | reassemblyTimeout (node : Fin 16384) (tag : Fin 65536)
  /-- LIFT: MSG_CMD LIFT lifts a fence as a transaction on link queue 127 (R261). -/
  | msgLift (r : Req)
  /-- CARVE: MSG_CMD CARVE removes contiguous blocks from the top of a pool (R249). -/
  | msgCarve (r : Req)
  /-- UNCARVE: MSG_CMD UNCARVE returns the most recent carve of a pool (R266). -/
  | msgUncarve (r : Req)
  /-- QUERY: MSG_CMD QUERY returns a domain's ledger record (R266). -/
  | msgQuery (r : Req)
  /-- POOL_ENABLE: A write of MSG_POOLp_CFG.EN enables a pool, or is refused with CFGERR (R249). -/
  | poolEnable (r : Req) (x : Fin 16) (w : Word)
  /-- GRANT: RIMX_TKCMD GRANT gives a half the lead (R284). -/
  | tkGrant (r : Req) (h : Half)
  /-- SWITCH: RIMX_TKCMD SWITCH plans a move of the lead at count S (R283). -/
  | tkSwitch (r : Req)
  /-- REVOKE: RIMX_TKCMD REVOKE removes a half's lead and eligibility (R284). -/
  | tkRevoke (r : Req) (h : Half)
  /-- ELIGIBLE: RIMX_TKCMD ELIGIBLE sets or clears a half's ELIG bit (R284). -/
  | tkEligible (r : Req) (h : Half) (set : Bool)
  /-- RESYNC: RIMX_TKCMD RESYNC starts copying the leader's mirrors into a half (R274). -/
  | tkResync (r : Req) (h : Half)
  /-- RESYNC_DONE: A RESYNC completes, so RESYNCED sets and FAILED clears for the half (R284). -/
  | resyncDone
  /-- CANCEL: RIMX_TKCMD CANCEL cancels a pending planned switch (R283). -/
  | tkCancel (r : Req)
  /-- RESUME: RIMX_TKCMD RESUME ends the freeze, and latched faults are acted on (R285). -/
  | tkResume (r : Req)
  /-- PLANNED_SWITCH: At count S the pending switch is judged again and made or dropped (R283). -/
  | plannedSwitch
  /-- HEARTBEAT: A write of RIMX_HBh with YIELD = 0 is a heartbeat (R275). -/
  | heartbeat (r : Req) (h : Half)
  /-- YIELD: A write of RIMX_HBh with YIELD = 1 declares a class H fault of the half (R275). -/
  | yield (r : Req) (h : Half)
  /-- HEARTBEAT_LAPSE: No heartbeat has been accepted for HBMISS × HBINT µs, and a class H fault is declared (R275). -/
  | heartbeatLapse (h : Half)
  /-- LOCKSTEP_DISAGREEMENT: The Custody cores disagree: both halt, A1 is raised, the token freezes and the ROM restarts Rim (R285). -/
  | lockstepDisagreement
  /-- NO_LEADER_TIMEOUT: No half has held or been able to take the lead for 1 s, and the device resets with a class D fault (R287). -/
  | noLeaderTimeout
  /-- UPSETT: After release of reset the ROM verifies Rim and Rim starts Weave through the Upsett steps (R294). -/
  | upsett (errA : Bool) (errB : Bool) (octal : Bool)
  /-- TRIAL_TIMEOUT: No CONFIRM has arrived within TRIALS seconds; the trial is abandoned and the device resets with cause TRIAL (R298). -/
  | trialTimeout
  /-- INFO: Rim call INFO returns the versions and boot information (R304). -/
  | rimInfo (s0 : Fin 16)
  /-- ROLES_RUNNING: Rim call ROLES_RUNNING reports the caller's half ready (R304). -/
  | rimRolesRunning (s0 : Fin 16)
  /-- SETTINGS_READ: Rim call SETTINGS_READ copies the settings of a format (R304). -/
  | rimSettingsRead (s0 : Fin 16)
  /-- SETTINGS_WRITE: Rim call SETTINGS_WRITE replaces the settings atomically if the generation matches (R301). -/
  | rimSettingsWrite (s0 : Fin 16)
  /-- FW_WINDOW: Rim call FW_WINDOW opens a flash slot for erase and program (R304). -/
  | rimFwWindow (s0 : Fin 16)
  /-- FW_STAGE: Rim call FW_STAGE closes the window and verifies the slot (R293). -/
  | rimFwStage (s0 : Fin 16) (readErr : Bool)
  /-- FW_ACTIVATE: Rim call FW_ACTIVATE activates a slot on trial, whole or half at a time (R302). -/
  | rimFwActivate (s0 : Fin 16)
  /-- CONFIRM: Rim call CONFIRM confirms or abandons the trial (R298). -/
  | rimConfirm (s0 : Fin 16)
  /-- RIM_STAGE: Rim call RIM_STAGE writes and verifies the inactive Rim slot (R304). -/
  | rimStage (s0 : Fin 16)
  /-- SIGNER_REVOKE: Rim call SIGNER_REVOKE revokes a signing key permanently (R304). -/
  | rimSignerRevoke (s0 : Fin 16)
  /-- KEY_UNWRAP: Rim call KEY_UNWRAP installs a wrapped key into a slot (R226). -/
  | rimKeyUnwrap (s0 : Fin 16)
  /-- KEY_GENERATE: Rim call KEY_GENERATE installs a key generated inside the device (R226). -/
  | rimKeyGenerate (s0 : Fin 16)
  /-- KEY_ERASE: Rim call KEY_ERASE empties a slot, keeping its limits (R237). -/
  | rimKeyErase (s0 : Fin 16)
  /-- KEY_USAGE: Rim call KEY_USAGE sets a slot's USAGE bits (R225). -/
  | rimKeyUsage (s0 : Fin 16)
  /-- SEAL_INSTALL: Rim call SEAL_INSTALL verifies and installs a regional profile (R305). -/
  | rimSealInstall (s0 : Fin 16) (profile : Seal)
  /-- SEAL_QUERY: Rim call SEAL_QUERY returns the region code and profile version (R304). -/
  | rimSealQuery (s0 : Fin 16)
  /-- PD_SWITCH: Rim call PD_SWITCH sets or withdraws Rim's vote on a domain after its checks (R353). -/
  | rimPdSwitch (s0 : Fin 16)
  /-- NT_SNAPSHOT: Rim call NT_SNAPSHOT saves the caller's node-table mirror to MRAM (R304). -/
  | rimNtSnapshot (s0 : Fin 16)
  /-- CA_READ: Rim call CA_READ reads the Commissioning Area or the reader's result records (R425). -/
  | rimCaRead (s0 : Fin 16)
  /-- CA_WRITE: Rim call CA_WRITE writes a Commissioning Area page, or sends a reader command block (R425). -/
  | rimCaWrite (s0 : Fin 16) (mism : Fin 3)
  /-- ALARM: Rim call ALARM raises A1 (R304). -/
  | rimAlarm (s0 : Fin 16)
  /-- RESET: Rim call RESET resets the device with a Weave-requested cause (R304). -/
  | rimReset (s0 : Fin 16)
  /-- RIMX_MBS_DONE: Custody's write makes a Rim call reply ready and raises source 49 in the half (R308). -/
  | rimxMbsDone (r : Req) (s0 : Fin 16)
  /-- COPY: FWU_CMD COPY copies flash into a memory and digests it (R307). -/
  | fwuCopy (r : Req) (w : Word)
  /-- DIGEST: FWU_CMD DIGEST digests flash contents (R307). -/
  | fwuDigest (r : Req) (w : Word)
  /-- ERASE: FWU_CMD ERASE erases flash in 64 KiB units (R307). -/
  | fwuErase (r : Req) (w : Word)
  /-- PROGRAM: FWU_CMD PROGRAM programs flash from the message store (R307). -/
  | fwuProgram (r : Req) (w : Word)
  /-- FWU_DONE: An FWU command ends, DONE sets and Custody source 36 is raised (R307). -/
  | fwuDone (ok : Bool)
  /-- SQ_TAIL_DOORBELL: A host writes an SQ tail doorbell, which is discarded if out of range (R310). -/
  | sqTailDoorbell (q : Fin 64) (v : Fin 65536)
  /-- CQ_HEAD_DOORBELL: A host writes a CQ head doorbell, freeing completion entries and data space (R314). -/
  | cqHeadDoorbell (q : Fin 64) (v : Fin 65536)
  /-- SUBMISSION_FETCH: The endpoint fetches one submission entry round-robin from queue pairs with work (R312). -/
  | submissionFetch (words : List Word)
  /-- HOST_READ_COMPLETE: A host read of a payload completes, or ends in error and the transaction becomes a hole (R312). -/
  | hostReadComplete (lsn : Nat) (ok : Bool) (data : List Byte)
  /-- COALESCE_TIMEOUT: COAL_US has passed since the first unsignalled entry, and the MSI-X vector is signalled (R315). -/
  | coalesceTimeout (q : Fin 64)
  /-- HPC_QPQ_CFG: A queue pair configuration write enables or disables a queue pair (R311). -/
  | hpcQpqCfg (r : Req) (q : Fin 64) (w : Word)
  /-- LINK_DOWN: Link-down, hot reset, FLR or D3hot clears every queue pair's EN and aborts outstanding reads (R316). -/
  | linkDown (down : Bool)
  /-- DISCARD: HPC_QCMD DISCARD releases a queue pair's held entries without writing them (R316). -/
  | discard (r : Req) (q : Fin 64)
  /-- OPEN: An AMP OPEN resumes or restarts a stream (R321). -/
  | ampOpen (x : AmpIn)
  /-- OPEN_ACK: An AMP OPEN_ACK is received (R319). -/
  | ampOpenAck (x : AmpIn)
  /-- SUBMIT: An AMP SUBMIT segment is taken in sequence, and the submission is accepted at its LAST segment (R320). -/
  | ampSubmit (x : AmpIn)
  /-- COMPLETE: An AMP COMPLETE segment is received (R320). -/
  | ampComplete (x : AmpIn)
  /-- ACK: An AMP ACK acknowledges segments and opens the window (R320). -/
  | ampAck (x : AmpIn)
  /-- CLOSE: An AMP CLOSE makes the stream LOST (R321). -/
  | ampClose (x : AmpIn)
  /-- AMP_RTO: RTO expires and the oldest unacknowledged segment is resent, the stream becoming LOST after RETRY resends (R320). -/
  | ampRto (x : Fin 64)
  /-- AMP_ACK_TIMER: 1 ms passes without outgoing traffic and an ACK is sent (R320). -/
  | ampAckTimer (x : Fin 64)
  /-- PTP_EVENT_MESSAGE: A PTP event message is timestamped on receive or transmit and queued (R322). -/
  | ptpEventMessage (tx : Bool) (type : Fin 16) (seq : Fin 65536) (back : Nat)
  /-- ETH_PTPPOP: Discards the oldest PTP timestamp (R331). -/
  | ethPtppop (r : Req)
  /-- RESET_ASSERT: A rail leaves its range, or RST_N is low for 1 µs, and the device enters reset (R334). -/
  | resetAssert (rail : Bool)
  /-- RESET_RELEASE: 2 ms after the rails are in range and RST_N is high, the device leaves reset (R334). -/
  | resetRelease
  /-- CORE_UV: VDD_CORE has been below 0.60 V for 1 µs, so CORE_UV sets and Ride-Through may be triggered (R337). -/
  | coreUv
  /-- BROWNOUT: VDD_CORE has been below 0.57 V for 200 ns, and the device resets with cause BROWNOUT (R337). -/
  | brownout
  /-- HALF_CYCLE: A line half-cycle ends; its RMS code moves the line class and ended events are recorded (R339). -/
  | halfCycle (code : Fin 65536) (freq : Fin 65536)
  /-- LINE_LOSS: The line deviation has stayed below INTR for 2 ms, and Interruption is declared (R339). -/
  | lineLoss
  /-- FREQERR: The line frequency is out of range for 10 half-cycles, so FREQERR sets and an event is recorded (R338). -/
  | freqerr
  /-- PFW_N: PFW_N falls after the glitch filter, so PFW sets and Ride-Through may be triggered (R341). -/
  | pfwN
  /-- EXIT_READY: Exit conditions have held for SUP_RTRECOV ms, so EXIT_READY sets and Rim restores the domains (R346). -/
  | exitReady
  /-- SUP_EVPOP: Discards the oldest supply event record (R356). -/
  | supEvpop (r : Req)
  /-- AVS_TIMEOUT: No AVSBus response arrives within 100 µs, and AVSERR sets (R336). -/
  | avsTimeout
  /-- PWR_PDN_SWV: A software vote write; withdrawing the last vote starts Prepare (R350). -/
  | pwrPdnSwv (r : Req) (n : Fin 64) (w : Word)
  /-- PREPARE_ANSWER: A voter quiesces or refuses, and the stop proceeds, commits or is undone (R350). -/
  | prepareAnswer (n : Fin 64)
  /-- PREPARE_TIMEOUT: A voter has not answered within PWR_PREPTMO, and the stop is refused with BUSY (R350). -/
  | prepareTimeout (n : Fin 64)
  /-- STOP_RETRY: The refusing block reports its condition cleared, and a refused stop is attempted again (R351). -/
  | stopRetry (n : Fin 64)
  /-- RUN_ENTRY_DONE: A domain completes Run entry with its blocks in reset state and retained values restored (R348). -/
  | runEntryDone (n : Fin 64) (tcxo : Bool)
  /-- SENTINEL_BURST: A sentinel ring completes a burst of 1,024 laps and the planner recomputes its outputs (R358). -/
  | sentinelBurst (k : Fin 96) (burst : Nat) (mv : Nat) (temp : Int)
  /-- BURST_TIMEOUT: A burst is not complete within 65,535 ticks, and the ring's FAULT sets (R358). -/
  | burstTimeout (k : Fin 96)
  /-- MINUTE_NORMALISATION: Each minute the latest burst is normalised to reference conditions (R359). -/
  | minuteNormalisation
  /-- WEEKLY_RECORD: At each week of power-on time the mean slowdown is recorded, AGE updated and EOL projected (R360). -/
  | weeklyRecord
  /-- SETPOINT_LOWER: Double headroom has held for DOWNHOLD seconds, and the setpoint is lowered by 5 mV (R363). -/
  | setpointLower
  /-- RTC_FRAC_READ: A read of RTC_FRAC latches the seconds count for the reader (R372). -/
  | rtcFracRead (r : Req)
  /-- RTC_SETSEC_HI: Sets the seconds count, with the fraction at 0 (R374). -/
  | rtcSetsecHi (r : Req) (w : Word)
  /-- RTC_SHIFT: Moves the fraction by d, or is refused (R376). -/
  | rtcShift (r : Req) (w : Word)
  /-- SHIFT_HOLD_END: A negative shift's hold ends and SHIFTING clears (R375). -/
  | shiftHoldEnd
  /-- TRIM_WINDOW: A trim window starts and the new TRIM takes effect (R373). -/
  | trimWindow
  /-- XTAL_FAIL: No crystal edge is seen for 1 ms, so XTAL_FAIL sets and the RTC stops (R378). -/
  | xtalFail
  /-- TMRN_CTL: A timer control write enables, holds or reconfigures the timer (R380). -/
  | tmrnCtl (r : Req) (n : Fin 32) (w : Word)
  /-- TIMER_MATCH: The comparator equals the count; MATCH sets, the event is posted and a reload may follow (R382). -/
  | timerMatch (n : Fin 32)
  /-- TIMER_CAPTURE: An accepted pin edge or event delivery captures the count (R384). -/
  | timerCapture (n : Fin 32) (rising : Bool)
  /-- TMR_SNAPCMD: Latches every timer count and the Timebase count into the writer's bank (R385). -/
  | tmrSnapcmd (r : Req)
  /-- TMRN_CAP_LO_READ: A read of TMRn_CAP_LO latches TMRn_CAP_HI for the reader (R384). -/
  | tmrnCapLoRead (r : Req) (n : Fin 32)
  /-- EVENT_STEP: A channel delivers its held event to every consumer, which latches it before any acknowledgement (R392). -/
  | eventStep (ch : Fin 256)
  /-- SPLINT_FILTER_EXPIRY: Q has held its new value for FILT × 16 ticks, and the cell posts (R399). -/
  | splintFilterExpiry (c : Fin 32)
  /-- EVR_LATCHCLR: Clears the writer's pending latch for a channel (R394). -/
  | evrLatchclr (r : Req) (w : Word)
  /-- PMC_WINDOW_END: A bandwidth window ends and the count moves to PMCn_LAST (R403). -/
  | pmcWindowEnd (n : Fin 64)
  /-- PMC_SAMPLE_TRIGGER: A sampling counter reaches its period, records the trigger address and raises source 56 (R405). -/
  | pmcSampleTrigger (n : Fin 64)
  /-- PMCN_CFG: A counter configuration write clears the count (R401). -/
  | pmcnCfg (r : Req) (n : Fin 64) (w : Word)
  /-- PMCN_CNT_LO_READ: A read of PMCn_CNT_LO latches PMCn_CNT_HI for the reader (R401). -/
  | pmcnCntLoRead (r : Req) (n : Fin 64)
  /-- FIELD_ACTIVATION: An external field powers the tag front end, which draws a random UID (R410). -/
  | fieldActivation
  /-- FIELD_LOST: The field is lost and the tag session ends (R411). -/
  | fieldLost
  /-- REQA: The tag answers REQA, or WUPA, with ATQA (R409). -/
  | reqa (wupa : Bool)
  /-- ANTICOLLISION: The tag takes part in anticollision at cascade level 1 (R409). -/
  | anticollision (known : List Bool)
  /-- SELECT: The tag is selected and answers SAK (R409). -/
  | select (uid : List Byte)
  /-- HLTA: The tag halts and its session ends (R411). -/
  | hlta
  /-- DESELECT: S(DESELECT) ends the tag session (R411). -/
  | deselect
  /-- GET_INFO: The tag returns the format and area information (R412). -/
  | getInfo (msg : List Byte) (more : Bool)
  /-- AUTH1: The first pass of mutual authentication under a group slot (R413). -/
  | auth1 (msg : List Byte) (more : Bool)
  /-- AUTH2: The second pass, which establishes the session key or fails (R413). -/
  | auth2 (msg : List Byte) (more : Bool)
  /-- IDENT: Returns the EUI-64, DEV_ID and confirmed Weave version (R412). -/
  | ident (msg : List Byte) (more : Bool)
  /-- READ: Reads octets of the Commissioning Area (R412). -/
  | tagRead (msg : List Byte) (more : Bool)
  /-- WRITE: Writes one Commissioning Area page through the shadow and selector steps (R417). -/
  | tagWrite (msg : List Byte) (more : Bool) (lowField : Bool) (step : Fin 6) (mism : Nat)
  /-- GENERATION: Returns the selector generation (R412). -/
  | generation (msg : List Byte) (more : Bool)
  /-- LOCKOUT_END: The field has been absent for 100 ms and the tag answers again (R414). -/
  | lockoutEnd
  /-- CA_FIRST_ACCESS: At the first access after power returns, an interrupted copy-back is completed (R418). -/
  | caFirstAccess (cut : Bool)
  /-- READER_WAKE_MEASURE: Every WAKEINT ms the coil is measured, and a change starts the field and a poll (R421). -/
  | readerWakeMeasure (count : Fin 65536)
  /-- POLL: The reader finds every tag in the field by a tree walk (R422). -/
  | poll (tags : List (List Byte))
  /-- EXCHANGE_BLOCK: The reader sends data to a tag in an I-block (R425). -/
  | exchangeBlock (fwi : Fin 15)
  /-- READER_RELEASE: The reader sends S(DESELECT) and HLTA to a tag (R425). -/
  | readerRelease
  /-- FIELD_OFF: The reader turns its field off (R425). -/
  | fieldOff
  /-- READER_WAIT_EXPIRY: A reader wait expires; an R(NAK) is sent, and a second expiry ends the exchange (R423). -/
  | readerWaitExpiry
  /-- CLP_TAGCFG: Stores the tag configuration, which takes effect at the next activation (R426). -/
  | clpTagcfg (r : Req) (w : Word)
  /-- UPDATE_IR: A new TAP instruction takes effect, taking pin control or returning the pins to their functions (R445). -/
  | updateIr (ir : Fin 256) (cells : List Bool)
  /-- TRST_N: TRST_N low puts the TAP in Test-Logic-Reset (R439). -/
  | trstN
  /-- CSACC: Update-DR issues one Control Space word access from the TAP (R449). -/
  | csacc (write : Bool) (off : BitVec 24) (data : Word)
  /-- HALT: DBGACC HALT stops a processor at the next instruction boundary (R450). -/
  | dbgHalt (x : Fin 3)
  /-- DBG_RESUME: DBGACC RESUME restarts a halted processor (R450). -/
  | dbgResume (x : Fin 3)
  /-- STEP: DBGACC STEP executes one instruction (R450). -/
  | dbgStep (x : Fin 3)
  /-- DBG_READ_REGISTER: Reads a general or control register of a halted processor (R450). -/
  | dbgReadRegister (x : Fin 3) (arg : Fin 128)
  /-- DBG_WRITE_REGISTER: Writes a general or control register of a halted processor (R450). -/
  | dbgWriteRegister (x : Fin 3) (arg : Fin 128) (data : Word)
  /-- DBG_READ_WORD: Reads a memory word as a supervisor access (R450). -/
  | dbgReadWord (x : Fin 3) (a : Word)
  /-- DBG_WRITE_WORD: Writes a memory word as a supervisor access (R450). -/
  | dbgWriteWord (x : Fin 3) (a : Word) (data : Word)
  /-- DBG_READ_PC: Reads a processor's PC (R450). -/
  | dbgReadPc (x : Fin 3)
  /-- LOCK: Writing LOCK freezes a channel, cell or TST_DBGCTL until device reset (R396). -/
  | lockReg (r : Req) (x : LockReg)
  /-- REGISTER_WRITE: A write to a register without a row of its own, applied by access code, permission and domain state (R455). -/
  | registerWrite (r : Req) (off : BitVec 26) (v : Word)
  /-- ILLEGAL: A processor or engine executes a reserved or always-illegal instruction word, such as 0x0000_0000, and faults with ILLEGAL (R65). -/
  | illegal (p : Proc) (w : Word)
  /-- PCIE_LINK_UP: The PCIe link trains, HPC_STATUS.LINKUP, rate and width are set, and the link-event MSI-X vector may be signalled (R330). -/
  | pcieLinkUp (rate : Fin 4) (width : Fin 8)
  /-- ETH_LINK_CHANGE: The Ethernet link comes up or goes down, with auto-negotiation completing, and ETH_STATUS.LINKUP, speed and AN_DONE are updated (R331). -/
  | ethLinkChange (up : Bool) (speed : Fin 4) (an : Bool)
  /-- ETH_RAW_RECEIVE: An Ethernet frame that is neither AMP nor PTP, such as Neighbor Discovery, ICMPv6 or an IPv6 fragment, is placed in the raw receive ring and advances its head (R317). -/
  | ethRawReceive (frame : List Byte)
  /-- AVS_RESPONSE: The regulator's AVSBus status acknowledges a setpoint, which then counts as applied in SUP_AVS and releases the planner's next step (R336). -/
  | avsResponse
  /-- VDD_AON_ENTERS_RANGE: VDD_AON enters its range, so the RTC starts from 0 and every DEV register takes its reset value (R371). -/
  | vddAonEntersRange
  /-- HOST_REGISTER_READ: A host BAR0 read of a Control Space register returns its value, clears it if it is RC, latches paired halves, or completes as an Unsupported Request (R455). -/
  | hostRegisterRead (off : Nat) (whole : Bool)
  /-- RATS: The selected tag receives RATS and answers with its ATS, which opens the layer-4 session (R409). -/
  | rats (fsdi : Fin 16)
  /-- TAG_R_BLOCK: The tag receives an R(ACK), R(NAK) or S(WTX) reply from the reader and sends the next chained block, repeats its last block or extends its waiting time (R409). -/
  | tagRBlock (kind : Fin 3)
  /-- READER_REPLY: A tag's reply to a reader exchange arrives, and a result record of kind 2 is queued (R425). -/
  | readerReply (kind : Fin 3) (data : List Byte)
  /-- READER_DEFERRAL_END: The external field has been absent for 5 ms, so a deferred reader turns its field on and proceeds (R424). -/
  | readerDeferralEnd
  /-- PFW_N_RELEASE: PFW_N returns high, so SUP_STATUS.PFW clears and one of the Ride-Through exit conditions begins to hold (R341). -/
  | pfwNRelease
  /-- TAP_RUN_TEST_IDLE: The TAP enters Run-Test/Idle under EXTEST_PULSE or EXTEST_TRAIN and drives its transitions on the 1149.6 transmit pairs (R448). -/
  | tapRunTestIdle (edges : Nat)
  deriving DecidableEq, Repr

end Sys2Proof
end

