-- ==== Sys2Proof/Decode.lean ====
section
/-!
DEFINITION. What words spell. The opcode table gives no row any bits, so no word of it spells a command; the spec's own
encodings of the Wale instructions (R65 to R72) tell which instruction command a word in instruction memory stands for.
-/

namespace Sys2Proof

-- Marked: DESIGN CHOICE, log entry 7.
/-- The command a word of the opcode table spells: none, since the table gives no bits. -/
def decodeTableWord (_nbits _w : Nat) : Option Instr := none

open Machine

/-- A register field, and a field of bits, of a word. -/
def regAt (w : Word) (lo : Nat) : Reg := Fin.ofNat 32 (fld w lo 5)
def bitsAt (w : Word) (lo n : Nat) : BitVec n := w.extractLsb' lo n

/-- The ALU group: opcode 0x01, by the function code in bits [9:0] (R69). -/
def decodeAlu (p : Proc) (w : Word) : Option Instr :=
  let rd := regAt w 21
  let ra := regAt w 16
  let rb := regAt w 11
  let s := bitOf w 10
  match fld w 0 10 with
  | 0x000 => some (.add p rd ra rb s)
  | 0x001 => some (.sub p rd ra rb s)
  | 0x002 => some (.adc p rd ra rb s)
  | 0x003 => some (.sbc p rd ra rb s)
  | 0x004 => some (.and_ p rd ra rb s)
  | 0x005 => some (.or_ p rd ra rb s)
  | 0x006 => some (.xor_ p rd ra rb s)
  | 0x007 => some (.andn p rd ra rb s)
  | 0x008 => some (.shl p rd ra rb s)
  | 0x009 => some (.shr p rd ra rb s)
  | 0x00A => some (.sar p rd ra rb s)
  | 0x00B => some (.ror p rd ra rb s)
  | 0x00C => some (.slt p rd ra rb s)
  | 0x00D => some (.sltu p rd ra rb s)
  | 0x00E => some (.min p rd ra rb s)
  | 0x00F => some (.max p rd ra rb s)
  | 0x010 => some (.mul p rd ra rb s)
  | 0x011 => some (.mulhu p rd ra rb s)
  | 0x012 => some (.mulhs p rd ra rb s)
  | 0x014 => some (.divu p rd ra rb s)
  | 0x015 => some (.divs p rd ra rb s)
  | 0x016 => some (.remu p rd ra rb s)
  | 0x017 => some (.rems p rd ra rb s)
  | 0x018 => some (.clz p rd ra rb s)
  | 0x019 => some (.ctz p rd ra rb s)
  | 0x01A => some (.popc p rd ra rb s)
  | 0x01B => some (.bperm p rd ra rb s)
  | 0x01C => some (.minu p rd ra rb s)
  | 0x01D => some (.maxu p rd ra rb s)
  | _ => none

/-- Shift by immediate: the amount in imm[4:0], the shift in imm[6:5], imm[15:7] reserved (R68). -/
def decodeShi (p : Proc) (w : Word) : Option Instr :=
  let rd := regAt w 21
  let ra := regAt w 16
  let amt := regAt w 0
  let res := Fin.ofNat 512 (fld w 7 9)
  match fld w 5 2 with
  | 0 => some (.shiShl p rd ra amt res)
  | 1 => some (.shiShr p rd ra amt res)
  | 2 => some (.shiSar p rd ra amt res)
  | _ => some (.shiRor p rd ra amt res)

/-- Bit-field instructions: opcode 0x09, by the function code in bits [5:0] (R70). -/
def decodeBitf (p : Proc) (w : Word) : Option Instr :=
  let rd := regAt w 21
  let ra := regAt w 16
  let pos := regAt w 11
  let wm1 := regAt w 6
  match fld w 0 6 with
  | 0 => some (.extu p rd ra pos wm1)
  | 1 => some (.exts p rd ra pos wm1)
  | 2 => some (.ins p rd ra pos wm1)
  | 3 => some (.clrf p rd ra pos wm1)
  | _ => none

/-- The privileged group: opcode 0x38 (R72). -/
def decodeSys (p : Proc) (w : Word) : Option Instr :=
  let rd := regAt w 21
  let ra := regAt w 16
  let cnum := Fin.ofNat 64 (fld w 10 6)
  match fld w 0 10 with
  | 0 => some (.mfc p rd ra cnum)
  | 1 => some (.mtc p rd ra cnum)
  | 2 => some (.eret p rd ra cnum)
  | 3 => some (.wfi p rd ra cnum)
  | 4 => some (.sysc p rd ra cnum)
  | _ => none

/-- The instruction command of processor `p` that a word stands for, by its opcode in bits [31:26] and its format (R65,
R66, R68); none for a reserved or always-illegal word, which ILLEGAL stands for. -/
def decodeWale (p : Proc) (w : Word) : Option Instr :=
  let rd := regAt w 21
  let ra := regAt w 16
  let rb := regAt w 11
  let imm := bitsAt w 0 16
  match fld w 26 6 with
  | 0x01 => decodeAlu p w
  | 0x02 => some (.addi p rd ra imm)
  | 0x03 => some (.andi p rd ra imm)
  | 0x04 => some (.ori p rd ra imm)
  | 0x05 => some (.xori p rd ra imm)
  | 0x06 => decodeShi p w
  | 0x07 => some (.lui p rd ra imm)
  | 0x08 => some (.cmpi p rd ra imm)
  | 0x09 => decodeBitf p w
  | 0x10 => some (.ldw p rd ra imm)
  | 0x11 => some (.ldh p rd ra imm)
  | 0x12 => some (.ldhu p rd ra imm)
  | 0x13 => some (.ldb p rd ra imm)
  | 0x14 => some (.ldbu p rd ra imm)
  | 0x15 => some (.stw p rd ra imm)
  | 0x16 => some (.sth p rd ra imm)
  | 0x17 => some (.stb p rd ra imm)
  | 0x18 => some (.ldp p rd ra imm)
  | 0x19 => some (.stp p rd ra imm)
  | 0x1A => some (.cas p rd ra rb (bitOf w 10) (Fin.ofNat 1024 (fld w 0 10)))
  | 0x1B =>
    match fld w 0 10 with
    | 0 => some (.fence p (bitsAt w 10 16 ++ 0#10))
    | 1 => some (.synci p (bitsAt w 10 16 ++ 0#10))
    | _ => none
  | 0x20 => if fld w 22 4 = 15 then none else some (.bc p (Fin.ofNat 16 (fld w 22 4)) (bitsAt w 0 22))
  | 0x21 => some (.jmp p (bitsAt w 0 26))
  | 0x22 => some (.jmpr p rd ra imm)
  | 0x23 => some (.callm p (bitsAt w 16 10) imm)
  | 0x24 => some (.callmr p rd ra imm)
  | 0x25 => some (.retm p (bitsAt w 0 26))
  | 0x28 => some (.armg p rd ra rb (Fin.ofNat 8 (fld w 8 3)) (regAt w 3) (Fin.ofNat 8 (fld w 0 3)))
  | 0x29 => some (.disg p rd ra rb (Fin.ofNat 8 (fld w 8 3)) (regAt w 3) (Fin.ofNat 8 (fld w 0 3)))
  | 0x2A => some (.waitg p rd ra imm)
  | 0x2B => some (.rdts p rd (bitsAt w 0 21))
  | 0x2C => some (.swp p rd ra imm)
  | 0x30 => some (.lin p rd ra imm)
  | 0x31 => some (.lout p rd ra imm)
  | 0x32 => some (.evpost p rd ra imm)
  | 0x33 => some (.evwait p rd ra imm)
  | 0x38 => decodeSys p w
  | 0x39 => some (.rcall p rd ra imm)
  | 0x3A => some (.rwait p rd ra imm)
  | 0x3E => some (.brk p (bitsAt w 0 26))
  | _ => none

end Sys2Proof
end

