-- ==== Sys2Proof/Machine/Flags.lean ====
section
/-!
DEFINITION. The condition flags and every rule that sets them (R55, R94).
-/

namespace Sys2Proof.Machine

/-- The four condition flags of R55. -/
structure Nzcv where
  n : Bool
  z : Bool
  c : Bool
  v : Bool
  deriving DecidableEq, Repr

/-- The flags stand in STATUS [3:0], N at [3] (R80). An engine's flags are kept in the same place. -/
def Cpu.flags (c : Cpu) : Nzcv :=
  let s := c.creg 0
  ⟨bitOf s 3, bitOf s 2, bitOf s 1, bitOf s 0⟩

def Nzcv.toNat (f : Nzcv) : Nat := 8 * b2n f.n + 4 * b2n f.z + 2 * b2n f.c + b2n f.v

/-- Replaces the flags, leaving the rest of STATUS. -/
def Cpu.setFlags (c : Cpu) (f : Nzcv) : Cpu := c.setCreg 0 (setFld (c.creg 0) 0 4 f.toNat)

/-- Flags of `ADD` and `ADC`: C when the exact sum reaches 2^32, V on signed overflow (R94). -/
def flagsAdd (a b : Word) (k : Nat) : Nzcv :=
  let r := a + b + wd k
  ⟨r.msb, r == 0#32, decide (2 ^ 32 ≤ a.toNat + b.toNat + k), a.msb == b.msb && r.msb != a.msb⟩

/-- Flags of `SUB`, `SBC` and `CMPI`: C = 1 means no borrow (R94). -/
def flagsSub (a b : Word) (k : Nat) : Nzcv :=
  let r := a - b - wd k
  ⟨r.msb, r == 0#32, decide (b.toNat + k ≤ a.toNat), a.msb != b.msb && r.msb != a.msb⟩

/-- Flags of the logic functions and `MUL`: N and Z only (R69, R94). -/
def flagsNZ (f : Nzcv) (r : Word) : Nzcv := { f with n := r.msb, z := r == 0#32 }

/-- Flags of a register shift by `n`: C is the last bit shifted out, unchanged when `n` is 0 (R94). -/
def flagsShift (f : Nzcv) (r : Word) (n : Nat) (out : Bool) : Nzcv :=
  { f with n := r.msb, z := r == 0#32, c := if n = 0 then f.c else out }

/-- The conditions of `BC` (R71); none for the reserved code. -/
def condHolds (f : Nzcv) (cond : Nat) : Option Bool :=
  match cond with
  | 0 => some f.z
  | 1 => some (!f.z)
  | 2 => some f.c
  | 3 => some (!f.c)
  | 4 => some f.n
  | 5 => some (!f.n)
  | 6 => some f.v
  | 7 => some (!f.v)
  | 8 => some (f.c && !f.z)
  | 9 => some (!f.c || f.z)
  | 10 => some (f.n == f.v)
  | 11 => some (f.n != f.v)
  | 12 => some (!f.z && f.n == f.v)
  | 13 => some (f.z || f.n != f.v)
  | 14 => some true
  | _ => none

end Sys2Proof.Machine
end

