-- ==== Sys2Proof/Machine/Operands.lean ====
section
/-!
DEFINITION. What the Wale functions compute from their operands (R69, R70, R94 to R97), the operand forms of the
instruction word (R66, R67), and where an address of a processor's view lies (R57 to R59).
-/

namespace Sys2Proof.Machine

/-- imm16 sign-extended (R67). -/
def sext16 (i : BitVec 16) : Word := i.signExtend 32

/-- imm16 zero-extended (R67). -/
def zext16 (i : BitVec 16) : Word := i.setWidth 32

/-- The ALU group by function code (R69): result and flags of operands `a` and `b` with flags `f`. None for a reserved
function. The flags are those of S = 1. -/
def aluResult (fn : Nat) (a b : Word) (f : Nzcv) : Option Word :=
  let n := b.toNat % 32
  match fn with
  | 0x000 => some (a + b)
  | 0x001 => some (a - b)
  | 0x002 => some (a + b + wd (b2n f.c))
  | 0x003 => some (a - b - wd (1 - b2n f.c))
  | 0x004 => some (a &&& b)
  | 0x005 => some (a ||| b)
  | 0x006 => some (a ^^^ b)
  | 0x007 => some (a &&& ~~~ b)
  | 0x008 => some (a <<< n)
  | 0x009 => some (a >>> n)
  | 0x00A => some (a.sshiftRight n)
  | 0x00B => some (a.rotateRight n)
  | 0x00C => some (if a.slt b then 1#32 else 0#32)
  | 0x00D => some (if a.ult b then 1#32 else 0#32)
  | 0x00E => some (if a.slt b then a else b)
  | 0x00F => some (if a.slt b then b else a)
  | 0x010 => some (a * b)
  | 0x011 => some (wd (a.toNat * b.toNat / 2 ^ 32))
  | 0x012 => some (BitVec.ofInt 32 (a.toInt * b.toInt / 2 ^ 32))
  | 0x014 => some (a / b)
  | 0x015 => some (a.sdiv b)
  | 0x016 => some (a % b)
  | 0x017 => some (a.srem b)
  | 0x018 => some (wd (32 - (if a = 0#32 then 0 else a.toNat.log2 + 1)))
  | 0x019 => some (wd (((List.range 32).find? fun i => a.getLsbD i).getD 32))
  | 0x01A => some (wd ((List.range 32).filter fun i => a.getLsbD i).length)
  | 0x01B =>
    let one (i : Nat) : Word :=
      let s := fld b (8 * i) 8
      let x := byteOf a (s % 4)
      let y : Byte := if s.testBit 2 then 0#8 else if s.testBit 3 then (if x.msb then 0xFF#8 else 0#8) else x
      (y.setWidth 32) <<< (8 * i)
    some (one 0 ||| one 1 ||| one 2 ||| one 3)
  | 0x01C => some (if a.ult b then a else b)
  | 0x01D => some (if a.ult b then b else a)
  | _ => none

/-- The flags an ALU function sets with S = 1; none where the flag column of R69 reads "—". -/
def aluFlags (fn : Nat) (a b r : Word) (f : Nzcv) : Option Nzcv :=
  let n := b.toNat % 32
  match fn with
  | 0x000 => some (flagsAdd a b 0)
  | 0x001 => some (flagsSub a b 0)
  | 0x002 => some (flagsAdd a b (b2n f.c))
  | 0x003 => some (flagsSub a b (1 - b2n f.c))
  | 0x004 => some (flagsNZ f r)
  | 0x005 => some (flagsNZ f r)
  | 0x006 => some (flagsNZ f r)
  | 0x007 => some (flagsNZ f r)
  | 0x008 => some (flagsShift f r n (a.getLsbD (32 - n)))
  | 0x009 => some (flagsShift f r n (a.getLsbD (n - 1)))
  | 0x00A => some (flagsShift f r n (a.getLsbD (n - 1)))
  | 0x00B => some (flagsShift f r n r.msb)
  | 0x010 => some (flagsNZ f r)
  | _ => none

/-- Unary functions, whose rb must be g0 (R93). -/
def aluUnary (fn : Nat) : Bool := fn == 0x018 || fn == 0x019 || fn == 0x01A

/-- The divisions, which fault with DIVZ on a zero divisor. -/
def aluDivides (fn : Nat) : Bool := decide (0x014 ≤ fn ∧ fn ≤ 0x017)

/-- Budget units of an ALU function (R89). -/
def aluCost (fn : Nat) : Nat :=
  if decide (0x010 ≤ fn ∧ fn ≤ 0x012) then 2 else if aluDivides fn then 18 else 1

/-- `SHI`: the shift imm16[6:5] selects, by imm16[4:0] (R68, R96). -/
def shiResult (kind : Nat) (a : Word) (n : Nat) : Word :=
  match kind with
  | 0 => a <<< n
  | 1 => a >>> n
  | 2 => a.sshiftRight n
  | _ => a.rotateRight n

/-- `BITF` (R97): the field mask, and the result by fn from the old rd and ra. -/
def bitfResult (fn : Nat) (old a : Word) (pos wm1 : Nat) : Word :=
  let m := fldMask pos (wm1 + 1)
  let x := (a &&& m) >>> pos
  match fn with
  | 0 => x
  | 1 => if x.getLsbD wm1 then x ||| ~~~ fldMask 0 (wm1 + 1) else x
  | 2 => (old &&& ~~~ m) ||| ((a <<< pos) &&& m)
  | _ => a &&& ~~~ m

/-! ## Where an address lies (R57 to R59) -/

/-- What a data address of a processor's view is. -/
inductive Where where
  /-- memory at a flat address -/
  | mem (a : Nat)
  /-- a Control Space register offset -/
  | reg (off : Nat)
  /-- a Control Space window offset, 0x100_0000 and above -/
  | win (off : Nat)
  | none
  deriving DecidableEq, Repr

/-- The Control Space part of a view: registers below offset 0x100_0000, windows above. -/
def ctlWhere (a : Nat) : Where :=
  if decide (0x40000000 ≤ a ∧ a < 0x42000000) then
    let o := a - 0x40000000
    if o < 0x1000000 then .reg o else .win o
  else .none

/-- Data addresses (R57 to R59). -/
def dataWhere (p : Proc) (a : Nat) : Where :=
  match p with
  | .eng n => if decide (0x10000 ≤ a ∧ a < 0x14000) then .mem (engBase n + 0x4000 + (a - 0x10000)) else ctlWhere a
  | .mp h => if a < 0x200000 then .mem (sramBase h.toNat + a) else ctlWhere a
  | .custody =>
    if a < 0x40000 then .mem (romBase + a)
    else if decide (0x100000 ≤ a ∧ a < 0x140000) then .mem (custBase + (a - 0x100000))
    else if decide (0x2082000 ≤ a ∧ a < 0x2400000) then .mem (mramBase + (a - 0x2000000))
    else ctlWhere a

/-- Fetch addresses; none where fetch faults with ACCESS. -/
def fetchWhere (p : Proc) (a : Nat) : Option Nat :=
  match p with
  | .eng n => if a < 0x4000 then some (engBase n + a) else none
  | .mp h => if a < 0x200000 then some (sramBase h.toNat + a) else none
  | .custody =>
    match dataWhere .custody a with
    | .mem f => some f
    | _ => none

/-- Stores reach local memories but not the ROM; `CAS` not MRAM either (R59). -/
def storable (p : Proc) (a : Nat) : Bool := match p with | .custody => decide (0x40000 ≤ a) | _ => true
def casable (p : Proc) (a : Nat) : Bool :=
  match p with | .custody => decide (0x40000 ≤ a) && !decide (0x2000000 ≤ a ∧ a < 0x2400000) | _ => true

/-! ## Grants and regions -/

-- Marked: DEDUCED, log entry 82.
/-- A grant window of engine `n` with the permission covers octets [lo, hi] (R118). Permission 1 loads, 2 stores, 3
both. -/
def Dev.granted (d : Dev) (n lo hi perm : Nat) : Bool :=
  (List.range 4).any fun k =>
    let base := d.f (R.WEN_GRANT_BASE n k) 8 24 * 256
    let lim := d.f (R.WEN_GRANT_LIM n k) 8 24 * 256 + 255
    let p := d.f (R.WEN_GRANT_LIM n k) 0 2
    decide (base ≤ lo ∧ hi ≤ lim) && (p &&& perm) == perm

/-- The region set of a processor as data accesses see it, or as fetch sees it (R82). -/
def regionOf (t : Table Word) (k : Nat) : Word × Word := (tget ctlDflt t (32 + 2 * k), tget ctlDflt t (33 + 2 * k))

/-- Whether an octet is allowed: by the lowest-numbered enabled region that contains it, or by SBG in supervisor mode
when none does (R81). `bit` is the permission's bit for user mode, three above it for supervisor. -/
def octetAllowed (t : Table Word) (sup sbg : Bool) (bit a : Nat) : Bool :=
  match (List.range 16).find? fun k =>
      let (b, l) := regionOf t k
      bitOf l 0 && decide (fld b 8 24 * 256 ≤ a ∧ a ≤ fld l 8 24 * 256 + 255) with
  | some k => bitOf (regionOf t k).2 (if sup then bit + 3 else bit)
  | none => sup && sbg

/-- Regions change only at 256-octet blocks, so an access is allowed when its first and last octets are (R81). -/
def rangeAllowed (t : Table Word) (sup sbg : Bool) (bit a n : Nat) : Bool :=
  octetAllowed t sup sbg bit a && octetAllowed t sup sbg bit ((a + n - 1) % 2 ^ 32)

end Sys2Proof.Machine
end

