-- ==== Sys2Proof/Machine/Skein.lean ====
section
/-!
DEFINITION. Posts on the Skein and the counting of performance counters (R390, R391, R401 to R405). Both act on the
registers and on `Skein` alone, so they are written over that pair.
-/

namespace Sys2Proof.Machine

/-- What posts and counters act on. -/
structure Fab where
  regs : Table Word
  skein : Skein

def Fab.reg (f : Fab) (k : Nat) : Word := tget resetOf f.regs k
def Fab.setReg (f : Fab) (k : Nat) (w : Word) : Fab := { f with regs := tput resetOf f.regs k w }

/-- Counters in mode `m` with selection `sel` whose configuration has been written (R401). -/
def Fab.pmcs (f : Fab) (m sel : Nat) : List Nat :=
  f.regs.filterMap fun e =>
    if decide (0xC0100 ≤ e.1 ∧ e.1 < 0xC0900) && (e.1 - 0xC0100) % 0x20 == 0 && fld e.2 0 3 == m && fld e.2 3 10 == sel
    then some ((e.1 - 0xC0100) / 0x20) else none

/-- PMC_CTRL.FREEZE holds every counter (R401). -/
def Fab.frozen (f : Fab) : Bool := bitOf (f.reg R.PMC_CTRL) 0

/-- The live count of counter `n`. -/
def Fab.pmcCount (f : Fab) (n : Nat) : Nat :=
  (f.reg (R.PMC_CNT_LO n)).toNat + 2 ^ 32 * (f.reg (R.PMC_CNT_HI n)).toNat

/-- Sets the live count of counter `n`. -/
def Fab.setPmc (f : Fab) (n v : Nat) : Fab :=
  (f.setReg (R.PMC_CNT_LO n) (wd v)).setReg (R.PMC_CNT_HI n) (wd (v / 2 ^ 32))

/-- Adds `k` to counter `n`: a wrap at 2^48 sets OVF and, with OVEN = 1, posts on OVCH (R401). -/
def pmcAdd (post : Fab → Nat → Fab) (f : Fab) (n k : Nat) : Fab :=
  let c := f.pmcCount n + k
  let f1 := f.setPmc n (c % 2 ^ 48)
  if c < 2 ^ 48 then f1 else
    let f2 := f1.setReg (R.PMC_SAMP n) (setBit (f1.reg (R.PMC_SAMP n)) 29 true)
    let cfg := f2.reg (R.PMC_CFG n)
    if bitOf cfg 31 then post f2 (fld cfg 23 8) else f2

/-- A post on channel `ch`: discarded when EN = 0, held, or merged into the held event (R390, R391). `cnt` counts the
merge as event 0x0B. -/
def postWith (cnt : Fab → Nat → Fab) (f : Fab) (ch : Nat) : Fab :=
  if bitOf (f.reg (R.EVR_CH_CFG ch)) 31 then
    if tget falseDflt f.skein.held ch then
      let st := f.reg (R.EVR_CH_STAT ch)
      cnt (f.setReg (R.EVR_CH_STAT ch) (setFld st 16 16 (min 0xFFFF (fld st 16 16 + 1)))) 0x0B
    else { f with skein := { f.skein with held := tput falseDflt f.skein.held ch true } }
  else f

/-- Counts one event of selection `sel` of R402; the first argument bounds the chain of wraps and merges. -/
def pmcEventN : Nat → Fab → Nat → Fab
  | 0, f, _ => f
  | n + 1, f, sel =>
    if f.frozen then f else (f.pmcs 1 sel).foldl (fun f k => pmcAdd (postWith (pmcEventN n)) f k 1) f

/-- The chain of wraps and merges one event can set off ends within the 64 counters. -/
abbrev pmcFuel : Nat := 65

/-- A post. -/
def fabPost (f : Fab) (ch : Nat) : Fab := postWith (pmcEventN pmcFuel) f ch

/-- Applies an operation on the pair to the device. -/
def Dev.onFab (d : Dev) (g : Fab → Fab) : Dev :=
  let f := g ⟨d.regs, d.skein⟩
  { d with regs := f.regs, skein := f.skein }

/-- Counts one event (R402). -/
def Dev.pmcEvent (d : Dev) (sel : Nat) : Dev := d.onFab fun f => pmcEventN pmcFuel f sel

/-- Posts an event on a channel (R391). -/
def Dev.post (d : Dev) (ch : Nat) : Dev := d.onFab fun f => fabPost f ch

/-- Channels whose SRC selects a hardware source (R396). -/
def Fab.sourced (f : Fab) (src : Nat) : List Nat :=
  f.regs.filterMap fun e =>
    if decide (0xB2000 ≤ e.1 ∧ e.1 < 0xB4000) && (e.1 - 0xB2000) % 0x20 == 0 && fld e.2 0 9 == src
    then some ((e.1 - 0xB2000) / 0x20) else none

/-- A hardware source posts on every channel that selects it (R390, R396). -/
def Dev.hwEvent (d : Dev) (src : Nat) : Dev := d.onFab fun f => (f.sourced src).foldl fabPost f

/-- The hardware sources of R396. -/
abbrev srcTimebase : Nat := 1
abbrev srcPps : Nat := 2
abbrev srcLate : Nat := 3
abbrev srcMains : Nat := 4
abbrev srcTrunk : Nat := 5
abbrev srcToken : Nat := 6
abbrev srcCapture (n : Nat) : Nat := 0x10 + n

-- Marked: DESIGN CHOICE, log entry 91.
/-- Octets passing a port in a direction, 1 inward or 2 outward, for counters in mode 2 (R403). -/
def Dev.pmcOctets (d : Dev) (port dir n : Nat) : Dev := d.onFab fun f =>
  if f.frozen then f else
    (f.pmcs 2 port).foldl (fun f k =>
      let sel := fld (f.reg (R.PMC_CFG k)) 21 2
      if sel = 0 ∨ sel = 3 ∨ sel = dir then pmcAdd fabPost f k n else f) f

-- Marked: DESIGN CHOICE, log entry 91.
/-- Octets written into (1) or read out of (2) the message store, at the banks that hold them (R403). -/
def Dev.msTraffic (d : Dev) (a n dir : Nat) : Dev :=
  if a + n ≤ storeBase ∨ storeBase + 0xC00000 ≤ a then d else
  d.forEach (List.range 8) fun d b =>
    let lo := storeBase + 0x180000 * b
    let k := min (a + n) (lo + 0x180000) - max a lo
    if k = 0 then d else d.pmcOctets (2 + b) dir k

-- Marked: DESIGN CHOICE, log entry 91.
/-- Octets are written from `a` on, and counted where that is message store. -/
def Dev.msWrite (d : Dev) (a : Nat) (l : List Byte) : Dev := (d.wrBytes a l).msTraffic a l.length 1

/-- Adds one to every counter in mode 3 whose queue's occupancy exceeds its threshold at this tick (R404). -/
def Fab.pmcQueue (f : Fab) (occ : Nat → Nat) : Fab :=
  if f.frozen then f else
    (f.regs.filterMap fun e =>
      if decide (0xC0100 ≤ e.1 ∧ e.1 < 0xC0900) && (e.1 - 0xC0100) % 0x20 == 0 && fld e.2 0 3 == 3
      then some ((e.1 - 0xC0100) / 0x20) else none).foldl
      (fun f k =>
        if (f.reg (R.PMC_THR k)).toNat < occ (fld (f.reg (R.PMC_CFG k)) 3 10) then pmcAdd fabPost f k 1 else f) f

/-- Counters whose last trigger was an instruction of Main Processor `h`. -/
def Skein.triggered (x : Skein) (h : Nat) : List Nat := x.trigOf.filterMap fun e => if e.2 = h + 1 then some e.1 else none

/-- One instruction retired by Main Processor `h` at `pc`: it counts for SKID where a trigger went before; and every counter
in mode 4 for it counts, and at its period restarts at 0 and makes the instruction its trigger (R405). -/
def Fab.pmcRetire (f : Fab) (h pc : Nat) : Fab :=
  let f := (f.skein.triggered h).foldl (fun f k =>
    { f with skein := { f.skein with after := tput zeroDflt f.skein.after k (tget zeroDflt f.skein.after k + 1) } }) f
  if f.frozen then f else
    (f.pmcs 4 h).foldl (fun f k =>
      let c := f.pmcCount k + 1
      if c < max 1 (f.reg (R.PMC_THR k)).toNat then f.setPmc k c else
        let f := f.setPmc k 0
        { f with skein := { f.skein with
            due := tput zeroDflt f.skein.due k (pc + 1)
            trigOf := tput zeroDflt f.skein.trigOf k (h + 1)
            late := tput falseDflt f.skein.late k false
            after := tput zeroDflt f.skein.after k 0 } }) f

/-- An instruction of processor `p` retires at `pc` (R80, R402, R405). -/
def Dev.retireCount (d : Dev) (p pc : Nat) : Dev :=
  if p < 64 then d else
  let d := d.pmcEvent (1 + (p - 64))
  if p < 66 then d.onFab fun f => f.pmcRetire (p - 64) pc else d

/-! ## Latches (R394) -/

/-- The key of processor `p`'s pending latch for a channel. -/
def latchKey (p ch : Nat) : Nat := 256 * p + ch

def Dev.latched (d : Dev) (p ch : Nat) : Bool := tget falseDflt d.skein.latch (latchKey p ch)

def Dev.setLatch (d : Dev) (p ch : Nat) (v : Bool) : Dev :=
  { d with skein := { d.skein with latch := tput falseDflt d.skein.latch (latchKey p ch) v,
                                   more := tput falseDflt d.skein.more (latchKey p ch) false } }

/-- A further event has arrived while the latch was set (R113). -/
def Dev.furtherEvent (d : Dev) (p ch : Nat) : Bool := tget falseDflt d.skein.more (latchKey p ch)
def Dev.setFurther (d : Dev) (p ch : Nat) : Dev :=
  { d with skein := { d.skein with more := tput falseDflt d.skein.more (latchKey p ch) true } }

/-- The consumer in slot `j` of a channel (R393). -/
def Dev.consumer (d : Dev) (ch j : Nat) : Nat := d.f (R.EVR_CH_CONS ch (j / 2)) (16 * (j % 2)) 10

/-- The consumer identifier of a processor: its number (R393). -/
def Dev.consSlot (d : Dev) (ch p : Nat) : Option Nat := (List.range 8).find? fun j => d.consumer ch j = p

/-- The event channel of interrupt source `s` of processor `p` (R394); none for 0x1FF and any code above 255. -/
def Dev.imap (d : Dev) (p s : Nat) : Option Nat :=
  let c := d.f (R.EVR_IMAP (p - 64) (s / 2)) (16 * (s % 2)) 9
  if c < 256 then some c else none

/-- `EVPOST` grants: the poster's bit in EVR_CHk_CFG.POST (R390). -/
def Dev.mayPost (d : Dev) (p ch : Nat) : Bool :=
  d.b (R.EVR_CH_CFG ch) (if p < 64 then 19 + engHalf p else 16 + (p - 64))

end Sys2Proof.Machine
end

