-- ==== Sys2Proof/Machine/RtcTimers.lean ====
section
/-!
DEFINITION. The real-time clock and the general timers (chapter 17). Both counts are held as the value at a known
instant and worked out from there when they are wanted.
-/

namespace Sys2Proof.Machine

/-! ## The RTC count (R371 to R373) -/

-- Marked: DESIGN CHOICE, log entry 6.
/-- Crystal cycles since VDD_AON entered its range: 32,768 in 160,000,000 clock periods (log entry 6). -/
def Dev.xtal (d : Dev) : Nat := (d.clk - d.rtc.clk0) * 16 / 78125

/-- RTC_STATUS.XTAL_FAIL (R378). -/
def Dev.xtalFail (d : Dev) : Bool := d.b R.RTC_STATUS 27

/-- Counts added (or, negative, skipped) by trim `k` in the first `p` cycles of a window (R373). -/
def trimCounts (k : Int) (p : Nat) : Int :=
  let a := k.natAbs
  if a = 0 then 0 else
    let n : Int := (min a (p / (2 ^ 20 / a)) : Nat)
    if k < 0 then -n else n

/-- RTC periods counted up to crystal cycle `c`, the trim among them. -/
def Rtc.ranAt (r : Rtc) (c : Nat) : Nat :=
  (((r.ran + (c - r.since) : Nat) : Int) + (trimCounts r.trim (c - r.winAt) - trimCounts r.trim (r.since - r.winAt))).toNat

-- Marked: DEDUCED, log entry 67.
/-- The RTC's held values, with a seconds write in force from its crystal cycle on (R374). -/
def Dev.rtcNow (d : Dev) : Rtc :=
  let r := d.rtc
  match r.setTo with
  | some (c, t, h) =>
    if d.xtalFail || decide (d.xtal < c) then r
    else { r with total := t, ran := r.ranAt c, since := c, hold := h, setTo := none }
  | none => r

-- Marked: DESIGN CHOICE, log entry 6.
/-- Seconds and fraction together, in units of 1/32,768 s, modulo 2^63 (R371, R375). -/
def Dev.rtcTotal (d : Dev) : Nat :=
  let r := d.rtcNow
  if d.xtalFail then r.total else
  let n := d.xtal - r.since
  let held := min r.hold n
  let p := r.since + held - r.winAt
  let q := d.xtal - r.winAt
  (((r.total + (n - held) : Nat) : Int) + (trimCounts r.trim q - trimCounts r.trim p)).toNat % 2 ^ 63

/-- RTC periods counted since power-on, the trim among them: the elapsed time the RTC measures (R29, R386). -/
def Dev.rtcRan (d : Dev) : Nat :=
  let r := d.rtcNow
  if d.xtalFail then r.ran else r.ranAt d.xtal

/-- Brings the held values up to the present cycle. -/
def Dev.rtcSync (d : Dev) : Dev :=
  if d.xtalFail then d else
  let r := d.rtcNow
  { d with rtc := { r with
      total := d.rtcTotal
      ran := d.rtcRan
      since := max r.since d.xtal
      hold := r.hold - (d.xtal - r.since) } }

/-- The seconds count (R371). -/
def Dev.rtcSec (d : Dev) : Nat := d.rtcTotal / 2 ^ 15 % 2 ^ 48

/-- The fraction (R371). -/
def Dev.rtcFrac (d : Dev) : Nat := d.rtcTotal % 2 ^ 15

/-- A read of RTC_FRAC latches the seconds of the same cycle for the reader (R372). -/
def Dev.rtcFracRead (d : Dev) (r : Nat) : Dev × Word :=
  (d.setPair (bankKey r R.RTC_SEC_LO) (bankKey r R.RTC_SEC_HI) d.rtcSec, wd d.rtcFrac)

/-- Sets the seconds count and clears the fraction from the next crystal cycle on; a hold in progress ends, and a shift accepted in the same clock
period is cancelled (R374, R376). -/
def Dev.rtcSet (d : Dev) (w : Word) : Dev :=
  let d := d.rtcSync.setReg R.RTC_SETSEC_HI (w &&& 0xFFFF#32)
  let sec := (d.reg R.RTC_SETSEC_LO).toNat + 2 ^ 32 * fld w 0 16
  let d := { d with rtc := { d.rtc with setTo := some (d.xtal + 1, sec * 2 ^ 15, 0), hold := 0, setAt := some d.clk } }
  let d := d.setB R.RTC_STATUS 31 false
  if d.rtc.shiftAt = some d.clk then d.setF R.RTC_STATUS 28 3 3 else d

/-- Moves the fraction by `s` counts, of the time a seconds write not yet in force sets where there is one (R375). -/
def Dev.rtcMove (d : Dev) (s : Int) : Dev :=
  let d := d.rtcSync
  if 0 < s then
    { d with rtc := match d.rtc.setTo with
      | some (c, t, h) => { d.rtc with setTo := some (c, (t + s.toNat) % 2 ^ 63, h) }
      | none => { d.rtc with total := (d.rtc.total + s.toNat) % 2 ^ 63 } }
  else if s < 0 then
    { d with rtc := match d.rtc.setTo with
      | some (c, t, _) => { d.rtc with setTo := some (c, t, s.natAbs) }
      | none => { d.rtc with hold := s.natAbs, since := max d.rtc.since d.xtal } }.setB R.RTC_STATUS 31 true
  else d

/-- A write to RTC_SHIFT, judged by the first row of R376 that applies. -/
def Dev.rtcShift (d : Dev) (w : Word) : Dev :=
  let s := sfld w 0 17
  let res (d : Dev) (v : Nat) : Dev := d.setF R.RTC_STATUS 28 3 v
  if 16384 < s.natAbs then res d 4
  else if d.b R.RTC_CTRL 0 then res d 2
  else if d.b R.RTC_STATUS 31 then res d 1
  else if d.rtc.setAt = some d.clk then res d 3
  else
    let d := (res d 0).rtcMove s
    { d with rtc := { d.rtc with shiftAt := some d.clk } }

/-- The hold of a negative shift has run out: SHIFTING clears (R375). -/
def Dev.shiftHoldEnd (d : Dev) : Dev :=
  let d := d.rtcSync
  if d.b R.RTC_STATUS 31 && d.rtc.hold == 0 && d.rtc.setTo.isNone then d.setB R.RTC_STATUS 31 false else d

/-- A trim window begins, with the trim now in RTC_TRIM; −1,024 acts as −1,023 (R373). -/
def Dev.trimWindow (d : Dev) : Dev :=
  if d.xtalFail || decide (d.xtal < d.rtc.winAt + 2 ^ 20) then d else
  let d := d.rtcSync
  { d with rtc := { d.rtc with winAt := d.rtc.since, trim := max (-1023) (sfld (d.reg R.RTC_TRIM) 0 11) } }

-- Marked: DEDUCED, log entry 67.
/-- No crystal edge for 1 ms: the RTC stops for good, with what it had counted at the last edge (R378). -/
def Dev.xtalFails (d : Dev) : Dev :=
  { { d with clk := d.clk - ms }.rtcSync with clk := d.clk }.setB R.RTC_STATUS 27 true

/-- RTC periods elapsed since the RTC had counted `from_`; a make-up adds nothing once the crystal has failed (R378). -/
def Dev.rtcElapsed (d : Dev) (from_ : Nat) : Nat := if d.xtalFail then 0 else d.rtcRan - from_

/-- The edge count of the discipline restarts (R377). -/
def Dev.discRestart (d : Dev) : Dev :=
  let d := (d.setF R.RTC_STATUS 16 5 0).setB R.RTC_STATUS 26 false
  { d with rtc := { d.rtc with meas := 0 } }

/-- A discipline measurement: f is captured, e reported, TRIM corrected except at the first, and the fraction
shifted by −e (R377). -/
def Dev.discMeasure (d : Dev) : Dev :=
  let f := d.rtcFrac
  let e : Int := if f < 16384 then (f : Int) else (f : Int) - 32768
  let d := (d.setReg R.RTC_DISCERR (wd (patt 16 e))).setF R.RTC_STATUS 16 5 0
  let d := if d.rtc.meas = 0 then d else
    d.setF R.RTC_TRIM 0 11 (patt 11 (max (-1023) (min 1023 (max (-1023) (sfld (d.reg R.RTC_TRIM) 0 11) - e))))
  let d := { d with rtc := { d.rtc with meas := d.rtc.meas + 1 } }
  let d := d.setB R.RTC_STATUS 26 (decide (2 ≤ d.rtc.meas ∧ e.natAbs ≤ 1))
  d.rtcMove (-e)

/-- An accepted PPS edge under the discipline: a measurement at the first after a restart and at every 32nd since. -/
def Dev.discEdge (d : Dev) : Dev :=
  if !d.b R.RTC_CTRL 0 || d.xtalFail then d
  else if d.rtc.meas = 0 then d.discMeasure
  else if d.f R.RTC_STATUS 16 5 = 31 then d.discMeasure
  else d.setF R.RTC_STATUS 16 5 (d.f R.RTC_STATUS 16 5 + 1)

/-- A missed PPS edge restarts the count (R377). -/
def Dev.discMiss (d : Dev) : Dev := if d.b R.RTC_CTRL 0 then d.discRestart else d

/-! ## Timers (R379 to R387) -/

def tmrDflt (_ : Nat) : Tmr := {}
def Dev.timer (d : Dev) (n : Nat) : Tmr := tget tmrDflt d.timers n
def Dev.setTimer (d : Dev) (n : Nat) (t : Tmr) : Dev := { d with timers := tput tmrDflt d.timers n t }

/-- TMRn_CTL.EN. -/
def Dev.tmrEn (d : Dev) (n : Nat) : Bool := d.b (R.TMR_CTL n) 31
def Dev.tmrPre (d : Dev) (n : Nat) : Nat := d.f (R.TMR_CTL n) 20 4

/-- The comparator: the live value of the CMP registers (R382). -/
def Dev.tmrCmp (d : Dev) (n : Nat) : Nat := (d.reg (R.TMR_CMP_LO n)).toNat + 2 ^ 32 * d.f (R.TMR_CMP_HI n) 0 16

/-- Timers count while enabled and while PD2 and PD3 run (R379, R386). -/
def Dev.tmrRuns (d : Dev) (n : Nat) : Bool := d.tmrEn n && d.pdRun 2 && d.pdRun 3

/-- Clock periods gathered since the held value, with the residue it had. -/
def Dev.tmrGathered (d : Dev) (n : Nat) : Nat :=
  (d.timer n).res + if d.tmrRuns n then d.clk - (d.timer n).since else 0

/-- The value after `a` advances: a reload takes the first of them to 0 (R379, R382). -/
def tmrAfter (t : Tmr) (a : Nat) : Nat :=
  (if t.reload && decide (0 < a) then a - 1 else t.count + a) % 2 ^ 48

/-- The count of timer `n` now. -/
def Dev.tmrCount (d : Dev) (n : Nat) : Nat := tmrAfter (d.timer n) (d.tmrGathered n / 2 ^ d.tmrPre n)

/-- Brings timer `n` up to the present clock period. -/
def Dev.tmrSync (d : Dev) (n : Nat) : Dev :=
  let t := d.timer n
  let a := d.tmrGathered n / 2 ^ d.tmrPre n
  d.setTimer n { t with
    count := tmrAfter t a
    res := d.tmrGathered n % 2 ^ d.tmrPre n
    since := d.clk
    reload := t.reload && a == 0
    advAt := if 0 < a then some (d.clk - d.tmrGathered n % 2 ^ d.tmrPre n) else t.advAt }

/-- At this tick the count has advanced, or a CMP register was written or CMPEN set, with no match taken since (R382). -/
def Dev.tmrFresh (d : Dev) (n : Nat) : Bool :=
  (d.timer n).advAt == some d.clk || (d.timer n).wrAt == some d.clk

/-- Whether requester `r` may write timer `n`'s page (R381). -/
def Dev.tmrOwned (d : Dev) (n r : Nat) : Bool :=
  let o := d.f (R.TMR_CTL n) 29 2
  if o = 0 then decide (64 ≤ r ∧ r ≤ 66) else decide (r = 63 + o)

/-- A write to TMRn_CTL (R379, R380). -/
def Dev.tmrCtl (d : Dev) (n : Nat) (w : Word) : Dev :=
  let d := d.tmrSync n
  let old := d.reg (R.TMR_CTL n)
  let w := w &&& 0xF8FFF8FF#32
  let t := d.timer n
  let t := { t with wrAt := if bitOf w 28 && !bitOf old 28 then some d.clk else t.wrAt }
  if bitOf old 31 && bitOf w 31 then
    (d.setTimer n t).setReg (R.TMR_CTL n) (setFld (setFld old 28 1 (fld w 28 1)) 29 2 (fld w 29 2))
  else
    let t := if bitOf w 31 then { t with count := 0, edges := 0, reload := false, advAt := none } else t
    (d.setTimer n { t with res := 0 }).setReg (R.TMR_CTL n) w

/-- A write to a CMP register changes the comparator at once and makes a match possible at this tick (R382). -/
def Dev.tmrCmpWrite (d : Dev) (n k : Nat) (w : Word) : Dev :=
  let d := (d.tmrSync n).setReg k w
  d.setTimer n { d.timer n with wrAt := some d.clk }

/-- Posts the match event of timer `n` if MEV_EN = 1. -/
def Dev.tmrMatchPost (d : Dev) (n : Nat) : Dev :=
  if d.b (R.TMR_EVT n) 31 then d.post (d.f (R.TMR_EVT n) 16 8) else d

/-- A match at this tick (R382). -/
def Dev.tmrMatch (d : Dev) (n : Nat) : Dev :=
  let d := d.tmrSync n
  let t := d.timer n
  if d.pdRun 3 && d.b (R.TMR_CTL n) 28 && d.tmrFresh n && t.count == d.tmrCmp n then
    let d := d.setTimer n { t with advAt := none, wrAt := none, reload := d.b (R.TMR_CTL n) 27 }
    (d.setB (R.TMR_FLAGS n) 0 true).tmrMatchPost n
  else d

/-- Captures `v`, overwriting an unread capture with CAPOVR, and posts the capture event (R384). -/
def Dev.tmrCaptureValue (d : Dev) (n v : Nat) : Dev :=
  let d := d.setPair (R.TMR_CAP_LO n) (R.TMR_CAP_HI n) v
  let d := if d.b (R.TMR_FLAGS n) 1 then d.setB (R.TMR_FLAGS n) 2 true else d.setB (R.TMR_FLAGS n) 1 true
  if d.b (R.TMR_EVT n) 15 then d.post (d.f (R.TMR_EVT n) 0 8) else d

/-- An accepted edge: every 2^EPRE-th captures the count less `back` (R384). -/
def Dev.tmrEdge (d : Dev) (n back : Nat) : Dev :=
  let d := d.tmrSync n
  let t := d.timer n
  let d := d.setTimer n { t with edges := t.edges + 1 }
  if (t.edges + 1) % 2 ^ d.f (R.TMR_CTL n) 12 2 = 0
  then d.tmrCaptureValue n ((t.count + 2 ^ 48 - back) % 2 ^ 48) else d

/-- A pin edge accepted after FILT further samples: CSRC = 0, EDGE selects it, and the pin's function is TINx (R384,
R452). -/
def Dev.tmrPinEdge (d : Dev) (n : Nat) (rising : Bool) : Dev :=
  let c := d.reg (R.TMR_CTL n)
  let want := if rising then bitOf c 14 else bitOf c 15
  if d.tmrRuns n && !bitOf c 11 && want && d.f (R.PIO_GP_CFG (fld c 0 3)) 0 4 == 1
  then d.tmrEdge n (fld c 16 4) else d

/-- A delivery on channel `ch` to the capture of timer `n`: it captures only when CSRC = 1 and CIN names the channel
(R384, R393). -/
def Dev.tmrEvent (d : Dev) (n ch : Nat) : Dev :=
  if d.b (R.TMR_CTL n) 11 && d.f (R.TMR_CTL n) 0 8 == ch then d.tmrEdge n 0 else d

/-- TMR_SNAPCMD: every timer count and the Timebase count, into the writer's bank (R385). -/
def Dev.tmrSnap (d : Dev) (r : Nat) : Dev :=
  let d := d.setPair (bankKey r R.TMR_SNAPTB_LO) (bankKey r R.TMR_SNAPTB_HI) d.count
  d.forEach (List.range 32) fun d n =>
    d.setPair (bankKey r (R.TMR_SNAP_LO n)) (bankKey r (R.TMR_SNAP_HI n)) (d.tmrCount n)

/-- A read of TMRn_CAP_LO latches TMRn_CAP_HI for the reader (R384). -/
def Dev.tmrCapRead (d : Dev) (n r : Nat) : Dev × Word :=
  (d.setReg (bankKey r (R.TMR_CAP_HI n)) (d.reg (R.TMR_CAP_HI n)), d.reg (R.TMR_CAP_LO n))

/-- PD2 or PD3 leaves Run: the counts stand still from here, and the RTC time is kept for the make-up (R386). -/
def Dev.tmrHalt (d : Dev) : Dev :=
  let d := d.forEach (List.range 32) Dev.tmrSync
  match d.power.tmrStop with
  | some _ => d
  | none => { d with power := { d.power with tmrStop := some d.rtcRan } }

/-- PD3 stops: the timers' counts and residues and their CTL, CMP and EVT registers go to the retention area (R386). -/
def Dev.tmrKeep (d : Dev) : Dev :=
  let keep := d.regs.filter fun e =>
    decide (0xA0100 ≤ e.1 ∧ e.1 < 0xA0500) &&
      (let o := (e.1 - 0xA0100) % 0x20; o == 0 || o == 4 || o == 8 || o == 0x18)
  { d with power := { d.power with kept := some ⟨d.timers.map fun e =>
    (e.1, { count := e.2.count, res := e.2.res, since := e.2.since }), keep⟩ } }

-- Marked: DEDUCED, log entry 67.
/-- A timer that is to advance `a` times: the count it comes to, whether it has met CMP on the way, and whether its next
advance reloads. A RELOAD timer that stands at CMP, or has met it (`due`), goes to 0 first (R382, R386). -/
def madeUp (reloads due : Bool) (count cmp a : Nat) : Nat × Bool × Bool :=
  let gap := (cmp + 2 ^ 48 - count) % 2 ^ 48
  if !reloads then (if due && decide (0 < a) then a - 1 else (count + a) % 2 ^ 48, decide (0 < gap ∧ gap ≤ a), due && a == 0)
  else
    let due := due || gap == 0
    let gap := if due then cmp + 1 else gap
    if a < gap then (if due && decide (0 < a) then a - 1 else (count + a) % 2 ^ 48, false, due && a == 0)
    else
      let r := (a - gap) % (cmp + 1)
      (if r = 0 then cmp else r - 1, true, r == 0)

-- Marked: DEDUCED, log entry 67.
/-- Advances timer `n` by `m` clock periods of make-up (R386). -/
def Dev.tmrMakeup (d : Dev) (m n : Nat) : Dev :=
  let t := d.timer n
  if !d.tmrEn n then d.setTimer n { t with since := d.clk } else
  let g := t.res + m
  let a := g / 2 ^ d.tmrPre n
  let (count, met, reload) :=
    if d.b (R.TMR_CTL n) 28 then madeUp (d.b (R.TMR_CTL n) 27) t.reload t.count (d.tmrCmp n) a
    else (tmrAfter t a, false, t.reload && a == 0)
  let d := d.setTimer n { t with
    count := count, res := g % 2 ^ d.tmrPre n, since := d.clk, reload := reload, advAt := none, wrAt := none }
  if met then ((d.setB (R.TMR_FLAGS n) 0 true).setB (R.TMR_FLAGS n) 3 true).tmrMatchPost n else d

/-- PD2 and PD3 are both in Run again: the kept registers return and every enabled timer is made up by the elapsed
RTC time (R386). -/
def Dev.tmrReturn (d : Dev) : Dev :=
  match d.power.tmrStop with
  | none => d
  | some at_ =>
    let d := { d with power := { d.power with tmrStop := none } }
    let n := d.rtcElapsed at_
    let d := (d.setB R.TMR_STATUS 31 d.xtalFail).setF R.TMR_STATUS 0 24 (min 0xFFFFFF n)
    d.forEach (List.range 32) fun d k => d.tmrMakeup (n * 78125 / 16) k

/-- PD3 enters Run: the retention area is restored (R386). -/
def Dev.tmrRestore (d : Dev) : Dev :=
  match d.power.kept with
  | none => d
  | some k =>
    let d := { d with timers := k.timers, power := { d.power with kept := none } }
    d.forEach k.regs fun d e => d.setReg e.1 e.2

end Sys2Proof.Machine
end

