-- ==== Sys2Proof/Machine/Cpu.lean ====
section
/-!
DEFINITION. What every processor does around an instruction: retiring, waiting and completing a wait, pending interrupt
sources, exception entry and return, engine faults, fetch and data access checks (R60, R77 to R87, R306).
-/

namespace Sys2Proof.Machine

/-! ## Engine state (R120) -/

/-- WENn_STATUS.STATE: 0 EMPTY, 1 LOADING, 2 READY, 3 RUN, 4 PARKED, 5 FAULT, 6 STOPPED. -/
def Dev.engState (d : Dev) (n : Nat) : Nat := d.f (R.WEN_STATUS n) 0 3
def Dev.setEngState (d : Dev) (n s : Nat) : Dev := (d.setF (R.WEN_STATUS n) 0 3 s).setB (R.WEN_STATUS n) 17 false

/-- The role bound to an engine (R116). -/
def Dev.roleKind (d : Dev) (n : Nat) : Nat := d.f (R.WEN_ROLE n) 8 3
def Dev.roleRes (d : Dev) (n : Nat) : Nat := d.f (R.WEN_ROLE n) 0 5

/-- The domain a processor lies in (R347). -/
def procPd (p : Nat) : Nat := if p < 64 then 42 + p / 8 else if p = 66 then 1 else 40 + (p - 64)

/-- A processor executes: an engine in RUN, a Main Processor or Custody released and neither halted nor locked up. -/
def Dev.executing (d : Dev) (p : Nat) : Bool :=
  d.pdRun (procPd p) &&
    if p < 64 then d.engState p == 3 else (d.cpu p).run == .running || (d.cpu p).run == .stepping

/-! ## STATUS (R80) -/

def Cpu.sup (c : Cpu) : Bool := bitOf (c.creg 0) 4
def Cpu.ie (c : Cpu) : Bool := bitOf (c.creg 0) 5
def Cpu.exl (c : Cpu) : Bool := bitOf (c.creg 0) 6
def Cpu.ipl (c : Cpu) : Nat := fld (c.creg 0) 8 2
def Cpu.sbg (c : Cpu) : Bool := bitOf (c.creg 0) 10

/-! ## Interrupt sources (R86, R306) -/

/-- SUP_STATUS.EVNOTE, the copy of processor `p` (R356). -/
def Dev.evnote (d : Dev) (p : Nat) : Bool := d.b (bankKey p R.SUP_STATUS) 31

/-- The corrected-ECC count has reached its threshold (R461). -/
def Dev.eccPast (d : Dev) : Bool :=
  d.reg R.DEV_ECCTHR != 0#32 && decide ((d.reg R.DEV_ECCTHR).toNat ≤ (d.reg R.DEV_ECCCNT).toNat)

-- Marked: DEDUCED, log entry 66.
/-- A queue pair has submissions the endpoint has not fetched (R310). -/
def Dev.doorbell (d : Dev) : Bool := d.host.qps.any fun e => e.2.sqHead != e.2.sqTail

/-- A sampling counter holds a record of an instruction of Main Processor `h` (R405). -/
def Dev.sampled (d : Dev) (h : Nat) : Bool := (d.skein.triggered h).any fun k => d.b (R.PMC_SAMP k) 31

-- Marked: DEDUCED, log entry 66.
/-- Whether fixed source `s` of Main Processor `h` is pending (R86). -/
def Dev.mpSource (d : Dev) (h s : Nat) : Bool :=
  match s with
  | 48 => d.reg (R.WENH_FAULTMAP h) != 0#32
  | 49 => decide (d.f R.RIMX_MBPEND (16 + 8 * h) 8 ≠ 0)
  | 50 => !d.tb.late.isEmpty
  | 51 => if h = 0 then d.tok.noticeA else d.tok.noticeB
  | 52 => d.doorbell
  | 53 => d.host.ethReady
  | 54 => d.evnote (64 + h)
  | 55 => d.reg R.MGN_NOTICE != 0#32 || d.mgn.keyNotice
  | 56 => d.sampled h
  | 57 => d.eccPast
  | _ => false

/-- Whether fixed source `s` of Custody is pending (R306). -/
def Dev.custSource (d : Dev) (s : Nat) : Bool :=
  match s with
  | 32 => decide (d.f R.RIMX_MBPEND 0 8 ≠ 0)
  | 33 => decide (d.f R.RIMX_MBPEND 8 8 ≠ 0)
  | 34 => !d.sec.requested.isEmpty
  | 35 => d.tok.noticeC
  | 36 => d.b R.FWU_STATUS 31
  | 37 => d.evnote 66
  | 38 => d.reg R.MGN_NOTICE != 0#32 || d.mgn.keyNotice
  | 39 => d.clp.tagIrq
  | 40 => d.reg R.PWR_REFMAP_LO != 0#32 || d.reg R.PWR_REFMAP_HI != 0#32
  | 41 => d.eccPast
  | _ => false

/-- Whether interrupt source `s` of processor `p` is pending: its mapped channel's latch, or its fixed condition. -/
def Dev.srcPending (d : Dev) (p s : Nat) : Bool :=
  if decide (s < 32) || (p != 66 && decide (s < 48)) then
    match d.imap p s with
    | some ch => d.latched p ch
    | none => false
  else if p = 66 then d.custSource s else d.mpSource (p - 64) s

def Cpu.enabled (c : Cpu) (s : Nat) : Bool := bitOf (c.creg (11 + s / 32)) (s % 32)
def Cpu.prio (c : Cpu) (s : Nat) : Nat := fld (c.creg (13 + s / 16)) (2 * (s % 16)) 2

/-- Some enabled source is pending (R85, `WFI`). -/
def Dev.anyEnabled (d : Dev) (p : Nat) : Bool :=
  (List.range 64).any fun s => (d.cpu p).enabled s && d.srcPending p s

/-- The source taken next: enabled, pending, above IPL; the highest priority, then the lowest number (R85). -/
def Dev.eligible (d : Dev) (p : Nat) : Option Nat :=
  let c := d.cpu p
  if decide (p < 64) || !c.ie || c.exl then none else
    (List.range 64).foldl (fun best s =>
      if c.enabled s && decide (c.ipl < c.prio s) && d.srcPending p s then
        match best with
        | some b => if c.prio b < c.prio s then some s else some b
        | none => some s
      else best) none

/-! ## Retiring and waiting -/

/-- An instruction of processor `p` retires: the pc goes to `next`, budget units and counts are charged (R80, R89). -/
def Dev.retire (d : Dev) (p cost : Nat) (next : Word) : Dev :=
  let pc := (d.cpu p).pc
  let d := d.onCpu p fun c => { c with pc := next, retired := c.retired + 1, units := c.units + cost, wait := .none }
  let d := if p < 64 then d.setB (R.WEN_STATUS p) 17 false else d
  d.retireCount p pc.toNat

/-- A single step ends: the processor is halted again (R450). -/
def Dev.stepEnd (d : Dev) (p : Nat) : Dev :=
  if (d.cpu p).run = .stepping then d.onCpu p fun c => { c with run := .halted } else d

/-- A wait completes at its instruction: budget counting restarts (R126) with the instruction's own `cost` (R89), and
the pc moves on. -/
def Dev.finishWait (d : Dev) (p cost : Nat) (g : Cpu → Cpu) : Dev :=
  let d := d.onCpu p fun c => { g c with units := 0 }
  (d.retire p cost ((d.cpu p).pc + 4#32)).stepEnd p

-- Marked: DESIGN CHOICE, log entry 64.
/-- Processor `p` begins to wait. -/
def Dev.beginWait (d : Dev) (p : Nat) (w : Wait) : Dev :=
  let d := d.onCpu p fun c => { c with wait := w, waitAt := d.clk }
  if p < 64 then d.setB (R.WEN_STATUS p) 17 true else d

/-- `EVWAIT`'s result with the latch set: the latch clears; 1, and the overrun flag clears, when a further event arrived
while it was set (R113). -/
def Dev.takeLatch (d : Dev) (p ch : Nat) : Dev × Word :=
  if d.furtherEvent p ch then
    let d := d.setLatch p ch false
    match d.consSlot ch p with
    | some j => (d.setB (R.EVR_CH_STAT ch) j false, 1#32)
    | none => (d, 1#32)
  else (d.setLatch p ch false, 0#32)

/-- A processor waiting in `EVWAIT` for channel `ch` takes its delivery. -/
def Dev.wakeEvent (d : Dev) (p ch : Nat) : Dev :=
  match (d.cpu p).wait with
  | .event rd c =>
    if c = ch && d.latched p ch then
      let (d, r) := d.takeLatch p ch
      d.finishWait p 0 fun x => x.put rd.val r
    else d
  | _ => d

/-- The reply to a Rim call is taken: status and results to g1 to g6, and the slot is freed (R88). -/
def Dev.takeReply (d : Dev) (p tag : Nat) : Dev :=
  let s := 8 * (p - 64) + tag
  let d := d.onCpu p fun c => (List.range 6).foldl (fun c i => c.put (1 + i) (d.reg (R.RIMX_MB_RES s i))) c
  d.setB R.RIMX_MBPEND (16 + s) false

-- Marked: DEDUCED, log entries 80 and 89.
/-- A waiting `RWAIT` takes its ready reply; a `WFI` ends when an enabled source is pending and none is eligible, for
an eligible one interrupts it (R85, R87). -/
def Dev.wake (d : Dev) (p : Nat) : Dev :=
  match (d.cpu p).wait with
  | .rim tag =>
    if d.b R.RIMX_MBPEND (16 + 8 * (p - 64) + tag) && (d.eligible p).isNone
    then (d.takeReply p tag).finishWait p 1 id else d
  | .wfi => if d.anyEnabled p && (d.eligible p).isNone then d.finishWait p 1 id else d
  | _ => d

/-! ## Faults and exceptions -/

/-- A fault: its code (R77), whether it arose on fetch, and the address or code reported. -/
structure Flt where
  code : Nat
  fetch : Bool := false
  addr : Word := 0#32
  deriving DecidableEq, Repr

/-- What the body of an instruction comes to: it completes, with the next pc where it is not the next instruction; it
takes a fault; it waits; or it has already moved the pc itself. -/
inductive Ex where
  | ok (d : Dev) (cost : Nat)
  | jump (d : Dev) (pc : Word) (cost : Nat)
  | fault (f : Flt)
  | stay (d : Dev)

abbrev ILLEGAL : Flt := { code := 1 }
abbrev PRIV : Flt := { code := 2 }
abbrev STACK : Flt := { code := 5 }
abbrev FRAME : Flt := { code := 6 }
abbrev DIVZ : Flt := { code := 7 }
abbrev IOPORT : Flt := { code := 10 }
abbrev ALIGN (a : Word) : Flt := { code := 3, addr := a }
abbrev ACCESS (a : Word) : Flt := { code := 4, addr := a }
abbrev ECC (a : Word) : Flt := { code := 8, addr := a }

/-- A drain marker goes behind the last result of an engine's placement (R132). -/
def Dev.placeMarker (d : Dev) (n : Nat) : Dev :=
  let h := engHalf n
  let w := d.wen h
  if d.roleKind n = 0 then d else
  d.setWen h { w with markers := w.markers ++ [(d.roleKind n, d.roleRes n, d.f (R.WEN_STATUS n) 24 4)] }

/-- An engine halts in FAULT with its state unchanged: code, pc and address are recorded, FAULTMAP raises source 48, and
a drain marker is placed (R79, R126, R127). -/
def Dev.engineFault (d : Dev) (n code : Nat) (addr : Word) : Dev :=
  let d := d.placeMarker n
  let d := ((d.setReg (R.WEN_FLTCODE n) (wd code)).setReg (R.WEN_FLTPC n) (d.cpu n).pc).setReg (R.WEN_FLTADDR n) addr
  let d := d.setB (R.WENH_FAULTMAP (engHalf n)) (n % 32) true
  (d.onCpu n fun c => { c with wait := .none }).setEngState n 5

/-- Exchanges g31 and KSP. -/
def Cpu.swapSp (c : Cpu) : Cpu := (c.put 31 (c.creg 6)).setCreg 6 (c.get 31)

/-- g31 lies within SPLO to SPHI and is a multiple of 4 (R76, R83). -/
def Cpu.spOk (c : Cpu) : Bool :=
  (c.get 31).toNat % 4 == 0 && decide ((c.creg 7).toNat ≤ (c.get 31).toNat ∧ (c.get 31).toNat ≤ (c.creg 8).toNat)

/-- STATUS after entry: supervisor, interrupts off, EXL, and for an interrupt IPL at the source's priority (R83). -/
def entryStatus (s : Word) (ipl : Option Nat) : Word :=
  let s := setFld (setFld (setFld s 4 1 1) 5 1 0) 6 1 1
  match ipl with
  | some l => setFld s 8 2 l
  | none => s

-- Marked: DEDUCED, log entry 69.
/-- Exception entry as R83 writes it: ESTATUS, EPC, the exchange of g31 and KSP from user mode, STATUS, CAUSE, BADADDR,
and the vector. -/
def Cpu.enter (c : Cpu) (epc cause badaddr : Word) (ipl : Option Nat) : Cpu :=
  let old := c.creg 0
  let c := (c.setCreg 1 old).setCreg 2 epc
  let c := if bitOf old 4 then c else c.swapSp
  let c := ((c.setCreg 0 (entryStatus old ipl)).setCreg 3 cause).setCreg 4 badaddr
  { c with pc := (c.creg 5 &&& 0xFFFFFF00#32) + (if ipl.isSome then 0x80#32 else 0#32), wait := .none }

-- Marked: DEDUCED, log entry 66.
/-- When source 56 is taken, SKID of each record it reports becomes the number of instructions retired since the
trigger, or 15 where the source was not eligible throughout (R405). -/
def Dev.writeSkid (d : Dev) (h : Nat) : Dev :=
  d.forEach (d.skein.triggered h) fun d k =>
    if d.b (R.PMC_SAMP k) 31 then
      d.setF (R.PMC_SAMP k) 0 4 (if tget falseDflt d.skein.late k then 15 else min 12 (tget zeroDflt d.skein.after k))
    else d

/-- Whether an access by the present mode is judged as supervisor. -/
def Cpu.mode (c : Cpu) : Bool := c.sup

/-- Fetch at the pc: alignment, mapping and regions, then ECC (R60, R78, R82). -/
def Dev.fetchFault (d : Dev) (p : Proc) : Option Flt :=
  let c := d.cpu p.num
  let a := c.pc
  if a.toNat % 4 ≠ 0 then some { ALIGN a with fetch := true }
  else match fetchWhere p a.toNat with
  | none => some { ACCESS a with fetch := true }
  | some f =>
    let open_ := match p with
      | .eng _ => true
      | _ => rangeAllowed c.fetchRegions c.sup c.sbg 3 a.toNat 4
    if !open_ then some { ACCESS a with fetch := true }
    else if d.ecc2.contains f then some { ECC a with fetch := true } else none

/-- A single-bit error met by an access is corrected and counted (R64, R461). -/
def Dev.eccCorrect (d : Dev) (f : Nat) : Dev :=
  if d.ecc1.contains (f / 4 * 4) then
    (({ d with ecc1 := d.ecc1.filter (· ≠ f / 4 * 4) }).bump R.DEV_ECCCNT).pmcEvent 0x08
  else d

end Sys2Proof.Machine
end

