-- ==== Sys2Proof/Machine/Gates.lean ====
section
/-!
DEFINITION. Gate Units: the arming contract, disarming, cancelled dependants, outcomes and LATE records (R38 to R52),
and the holding and freeing of transmit buffer entries that gates rest on (R152).
-/

namespace Sys2Proof.Machine

/-! ## LATE records (R41, R47, R52) -/

/-- Shows the oldest record in TBG_LATE_INFO, FIRE and ACC. -/
def Dev.showLate (d : Dev) : Dev :=
  match d.tb.late with
  | [] => ((d.setReg R.TBG_LATE_INFO (pack [(16, d.tb.lateLost)])).setPair R.TBG_LATE_FIRE_LO R.TBG_LATE_FIRE_HI 0).setReg
      R.TBG_LATE_ACC 0#32
  | r :: _ =>
    let info := pack [(31, 1), (30, r.kind), (16, d.tb.lateLost), (11, r.unit), (7, r.slot), (4, r.cls)]
    ((d.setReg R.TBG_LATE_INFO info).setPair R.TBG_LATE_FIRE_LO R.TBG_LATE_FIRE_HI r.fire).setReg R.TBG_LATE_ACC (wd r.acc)

/-- Writes a LATE record; one that finds 32 queued is lost and counted. -/
def Dev.lateRecord (d : Dev) (r : LateRec) : Dev :=
  let d := (d.bump R.TBG_LATE_CNT).pmcEvent 0x04
  if d.tb.late.length < 32 then
    ({ d with tb := { d.tb with late := d.tb.late ++ [r] } }.showLate).hwEvent srcLate
  else { d with tb := { d.tb with lateLost := min 255 (d.tb.lateLost + 1) } }.showLate

/-- TBG_LATE_POP: the oldest record goes; OVERFLOW clears when the queue becomes empty (R52). -/
def Dev.latePop (d : Dev) : Dev :=
  let rest := d.tb.late.drop 1
  { d with tb := { d.tb with late := rest, lateLost := if rest.isEmpty then 0 else d.tb.lateLost } }.showLate

/-! ## Transmit buffer entries (R152) -/

/-- Entry and tag a handle names: [15:6] tag, [5:0] entry. -/
def handleEntry (h : Nat) : Nat := h % 64
def handleTag (h : Nat) : Nat := h / 64 % 1024

/-- Frees an entry and its blocks; the tag stays until the next fill. -/
def Dev.freeEntry (d : Dev) (n h : Nat) : Dev := d.setTxent n h { tag := (d.txent n h).tag }

/-- RELEASE frees a complete entry whose tag matches; a held entry is freed when the hold ends. Any other RELEASE is
ignored. -/
def Dev.releaseEntry (d : Dev) (n handle : Nat) : Dev :=
  let h := handleEntry handle
  let e := d.txent n h
  if e.fill = 2 && e.tag == handleTag handle then
    if e.held then d.setTxent n h { e with relPend := true } else d.freeEntry n h
  else d

/-- The hold of an entry ends. -/
def Dev.endHold (d : Dev) (n h : Nat) : Dev :=
  let e := d.txent n h
  if e.held then if e.relPend then d.freeEntry n h else d.setTxent n h { e with held := false } else d

/-- The handle names a complete entry with that tag. -/
def Dev.entryReady (d : Dev) (n handle : Nat) : Bool :=
  let e := d.txent n (handleEntry handle)
  e.fill == 2 && e.tag == handleTag handle

/-! ## Who may arm (R38, R41, R42) -/

/-- The half that holds the device lead; none before the first GRANT (R269). -/
def Dev.devLead (d : Dev) : Option Nat := if d.leader < 2 then some d.leader else none

/-- R42: a lane's unit is open to its quad's engines and its half's Main Processor; GU16 and GU17 to the half that
holds the device lead. -/
def Dev.unitOpen (d : Dev) (p : Proc) (u : Nat) : Bool :=
  if u < 16 then
    match p with
    | .eng e => e.val / 16 == laneQuad u
    | .mp h => h.toNat == laneHalf u
    | .custody => false
  else if u < 18 then
    match p.half with
    | some h => d.leader == h
    | none => false
  else false

-- Marked: DEDUCED, log entry 100.
/-- Classes a unit takes; a lane or trunk that drains takes classes 0 to 5 no longer, until its next
ENABLE (R38, R157, R208). -/
def Dev.classOpen (d : Dev) (u cls : Nat) : Bool :=
  if cls = 6 then true else decide (cls < 6 ∧ u < 17) && !(d.radio u).shut

/-- The lead a request of class `c` is judged by: in the tick of an update, the larger of the old and the new (R40). -/
def pairDflt (_ : Nat) : Nat × Nat := (0, 0)
def Dev.leadOf (d : Dev) (c : Nat) : Nat :=
  let now := d.f (R.TBG_LEAD c) 0 16
  let (old, at_) := tget pairDflt d.tb.leadPrev c
  if at_ = d.clk then max old now else now

/-- Writes a class's lead, keeping the largest lead of this tick for R40. -/
def Dev.setLead (d : Dev) (c v : Nat) : Dev :=
  let old := d.leadOf c
  { d with tb := { d.tb with leadPrev := tput pairDflt d.tb.leadPrev c (old, d.clk) } }.setF (R.TBG_LEAD c) 0 16 v

/-! ## The order in which the requests of one tick are judged (R40, R105) -/

-- Marked: DESIGN CHOICE, log entry 102.
/-- A request of a later requester has been judged by unit `u` in this clock period already: engines come first, in ascending
number, then MP-A, then MP-B. -/
def Dev.overtaken (d : Dev) (p : Proc) (u : Nat) : Bool :=
  let (at_, q) := tget pairDflt d.tb.judged u
  at_ == d.clk + 1 && decide (p.num < q)

-- Marked: DESIGN CHOICE, log entries 102 and 118.
/-- A request of `p` to unit `u` is not taken yet: a later requester's has overtaken it in this tick, or the unit's domain
is in Prepare, so that the unit takes no new handshake until the domain resumes or stops (R50, R350, R460). -/
def Dev.notYet (d : Dev) (p : Proc) (u : Nat) : Bool := d.overtaken p u || (decide (u < 18) && d.pdPrep (guPd u))

/-- A request of `p` has been judged by unit `u` at this count. -/
def Dev.noteJudged (d : Dev) (p : Proc) (u : Nat) : Dev :=
  { d with tb := { d.tb with judged := tput pairDflt d.tb.judged u (d.clk + 1, p.num) } }

/-- An arm request of class `c` has been judged at this count: its lead is known, and no longer rises in this tick. -/
def Dev.leadKnown (d : Dev) (c : Nat) : Bool := tget zeroDflt d.tb.judgedCls c == d.clk + 1

/-- A request of class `c` has been judged at this count. -/
def Dev.noteLead (d : Dev) (c : Nat) : Dev :=
  { d with tb := { d.tb with judgedCls := tput zeroDflt d.tb.judgedCls c (d.clk + 1) } }

/-- An arm request of `p` for class `cls` has been judged by unit `u` at this count. -/
def Dev.judge (d : Dev) (p : Proc) (u cls : Nat) : Dev := (d.noteJudged p u).noteLead cls

/-! ## Slots -/

def Dev.armOf (d : Dev) (u k : Nat) : Option Arming := (d.slot u k).arm

/-- The armed slots of a unit. -/
def Dev.armed (d : Dev) (u : Nat) : List (Nat × Arming) :=
  (List.range 16).filterMap fun k => (d.armOf u k).map fun a => (k, a)

/-- Whether any slot of any Gate Unit is armed (R31). -/
def Dev.anyArmed (d : Dev) : Bool := (List.range 18).any fun u => !(d.armed u).isEmpty

/-- Outcome of an arming that has ended (R107). -/
def Dev.outcome (d : Dev) (id : Nat) : Option Nat :=
  let v := tget zeroDflt d.outcomes id
  if v = 0 then none else some (v - 1)

def Dev.setOutcome (d : Dev) (id o : Nat) : Dev := { d with outcomes := tput zeroDflt d.outcomes id (o + 1) }

/-- Marks every dependant of arming `id`, armed or already cancelled, for cancellation at count `at_` (R44). -/
def Dev.doomDeps (d : Dev) (u id o at_ : Nat) : Dev :=
  d.forEach (List.range 16) fun d k =>
    match d.armOf u k with
    | some a =>
      if a.pred = some id && a.doom.isNone
      then d.setSlot u k { d.slot u k with arm := some { a with doom := some (o, at_) } } else d
    | none => d

/-- Slot `k` becomes free with last outcome `o`. -/
def Dev.freeSlot (d : Dev) (u k o : Nat) : Dev :=
  (d.setSlot u k { arm := none, last := o }).setB (R.GU_ARMED u) k false

/-- The arming `a` in slot `k` ends with outcome `o`: fired (0), missed (1), denied (2) or disarmed (3). Any outcome
but 0 cancels its dependants at its firing count (R44). -/
def Dev.endArming (d : Dev) (u k : Nat) (a : Arming) (o : Nat) : Dev :=
  let d := (d.freeSlot u k o).setOutcome a.id o
  if o = 0 then d else d.doomDeps u a.id o a.fire

/-- One pass of the cancellations that the count has reached: a doomed slot is freed, its own dependants are doomed at
its firing count, and at that count its outcome becomes visible. -/
def Dev.settleOnce (d : Dev) (u : Nat) : Dev :=
  let d := d.forEach (d.armed u) fun d ka =>
    match ka.2.doom with
    | some (o, at_) =>
      if at_ ≤ d.count then
        let d := if ka.2.checked then d.endHold u (handleEntry ka.2.param) else d
        let d := d.freeSlot u ka.1 o
        let d := { d with ghosts := d.ghosts ++ [(u, ka.2)] }
        d.doomDeps u ka.2.id o ka.2.fire
      else d
    | none => d
  let done := d.ghosts.filter fun g => decide (g.2.fire ≤ d.count)
  let d := d.forEach done fun d g =>
    match g.2.doom with
    | some (o, _) => d.setOutcome g.2.id o
    | none => d
  { d with ghosts := d.ghosts.filter fun g => !decide (g.2.fire ≤ d.count) }

/-- A chain holds at most 16 armings, so 16 passes settle a unit. -/
def settleN : Nat → Dev → Nat → Dev
  | 0, d, _ => d
  | n + 1, d, u => settleN n (d.settleOnce u) u

/-- Whether some cancellation of a unit is due. -/
def Dev.unsettled (d : Dev) (u : Nat) : Bool :=
  (d.armed u).any (fun ka => match ka.2.doom with | some (_, t) => decide (t ≤ d.count) | none => false) ||
  d.ghosts.any fun g => decide (g.2.fire ≤ d.count)

/-- Brings a unit's cancellations up to the present count. -/
def Dev.settle (d : Dev) (u : Nat) : Dev := if d.unsettled u then settleN 17 d u else d

/-! ## Arming (R41) -/

/-- The result codes of GUn_ARMRES. -/
abbrev gOK : Nat := 0
abbrev gLATE : Nat := 1
abbrev gBUSY : Nat := 2
abbrev gNOTPERM : Nat := 3
abbrev gNOPRED : Nat := 4
abbrev gCONFLICT : Nat := 5

-- Marked: DESIGN CHOICE, log entry 93.
/-- One arm request, judged at the present count by the first row of R41 that applies; the slot and the result. -/
def Dev.arm (d : Dev) (p : Proc) (u cls fire param : Nat) (pred : Option Nat) : Dev × Nat × Nat :=
  let d := (d.settle u).judge p u cls
  if d.tbState = 0 || !decide (u < 18) || !d.unitOpen p u || !d.classOpen u cls || !d.pdRun (guPd u) then (d, 0, gNOTPERM)
  else
    let predArm := match pred with | some k => d.armOf u k | none => none
    if pred.isSome && predArm.isNone then (d, 0, gNOPRED)
    else if (d.armed u).any (fun ka => ka.2.cls == cls && ka.2.fire == fire) then (d, 0, gCONFLICT)
    else if fire < d.count + d.leadOf cls || fire ≤ d.count then
      (d.lateRecord { kind := 0, unit := u, slot := 0, cls := cls, fire := fire, acc := d.count % 2 ^ 32 }, 0, gLATE)
    else match (List.range 16).find? fun k => (d.armOf u k).isNone with
      | none => (d, 0, gBUSY)
      | some k =>
        let a : Arming := { id := d.armSeq, cls := cls, fire := fire, param := param, pred := predArm.map Arming.id }
        let d := { d with armSeq := d.armSeq + 1 }
        ((d.setSlot u k { d.slot u k with arm := some a }).setB (R.GU_ARMED u) k true, k, gOK)

/-! ## Disarming (R49, R106) -/

-- Marked: DESIGN CHOICE, log entry 101.
/-- Disarms slot `k` if at least 320 ticks remain before its firing count (R49): the result, 0 or 1. A disarm at exactly
F − 320 after the check of that tick ends the hold of the gate's entry, as a cancellation does (log entry 101). -/
def Dev.disarmSlot (d : Dev) (u k : Nat) : Dev × Nat :=
  match d.armOf u k with
  | some a =>
    if d.count + 320 ≤ a.fire then
      ((if a.checked then d.endHold u (handleEntry a.param) else d).endArming u k a 3, gOK)
    else (d, gLATE)
  | none => (d, gLATE)

/-- A disarm request (R106). -/
def Dev.disarm (d : Dev) (p : Proc) (u k : Nat) : Dev × Nat :=
  let d := (d.settle u).noteJudged p u
  if !decide (u < 18) || !d.unitOpen p u || !d.pdRun (guPd u) then (d, gNOTPERM) else d.disarmSlot u k

/-! ## Firing (R33, R43, R45) -/

-- Marked: DESIGN CHOICE, log entry 9.
/-- The arming of slot `k` is due: its count has come and no arming of its unit that is due comes before it, by firing
count and then class (R33, R45). Nothing fires in Timebase state 0 (R28). -/
def Dev.due (d : Dev) (u k cls : Nat) : Option Arming :=
  match d.armOf u k with
  | some a =>
    if a.cls = cls && decide (a.fire ≤ d.count) && d.tbState != 0 && d.pdRun (guPd u) &&
        (d.armed u).all (fun ka => ka.1 == k || decide (a.fire < ka.2.fire) ||
          (ka.2.fire == a.fire && decide (a.cls < ka.2.cls)))
    then some a else none
  | none => none

/-- The arming fires: it ends with outcome 0 and is counted (R43, R402). -/
def Dev.fired (d : Dev) (u k : Nat) (a : Arming) : Dev := (d.endArming u k a 0).pmcEvent 0x05

/-- An EVT gate posts on its channel (R38). -/
def Dev.fireEvt (d : Dev) (u k : Nat) : Dev :=
  let d := d.settle u
  match d.due u k 6 with
  | some a => (d.fired u k a).post (a.param % 256)
  | none => d

/-- The frame-complete check of a TXS at F − 320: the entry is held for the gate, or the gate is missed with a LATE
record of kind 1 (R47). `ready` says whether the frame is complete. -/
def Dev.checkArm (d : Dev) (u k : Nat) (a : Arming) (ready : Bool) : Dev :=
  if ready then
    let d := d.setSlot u k { d.slot u k with arm := some { a with checked := true } }
    if u < 16 then
      let h := handleEntry a.param
      d.setTxent u h { d.txent u h with held := true }
    else d
  else
    (d.endArming u k a 1).lateRecord
      { kind := 1, unit := u, slot := k, cls := 5, fire := a.fire, acc := d.count % 2 ^ 32 }

end Sys2Proof.Machine
end

