-- ==== Sys2Proof/Machine/Votes.lean ====
section
/-!
DEFINITION. Votes on a power domain (R348 to R352): what changing one vote sets going.
-/

namespace Sys2Proof.Machine

/-- How many hardware voters a domain has, V0 upward (R347). -/
def hwVoters (n : Nat) : Nat :=
  if n < 2 then 0
  else if n = 2 then 4
  else if n = 3 then 3
  else if n < 12 then 1
  else if n = 12 then 2
  else if n < 16 then 1
  else if n < 32 then 4
  else if n < 40 then 1
  else if n < 42 then 3
  else if n < 50 then 8
  else if n < 54 then 1 else 0

/-- A word's set bits. -/
def popc (w : Word) : Nat := ((List.range 32).filter fun i => w.getLsbD i).length

/-- The lowest set bit of a word; 31 for zero. -/
def lowBit (w : Word) : Nat := ((List.range 32).find? fun i => w.getLsbD i).getD 31

/-- Prepare begins: the first voter is asked (R350). -/
def Dev.beginPrepare (d : Dev) (n : Nat) : Dev :=
  { d with power := { d.power with prep := tput pairDflt d.power.prep n (0, d.clk) } }.setB (R.PWR_PD_STAT n) 30 true

/-- Run entry is ordered (R348, R352). -/
def Dev.beginEntry (d : Dev) (n : Nat) : Dev :=
  if tget zeroDflt d.power.entry n = 0
  then { d with power := { d.power with entry := tput zeroDflt d.power.entry n (d.clk + 1) } } else d

/-- Sets or withdraws vote `v` of domain `n`. The last vote withdrawn starts Prepare, as does any withdrawal while a
refused stop awaits retry; a vote added to a stopped domain starts Run entry, and one added while RETRY_PEND is set
clears it (R350 to R352). PD0 and PD1 never stop. A vote added during Prepare is found when the next voter answers. -/
def Dev.vote (d : Dev) (n v : Nat) (on_ : Bool) : Dev :=
  let old := d.reg (R.PWR_PD_VOTES n)
  let new := setBit old v on_
  if new = old then d else
  let d := (d.setReg (R.PWR_PD_VOTES n) new).setF (R.PWR_PD_STAT n) 0 6 (popc new)
  if on_ then
    let d := d.setB (R.PWR_PD_STAT n) 29 false
    if d.pdRun n then d else d.beginEntry n
  else if new = 0#32 && decide (2 ≤ n) && d.pdRun n && !d.pdPrep n then d.beginPrepare n
  else d

end Sys2Proof.Machine
end

