-- ==== Sys2Proof/Machine/Wave.lean ====
section
/-!
DEFINITION. Waveforms: PHY entries, what a frame is on air, and how a received frame's header and check sequence are
judged (R155, R186 to R191, R196, R197).
-/

namespace Sys2Proof.Machine

/-! ## PHY entries (R186, R187, R189) -/

/-- KIND of a PHY word: 0 invalid, 1 SUN FSK, 2 O-QPSK; 3 acts as 0. -/
def phyKind (w : Word) : Nat := let k := fld w 30 2; if k = 3 then 0 else k

/-- FEC of a PHY word; 3 acts as 0. -/
def phyFec (w : Word) : Nat := let k := fld w 24 2; if k = 3 then 0 else k

/-- Octets of FCS on transmit. -/
def phyFcs (w : Word) : Nat := if phyKind w = 1 && bitOf w 21 then 4 else 2

/-- Symbols per second. -/
def phySym (w : Word) : Nat := if phyKind w = 1 then 50000 * (1 + fld w 27 2) else 62500

/-- Bits per second. -/
def phyBits (w : Word) : Nat := if phyKind w = 1 then phySym w * (if bitOf w 29 then 2 else 1) else 250000

/-- A preamble length held within 4 to 1,000 octets. -/
def phyPre (n : Nat) : Nat := max 4 (min 1000 n)

/-- The entry PHYSEL `i` names: one of 32, and KIND 0 for any other. -/
def Dev.phy (d : Dev) (i : Nat) : Word := if i < 32 then d.reg (R.MAC_PHY i) else 0#32

-- Marked: PRESUMED, log entry 12.
/-- Bits on air of a frame: preamble and SFD, then PHR and PSDU; with FEC these carry the tail and pad bits of the
standard and are coded at rate 1/2 (R186; log entry 12). -/
def frameBits (w : Word) (pre len : Nat) (coded : Bool) : Nat :=
  if phyKind w = 2 then 8 * (6 + len) else
  let body := 8 * (2 + len)
  8 * (pre + 2) + (if coded then 2 * (body + 3 + (if len % 2 = 1 then 5 else 13)) else body)

-- Marked: PRESUMED, log entry 12.
/-- Airtime in ticks, rounded up to a tick. -/
def airtime (w : Word) (pre len : Nat) (coded : Bool) : Nat :=
  cdiv (frameBits w pre len coded * 160000000) (phyBits w)

/-- The two-octet FCS of IEEE 802.15.4. -/
def fcs16 (l : List Byte) : Nat :=
  l.foldl (fun c b =>
    (List.range 8).foldl (fun c _ => if c % 2 = 1 then (c / 2) ^^^ 0x8408 else c / 2) (c ^^^ b.toNat)) 0

/-- A frame with its FCS appended. -/
def withFcs (phy : Word) (l : List Byte) : List Byte :=
  l ++ if phyFcs phy = 4 then natBytes 4 (crc32 l).toNat else natBytes 2 (fcs16 l)

/-! ## Bits on air (R186, R187) -/

/-- The bits of octets, low bit of each first. -/
def bitsLow (l : List Byte) : List Bool := l.flatMap fun x => (List.range 8).map x.getLsbD

/-- An `n`-bit number, high bit first. -/
def bitsHigh (n v : Nat) : List Bool := (List.range n).map fun i => v.testBit (n - 1 - i)

-- Marked: PRESUMED, log entry 106.
/-- The 16 bits of phySunFskSfd, first bit highest: uncoded or coded, for either value (IEEE 802.15.4; log entry 106). -/
def sfdWord (w : Word) (coded : Bool) : BitVec 16 :=
  if bitOf w 23 then (if coded then 0x632D#16 else 0x7A0E#16) else (if coded then 0x6F4E#16 else 0x904E#16)

-- Marked: PRESUMED, log entry 106.
/-- `bits` exclusive-or the PN9 sequence x^9 + x^5 + 1, whose register holds `s` (IEEE 802.15.4; log entry 106). -/
def whiten : Nat → List Bool → List Bool
  | _, [] => []
  | s, b :: r => (b ^^ s.testBit 0) :: whiten (s / 2 + 256 * ((s ^^^ (s / 32)) % 2)) r

-- Marked: PRESUMED, log entry 106.
/-- PHR of an FSK frame: mode switch 0, two reserved bits, FCS type (1 for 2 octets), DW, and the length in 11 bits. -/
def fskPhr (w : Word) (len : Nat) : Nat := 4096 * b2n (phyFcs w == 2) + 2048 * b2n (bitOf w 22) + len % 2048

/-- The octets of bits, low bit of each first. -/
def bitOctets : List Bool → List Byte
  | a :: b :: c :: d :: e :: f :: g :: h :: r =>
    BitVec.ofNat 8 (b2n a + 2 * b2n b + 4 * b2n c + 8 * b2n d + 16 * b2n e + 32 * b2n f + 64 * b2n g + 128 * b2n h) :: bitOctets r
  | _ => []

-- Marked: PRESUMED, log entry 106.
/-- The rate-1/2 codes of IEEE 802.15.4 for SUN FSK, of constraint length 4 with register `a b c`, newest first: NRNSC with
1 + D + D^2 + D^3 and 1 + D^2 + D^3, or RSC, systematic with the first of these as its feedback (R186; log entry 106). -/
def fskConv (rsc : Bool) : Bool → Bool → Bool → List Bool → List (Bool × Bool)
  | _, _, _, [] => []
  | a, b, c, x :: r =>
    let f := a ^^ b ^^ c
    let s := if rsc then x ^^ f else x
    (if rsc then x else s ^^ f, s ^^ b ^^ c) :: fskConv rsc s a b r

/-- The register after bits have gone in. -/
def fskState (rsc : Bool) : Bool → Bool → Bool → List Bool → Bool × Bool × Bool
  | a, b, c, [] => (a, b, c)
  | a, b, c, x :: r => fskState rsc (if rsc then x ^^ (a ^^ b ^^ c) else x) a b r

-- Marked: PRESUMED, log entry 106.
/-- PHR and PSDU with the tail that clears the register and the pad that fills the interleaver (log entries 12 and 106). -/
def fskTail (rsc : Bool) (body : List Bool) : List Bool :=
  let (a, b, c) := fskState rsc false false false body
  body ++ (if rsc then [a ^^ b ^^ c, a ^^ b, a] else [false, false, false]) ++
    if body.length % 16 = 8 then bitsHigh 5 11 else bitsHigh 13 0xB0B

-- Marked: PRESUMED, log entry 106.
/-- The interleaver: of every 16 code symbols, the one sent as `k` is number 15 − 4 (k mod 4) − k div 4 (log entry 106). -/
def fskInterleave (l : List (Bool × Bool)) : List Bool :=
  (List.range l.length).flatMap fun k =>
    let (x, y) := l.getD (k / 16 * 16 + (15 - 4 * (k % 4) - k % 16 / 4)) (false, false)
    [x, y]

/-- The FEC of the SUN FSK PHY, 1 NRNSC and 2 RSC with interleaving: the coded bits of a PHR and PSDU (R186). -/
def fskCode (fec : Nat) (body : List Bool) : List Bool :=
  fskInterleave (fskConv (fec == 2) false false false (fskTail (fec == 2) body))

-- Marked: PRESUMED, log entry 106.
/-- The 32 chips of an O-QPSK symbol (R187): symbol 0's, turned by 4 chips for each symbol after it, with the odd chips
inverted for symbols 8 to 15 (IEEE 802.15.4; log entry 106). -/
def chips (sym : Nat) : List Bool :=
  (List.range 32).map fun i => ((0x744AC39B : Nat).testBit ((i + 32 - 4 * (sym % 8)) % 32)) ^^ (decide (8 ≤ sym) && i % 2 == 1)

-- Marked: PRESUMED, log entry 106.
/-- Octets spread over chips at 2 Mchip/s, low nibble first (R187). -/
def spread (l : List Byte) : List Bool := l.flatMap fun x => chips (x.toNat % 16) ++ chips (x.toNat / 16)

-- Marked: PRESUMED, log entry 106.
/-- A frame of `pre` preamble octets and a PSDU as it leaves under PHY entry `w`: bits on FSK, chips on O-QPSK. -/
def frameAir (w : Word) (pre : Nat) (psdu : List Byte) : List Bool :=
  if phyKind w = 2 then spread ([0#8, 0#8, 0#8, 0#8, 0xA7#8, BitVec.ofNat 8 psdu.length] ++ psdu)
  else
    let coded := phyFec w != 0
    let one : List Bool := if bitOf w 29 then [false, true, true, true] else [false, true]
    let preamble := (List.replicate (8 * pre / one.length) one).flatten
    let body := bitsHigh 16 (fskPhr w psdu.length) ++
      if bitOf w 22 then whiten 0x1FF (bitsLow psdu) else bitsLow psdu
    preamble ++ bitsHigh 16 (sfdWord w coded).toNat ++ if coded then fskCode (phyFec w) body else body

/-! ## Measures (R193) -/

/-- Decimal digits of a number less one. -/
def log10 : Nat → Nat → Nat → Nat
  | 0, n, _ => n
  | f + 1, n, x => if x < 10 then n else log10 f (n + 1) (x / 10)

-- Marked: PRESUMED, log entry 106.
/-- `k` × log10 of a ratio of two numbers above 0, rounded down in magnitude (R193). -/
def logRatio (k x y : Nat) : Int :=
  if y ≤ x then log10 20000 0 (x ^ k / y ^ k) else -(log10 20000 0 (y ^ k / x ^ k) : Int)

/-- The largest number of at most `n` bits whose square is not above `x`. -/
def isqrt : Nat → Nat → Nat
  | 0, _ => 0
  | n + 1, x => let r := 2 * isqrt n (x / 4); if (r + 1) * (r + 1) ≤ x then r + 1 else r

/-! ## A received frame (R188, R191) -/

/-- Bits of two 16-bit values that differ. -/
def wrongBits (a b : BitVec 16) : Nat := ((List.range 16).filter fun i => a.getLsbD i != b.getLsbD i).length

/-- Whether what arrived is an SFD of PHY entry `w`, and then whether the coded one: at most one bit in error of 16 on
FSK, the coded SFD being searched where FEC is not 0; at most 4 chips in error in each O-QPSK symbol. -/
def sfdMatch (w : Word) : SfdSeen → Option Bool
  | .fsk x =>
    if phyKind w ≠ 1 then none
    else if wrongBits x (sfdWord w false) ≤ 1 then some false
    else if phyFec w ≠ 0 ∧ wrongBits x (sfdWord w true) ≤ 1 then some true
    else none
  | .oqpsk e1 e2 => if phyKind w = 2 ∧ e1.val ≤ 4 ∧ e2.val ≤ 4 then some false else none

end Sys2Proof.Machine

namespace Sys2Proof

open Sys2Proof.Machine

-- Marked: PRESUMED, log entry 106.
/-- RSSI in 0.25 dB steps, in dBm: the mean power over the detection window (R193); −32,768 for no power at all. -/
def Measures.rssi (m : Measures) : Int :=
  let p := m.window.foldl (· + ·) 0
  if p = 0 then -32768 else max (-32768) (min 32767 (logRatio 40 p m.window.length - 600))

-- Marked: PRESUMED, log entry 106.
/-- The SNR estimate in 1/16 dB; with no error power it is above every limit, with no signal below (R193). -/
def Measures.snr (m : Measures) : Int :=
  if m.error = 0 then 4096 else if m.signal = 0 then -4096 else logRatio 160 m.signal m.error

-- Marked: PRESUMED, log entry 106.
/-- EVM magnitude in 0.1 dB (R193). -/
def Measures.evm (m : Measures) : Nat :=
  if m.error = 0 ∨ m.signal = 0 then 65535 else min 65535 (logRatio 100 m.signal m.error).natAbs

-- Marked: PRESUMED, log entry 106.
/-- Deviation error in 0.1 % of the nominal deviation, rounded down (R193). -/
def Measures.devErr (m : Measures) : Nat :=
  if m.devs.isEmpty then 0 else min 65535 (isqrt 64 (m.devs.foldl (fun s x => s + x.natAbs * x.natAbs) 0 / m.devs.length))

-- Marked: PRESUMED, log entry 106.
/-- Length a PHR declares: 11 bits on FSK, 7 on O-QPSK. -/
def RxEnd.len (e : RxEnd) (w : Word) : Nat := if phyKind w = 2 then e.phr.toNat % 128 else e.phr.toNat % 2048

-- Marked: PRESUMED, log entry 106.
/-- Octets of FCS a PHR signals. -/
def RxEnd.fcs (e : RxEnd) (w : Word) : Nat := if phyKind w = 1 && !e.phr.getLsbD 12 then 4 else 2

-- Marked: PRESUMED, log entry 106.
/-- The PHR abandons the frame: it fails the PHR check, has the mode-switch bit, or declares less than the FCS (R188). -/
def RxEnd.abandons (e : RxEnd) (w : Word) : Bool :=
  !e.phrOk || (phyKind w == 1 && e.phr.getLsbD 15) || decide (e.len w < e.fcs w)

/-- The PSDU: what came on air, de-whitened where the DW bit of an FSK frame's PHR says so (R186). -/
def RxEnd.psdu (e : RxEnd) (w : Word) : List Byte :=
  if phyKind w = 1 && e.phr.getLsbD 11 then bitOctets (whiten 0x1FF (bitsLow e.onAir)) else e.onAir

/-- The last octets of the PSDU are the FCS of those before. -/
def RxEnd.fcsGood (e : RxEnd) (w : Word) : Bool :=
  let l := e.psdu w
  let n := l.length - e.fcs w
  l.drop n == if e.fcs w = 4 then natBytes 4 (crc32 (l.take n)).toNat else natBytes 2 (fcs16 (l.take n))

/-- Status of a receive record: 0 received, 1 FCS failed, 2 abandoned (R153, R188). -/
def RxEnd.status (e : RxEnd) (w : Word) : Nat := if e.abandons w then 2 else if e.fcsGood w then 0 else 1

/-- The octets a record delivers; an abandoned one carries none. -/
def RxEnd.octets (e : RxEnd) (w : Word) : List Byte := if e.abandons w then [] else e.psdu w

end Sys2Proof

namespace Sys2Proof.Machine

/-! ## The trunk's frame (R194 to R197) -/

/-- CRC-8 with x^8 + x^2 + x + 1, high bit first. -/
def crc8 (bits : List Bool) : Nat :=
  bits.foldl (fun c b => if (decide (128 ≤ c)) ^^ b then (2 * c) % 256 ^^^ 7 else (2 * c) % 256) 0

/-- The 40 header bits (R196). -/
def trunkHeader (type src dst len rate mgen nsnd : Nat) : Nat :=
  (((((type % 4 * 256 + src % 256) * 256 + dst % 256) * 16384 + len % 16384) * 4 + rate % 4) * 16 + mgen % 16) * 4 + nsnd % 4

-- Marked: DESIGN CHOICE, log entry 108.
/-- The 48 bits sent: bits 0 to 39 of the header, then those of its CRC-8, low bit first. Bit k goes on sub-carrier dk of the
first header symbol and on d(47 − k) of the second. -/
def headerSymbols (h : Nat) : List Bool × List Bool :=
  let bits := (List.range 40).map h.testBit ++ (List.range 8).map (crc8 (bitsHigh 40 h)).testBit
  (bits, bits.reverse)

/-! ## Tones, pilots and constellations (R194, R195, R197) -/

/-- The used tones, −26 to −1 and 1 to 26. -/
def usedTones : List Int := ((List.range 53).map fun i => Int.ofNat i - 26).filter (· ≠ 0)

/-- The tones of d0 to d47, in ascending frequency. -/
def dataTones : List Int := usedTones.filter fun t => !([-21, -7, 7, 21] : List Int).contains t

-- Marked: DESIGN CHOICE, log entry 108.
/-- A BPSK point. -/
def bpsk (b : Bool) : Int × Int := if b then (1, 0) else (-1, 0)

/-- `bits` exclusive-or the x^7 + x^4 + 1 scrambler, whose register holds `s`. -/
def scramble : Nat → List Bool → List Bool
  | _, [] => []
  | s, b :: r =>
    let f := (s / 64 + s / 8) % 2
    (b ^^ (f == 1)) :: scramble (s * 2 % 128 + f) r

-- Marked: DESIGN CHOICE, log entry 108.
/-- The pilots of symbol `n`, counted from the first header symbol: the 127-element polarity sequence, which is the scrambler's
from all ones, with the sign of tone +21 turned (R194; IEEE 802.11, log entry 108). -/
def pilots (n : Nat) : List (Int × Int × Int) :=
  let p := (scramble 0x7F (List.replicate 127 false)).getD (n % 127) false
  [(-21, bpsk !p), (-7, bpsk !p), (7, bpsk !p), (21, bpsk p)]

/-- A symbol: points on the data sub-carriers that carry one, and the pilots. -/
def trunkSymbol (n : Nat) (l : List (Option (Int × Int))) : List (Int × Int × Int) :=
  ((dataTones.zip l).filterMap fun x => x.2.map fun y => (x.1, y)) ++ pilots n

/-- Information bits of a codeword at a rate. -/
def ldpcK (rate : Nat) : Nat := [1152, 1536, 1920].getD rate 1920

/-- Cuts a list into pieces of `n`, the last filled with zero bits. -/
def cutBits (n : Nat) : Nat → List Bool → List (List Bool)
  | 0, _ => []
  | k + 1, l => ((l.take n ++ List.replicate (n - l.length) false)) :: cutBits n k (l.drop n)

/-- The coded bits of a payload: with its CRC-32, scrambled, filled to whole codewords and coded (R197). -/
def trunkCoded (rate : Nat) (payload : List Byte) : List Bool :=
  let all := payload ++ natBytes 4 (crc32 payload).toNat
  let k := ldpcK rate
  (cutBits k (cdiv (8 * all.length) k) (scramble 0x7F (bitsLow all))).flatMap (Config.ldpcEncode rate)

/-- One data symbol: the point each sub-carrier of the map takes, none where it carries no bit. -/
def loadSymbol : List Nat → List Bool → List (Option (Int × Int))
  | [], _ => []
  | b :: r, l => (if b = 0 then none else some (Config.constellation (l.take b))) :: loadSymbol r (l.drop b)

/-- The data symbols of coded bits over a map, the last filled with zero bits (R197). -/
def trunkSymbols (m : List Nat) (coded : List Bool) : List (List (Option (Int × Int))) :=
  let n := m.foldl (· + ·) 0
  (cutBits n (cdiv coded.length n) coded).map (loadSymbol m)

/-- A trunk frame's symbols from its header on: two of the header, `nsnd` of sounding, and the data (R194 to R197). -/
def trunkFrameSymbols (h nsnd : Nat) (data : List (List (Option (Int × Int)))) : List (List (Int × Int × Int)) :=
  let (a, b) := headerSymbols h
  let known := usedTones.map fun t => (t, bpsk (Config.soundingBit t))
  trunkSymbol 0 (a.map fun x => some (bpsk x)) :: trunkSymbol 1 (b.map fun x => some (bpsk x)) ::
    (List.replicate nsnd known ++ data.mapIdx fun i x => trunkSymbol (2 + nsnd + i) x)

end Sys2Proof.Machine
end

