-- ==== Sys2Proof/Machine/Chain.lean ====
section
/-!
DEFINITION. The arithmetic of the filter chain: rounding and saturation, the decimators, the rank stage and impulse
detection, the channel FIR with its cross-fade, and the fractional delay (R163, R167, R169, R170, R172).
-/

namespace Sys2Proof.Machine

/-! ## Narrowing (R169) -/

/-- r ÷ 2^g, to nearest with ties to even. -/
def roundEven (g : Nat) (r : Int) : Int :=
  let q := r / 2 ^ g
  let rest := 2 * (r % 2 ^ g)
  if rest < 2 ^ g then q else if 2 ^ g < rest then q + 1 else if q % 2 = 0 then q else q + 1

/-- A full-precision result narrowed to `w` bits: SHIFT `s` where `shift` holds, else ROUND with growth `g`; the flag says
that it saturated. -/
def narrow (shift : Bool) (s g w : Nat) (r : Int) : Int × Bool :=
  let x := if shift then r / 2 ^ s else roundEven g r
  let y := max (-2 ^ (w - 1)) (min (2 ^ (w - 1) - 1) x)
  (y, y != x)

/-- Both components of a sample narrowed. -/
def narrowS (shift : Bool) (s g w : Nat) (x : Sample) : Sample × Bool :=
  let (i, a) := narrow shift s g w x.i
  let (q, b) := narrow shift s g w x.q
  (⟨i, q⟩, a || b)

/-! ## Sums over a history -/

/-- The sum of coefficients times samples, newest sample first. -/
def firSum : List Int → List Sample → Sample
  | c :: cs, x :: xs => ⟨c * x.i + (firSum cs xs).i, c * x.q + (firSum cs xs).q⟩
  | _, _ => ⟨0, 0⟩

/-- One sample into a decimating filter, which gives an output for every `r`-th: the stage, the output if one comes, and
whether it saturated. -/
def decimate (taps : List Int) (r : Nat) (put : Sample → Sample × Bool) (g : Decimator) (x : Sample) :
    Decimator × Option Sample × Bool :=
  let h := (x :: g.hist).take taps.length
  let g := { hist := h, n := (g.n + 1) % r }
  if g.n = 0 then let (y, s) := put (firSum taps h); (g, some y, s) else (g, none, false)

/-- The next stage, where the one before has given a sample. -/
def thenStage (f : Decimator → Sample → Decimator × Option Sample × Bool) (g : Decimator) :
    Option Sample → Decimator × Option Sample × Bool
  | some x => f g x
  | none => (g, none, false)

/-! ## The shared front stages (R163, R167) -/

/-- One more boxcar of `r` over taps. -/
def boxcar (r : Nat) (l : List Int) : List Int :=
  (List.range (l.length + r - 1)).map fun i => (List.range r).foldl (fun s j => if j ≤ i then s + l.getD (i - j) 0 else s) 0

/-- The taps of the order-4 CIC that decimates by `r`. -/
def cicTaps (r : Nat) : List Int := boxcar r (boxcar r (boxcar r (boxcar r [1])))

-- Marked: DESIGN CHOICE, log entry 107.
/-- The 23 taps of a halfband in Q1.14 from its 6 distinct coefficients, outermost first: the even taps but the centre,
which is 0.5, are zero. -/
def halfbandTaps (c : List Int) : List Int :=
  (List.range 23).map fun i =>
    let k := if i < 12 then i else 22 - i
    if i = 11 then 8192 else if k % 2 = 0 then c.getD (k / 2) 0 else 0

/-- One corrected digitizer code through mixer, CIC, HB1 and HB2 of front setting `front` with the window centred at
`centre`, each narrowed as the rounding word `rnd` says: the digitizer, and the channelizer's next input if one comes. The
spec gives these stages' saturation no register. -/
def frontStages (rnd : Word) (hb1 hb2 : List Int) (front centre : Nat) (g : AcrDig) (x : Sample) : AcrDig × Option Sample :=
  let r := [1, 1, 1, 2, 4].getD front 1
  let y := Config.mixed centre g.mixN x
  let half (c : List Int) (bit : Nat) := decimate (halfbandTaps c) 2 (narrowS (bitOf rnd (bit + 4)) (fld rnd bit 4) 14 18)
  let (cic, y) := if r = 1 then (g.cic, some y) else
    let (k, o, _) := decimate (cicTaps r) r (narrowS (bitOf rnd 4) (fld rnd 0 4) (if r = 2 then 4 else 8) 18) g.cic y
    (k, o)
  let (h1, y) := if front = 0 then (g.hb1, y) else let (k, o, _) := thenStage (half hb1 5) g.hb1 y; (k, o)
  let (h2, y) := if front < 2 then (g.hb2, y) else let (k, o, _) := thenStage (half hb2 10) g.hb2 y; (k, o)
  ({ g with mixN := g.mixN + 1, cic := cic, hb1 := h1, hb2 := h2 }, y)

/-- Ticks of one sample of the channelizer's input (R163). -/
def chzPeriod (a front : Nat) : Nat := if a = 1 then 2 else [4, 8, 16, 32, 64].getD front 4

/-! ## Rank stage and impulse detection (R170) -/

/-- max(|I|, |Q|) + min(|I|, |Q|) ÷ 2, in halves. -/
def mag2 (x : Sample) : Nat := 2 * max x.i.natAbs x.q.natAbs + min x.i.natAbs x.q.natAbs

/-- A value put in its place in a rising list. -/
def putSorted (x : Int) : List Int → List Int
  | [] => [x]
  | y :: r => if x ≤ y then x :: y :: r else y :: putSorted x r

/-- The middle of an odd number of values. -/
def median (l : List Int) : Int := (l.foldr putSorted []).getD (l.length / 2) 0

-- Marked: DESIGN CHOICE, log entry 107.
/-- One sample through the rank stage of a path under ACRSk_RANK `w` of length `n`: the path, the output, and whether the
sample counts as blanked, detected or erased. No sample is detected before one has entered the mean. -/
def rankStep (w : Word) (n : Nat) (p : AcrPath) (x : Sample) : AcrPath × Sample × Bool :=
  let sum := p.mags.foldl (· + ·) 0
  let hit := !p.mags.isEmpty && decide (max 4 (fld w 8 8) * sum < 4 * p.mags.length * mag2 x)
  let hist := (x :: p.rankHist).take 7
  let p := { p with mags := if hit then p.mags else (mag2 x :: p.mags).take 64, rankHist := hist }
  match fld w 30 2 with
  | 1 => (p, ⟨median ((hist.take n).map Sample.i), median ((hist.take n).map Sample.q)⟩, hit)
  | 2 =>
    let gone := hit || decide (0 < p.erase)
    ({ p with erase := if hit then fld w 0 4 else p.erase - 1 }, if gone then ⟨0, 0⟩ else x, gone)
  | _ => (p, x, hit)

/-! ## The channel FIR (R169, R172) -/

/-- The coefficients of a set: a full set, or a half set mirrored by the hardware. -/
def setTaps (desc : Word) (c : Nat → Int) : List Int :=
  let t := fld desc 0 7
  (List.range t).map fun i => if bitOf desc 15 && decide ((t + 1) / 2 ≤ i) then c (t - 1 - i) else c i

/-- The output of a set with its bank over a history, newest first; a set of no taps passes the sample. -/
def firOut (desc : Word) (bank : List Word) (h : List Sample) : Sample × Bool :=
  if fld desc 0 7 = 0 then (h.getD 0 ⟨0, 0⟩, false)
  else narrowS (bitOf desc 14) (fld desc 10 4) 14 16
    (firSum (setTaps desc fun i => sfld (bank.getD (i / 2) 0#32) (16 * (i % 2)) 16) h)

-- Marked: DESIGN CHOICE, log entry 107.
/-- Output sample `i` of a cross-fade of length `x`: (x − i) ÷ x of the old set and i ÷ x of the new. -/
def blend (x i : Nat) (old new : Sample) : Sample :=
  ⟨((x - i : Int) * old.i + i * new.i) / x, ((x - i : Int) * old.q + i * new.q) / x⟩

end Sys2Proof.Machine
end

