-- ==== Sys2Proof/Machine/Lanes.lean ====
section
/-!
DEFINITION. The radio of a lane, and of the trunk transceiver at number 16: its states, what a gate does in each, the
Seal checks, calibration, and draining toward OFF (chapter 6; R186, R189, R203, R430).
-/

namespace Sys2Proof.Machine

/-! ## Airtime of an entry (R155, R219) -/

/-- Airtime of a wake-up frame: uncoded, a 4-octet preamble, and a PSDU of 8 octets and its FCS (R219). -/
def wufAirtime (w : Word) : Nat := airtime w 4 (8 + phyFcs w) false

/-- Airtime of a transmit buffer entry, a wake-up train being its frames back to back. -/
def TxEnt.airtime (e : TxEnt) : Nat :=
  if e.train = 0 then Machine.airtime e.phy e.preamble e.psdu.length (phyFec e.phy != 0)
  else e.train * wufAirtime e.phy

-- Marked: PRESUMED, log entry 111.
/-- A wake-up frame without its FCS: a multipurpose frame with long frame control, no sequence number, compressed PAN
identifier and destination SHORT, and the Rendezvous Time IE (R219). -/
def wakeUp (short rz : Nat) : List Byte :=
  natBytes 2 0x842D ++ natBytes 2 short ++ natBytes 2 (2 + 128 * 0x1D) ++ natBytes 2 rz

-- Marked: PRESUMED, log entry 111.
/-- RzTime of frame `i` of a train of `n`: from its end to the frame TXS `gap` ticks after the train (R219). -/
def rzTime (phy : Word) (n gap i : Nat) : Nat := ((n - 1 - i) * wufAirtime phy + gap) * phySym phy / (10 * 160000000)

-- Marked: PRESUMED, log entry 111.
/-- The bits of an entry's frame on air, or of a train's frames back to back. -/
def Dev.entBits (d : Dev) (e : TxEnt) : List Bool :=
  if e.train = 0 then frameAir e.phy e.preamble e.psdu
  else
    let short := (d.rd16 (ntBase (if d.leader = 1 then 1 else 0) + 64 * e.node + 0x08)).toNat
    let plain := setFld e.phy 24 2 0
    (List.range e.train).flatMap fun i =>
      frameAir plain 4 (withFcs plain (wakeUp short (rzTime e.phy e.train (d.f R.MAC_SCHED 0 16 * 160) i)))

/-! ## Channels -/

/-- The centre frequency of a channel word in 25 Hz units, and half its bandwidth. -/
def chFreq (w : Word) : Nat := fld w 0 27
-- Marked: DEDUCED, log entry 11.
def chHalf (w : Word) : Nat := match fld w 28 2 with | 0 => 2000 | 1 => 4000 | 2 => 8000 | _ => 40000

/-- A channel word lane `n` can tune (R138, R143, R159). -/
def chUsable (n : Nat) (w : Word) : Bool :=
  bitOf w 31 &&
    if n < 12 then fld w 28 2 != 3 && decide (31160000 ≤ chFreq w ∧ chFreq w ≤ 40800000)
    else fld w 28 2 == 3 && decide (96000000 ≤ chFreq w ∧ chFreq w ≤ 99340000)

/-! ## Radio state -/

/-- Radio states (R140). -/
abbrev sOFF : Nat := 0
abbrev sWARM : Nat := 1
abbrev sCAL : Nat := 2
abbrev sIDLER : Nat := 3
abbrev sRX : Nat := 4
abbrev sTURN : Nat := 5
abbrev sIDLET : Nat := 6
abbrev sTX : Nat := 7
abbrev sRETUNE : Nat := 8

/-- Enters radio state `s`, shown in LANn_STATUS or in TRK_STATUS.RFSTATE. -/
def Dev.setSt (d : Dev) (n s : Nat) : Dev :=
  let d := d.onRadio n fun r => { r with st := s }
  if n < 16 then d.setF (R.LAN_STATUS n) 0 4 s else d.setF R.TRK_STATUS 4 4 s

/-- Sets the current aerial (R147). -/
def Dev.setAer (d : Dev) (n a : Nat) : Dev :=
  let d := d.onRadio n fun r => { r with aer := a }
  if n < 16 then d.setF (R.LAN_STATUS n) 22 1 a else d

/-- A timestamp record (R36). -/
def Dev.stamp (d : Dev) (count sub source : Nat) (corrected : Bool) : List Word :=
  [wd count, wd (count / 2 ^ 32), d.stampWord sub source corrected]

/-- The receive timestamp record of a frame, whose state is that of its SFD (R36, R37). -/
def RxFrame.stamp (x : RxFrame) (source : Nat) (corrected : Bool) : List Word :=
  [wd x.sfdCount, wd (x.sfdCount / 2 ^ 32), stampWordOf x.sub source corrected x.tbState x.slewing]

/-- Queues a capture record with a given timestamp; one that finds 64 queued is dropped and counted (R153). -/
def Dev.captureAt (d : Dev) (n src count sub : Nat) : Dev :=
  let r := d.radio n
  if r.capq.length < 64 then
    let rec_ := [pack [(8, r.capLost), (0, src)]] ++ d.stamp count sub (if n < 16 then 0 else 3) false
    let d := d.setRadio n { r with capq := r.capq ++ [rec_], capLost := 0 }
    if n < 16 then d.hwEvent (srcCapture n) else d
  else d.setRadio n { r with capLost := min 255 (r.capLost + 1) }

/-- A capture record of this instant. -/
def Dev.capture (d : Dev) (n src : Nat) : Dev := d.captureAt n src d.count 0

/-- LANn_REFUSE, or TRK_REFUSE. -/
def refuseReg (n : Nat) : Nat := if n < 16 then R.LAN_REFUSE n else R.TRK_REFUSE
def denyReg (n : Nat) : Nat := if n < 16 then R.LAN_DENY n else R.TRK_DENY

-- Marked: DEDUCED, log entry 96.
/-- The port words LREF and LDENY of a lane: each keeps its own count and is cleared by its own read (R144). -/
def portCopy (k : Nat) : Nat := bankKey 80 k

/-- A record of one more: the count in [31:24], which stays at 255, above the other fields of the last one. -/
def Dev.countOne (d : Dev) (k : Nat) (l : List (Nat × Nat)) : Dev :=
  d.setReg k (pack ((24, min 255 (d.f k 24 8 + 1)) :: l))

-- Marked: DEDUCED, log entry 96.
/-- A record of one more in a lane's register and in its port word. -/
def Dev.countBoth (d : Dev) (n k : Nat) (l : List (Nat × Nat)) : Dev :=
  let d := d.countOne k l
  if n < 16 then d.countOne (portCopy k) l else d

/-- A refusal: LANn_REFUSE and LREF count it and hold the last reason, slot and class, and a capture record of source 7
is queued (R144). -/
def Dev.refuse (d : Dev) (n slot cls reason : Nat) : Dev :=
  (d.countBoth n (refuseReg n) [(16, reason), (8, slot), (4, cls)]).capture n 7

/-- A denial by the Seal: LANn_DENY and LDENY count it and hold the last reason and sub-band (R154). -/
def Dev.deny (d : Dev) (n reason sub : Nat) : Dev := d.countBoth n (denyReg n) [(8, reason), (0, sub % 8)]

/-! ## Draining toward OFF (R157) -/

/-- No slot of classes 0 to 5 is armed in the radio's unit. -/
def Dev.noneKept (d : Dev) (n : Nat) : Bool := (d.armed n).all fun ka => ka.2.cls == 6

/-- A draining radio in IDLE_R or IDLE_T with no kept slot shuts down, and is OFF 1,600 ticks later. -/
def Dev.mayShut (d : Dev) (n : Nat) : Dev :=
  let r := d.radio n
  if r.draining && r.offAt.isNone && (r.st == sIDLER || r.st == sIDLET) && d.noneKept n
  then d.setRadio n { r with offAt := some (d.clk + 1600) } else d

/-- A turn-round or retune whose end has come ends before any gate of that tick (R142). -/
def Dev.endTurn (d : Dev) (n st : Nat) : Dev :=
  let r := d.radio n
  if r.st = st && decide (r.until_ ≤ d.clk) then (d.setSt n r.back).mayShut n else d

/-- The last symbol of a transmission ends: IDLE_T, a capture of source 3, and the entry's hold ends, or the
trunk descriptor's completion is queued (R141, R152, R207). -/
def Dev.txEnd (d : Dev) (n : Nat) : Dev :=
  let r := d.radio n
  if r.st = sTX && decide (r.until_ ≤ d.clk) then
    let d := (d.setSt n sIDLET).capture n 3
    let d := match r.tx with
      | some h => if n < 16 then d.endHold n h else { d with trunk := { d.trunk with txc := d.trunk.txc ++ [wd h] } }
      | none => d
    let d := if n = 16 then { d with trunk := { d.trunk with air := [] } } else d
    (d.onRadio n fun r => { r with tx := none, air := none }).mayShut n
  else d

/-- Whatever ends at this tick ends before a gate of it takes effect (R142). -/
def Dev.beforeGate (d : Dev) (n : Nat) : Dev := ((d.endTurn n sTURN).endTurn n sRETUNE).txEnd n

/-! ## Windows and abandoned frames -/

/-- Ticks from the SFD to the end of the PHR: two octets on FSK, coded or not, and one on O-QPSK; the two header symbols
of a trunk frame (R195). -/
def phrTicks (n : Nat) (x : RxFrame) : Nat :=
  if n = 16 then 1280
  else if phyKind x.phy = 2 then 5120 else cdiv ((if x.coded then 32 else 16) * 160000000) (phyBits x.phy)

/-- The lane's gain is held: from the SFD until the frame ends (R139, R191). -/
def Dev.gainHeld (d : Dev) (n : Nat) : Bool := (d.radio n).rx.any (·.sfd)

/-- The PHR of the frame in progress has been received (R157). -/
def Dev.phrDone (d : Dev) (n : Nat) (x : RxFrame) : Bool := x.sfd && decide (x.sfdAt + phrTicks n x ≤ d.clk)

-- Marked: DESIGN CHOICE, log entry 14.
/-- The trunk frame in progress is abandoned (R143, R157): what its header says, if it came before the end and is addressed to
this station or broadcast by a valid peer, is a free value; it then takes a buffer and leaves a record of status 2 (R207). -/
def Dev.abandonTrunk (d : Dev) (x : RxFrame) : Dev :=
  let (h, d) := d.fresh
  let (m, d) := d.fresh
  let peers := (List.range 6).filter fun p => d.b (R.TRK_PEER_CTRL p) 31
  if peers.isEmpty || fld h 30 2 != 0 then d else
  match d.trunk.rxb with
  | [] => d.bumpF R.TRK_CNT 0 16 1
  | (addr, _) :: rest =>
    let src := d.f (R.TRK_PEER_CTRL (peers.getD (fld h 20 3 % peers.length) 0)) 0 8
    let ws := [pack [(29, 2), (0, fld h 0 14)], addr,
        pack [(22, src), (14, if bitOf h 23 then 255 else d.f R.ASB_CFG 0 8), (10, fld h 14 4)],
        m &&& 0xFFFFFF00#32, pack [(13, fld m 0 1), (11, fld m 1 1), (8, 3)]] ++ x.stamp 3 false
    (({ d with trunk := { d.trunk with rxb := rest, rxr := d.trunk.rxr ++ [ws] } }).capture 16 1)

-- Marked: DESIGN CHOICE, log entry 14.
/-- A frame in progress is abandoned: a record of status 2 with length 0 and no PSDU. Its RSSI and LQI as they stood,
and whether the ADC clipped, are what the receiver measured by then, a free value (R153, R188, R192, R193). Before its SFD
nothing is reported. -/
def Dev.abandonRx (d : Dev) (n : Nat) : Dev :=
  match (d.radio n).rx with
  | none => d
  | some x =>
    let d := d.onRadio n fun r => { r with rx := none, heard := if x.sfd then some d.clk else r.heard, dwellAt := d.clk }
    if x.sfd && decide (n < 16) then
      let (m, d) := d.fresh
      let lqw1 := pack [(13, fld m 0 1), (11, (d.radio n).winAer), (10, b2n x.divShort)]
      let rec_ := [pack [(29, 2), (28, b2n x.divShort)], m &&& 0xFFFFFF00#32, lqw1] ++ x.stamp 0 false
      (d.onRadio n fun r => { r with rxq := r.rxq ++ rec_ }).capture n 1
    else if x.sfd then d.abandonTrunk x
    else d

/-- The receive window ends now; listen before talk remembers it (R156). `peak` is the highest RSSI in the last listen
time before it ends. -/
def Dev.closeWin (d : Dev) (n : Nat) (peak : Int) : Dev :=
  let r := d.radio n
  match r.win with
  | none => d
  | some (_, opened) =>
    d.setRadio n { r with
      win := none
      closeAfter := false
      lastWin := some { chan := r.chw, opened := opened, closed := d.clk, peak := peak
                        heard := if r.rx.any (·.sfd) then some d.clk else r.heard } }

/-! ## What a gate does in each state (R143) -/

/-- The reason a gate of class `cls` is refused with in state `st`, or none. `toTx` tells a receive-to-transmit TRN. -/
def gateRefusal (cls st : Nat) (toTx : Bool) : Option Nat :=
  if st ≤ sWARM then some 1 else if st = sCAL then some 2 else
  match cls with
  | 0 => none
  | 1 => if st = sTX then some 6 else if st = sTURN then some 4 else none
  | 2 => if st = sTX then some 6 else if st = sTURN then some 4 else if st = sRETUNE then some 5
         else if st = sRX then some 3 else none
  | 3 => if st = sTX then some 6 else if st = sTURN then some 4 else if st = sRETUNE then some 5
         else if toTx then (if st = sIDLET then some 3 else none) else (if st = sIDLET then none else some 3)
  | 4 => if st = sTX then some 6 else if st = sTURN then some 4 else if st = sRETUNE then some 5
         else if st = sIDLER then none else some 3
  | _ => if st = sTX then some 6 else if st = sTURN then some 4 else if st = sRETUNE then some 5
         else if st = sIDLET then none else some 3

/-- Remembers a fired TXS, and every fired arming that depends on one, so that a DISABLE keeps their dependants (R157). -/
def Dev.noteFired (d : Dev) (n : Nat) (a : Arming) : Dev :=
  let r := d.radio n
  let kept := if a.cls = 5 || (match a.pred with | some i => r.kept.contains i | none => false)
    then a.id :: r.kept else r.kept
  d.setRadio n { r with kept := kept.filter fun i => (d.armed n).any fun ka => ka.2.pred == some i }

/-- Fires the gate of class `cls` in slot `k` when it is due: R142's ends first, then the refusal of R143, or `act`. -/
def Dev.fireGate (d : Dev) (n k cls : Nat) (act : Dev → Arming → Dev) : Dev :=
  let d := d.settle n
  match d.due n k cls with
  | none => d
  | some a =>
    let d := ((d.beforeGate n).fired n k a).noteFired n a
    let d := match gateRefusal cls (d.radio n).st (!a.param.testBit 0) with
      | some why => d.refuse n k cls why
      | none => act d a
    d.mayShut n

/-- RXC: closes the window; a frame whose SFD was found completes first (R143). -/
def Dev.fireRxc (d : Dev) (n k : Nat) (peak : Int) : Dev :=
  d.fireGate n k 0 fun d _ =>
    let r := d.radio n
    if r.st = sRX then
      match r.rx with
      | some x => if x.sfd then d.setRadio n { r with closeAfter := true } else
          ((d.closeWin n peak).onRadio n fun r => { r with rx := none }).setSt n sIDLER
      | none => (d.closeWin n peak).setSt n sIDLER
    else d

/-- AER: switches the aerial, and in RX ends diversity for the window (R143). -/
def Dev.fireAer (d : Dev) (n k : Nat) : Dev :=
  d.fireGate n k 1 fun d a =>
    let d := d.setAer n (a.param % 2)
    if (d.radio n).st = sRX then d.onRadio n fun r => { r with divEnded := true, winAer := a.param % 2 } else d

-- Marked: DESIGN CHOICE, log entry 116.
/-- RTN: 7,680 ticks to the named channel word; one not VALID or out of range is refused with CHWORD (R143). The trunk
retunes to TRK_CHAN. -/
def Dev.fireRtn (d : Dev) (n k : Nat) : Dev :=
  d.fireGate n k 2 fun d a =>
    let w := if n < 16 then d.reg (R.LAN_CHW n a.param) else d.reg R.TRK_CHAN
    if decide (n < 16) && (decide (64 ≤ a.param) || !chUsable n w) then d.refuse n k 2 7 else
    let back := (d.radio n).st
    let d := d.onRadio n fun r => { r with until_ := d.clk + 7680, back := back, curCh := a.param, chw := w }
    let d := if n < 16 then d.setF (R.LAN_STATUS n) 16 6 a.param else d
    d.setSt n sRETUNE

-- Marked: DESIGN CHOICE, log entry 104.
/-- TPA_EN of the trunk transceiver (R51, R441): high from the PA bias settle of a receive-to-transmit turn-round,
7,040 ticks after its start, to the end of PA ramp-down, 1,280 ticks into the next transmit-to-receive one. -/
def Dev.paTurn (d : Dev) (n to_ : Nat) : Dev :=
  if n ≠ 16 then d
  else if to_ = sIDLET then { d with trunk := { d.trunk with paFrom := some (d.clk + 7040), paTo := none } }
  else { d with trunk := { d.trunk with paTo := some (d.clk + 1280) } }

-- Marked: DESIGN CHOICE, log entry 104.
/-- The level of TPA_EN now, while PD12 runs. -/
def Dev.tpaEn (d : Dev) : Bool :=
  d.pdRun 12 && d.trunk.paFrom.any (· ≤ d.clk) && !d.trunk.paTo.any (· ≤ d.clk)

/-- TRN: a turn-round of 15,360 ticks plus the alignment hold; from RX it closes the window and abandons any frame in
progress (R51, R143, R145). -/
def Dev.fireTrn (d : Dev) (n k : Nat) (peak : Int) : Dev :=
  d.fireGate n k 3 fun d a =>
    let d := if (d.radio n).st = sRX then (d.closeWin n peak).abandonRx n else d
    let to_ := if a.param.testBit 0 then sIDLER else sIDLET
    let d := d.paTurn n to_
    (d.onRadio n fun r => { r with until_ := d.clk + 15360 + 160 * (a.param / 2 % 32768), back := to_ }).setSt n sTURN

/-- RXO: opens the window with a profile; 8 and above name none and are refused with WPROF (R143). -/
def Dev.fireRxo (d : Dev) (n k : Nat) : Dev :=
  d.fireGate n k 4 fun d a =>
    if 8 ≤ a.param then d.refuse n k 4 11 else
    (d.onRadio n fun r => { r with
      win := some (a.param, d.clk), closeAfter := false, divEnded := false, divAer := none, winAer := r.aer,
      heard := none, dwellAt := d.clk, searchPhy := d.phy (fld (d.reg (R.LAN_WPROF n a.param)) 0 8)
      searchThr := fld (d.reg (R.LAN_WPROF n a.param)) 16 8 }).setSt n sRX

/-! ## The Seal (R154 to R156) -/

/-- The Seal's part for radio `n`. -/
def Dev.sealOf (d : Dev) (n : Nat) : Option SealLane := d.fw.sealed.bind fun s => s.lanes[n]?

-- Marked: DEDUCED, log entry 11.
/-- [lo, hi] lies within the union of the permitted ranges: the covered edge advances range by range. -/
def covered (ranges : List (Nat × Nat)) (lo hi : Nat) : Bool :=
  let step (x : Nat) : Nat := ranges.foldl (fun x r => if r.1 ≤ x ∧ x < r.2 then r.2 else x) x
  decide (hi ≤ step (step (step (step (step (step (step (step lo))))))))

-- Marked: DEDUCED, log entry 11.
/-- The sub-bands an occupied band touches, by index. -/
def touched (s : SealLane) (lo hi : Nat) : List Nat :=
  (List.range s.subs.length).filter fun i =>
    match s.subs[i]? with
    | some b => decide (b.lo < hi ∧ lo < b.hi)
    | none => false

/-- The second of the rolling hour now. -/
def Dev.second (d : Dev) : Nat := d.clk / 160000000

/-- Ticks charged to sub-band `sub` of radio `n` in the rolling hour; 255 stands for the radio's whole airtime. -/
def Dev.used (d : Dev) (n sub : Nat) : Nat :=
  d.fw.charges.foldl (fun t c => if c.radio = n ∧ c.sub = sub ∧ d.second < c.sec + 3600 then t + c.ticks else t) 0

-- Marked: DEDUCED, log entry 15.
/-- Listen before talk (R156). -/
def Dev.listened (d : Dev) (n : Nat) (s : SealLane) : Bool :=
  let r := d.radio n
  match r.lastWin with
  | none => false
  | some w =>
    w.chan == r.chw && decide (d.clk ≤ w.closed + s.lbtGap) && decide (w.opened + s.lbtListen ≤ w.closed) &&
      decide (w.peak ≤ s.lbtThr) &&
      match w.heard with
      | some t => decide (t + s.lbtListen < w.closed)
      | none => true

-- Marked: DEDUCED, log entry 15.
/-- The checks of R154 in order, for an occupied band, a level in 0.5 dB steps and an airtime: the first that fails, with
the sub-band concerned. -/
def Dev.sealCheck (d : Dev) (n lo hi : Nat) (level : Int) (air : Nat) : Option (Nat × Nat) :=
  match d.sealOf n with
  | none => some (1, 0)
  | some s =>
    if !covered s.ranges lo hi then some (2, 0)
    else if s.maxPower < level then some (3, 0)
    else
      let t := touched s lo hi
      let sub (i : Nat) : SubBand := s.subs.getD i ⟨0, 0, 0, false⟩
      match t.find? fun i => (sub i).lbt && !d.listened n s with
      | some i => some (4, i)
      | none =>
        match t.find? fun i => decide ((sub i).limit * 16000000 < d.used n i + air) with
        | some i => some (5, i)
        | none => none

/-- Charges an airtime to every sub-band radio `n` touches, and to its whole (R155). -/
def Dev.chargeOne (d : Dev) (n lo hi air : Nat) : Dev :=
  let subs := match d.sealOf n with
    | some s => touched s lo hi
    | none => []
  let new := (255 :: subs).map fun i => (⟨n, i, d.second, air⟩ : Charge)
  { d with fw := { d.fw with charges := new ++ d.fw.charges.filter fun c => decide (d.second < c.sec + 3600) } }

/-- The whole airtime is charged as the TXS fires; in Duplex-Protected mode to the partner lane as well (R155, R272). -/
def Dev.charge (d : Dev) (n lo hi air : Nat) : Dev :=
  let d := d.chargeOne n lo hi air
  if decide (n < 16) && !d.capacity then d.chargeOne (lanePartner n) lo hi air else d

/-! ## Starting a transmission (R143, R430) -/

/-- FLAGS.HOME of a node in half `h`'s mirror (R209). -/
def Dev.nodeHome (d : Dev) (h node : Nat) : Nat := ((d.rd16 (ntBase h + 64 * node + 0x0A)).toNat >>> 14) % 2

/-- Half `h` leads for a frame of its transmit buffer: a frame of a group transaction goes by the device lead, any other by
its node's home half (R269, R270). -/
def Dev.leadsFrame (d : Dev) (h : Nat) (e : TxEnt) : Bool :=
  match d.msg.tcbs.find? fun t => t.lsn == e.lsn with
  | some t => if t.group then d.devLead == some h else d.leadsNode h (d.nodeHome h e.node)
  | none => d.leadsNode h (d.nodeHome h e.node)

/-- Pin control by a boundary-scan instruction is in force (R433). -/
def Dev.pinControl (d : Dev) : Bool := d.b R.TST_STATUS 31

/-- A TRAIL refusal: counted in RIMX_TKREFUSE for the half, with no capture record (R270). -/
def Dev.trailRefusal (d : Dev) (h : Nat) : Dev := (d.bumpF R.RIMX_TKREFUSE (16 * h) 16 1).pmcEvent 0x07

/-- A transmission of radio `n` begins, for `air` ticks. -/
def Dev.startTx (d : Dev) (n air h : Nat) : Dev :=
  ((d.onRadio n fun r => { r with until_ := d.clk + air, tx := some h }).setSt n sTX).capture n 2

/-- What the lane radiates of an entry: on the channel tuned, at the entry's level, from the current aerial (R139, R147). -/
def Dev.radiate (d : Dev) (n : Nat) (e : TxEnt) : Dev :=
  d.onRadio n fun r => { r with air := some ⟨r.chw, e.level, r.aer, e.phy, d.entBits e⟩ }

/-- The transaction whose frame is on air has been radiated, with the frame's counter (R265). -/
def Dev.markRadiated (d : Dev) (lsn : Nat) (fc : Word) : Dev :=
  { d with msg := { d.msg with tcbs := d.msg.tcbs.map fun t =>
      if t.lsn = lsn then { t with radiated := true, count := min 255 (t.count + 1), fc := fc } else t } }

/-- `a` comes after `b` among domain sequences, which count modulo 2^32. -/
def seqAfter (a b : Nat) : Bool := let x := (a + 2 ^ 32 - b) % 2 ^ 32; decide (0 < x ∧ x < 2 ^ 31)

/-- R243, R250: an admitted transaction whose payload has been fetched is startable when no transaction of its domain with a
lower sequence is undecided. -/
def Dev.startable (d : Dev) (t : Tcb) : Bool :=
  t.state == 1 && t.fetched && (t.ledger.isNone || !d.msg.tcbs.any fun u =>
    u.ledger == t.ledger && u.group == t.group && u.home == t.home && u.state != 2 && seqAfter t.dseq u.dseq)

-- Marked: DESIGN CHOICE, log entry 112.
/-- The frame of an entry may be radiated by gate `a`: a transaction's first frame only while the transaction is
startable (R243), and none by a gate armed after its deadline event (R258), also once the transaction has been released. -/
def Dev.mayStart (d : Dev) (a : Arming) (lsn : Nat) : Bool :=
  match d.msg.tcbs.find? fun t => t.lsn == lsn with
  | none => let b := tget zeroDflt d.msg.barred lsn; b == 0 || decide (a.id + 1 < b)
  | some t => (t.radiated || d.startable t) && !(t.deadlinePosted && decide (t.barFrom ≤ a.id))

-- Marked: DESIGN CHOICE, log entry 112.
/-- A TXS on a lane at its firing count, by the order of R430: lane state, pin control, token, Seal; the bars of R243 and R258
apply to a half that leads for the frame, before the Seal. -/
def Dev.fireTxsLane (d : Dev) (n k : Nat) (a : Arming) : Dev :=
  let h := handleEntry a.param
  let e := d.txent n h
  let half := laneHalf n
  match gateRefusal 5 (d.radio n).st false with
  | some why => (((d.fired n k a).noteFired n a).refuse n k 5 why).endHold n h
  | none =>
    if d.pinControl then (((d.fired n k a).noteFired n a).refuse n k 5 10).endHold n h
    else if !d.leadsFrame half e then
      (((d.fired n k a).noteFired n a).trailRefusal half).endHold n h
    else if !d.mayStart a e.lsn then
      ((d.endArming n k a 1).lateRecord
        { kind := 1, unit := n, slot := k, cls := 5, fire := a.fire, acc := d.count % 2 ^ 32 }).endHold n h
    else
      let w := (d.radio n).chw
      let lo := chFreq w - chHalf w
      let hi := chFreq w + chHalf w
      match d.sealCheck n lo hi e.level e.airtime with
      | some (why, sub) => (((d.endArming n k a 2).pmcEvent 0x05).deny n why sub).endHold n h
      | none =>
        let d := ((d.fired n k a).noteFired n a).charge n lo hi e.airtime
        let d := ((d.startTx n e.airtime h).radiate n e).markRadiated e.lsn e.fc
        d.pmcOctets (12 + n) 2 e.psdu.length

-- Marked: DESIGN CHOICE, log entry 112.
/-- The check of R47 for a lane, at F − 320. A half that does not lead for the frame is left to the TRAIL refusal at F. -/
def Dev.txsCheckLane (d : Dev) (n k : Nat) : Dev :=
  match d.armOf n k with
  | some a =>
    let e := d.txent n (handleEntry a.param)
    if a.cls = 5 && !a.checked && decide (a.fire ≤ d.count + 320)
    then d.checkArm n k a (d.entryReady n a.param && (!d.leadsFrame (laneHalf n) e || d.mayStart a e.lsn)) else d
  | none => d

/-- TXS on lane `n`: a check not yet made is made first. -/
def Dev.fireLaneTxs (d : Dev) (n k : Nat) : Dev :=
  let d := d.settle n
  match d.due n k 5 with
  | none => d
  | some _ =>
    let d := (d.beforeGate n).txsCheckLane n k
    match d.armOf n k with
    | some a => (d.fireTxsLane n k a).mayShut n
    | none => d

/-! ## Commands and calibration (R141, R148 to R150, R157, R159) -/

/-- Duration of calibration kinds (R148). -/
def calTicks (m : Nat) : Nat :=
  (if m.testBit 2 then 48000 else 0) + (if m.testBit 1 then 19200 else 0) + (if m.testBit 0 then 64000 else 0) +
    (if m.testBit 3 then 6400 else 0)

/-- The kinds pending, shown in CAL_PEND. -/
def Dev.setPend (d : Dev) (n m : Nat) : Dev :=
  let d := d.onRadio n fun r => { r with calPend := m % 16 }
  if n < 16 then d.setF (R.LAN_STATUS n) 26 4 m else d

def Dev.cmdRes (d : Dev) (n v : Nat) : Dev := d.setF (R.LAN_STATUS n) 23 3 v

-- Marked: DEDUCED, log entry 100.
/-- ENABLE in OFF: WARM for 32,000 ticks, aerial A, channel word 0, and at the first ENABLE after reset every kind
pending. BAD_STATE elsewhere; NO_REF in Timebase state 0 or without the quad reference. -/
def Dev.laneEnable (d : Dev) (n mask : Nat) : Dev :=
  let r := d.radio n
  if r.st ≠ sOFF || d.fw.recov == 1 then d.cmdRes n 1
  else if d.tbState = 0 || !d.pdRun (50 + laneQuad n) then d.cmdRes n 2
  else
    let d := d.setRadio n { r with
      until_ := d.clk + 32000, enabledAt := d.clk, everEnabled := true, shut := false, curCh := 0, chw := d.reg (R.LAN_CHW n 0)
      kept := [] }
    let d := (d.setPend n (if r.everEnabled then r.calPend ||| mask else 15)).setAer n 0
    let d := (d.setF (R.LAN_STATUS n) 16 6 0).setF (R.LAN_CALSTAT n) 24 4 0
    ((d.cmdRes n 0).setSt n sWARM).vote (16 + n) 0 true

/-- CALIBRATE: the kinds become pending; BAD_STATE in OFF and WARM (R149, R159). -/
def Dev.laneCalibrate (d : Dev) (n mask : Nat) : Dev :=
  if (d.radio n).st ≤ sWARM then d.cmdRes n 1 else (d.setPend n ((d.radio n).calPend ||| mask)).cmdRes n 0

/-- Calibration of the pending kinds begins. -/
def Dev.beginCal (d : Dev) (n : Nat) : Dev :=
  let m := (d.radio n).calPend
  let d := (d.onRadio n fun r => { r with calRun := m, until_ := d.clk + calTicks m }).setPend n 0
  let d := if n < 16 then d.setB (R.LAN_STATUS n) 30 true else d
  d.setSt n sCAL

/-- WARM has lasted 32,000 ticks: CAL, or IDLE_R when no kind is pending or the lane is draining (R141). -/
def Dev.warmDone (d : Dev) (n : Nat) : Dev :=
  let r := d.radio n
  if r.st = sWARM && decide (r.until_ ≤ d.clk) then
    if r.calPend ≠ 0 && !r.draining then d.beginCal n else (d.setSt n sIDLER).mayShut n
  else d

-- Marked: DESIGN CHOICE, log entry 116.
/-- Pending kinds start in IDLE_R when no armed slot of classes 0 to 5 fires before their end plus 3,200 ticks (R149). -/
def Dev.calStart (d : Dev) (n : Nat) : Dev :=
  let d := d.beforeGate n
  let r := d.radio n
  if r.st = sIDLER && decide (r.calPend ≠ 0) && !r.draining &&
      (d.armed n).all (fun ka => ka.2.cls == 6 || decide (d.count + calTicks r.calPend + 3200 ≤ ka.2.fire))
  then d.beginCal n else d

-- Marked: DESIGN CHOICE, log entry 10.
/-- A calibration ends: kinds in `fail` keep their previous values and show in FAIL; the others take the trims measured
(R150). -/
def Dev.calEnd (d : Dev) (n fail : Nat) (temp : Int) (trims : List Word) : Dev :=
  let r := d.radio n
  if r.st = sCAL && decide (r.until_ ≤ d.clk) then
    let bad := fail &&& r.calRun
    let good := r.calRun &&& (15 - bad)
    let d := d.setRadio n { r with
      calRun := 0
      calTemp := (List.range 4).foldl (fun t i => if r.calRun.testBit i then tput (fun _ => 0) t i (temp + 1000) else t) r.calTemp }
    let d := if n < 16 then
        let d := d.forEach (List.range 4) fun d i =>
          if good.testBit i then d.setReg (R.LAN_CALTRIM n i) (trims.getD i 0#32) else d
        let old := d.f (R.LAN_CALSTAT n) 28 4
        let d := d.setF (R.LAN_CALSTAT n) 28 4 ((old &&& (15 - r.calRun)) ||| bad)
        let d := d.setF (R.LAN_CALSTAT n) 24 4 (d.f (R.LAN_CALSTAT n) 24 4 ||| good)
        (d.setF (R.LAN_CALSTAT n) 8 8 (patt 8 temp)).setB (R.LAN_STATUS n) 30 false
      else d
    (d.setSt n sIDLER).mayShut n
  else d

/-- Slots a DISABLE keeps: those that depend on a fired TXS, those R49 lets fire, and whatever depends on these (R157). -/
def Dev.keptSlots (d : Dev) (n : Nat) : List Nat :=
  let l := (d.armed n).filter fun ka => ka.2.cls != 6
  let r := d.radio n
  let base := l.filter fun ka =>
    (match ka.2.pred with | some i => r.kept.contains i | none => false) || decide (ka.2.fire < d.count + 320)
  let grow (s : List (Nat × Arming)) : List (Nat × Arming) :=
    l.filter fun ka => s.any (fun x => x.1 == ka.1) ||
      match ka.2.pred with | some i => s.any (fun x => x.2.id == i) | none => false
  ((List.range 16).foldl (fun s _ => grow s) base).map Prod.fst

-- Marked: DESIGN CHOICE, log entry 104.
/-- A DISABLE closes the window; the highest RSSI of its last listen time is the environment's, and a free value here. -/
def Dev.closeDrained (d : Dev) (n : Nat) : Dev :=
  let (w, d) := d.fresh
  d.closeWin n (sfld w 0 16)

/-- The channel word a TXS of lane `n` due at `fire` would be sent on: that of the last RTN armed to fire before it, or
else the one tuned. -/
def Dev.frameCh (d : Dev) (n fire : Nat) : Word :=
  let l := (d.armed n).filter fun ka => ka.2.cls == 2 && decide (ka.2.fire < fire)
  match l.foldl (fun (x : Option (Nat × Nat)) ka => match x with
      | some (f, c) => if f < ka.2.fire then some (ka.2.fire, ka.2.param) else some (f, c)
      | none => some (ka.2.fire, ka.2.param)) none with
  | some (_, c) => if n < 16 then d.reg (R.LAN_CHW n (c % 64)) else d.reg R.TRK_CHAN
  | none => (d.radio n).chw

/-- The complete frames that the TXS gates of `l` would have sent (R158). -/
def Dev.framesOf (d : Dev) (n : Nat) (l : List (Nat × Arming)) : List Offer :=
  (l.filter fun ka => ka.2.cls == 5 && d.entryReady n ka.2.param).map fun ka =>
    let e := d.txent n (handleEntry ka.2.param)
    ⟨ka.2.param, e.lsn, e.fc, d.frameCh n ka.2.fire⟩

-- Marked: DEDUCED, log entry 100; DESIGN CHOICE, log entry 116.
/-- Drains radio `n` (R157): DRAINING, the slots not kept disarmed, the window closed unless a kept RXC will close it,
a calibration abandoned. Answers the TXS frames disarmed (R158). -/
def Dev.drain (d : Dev) (n : Nat) : Dev × List Offer :=
  let d := (d.settle n).beforeGate n
  let keep := d.keptSlots n
  let out := (d.armed n).filter fun ka => ka.2.cls != 6 && !keep.contains ka.1
  let keptRxc := (d.armed n).any fun ka => ka.2.cls == 0 && keep.contains ka.1
  let d := d.onRadio n fun r => { r with draining := true, shut := true }
  let d := if n < 16 then d.setB (R.LAN_STATUS n) 31 true else d
  let frames := d.framesOf n out
  let d := d.forEach out fun d ka =>
    (if ka.2.checked then d.endHold n (handleEntry ka.2.param) else d).endArming n ka.1 ka.2 3
  let r := d.radio n
  let d :=
    if r.st = sRX && !keptRxc then
      match r.rx with
      | some x => if d.phrDone n x then d.setRadio n { r with closeAfter := true }
                  else ((d.closeDrained n).abandonRx n).setSt n sIDLER
      | none => (d.closeDrained n).setSt n sIDLER
    else if r.st = sCAL then
      let d := (d.onRadio n fun r => { r with calRun := 0 }).setSt n sIDLER
      if n < 16 then d.setB (R.LAN_STATUS n) 30 false else d
    else d
  (d.mayShut n, frames)

/-- DISABLE with MOVE = 1: the frames disarmed are offered for another lane (R158). -/
def Dev.drainOffer (d : Dev) (n : Nat) : Dev :=
  let (d, l) := d.drain n
  d.onRadio n fun r => { r with offers := r.offers ++ l }

/-- The trunk transceiver is OFF: so is its role, a change of which posts (R206, R208). -/
def Dev.trunkOff (d : Dev) : Dev :=
  if d.f R.TRK_STATUS 0 3 = 0 then d else (d.setF R.TRK_STATUS 0 3 0).hwEvent srcTrunk

/-- The shutdown's 1,600 ticks have passed: OFF, DRAINING clears, and the radio's vote is withdrawn (R157, R140). -/
def Dev.laneOff (d : Dev) (n : Nat) : Dev :=
  match (d.radio n).offAt with
  | some t =>
    if t ≤ d.clk then
      let d := d.onRadio n fun r => { r with draining := false, offAt := none, win := none, rx := none, tx := none, air := none }
      let d := if n < 16 then d.setB (R.LAN_STATUS n) 31 false else d
      let d := if n = 16 then ({ d with trunk := { d.trunk with paFrom := none, paTo := none } } : Dev).trunkOff else d
      (d.setSt n sOFF).vote (if n < 16 then 16 + n else 12) 0 false
    else d
  | none => d

/-! ## Lane timers (R153) -/

/-- Ticks since ENABLE, modulo 2^32. -/
def Dev.laneTimer (d : Dev) (n : Nat) : Nat := (d.clk - (d.radio n).enabledAt) % 2 ^ 32

/-- Lane timer `i` equals its compare value, a value written in this tick being in force from the next: a capture of source
4 or 5 (R153). -/
def Dev.laneCompare (d : Dev) (n i : Nat) : Dev :=
  let r := d.radio n
  let cmp :=
    if i = 0 then (if r.lt0At = d.clk then r.lt0Old else r.lt0) else (if r.lt1At = d.clk then r.lt1Old else r.lt1)
  if r.st ≠ sOFF && r.ltctl.testBit i && decide (d.laneTimer n = cmp.toNat)
  then d.capture n (4 + i) else d

end Sys2Proof.Machine
end

