-- ==== Sys2Proof/Machine/Acr.lean ====
section
/-!
DEFINITION. The all-channel receivers: states, channels, settling, overload, AGC, and their descriptors (chapter 7).
Receiver 0 is ACR-S and 1 is ACR-W; a channel's path on digitizer `p` is path 2k + p.
-/

namespace Sys2Proof.Machine

/-! ## Configuration (R160 to R163) -/

/-- ACRx_STATUS.STATE: 0 OFF, 1 STOPPED, 2 CAL, 3 RUN, 4 RETUNE. -/
def Dev.acrState (d : Dev) (a : Nat) : Nat := d.f (R.ACR_STATUS a) 0 3
def Dev.setAcrState (d : Dev) (a s : Nat) : Dev := d.setF (R.ACR_STATUS a) 0 3 s

/-- Channels of a receiver. -/
def acrChans (a : Nat) : Nat := if a = 0 then 128 else 16

/-- CONFIG = Full. -/
def Dev.acrFull (d : Dev) (a : Nat) : Bool := d.f (R.ACR_CFG a) 0 2 == 2

/-- The front setting in force; ACR-W always uses F0 (R163). -/
def Dev.acrFront (d : Dev) (a : Nat) : Nat := if a = 0 then d.f (R.ACR_CFG 0) 2 3 else 0

/-- Front span and front group delay in ticks (R163). -/
def frontSpan (f : Nat) : Nat := [0, 92, 276, 584, 1168].getD f 0
def frontDelay (f : Nat) : Nat := [0, 44, 132, 272, 552].getD f 0

/-- Half the window width, in 25 kHz units (R163). -/
def halfWindow (f : Nat) : Nat := [640, 320, 160, 80, 40].getD f 0

/-- The window lies wholly within 779 to 1020 MHz (R160). -/
def windowOk (f centre : Nat) : Bool := decide (31160 + halfWindow f ≤ centre ∧ centre + halfWindow f ≤ 40800)

/-- Channel sample period in ticks (R160). -/
def Dev.acrTs (d : Dev) (a k : Nat) : Nat :=
  if a = 0 then [200, 100, 50, 50].getD (d.f (R.ACRK_CFG 0 k) 28 2) 50 else 20

/-- Centre and half width of ACR-W's fixed window, 2402.5 to 2482.5 MHz, in 25 kHz units (R160). -/
def windowW : Nat × Nat := (97700, 1600)

/-- Centre of channel `k` from the window's, in 25 kHz units: OFFSET, or on ACR-W 2405 + 5k MHz (R160). -/
def chanOffset (a k : Nat) (cfg : Word) : Int :=
  if a = 1 then 40 * (2405 + 5 * k) - windowW.1 else sfld cfg 16 11

/-- A channel configuration fits: a width that exists, a rate no higher than the channelizer input, and the whole width
inside the window (R160, R168). -/
def acrFits (a k front : Nat) (cfg : Word) : Bool :=
  let w := fld cfg 28 2
  if a = 1 then decide ((chanOffset 1 k cfg).natAbs + 40 ≤ windowW.2) else
    w != 3 && !(decide (front = 4) && w == 2) &&
      decide ((chanOffset 0 k cfg).natAbs + 2 * 2 ^ w ≤ halfWindow front)

/-- Channels enabled. -/
def Dev.acrEnabled (d : Dev) (a : Nat) : List Nat :=
  (d.listed (R.ACRK_CFG a 0) 0x200 (acrChans a)).filter fun k => d.b (R.ACRK_CFG a k) 31

-- Marked: DESIGN CHOICE, log entry 107.
/-- The enabled-channel limit: the allowance and R161 (R182); while CONFIG is neither Narrow nor Full, Narrow's (log entry
107). -/
def Dev.acrLimit (d : Dev) (a : Nat) : Nat :=
  min (d.f (R.ACR_ALLOW a) 0 8) (if a = 1 then 16 else if d.acrFull 0 then 128 else 32)

/-- ENCNT follows the channels enabled. -/
def Dev.acrCount (d : Dev) (a : Nat) : Dev := d.setF (R.ACR_STATUS a) 16 8 (d.acrEnabled a).length

/-- A path exists: its digitizer is enabled, and path 1 by P1_EN as well. -/
def Dev.acrHasPath (d : Dev) (a k p : Nat) : Bool :=
  d.b (R.ACR_CFG a) (6 + p) && (p == 0 || d.b (R.ACRK_CFG a k) 30)

/-! ## Paths and settling (R175, R176) -/

def pathDflt (_ : Nat) : AcrPath := {}
def digDflt (_ : Nat) : AcrDig := {}
def Dev.acrPath (d : Dev) (a k p : Nat) : AcrPath := tget pathDflt (d.acr a).paths (2 * k + p)
def Dev.acrDig (d : Dev) (a p : Nat) : AcrDig := tget digDflt (d.acr a).digs p
def Dev.setAcrDig (d : Dev) (a p : Nat) (g : AcrDig) : Dev :=
  d.setAcr a { d.acr a with digs := tput digDflt (d.acr a).digs p g }

/-- Sets a path, and its SETTLED bit. -/
def Dev.setAcrPath (d : Dev) (a k p : Nat) (x : AcrPath) : Dev :=
  (d.setAcr a { d.acr a with paths := tput pathDflt (d.acr a).paths (2 * k + p) x }).setB (R.ACRK_STATUS a k) (30 + p)
    x.settled

/-- Rank length Nr (R167): 0 off, 1 blanker, N for a median. -/
def rankLen (w : Word) : Nat :=
  match fld w 30 2 with
  | 1 => [3, 5, 7, 3].getD (fld w 28 2) 3
  | 2 => 1
  | _ => 0

/-- Taps of a set descriptor. -/
def firTaps (w : Word) : Nat := fld w 0 7

/-- H of R176. -/
def Dev.acrH (d : Dev) (a k : Nat) : Nat := 12 + rankLen (d.reg (R.ACRK_RANK a k)) + firTaps (d.reg (R.ACRK_FIRACT a k)) + 4

/-- S + H × Ts, as ACRSk_SETTLE reports it. -/
def Dev.acrSettle (d : Dev) (a k : Nat) : Nat := frontSpan (d.acrFront a) + d.acrH a k * d.acrTs a k

/-- A disturbance of one path ending at clock period `e`; E moves to the later end (R176). -/
def Dev.disturb (d : Dev) (a k p e : Nat) (ovl : Bool) : Dev :=
  let x := d.acrPath a k p
  d.setAcrPath a k p { x with
    settled := false, e := max x.e e, ovl := x.ovl || ovl, mark := x.mark || (ovl && x.rx.isSome) }

/-- A disturbance of both paths of a channel. -/
def Dev.disturbChan (d : Dev) (a k e : Nat) : Dev := (d.disturb a k 0 e false).disturb a k 1 e false

/-- The channel runs on: it is enabled, or was shed with a frame in progress, which completes first (R182). -/
def Dev.acrRuns (d : Dev) (a k : Nat) : Bool :=
  d.b (R.ACRK_CFG a k) 31 || (d.acrPath a k 0).rx.isSome || (d.acrPath a k 1).rx.isSome

/-- A disturbance of every path of a digitizer. -/
def Dev.disturbDig (d : Dev) (a p e : Nat) (ovl : Bool) : Dev :=
  d.forEach ((d.listed (R.ACRK_CFG a 0) 0x200 (acrChans a)).filter fun k => d.acrRuns a k && d.acrHasPath a k p)
    fun d k => d.disturb a k p e ovl

/-- Digitizer `p` has paths of running channels that an overload left unsettled. -/
def Dev.acrOverPaths (d : Dev) (a p : Nat) : Bool :=
  (d.acr a).paths.any fun e => e.1 % 2 == p && e.2.ovl && d.acrRuns a (e.1 / 2) && d.acrHasPath a (e.1 / 2) p

/-- SETTLING follows whether any overload path is unsettled. -/
def Dev.acrSettling (d : Dev) (a : Nat) : Dev :=
  d.setB (R.ACR_CLEANAFTER a) 30 (d.acrOverPaths a 0 || d.acrOverPaths a 1)

/-- The last affected path of digitizer `p` has settled, or has gone with its channel: the clean-after time from `e`, the
later end to which R176 moved E, is recorded and the event counted (R179, log entry 21). -/
def Dev.overClean (d : Dev) (a p e : Nat) : Dev :=
  let d := d.setReg (R.ACR_CLEANAFTER a) (pack [(31, 1), (28, 2 ^ p), (0, min 0xFFFFFF (d.clk - e))])
  (d.bumpF (R.ACR_OVR a) (8 * p) 8 1).acrSettling a

/-- Events that `act` leaves without an affected path are over; E is the latest of the paths that went. -/
def Dev.overGone (d : Dev) (a : Nat) (act : Dev → Dev) : Dev :=
  (act d).forEach [0, 1] fun x p =>
    if d.acrOverPaths a p && !x.acrOverPaths a p then
      let gone := (d.acr a).paths.filter fun e => e.1 % 2 == p && e.2.ovl
      let ps := (x.acr a).paths.map fun e => if e.1 % 2 = p then (e.1, { e.2 with ovl := false }) else e
      (x.setAcr a { x.acr a with paths := ps }).overClean a p (gone.foldl (fun m e => max m e.2.e) 0)
    else x

/-- A path begins its next search with the PHY entry and THRESH as they stand (R177, R189). -/
def Dev.acrSearch (d : Dev) (a k p : Nat) : Dev :=
  d.setAcrPath a k p { d.acrPath a k p with
    searchPhy := d.phy (d.f (R.ACRK_CFG a k) 0 8), searchThr := d.f (R.ACRK_CFG a k) 8 8 }

/-! ## Group delay (R165, R178) -/

-- Marked: DESIGN CHOICE, log entry 21.
/-- The effective delay of a path in 1/64 sample: PDLY plus, on the path of the earlier digitizer, the measured skew,
saturated to 255 (R165, R173). -/
def Dev.acrDelay (d : Dev) (a k p : Nat) : Nat :=
  let skew := sfld (d.reg (R.ACR_SKEW a)) 0 16
  let n := skew.natAbs / (4 * d.acrTs a k)
  let mine := if p = 0 then decide (0 < skew) else decide (skew < 0)
  min 255 (d.f (R.ACRK_PDLY a k) (16 * p) 8 + if mine then n else 0)

/-- Group delay of a path in 1/256 tick; a Narrow cross-fade reports the new set (R178). -/
def Dev.acrGd (d : Dev) (a k p : Nat) : Nat :=
  let set := d.reg (if d.b (R.ACRK_STATUS a k) 29 then R.ACRK_FIRPEND a k else R.ACRK_FIRACT a k)
  let t := firTaps set
  let rank := d.reg (R.ACRK_RANK a k)
  let n := if fld rank 30 2 = 1 then rankLen rank else 1
  let fg := if t = 0 then 0 else if bitOf set 15 then 128 * (t - 1) else 4 * d.f (R.ACRK_GDMIN a k) 0 16
  256 * frontDelay (d.acrFront a) +
    d.acrTs a k * ((if d.b (R.ACR_CFG a) 5 then 512 else 1408) + 128 * (n - 1) + fg + 384 + 4 * d.acrDelay a k p)

/-! ## Descriptors (R183) -/

/-- The group of a channel. -/
def acrGroup (a k : Nat) : Nat := if a = 0 then k / 16 else 8

def Dev.acrQueue (d : Dev) (h g : Nat) : List Word := tget nilDflt d.acrq (16 * h + g)

/-- One half's copy of a descriptor: queued whole within 16 KiB, or dropped whole and counted. -/
def Dev.acrPush (d : Dev) (a k : Nat) (ws : List Word) (h : Nat) : Dev :=
  let g := acrGroup a k
  let key := 16 * h + g
  let q := d.acrQueue h g
  if q.length + ws.length ≤ 4096 then
    ({ d with acrq := tput nilDflt d.acrq key (q ++ ws) }).pmcOctets (10 + a) 1 (4 * ws.length)
  else
    { d with acrDrops := tput zeroDflt d.acrDrops key (min 65535 (tget zeroDflt d.acrDrops key + 1)) }.bumpF
      (R.ACR_DROP a (if a = 0 then 8 * h + g else h)) 0 16 1

/-- A descriptor for each half. -/
def Dev.acrDescriptor (d : Dev) (a k : Nat) (ws : List Word) : Dev := (d.acrPush a k ws 0).acrPush a k ws 1

/-- The timestamp of a frame on a path: in Full, gd is subtracted and bit 19 set (R178). -/
def Dev.acrStamp (d : Dev) (a : Nat) (x : RxFrame) : List Word := x.stamp (1 + a) (d.acrFull a)

/-- A blanked fraction in 1/256 exceeds BLK_LIMIT (R171). -/
def Dev.overLimit (d : Dev) (a k blanked samples : Nat) : Bool :=
  decide (d.f (R.ACRK_RANK a k) 16 8 * samples < 256 * blanked)

-- Marked: DESIGN CHOICE, log entry 14.
/-- Abandons the frame in progress on a path: with its SFD found, a descriptor of status 2. Its RSSI, its LQI and its
blanked fraction up to then, `n` of 256, are what the receiver measured, which the model leaves free (R177, R188, R192). -/
def Dev.acrAbandon (d : Dev) (a k p : Nat) : Dev :=
  let x := d.acrPath a k p
  match x.rx with
  | none => d
  | some f =>
    let d := (d.overGone a fun d => d.setAcrPath a k p { x with rx := none, mark := false }).acrSearch a k p
    if f.sfd then
      let (m, d) := d.fresh
      let (w, d) := d.fresh
      let n := min 256 (fld w 0 9)
      let blk := b2n (d.overLimit a k n 256)
      d.acrDescriptor a k ([pack [(29, 2), (15, p), (8, k), (7, b2n x.mark), (6, blk)], setFld m 0 8 (min 255 n),
        pack [(13, b2n x.mark), (12, blk), (11, p), (8, 1 + p)]] ++ d.acrStamp a f)
    else d

/-- Abandons every frame in progress. -/
def Dev.acrAbandonAll (d : Dev) (a : Nat) : Dev :=
  d.forEach (d.acr a).paths fun d e => d.acrAbandon a (e.1 / 2) (e.1 % 2)

/-! ## FIR sets (R172) -/

/-- The sets of a channel as they stand. -/
def Dev.firSets (d : Dev) (a k : Nat) : FirSets :=
  { act := d.reg (R.ACRK_FIRACT a k), actC := (List.range 32).map fun j => d.reg (R.ACRK_ACOEF a k j),
    pend := d.reg (R.ACRK_FIRPEND a k), pendC := (List.range 32).map fun j => d.reg (R.ACRK_PCOEF a k j),
    fade := if d.b (R.ACRK_STATUS a k) 29 then some (tget pairDflt (d.acr a).fades k) else none }

def pastDflt (_ : Nat) : List (Nat × FirSets) := []

/-- The sets a channel had for the output sample of clock period `t` (R172). -/
def Dev.firSetsAt (d : Dev) (a k t : Nat) : FirSets :=
  match ((tget pastDflt (d.acr a).firPast k).filter fun e => decide (t ≤ e.1)).getLast? with
  | some e => e.2
  | none => d.firSets a k

-- Marked: DESIGN CHOICE, log entry 107.
/-- The sets as they stand apply up to clock period `t`: kept while a frame is in progress on the channel. -/
def Dev.keepSets (d : Dev) (a k t : Nat) : Dev :=
  let l := if (d.acrPath a k 0).rx.isSome || (d.acrPath a k 1).rx.isSome
    then (t, d.firSets a k) :: tget pastDflt (d.acr a).firPast k else []
  d.setAcr a { d.acr a with firPast := tput pastDflt (d.acr a).firPast k l }

/-- The two banks exchange. -/
def Dev.swapBanks (d : Dev) (a k : Nat) : Dev :=
  let p := d.reg (R.ACRK_FIRPEND a k)
  let q := d.reg (R.ACRK_FIRACT a k)
  let d := (d.setReg (R.ACRK_FIRPEND a k) q).setReg (R.ACRK_FIRACT a k) p
  d.forEach (List.range 32) fun d j =>
    let x := d.reg (R.ACRK_PCOEF a k j)
    let y := d.reg (R.ACRK_ACOEF a k j)
    (d.setReg (R.ACRK_PCOEF a k j) y).setReg (R.ACRK_ACOEF a k j) x

/-- FADING. -/
def Dev.fading (d : Dev) (a k : Nat) : Bool := d.b (R.ACRK_STATUS a k) 29

/-- A cross-fade completes: FADING clears and the banks exchange. -/
def Dev.fadeDone (d : Dev) (a k : Nat) : Dev :=
  let d := d.keepSets a k (min d.clk (tget pairDflt (d.acr a).fades k).1)
  let d := d.setAcr a { d.acr a with fades := tdel k (d.acr a).fades }
  (d.setB (R.ACRK_STATUS a k) 29 false).swapBanks a k

-- Marked: DEDUCED, log entry 16.
/-- A SWAP with cross-fade length `x`, by the first row of R172 that applies; TAPS above 64 are refused with LIMIT.
While the receiver is not running no output sample exists to fade over, and the exchange is at once (log entry 16). -/
def Dev.acrSwap (d : Dev) (a k x : Nat) : Dev :=
  let res (d : Dev) (v : Nat) : Dev := d.setF (R.ACRK_STATUS a k) 23 3 v
  let pend := d.reg (R.ACRK_FIRPEND a k)
  let full := d.acrFull a
  if d.fading a k then res d 1
  else if full && !bitOf pend 15 then res d 2
  else if (full && decide (16 < firTaps pend)) || decide (64 < firTaps pend) then res d 3
  else
    let d := res d 0
    if x = 0 || (full && firTaps pend != firTaps (d.reg (R.ACRK_FIRACT a k))) then
      ((d.keepSets a k d.clk).swapBanks a k).disturbChan a k d.clk
    else if d.acrState a < 3 then d.swapBanks a k
    else
      let d := d.keepSets a k d.clk
      (d.setAcr a { d.acr a with fades := tput pairDflt (d.acr a).fades k (d.clk + x * d.acrTs a k, x) }).setB
        (R.ACRK_STATUS a k) 29 true

/-- The last output sample of a cross-fade has come. -/
def Dev.acrFadeEnd (d : Dev) (a k : Nat) : Dev :=
  let t := tget pairDflt (d.acr a).fades k
  if d.fading a k && decide (t.1 ≤ d.clk) then d.fadeDone a k else d

/-! ## Commands (R162, R164, R165, R177) -/

/-- A command's result; `busy` when its completion comes later. -/
def Dev.acrRes (d : Dev) (a v : Nat) (busy : Bool) : Dev :=
  let d := d.setAcr a { d.acr a with busy := busy }
  (d.setF (R.ACR_STATUS a) 28 3 v).setB (R.ACR_STATUS a) 31 (!busy)

-- Marked: DESIGN CHOICE, log entry 107.
/-- A command refused: CMDRES reports it, and CMDDONE stays 0 while an earlier command is in progress (log entry 107). -/
def Dev.acrRefuse (d : Dev) (a v : Nat) : Dev :=
  (d.setF (R.ACR_STATUS a) 28 3 v).setB (R.ACR_STATUS a) 31 (!(d.acr a).busy)

/-- The command in progress has completed. -/
def Dev.acrDone (d : Dev) (a : Nat) : Dev :=
  if (d.acr a).busy then (d.setAcr a { d.acr a with busy := false }).setB (R.ACR_STATUS a) 31 true else d

/-- The receiver's votes on its two domains. -/
def Dev.acrVote (d : Dev) (a : Nat) (on_ : Bool) : Dev := (d.vote (8 + 2 * a) 0 on_).vote (9 + 2 * a) 0 on_

-- Marked: DESIGN CHOICE, log entry 107.
/-- ENABLE: CONFIG and DIGEN are checked, and STOPPED follows 50 µs later; while STATE is still OFF a second ENABLE begins
the 50 µs again (log entry 107). -/
def Dev.acrEnable (d : Dev) (a : Nat) : Dev :=
  if d.acrState a ≠ 0 then d.acrRefuse a 1
  else
    let c := d.f (R.ACR_CFG a) 0 2
    if c = 0 ∨ c = 3 ∨ d.f (R.ACR_CFG a) 6 2 = 0 then d.acrRefuse a 2
    else (d.setAcr a { d.acr a with until_ := d.clk + 8000 }).acrRes a 0 true

/-- STOPPED, 50 µs after ENABLE. -/
def Dev.acrEnableDone (d : Dev) (a : Nat) : Dev :=
  if d.acrState a = 0 && (d.acr a).busy && decide ((d.acr a).until_ ≤ d.clk)
  then ((d.setAcrState a 1).acrDone a).acrVote a true else d

/-- The prototype table is symmetric: coefficient i equals coefficient 6,143 − i. -/
def Dev.protoSymmetric (d : Dev) (a : Nat) : Bool :=
  (d.listed (R.ACR_PROTO a 0) 4 3072).all fun j =>
    let w := d.reg (R.ACR_PROTO a j)
    let m := d.reg (R.ACR_PROTO a (3071 - j))
    fld w 0 16 == fld m 16 16 && fld w 16 16 == fld m 0 16

-- Marked: DESIGN CHOICE, log entry 107.
/-- The checks of START, in order: the first that fails (R164). No check names a CONFIG that is neither Narrow nor Full: the
receiver then runs as Narrow (log entry 107). -/
def Dev.acrStartCheck (d : Dev) (a : Nat) : Option Nat :=
  let on_ := d.acrEnabled a
  let full := d.acrFull a
  if d.tbState = 0 then some 4
  else if full && (d.acrFront a != 0 ||
      on_.any (fun k => rankLen (d.reg (R.ACRK_RANK a k)) == 7 || decide (16 < firTaps (d.reg (R.ACRK_FIRACT a k)))))
    then some 2
  else if d.acrLimit a < on_.length then some 2
  else if a = 0 && (decide (4 < d.acrFront 0) || !windowOk (d.acrFront 0) (d.f (R.ACR_CENTRE 0) 0 16)) then some 2
  else if full && (d.b (R.ACR_CFG a) 5 || !d.protoSymmetric a ||
      on_.any (fun k => !d.b (R.ACRK_FIRACT a k) 15)) then some 3
  else none

/-- Every path of the enabled channels is unsettled until `e` (R175). -/
def Dev.unsettleAll (d : Dev) (a e : Nat) : Dev := d.forEach (d.acrEnabled a) fun d k => d.disturbChan a k e

/-- The kind in progress, by its bit in FAIL, `t` ticks into CAL: DC offset, image rejection, then skew (R165). -/
def acrCalKind (t : Nat) : Option Nat :=
  if t < 6400 then some 2 else if t < 70400 then some 1 else if t < 102400 then some 0 else none

/-- CAL begins, for 640 µs; at a START every path is unsettled until its end (R165, R175). -/
def Dev.acrBeginCal (d : Dev) (a back : Nat) : Dev :=
  let d := ((d.setAcr a { d.acr a with until_ := d.clk + 102400, back := back, kind := acrCalKind 0 }).setAcrState a 2).acrRes
    a 0 true
  if back = 3 then d.unsettleAll a (d.clk + 102400) else d

/-- START. -/
def Dev.acrStart (d : Dev) (a : Nat) : Dev :=
  if d.acrState a ≠ 1 then d.acrRefuse a 1
  else match d.acrStartCheck a with
    | some r => d.acrRefuse a r
    | none => d.acrBeginCal a 3

/-- CALIBRATE. -/
def Dev.acrCalibrate (d : Dev) (a : Nat) : Dev :=
  if d.acrState a ≠ 1 then d.acrRefuse a 1 else d.acrBeginCal a 1

/-- STOP: every frame in progress is abandoned and every cross-fade completes at once. -/
def Dev.acrStop (d : Dev) (a : Nat) : Dev :=
  if d.acrState a < 3 then d.acrRefuse a 1
  else
    let d := d.acrAbandonAll a
    let d := d.forEach ((d.acr a).fades.map Prod.fst) fun d k => d.fadeDone a k
    (d.setAcrState a 1).acrRes a 0 false

/-- DISABLE. -/
def Dev.acrDisable (d : Dev) (a : Nat) : Dev :=
  if d.acrState a ≠ 1 then d.acrRefuse a 1 else ((d.setAcrState a 0).acrRes a 0 false).acrVote a false

/-- The temperature of the receiver: the ring of its front end, SN86 or SN88 (R358). -/
def Dev.acrTemp (d : Dev) (a : Nat) : Int := sfld (d.reg (R.MGN_SN_ENV (86 + 2 * a))) 8 8

-- Marked: DESIGN CHOICE, log entry 107.
/-- The kind that has run its time gives what it measured, and the next begins, in table order (R165). -/
def Dev.acrCalStep (d : Dev) (a : Nat) : Dev :=
  let now := acrCalKind (d.clk + 102400 - (d.acr a).until_)
  if d.acrState a ≠ 2 ∨ now = (d.acr a).kind then d else
  let was := (d.acr a).kind
  (d.setAcr a { d.acr a with kind := now }).forEach [0, 1] fun d p =>
    if was = some 0 then d else
    let (w, d) := d.fresh
    let g := d.acrDig a p
    d.setAcrDig a p (if was = some 2 then { g with newDc := w } else { g with newImage := w })

/-- The calibration ends: kinds in `fail` (bit 2 DC offset, 1 image, 0 skew) keep their previous values, the others
take what was measured; CAL_DUE clears; then RUN with every path unsettled, or STOPPED (R162, R165, R166). Paths an overload
left unsettled before a STOP stay its paths, their E moved to the end of CAL (R176). -/
def Dev.acrCalEnd (d : Dev) (a fail : Nat) (skew : Int) : Dev :=
  if d.acrState a = 2 && decide ((d.acr a).until_ ≤ d.clk) then
    let d := d.setF (R.ACR_CALSTAT a) 29 3 fail
    let d := d.forEach [0, 1] fun d p =>
      let g := d.acrDig a p
      d.setAcrDig a p { g with dc := if fail.testBit 2 then g.dc else g.newDc
                               image := if fail.testBit 1 then g.image else g.newImage }
    let d := if fail.testBit 0 then d else d.setReg (R.ACR_SKEW a) (wd (patt 16 skew))
    let d := ((d.setAcr a { d.acr a with calTemp := d.acrTemp a + 1000 }).setB (R.ACR_STATUS a) 26 false).acrDone a
    let d := d.setAcrState a (d.acr a).back
    if (d.acr a).back = 3 then d.unsettleAll a d.clk else d
  else d

/-! ## Channels (R168, R173, R177, R182) -/

/-- Disables a channel whose settings no longer fit. -/
def Dev.acrUnfit (d : Dev) (a k : Nat) : Dev :=
  ((d.setB (R.ACRK_CFG a k) 31 false).setF (R.ACRK_STATUS a k) 26 2 2)

-- Marked: DESIGN CHOICE, log entry 19.
/-- A write of ACRS_CENTRE (R177); in RETUNE it begins the 9,600 ticks again (log entry 19). -/
def Dev.acrCentre (d : Dev) (w : Word) : Dev :=
  if !windowOk (d.acrFront 0) (fld w 0 16) then d.setB (R.ACR_STATUS 0) 27 true
  else
    let d := d.setReg (R.ACR_CENTRE 0) (w &&& 0xFFFF#32)
    if d.acrState 0 < 3 then d else
      let d := d.acrAbandonAll 0
      let d := d.forEach ((d.acrEnabled 0).filter fun k => !acrFits 0 k (d.acrFront 0) (d.reg (R.ACRK_CFG 0 k)))
        fun d k => d.acrUnfit 0 k
      (((d.setAcr 0 { d.acr 0 with until_ := d.clk + 9600 }).setAcrState 0 4).acrCount 0).unsettleAll 0 (d.clk + 9600)

/-- RETUNE ends: RUN, where every path's disturbance ends. -/
def Dev.acrRetuneEnd (d : Dev) : Dev :=
  if d.acrState 0 = 4 && decide ((d.acr 0).until_ ≤ d.clk) then
    (d.setAcrState 0 3).unsettleAll 0 d.clk
  else d

-- Marked: DESIGN CHOICE, log entry 19.
/-- A write of ACRSk_CFG or ACRWk_CFG: an enable that does not fit, or goes over the limit, leaves EN = 0 and is
reported; a change of EN, WIDTH or OFFSET abandons frames; a change of WIDTH or OFFSET, an enable and P1_EN make paths
unsettled. -/
def Dev.acrChanCfg (d : Dev) (a k : Nat) (w : Word) : Dev :=
  let key := R.ACRK_CFG a k
  let old := d.reg key
  let w := w &&& (if a = 0 then 0xF7FFFFFF#32 else 0xC000FFFF#32)
  let wasOn := bitOf old 31
  let fits := acrFits a k (d.acrFront a) w
  let others := (d.acrEnabled a).length - b2n wasOn
  let refused := if !bitOf w 31 then none else if !fits then some 2
    else if !wasOn && decide (d.acrLimit a < others + 1) then some 1 else none
  let new := if refused.isSome then setBit w 31 false else w
  let d := match refused with | some r => d.setF (R.ACRK_STATUS a k) 26 2 r | none => d
  let moved := fld old 16 14 != fld new 16 14 && a == 0
  let d := if bitOf old 31 != bitOf new 31 || moved then (d.acrAbandon a k 0).acrAbandon a k 1 else d
  let d := d.overGone a fun d => d.setReg key new
  let turnedOn := bitOf new 31 && !wasOn
  let d := if turnedOn then ((d.setB (R.ACRK_STATUS a k) 28 false).acrSearch a k 0).acrSearch a k 1 else d
  let d := if turnedOn || moved then d.disturbChan a k d.clk
    else if bitOf new 30 && !bitOf old 30 then d.disturb a k 1 d.clk false else d
  d.acrCount a

/-- A write of a channel's phase delays: a change by exactly 1 applies without suppression, any other change makes that
path unsettled (R173). -/
def Dev.acrPdly (d : Dev) (a k : Nat) (w : Word) : Dev :=
  let key := R.ACRK_PDLY a k
  let old := d.reg key
  let d := d.setReg key (w &&& 0x00FF00FF#32)
  d.forEach [0, 1] fun d p =>
    let x : Int := fld old (16 * p) 8
    let y : Int := fld w (16 * p) 8
    if 1 < (x - y).natAbs then d.disturb a k p d.clk false else d

/-- A write of a channel's rank stage: length 7 in Full is discarded with WERR; a new mode or length makes the paths
unsettled (R169, R175). -/
def Dev.acrRank (d : Dev) (a k : Nat) (w : Word) : Dev :=
  if d.acrFull a && fld w 28 2 == 2 then d.setB (R.ACR_STATUS a) 27 true else
  let old := d.reg (R.ACRK_RANK a k)
  let d := d.setReg (R.ACRK_RANK a k) (w &&& 0xF0FFFF0F#32)
  if fld old 28 4 = fld w 28 4 then d else d.disturbChan a k d.clk

/-- The margin planner sets the allowance: channels above it are disabled in descending order with SHED set. A frame in
progress on a shed channel still completes (R182). The channels shed. -/
def Dev.acrAllow (d : Dev) (a v : Nat) : Dev × List Nat :=
  let d := d.setF (R.ACR_ALLOW a) 0 8 v
  let on_ := d.acrEnabled a
  let shed := (on_.drop v).reverse
  let d := d.overGone a fun d =>
    d.forEach shed fun d k => (d.setB (R.ACRK_CFG a k) 31 false).setB (R.ACRK_STATUS a k) 28 true
  (d.acrCount a, shed)

/-! ## The chain (R163, R167, R169, R170, R172) -/

-- Marked: DESIGN CHOICE, log entry 107.
/-- One channel sample through stages 6 to 8 of a path, `left` output samples before the present one (R167): the path,
whether the sample counts as blanked, and whether the FIR or the interpolator saturated. -/
def Dev.chainStep (d : Dev) (a k p left : Nat) (x : AcrPath) (s : Sample) : AcrPath × Bool × Bool :=
  let w := d.reg (R.ACRK_RANK a k)
  let t := d.clk - left * d.acrTs a k
  let c := d.firSetsAt a k t
  let (x, y, counted) := rankStep w (rankLen w) x s
  let h := (y :: x.firHist).take 64
  let (old, s1) := firOut c.act c.actC h
  let (f, s2) := match c.fade with
    | some (e, n) => let (new, s) := firOut c.pend c.pendC h; (blend n (n - (e - t) / d.acrTs a k) old new, s)
    | none => (old, false)
  let g := (f :: x.fracHist).take 4
  let (_, s3) := narrowS false 0 14 16 (firSum ((List.range 4).map (Config.interpTap (d.acrDelay a k p))) g)
  ({ x with firHist := h, fracHist := g }, counted, s1 || s2 || s3)

/-- A list of channel samples through a path: the path, how many count as blanked, and whether a stage saturated. -/
def Dev.chainRun (d : Dev) (a k p : Nat) : List Sample → AcrPath → AcrPath × Nat × Bool
  | [], x => (x, 0, false)
  | s :: l, x =>
    let (x, c, sat) := d.chainStep a k p l.length x s
    let (x, n, sat') := d.chainRun a k p l x
    (x, n + b2n c, sat || sat')

/-- One channel sample enters a path as it comes: a frame in progress counts it (R170). -/
def Dev.chainOne (d : Dev) (a k p : Nat) (s : Sample) : Dev :=
  let (x, c, sat) := d.chainStep a k p 0 (d.acrPath a k p) s
  let d := d.setAcrPath a k p { x with seen := x.seen + 1, hits := x.hits + b2n c }
  if sat then d.setB (R.ACRK_STATUS a k) 22 true else d

/-- The coefficients of the prototype. -/
def Dev.protoTaps (d : Dev) (a : Nat) : List Int :=
  (List.range 6144).map fun i => sfld (d.reg (R.ACR_PROTO a (i / 2))) (16 * (i % 2)) 16

-- Marked: DESIGN CHOICE, log entry 107.
/-- The channelizer's output for channel `k` of digitizer `p`, narrowed as CHZ_MODE and CHZ_SHIFT say: one for every Ts of
its input (R160, R167, R169). -/
def Dev.chzOut (d : Dev) (a k p : Nat) : Option Sample :=
  let g := (d.acrDig a p).chz
  let per := chzPeriod a (d.acrFront a)
  let ts := d.acrTs a k
  let cfg := d.reg (R.ACRK_CFG a k)
  let rnd := d.reg (R.ACR_ROUND a)
  if per ≤ g.n * per % ts then none else
    some (narrowS (bitOf rnd 19) (fld rnd 15 4) 14 16
      (Config.channelized (d.protoTaps a) (chanOffset a k cfg) (fld cfg 28 2) (g.hist.take (cdiv (12 * ts) per)))).1

-- Marked: DESIGN CHOICE, log entry 107.
/-- A clamped digitizer code passes the shared stages, and where the channelizer gives a channel its next sample that sample
enters the channel's path of this digitizer (R163, R167). The DC tracking loop follows the code (R165). -/
def Dev.frontSample (d : Dev) (a p : Nat) (s : Sample) : Dev :=
  let g := d.acrDig a p
  let hb (base : Nat) := (List.range 6).map fun k => sfld (d.reg (base + 4 * k)) 0 16
  let (g, y) := frontStages (d.reg (R.ACR_ROUND a)) (hb (R.ACR_HB1C a 0)) (hb (R.ACR_HB2C a 0)) (d.acrFront a)
    (if a = 1 then windowW.1 else d.f (R.ACR_CENTRE 0) 0 16) g (Config.corrected a g.dc g.image s)
  let g := { g with code := s, dc := Config.dcTracked a g.dc s }
  match y with
  | none => d.setAcrDig a p g
  | some y =>
    (d.setAcrDig a p { g with chz := { hist := (y :: g.chz.hist).take 600, n := (g.chz.n + 1) % 3200 } }).forEach
      ((d.listed (R.ACRK_CFG a 0) 0x200 (acrChans a)).filter fun k => d.acrRuns a k && d.acrHasPath a k p) fun d k =>
        match d.chzOut a k p with
        | some y => d.chainOne a k p y
        | none => d

/-! ## Overload and AGC (R179 to R181) -/

/-- A lane that ACRx_TXFREEZE selects is transmitting. -/
def Dev.acrFrozen (d : Dev) (a : Nat) : Bool :=
  (List.range 16).any fun n => d.b (R.ACR_TXFREEZE a) n && (d.radio n).st == sTX

/-- Ticks to the next digitizer sample, rounded up. -/
def digStep (a : Nat) : Nat := if a = 0 then 4 else 2

/-- Attenuation of a digitizer in 6 dB steps. -/
def Dev.attn (d : Dev) (a p : Nat) : Nat := d.f (R.ACR_AGC a p) 24 3

/-- Largest code of a digitizer; the most negative one is its opposite (R160). -/
def maxCode (a : Nat) : Int := if a = 0 then 8191 else 2047

/-- A digitizer code clamped to its range (R179). -/
def clampCode (a : Nat) (s : Sample) : Sample :=
  ⟨max (-maxCode a) (min (maxCode a) s.i), max (-maxCode a) (min (maxCode a) s.q)⟩

-- Marked: DESIGN CHOICE, log entry 107.
/-- A sample above −18 dBFS: its power against that of the largest code, 10^−1.8 being 15,849 ÷ 10^6 (R180). -/
def strongCode (a : Nat) (s : Sample) : Bool :=
  decide (15849 * (maxCode a * maxCode a) < 1000000 * (s.i * s.i + s.q * s.q))

-- Marked: DESIGN CHOICE, log entry 107.
/-- A digitizer sample, which passes the chain. Outside the code range it is clamped, OVR set, the event started or extended,
and in AUTO mode a step ordered 1.5 µs ahead (R179); an event that affects no path, no channel running on the digitizer, has
no last affected path and is never counted (log entry 107). Within the range it only restarts the step-up hold, where it lies
above −18 dBFS (R180). -/
def Dev.overranged (d : Dev) (a p : Nat) (s : Sample) : Dev :=
  if d.acrState a < 3 then d
  else if clampCode a s = s then
    let d := d.frontSample a p s
    d.setAcrDig a p { d.acrDig a p with lastStrong := if strongCode a s then d.clk else (d.acrDig a p).lastStrong }
  else
  let d := (d.setB (R.ACR_OVR a) (30 + p) true).frontSample a p (clampCode a s)
  let g := d.acrDig a p
  let order := !d.b (R.ACR_AGC a p) 31 && g.ordered.isNone && decide (d.attn a p < 7) && !d.acrFrozen a
  let ordered := if order then some (d.clk + 240) else g.ordered
  let e := max (d.clk + digStep a) (if d.acrFrozen a then 0 else ordered.getD 0)
  let d := d.setAcrDig a p { g with ordered := ordered, lastOver := some d.clk, lastStrong := d.clk, e := max g.e e }
  (d.disturbDig a p e true).acrSettling a

-- Marked: DESIGN CHOICE, log entry 19.
/-- An ordered step down takes effect; none is made in MANUAL, in RETUNE, or while a freezing lane transmits: it lapses
(R177, R179 to R181, log entry 19). -/
def Dev.agcDown (d : Dev) (a p : Nat) : Dev :=
  let g := d.acrDig a p
  match g.ordered with
  | none => d
  | some t =>
    if d.clk < t then d else
    let d := d.setAcrDig a p { g with ordered := none }
    if d.acrFrozen a || d.acrState a != 3 || d.b (R.ACR_AGC a p) 31 then d else
    let d := (d.setF (R.ACR_AGC a p) 24 3 (min 7 (d.attn a p + 1))).bumpF (R.ACR_AGC a p) 0 8 1
    (d.setAcrDig a p { d.acrDig a p with e := max g.e d.clk }).disturbDig a p d.clk true

-- Marked: DEDUCED, log entry 20.
/-- The step-up hold in clock periods; 0 ms acts as 1. -/
def Dev.upHold (d : Dev) (a p : Nat) : Nat := max 1 (d.f (R.ACR_AGC a p) 16 8) * ms

-- Marked: DEDUCED, log entry 20.
/-- A due step up is made with no preamble or frame on the digitizer's paths, or 100 ms late regardless, any frame it
overlaps then carrying the mark (R180). -/
def Dev.agcUp (d : Dev) (a p : Nat) : Dev :=
  let g := d.acrDig a p
  let dueAt := g.lastStrong + d.upHold a p
  let busy := (d.acr a).paths.any fun e => e.1 % 2 == p && e.2.rx.isSome
  if !d.b (R.ACR_AGC a p) 31 && decide (0 < d.attn a p) && d.acrState a == 3 && !d.acrFrozen a &&
      decide (dueAt ≤ d.clk) && (!busy || decide (dueAt + 100 * ms < d.clk)) then
    let d := (d.setF (R.ACR_AGC a p) 24 3 (d.attn a p - 1)).setAcrDig a p { g with lastStrong := d.clk }
    let d := d.forEach ((d.acr a).paths.filter fun e => e.1 % 2 == p && e.2.rx.isSome) fun d e =>
      d.setAcrPath a (e.1 / 2) p { d.acrPath a (e.1 / 2) p with mark := true }
    d.disturbDig a p d.clk false
  else d

-- Marked: DESIGN CHOICE, log entry 21.
/-- A path reaches its H-th output sample at or after E + S: it is settled, and with the digitizer's last overload path
the clean-after time is recorded and the event counted (R176, R179). -/
def Dev.pathSettled (d : Dev) (a k p : Nat) : Dev :=
  let x := d.acrPath a k p
  let first := x.e + frontSpan (d.acrFront a) + (d.acrH a k - 1) * d.acrTs a k
  if d.acrState a = 3 && !x.settled && d.acrRuns a k && d.acrHasPath a k p && decide (first ≤ d.clk) then
    let was := x.ovl
    let d := (d.setAcrPath a k p { x with settled := true, ovl := false }).acrSearch a k p
    if was && !d.acrOverPaths a p then d.overClean a p x.e else d.acrSettling a
  else d

/-- W1C of ACRx_OVR: clearing OVRd also clears EVENTSd and DOWNCNT (R185). -/
def Dev.acrOvrWrite (d : Dev) (a : Nat) (w : Word) : Dev :=
  d.forEach [0, 1] fun d p =>
    if bitOf w (30 + p) then
      ((d.setB (R.ACR_OVR a) (30 + p) false).setF (R.ACR_OVR a) (8 * p) 8 0).setF (R.ACR_AGC a p) 0 8 0
    else d

-- Marked: DESIGN CHOICE, log entries 19 and 107.
/-- A write of ACRx_AGCd: ATTN is taken only in MANUAL, where a new level is a step and a step already
ordered is dropped (R180, R185, log entry 107). -/
def Dev.acrAgcWrite (d : Dev) (a p : Nat) (w : Word) : Dev :=
  let old := d.reg (R.ACR_AGC a p)
  let new := setFld (w &&& 0x87FF0000#32) 0 8 (fld old 0 8)
  if bitOf w 31 then
    let d := (d.setReg (R.ACR_AGC a p) new).setAcrDig a p { d.acrDig a p with ordered := none }
    if fld old 24 3 = fld w 24 3 then d else d.disturbDig a p d.clk false
  else d.setReg (R.ACR_AGC a p) (setFld new 24 3 (fld old 24 3))

end Sys2Proof.Machine
end

