-- ==== Sys2Proof/Machine/Timebase.lean ====
section
/-!
DEFINITION. The Timebase: reference states, PPS alignment and slew, PPS_OUT, and requests a Main Processor makes of a
Gate Unit (R23 to R35, R41, R49, R52).
-/

namespace Sys2Proof.Machine

/-! ## Sources and states (R24 to R26) -/

abbrev TBG_REF : Nat := 5
abbrev TBG_XO : Nat := 6

/-- TBG_CTRL.SRC = XO. -/
def Dev.srcXo (d : Dev) : Bool := d.b R.TBG_CTRL 0

/-- Enters a Timebase state; a change posts (R25). -/
def Dev.setTb (d : Dev) (s : Nat) : Dev :=
  if d.tbState = s then d else (d.setF R.TBG_STATUS 0 2 s).hwEvent srcTimebase

/-- Enters holdover from the present state (R26). -/
def Dev.holdover (d : Dev) (tcxo : Bool) : Dev :=
  { d with tb := { d.tb with holdFrom := d.tbState, holdTcxo := tcxo, locked := false } }.setTb 3

/-- REF_IN is qualified; a holdover entered from state 2 ends. -/
def Dev.refQualified (d : Dev) : Dev :=
  if !d.pdRun 2 then d else
  let d := d.setB R.TBG_STATUS TBG_REF true
  if d.tbState = 3 && d.tb.holdFrom == 2 && !d.srcXo
  then { d with tb := { d.tb with locked := true } }.setTb 2 else d

/-- The synthesizer locks to REF_IN. -/
def Dev.synthLock (d : Dev) : Dev :=
  if d.pdRun 2 && d.b R.TBG_STATUS TBG_REF && !d.srcXo && !d.tb.locked
  then { d with tb := { d.tb with locked := true, everLocked := true } }.setTb 2 else d

/-- REF_IN is lost: holdover from state 2. -/
def Dev.refLost (d : Dev) : Dev :=
  if !d.pdRun 2 then d else
  let d := d.setB R.TBG_STATUS TBG_REF false
  if d.tbState = 2 then d.holdover (d.b R.TBG_STATUS TBG_XO) else { d with tb := { d.tb with locked := false } }

/-- The TCXO is present. -/
def Dev.tcxoPresent (d : Dev) : Dev :=
  if !d.pdRun 2 then d else
  let d := d.setB R.TBG_STATUS TBG_XO true
  if d.tbState = 0 && (d.srcXo || !d.tb.everLocked) then d.setTb 1
  else if d.tbState = 3 then
    if d.tb.holdFrom = 1 || d.srcXo then d.setTb 1 else { d with tb := { d.tb with holdTcxo := true } }
  else d

/-- The TCXO is lost: holdover from state 1; in holdover the oscillator's held control word takes over. -/
def Dev.tcxoLost (d : Dev) : Dev :=
  if !d.pdRun 2 then d else
  let d := d.setB R.TBG_STATUS TBG_XO false
  if d.tbState = 1 then d.holdover false
  else if d.tbState = 3 then { d with tb := { d.tb with holdTcxo := false } } else d

-- Marked: DEDUCED, log entry 17.
/-- SRC has been changed: XO selects the TCXO where it is present and holds over where it is not; REF_IN takes effect
when the synthesizer locks (log entry 17). -/
def Dev.srcChanged (d : Dev) : Dev :=
  if d.srcXo && d.tbState != 0 then
    if d.b R.TBG_STATUS TBG_XO then { d with tb := { d.tb with locked := false } }.setTb 1
    else if d.tbState = 3 then d else d.holdover false
  else if d.srcXo && d.b R.TBG_STATUS TBG_XO then d.setTb 1
  else if d.tbState = 0 && !d.tb.everLocked && d.b R.TBG_STATUS TBG_XO then d.setTb 1
  else d

/-! ## PPS (R30 to R32) -/

abbrev tickSec : Nat := 160000000

/-- The value congruent to `x` modulo one second within −80,000,000 to 79,999,999. -/
def wrapSec (x : Int) : Int := (x + 80000000) % tickSec - 80000000

/-- The slew interval; SLEW_SHIFT is held within 10 to 20 (R52). -/
def Dev.slewGap (d : Dev) : Nat := 2 ^ max 10 (min 20 (d.f R.TBG_CTRL 8 5))

/-- Begins a slew that removes `e` (R32). -/
def Dev.slew (d : Dev) (e : Int) : Dev :=
  { d with tb := { d.tb with err := e, slewAt := d.clk + d.slewGap } }.setB R.TBG_STATUS 3 (decide (e ≠ 0))

/-- The action of R31 on an accepted edge; the count reads 0 in state 0, so no step is made there (log entry 17). -/
def Dev.ppsAlign (d : Dev) (first : Bool) (e : Int) : Dev :=
  match d.f R.TBG_CTRL 2 2 with
  | 1 => d.slew e
  | 2 =>
    if first && !d.anyArmed && d.tbState != 0 then
      let d := { d with tb := { d.tb with count := (d.count + (-e % tickSec).toNat) % 2 ^ 64 } }
      (d.slew 0).setB R.TBG_STATUS 4 true
    else d.slew e
  | _ => d

-- Marked: DEDUCED, log entry 17.
/-- An edge of PPS_IN in the direction PPSIN_POL selects (R52): captured, its error reported, and accepted or refused
(R30). -/
def Dev.ppsEdge (d : Dev) (rising : Bool) : Dev :=
  if !d.pdRun 2 || rising == d.b R.TBG_CTRL 4 then d else
  let c := d.count
  let e := wrapSec (c + sfld (d.reg R.TBG_PPSIN_DLY) 0 16)
  let d := (d.setPair R.TBG_PPSCAP_LO R.TBG_PPSCAP_HI c).setReg R.TBG_PPSERR (wd (patt 32 e))
  let first := !d.b R.TBG_STATUS 7
  if !first && decide (d.f R.TBG_PPSWIN 0 24 < e.natAbs) then d else
  let d := (d.setB R.TBG_STATUS 7 true).setF R.TBG_STATUS 8 4 0
  let d := { d with tb := { d.tb with ppsAnchor := c, ppsK := 1 } }.hwEvent srcPps
  (d.ppsAlign first e).discEdge

/-- Second k is judged: a miss, for an edge accepted since would have restarted the judgement (R30). -/
def Dev.ppsJudge (d : Dev) : Dev :=
  if d.pdRun 2 && d.b R.TBG_STATUS 7 &&
      decide (d.tb.ppsAnchor + d.tb.ppsK * tickSec + d.f R.TBG_PPSWIN 0 24 ≤ d.count) then
    let m := min 15 (d.f R.TBG_STATUS 8 4 + 1)
    let d := d.setF R.TBG_STATUS 8 4 m
    let d := { d with tb := { d.tb with ppsK := d.tb.ppsK + 1 } }
    (if 3 ≤ m then d.setB R.TBG_STATUS 7 false else d).discMiss
  else d

/-! ## PPS_OUT (R34) -/

/-- PPS_OUT second boundaries at or before count `c`. -/
def Dev.boundaries (d : Dev) (c : Nat) : Nat :=
  let o := d.f R.TBG_PPSOUT_OFS 0 28
  if c < o then 0 else (c - o) / tickSec + 1

/-- Boundaries before the present count need no pulse: PPSOUT_EN or the offset has been written. -/
def Dev.ppsOutArm (d : Dev) : Dev :=
  { d with tb := { d.tb with ppsDone := if d.count = 0 then 0 else d.boundaries (d.count - 1) } }

/-- PPS_OUT rises at the first tick that reaches a boundary not yet pulsed. -/
def Dev.ppsRise (d : Dev) : Dev :=
  if d.pdRun 2 && d.b R.TBG_CTRL 5 && d.tbState != 0 && decide (d.tb.ppsDone < d.boundaries d.count) then
    { d with tb := { d.tb with
        ppsOut := true, ppsFall := d.clk + d.f R.TBG_PPSOUT_W 0 27, ppsDone := d.boundaries d.count } }
  else d

/-- PPS_OUT has been high for its width. -/
def Dev.ppsFalls (d : Dev) : Dev :=
  if d.tb.ppsOut && decide (d.tb.ppsFall ≤ d.clk) then { d with tb := { d.tb with ppsOut := false } } else d

-- Marked: DEDUCED, log entry 17.
/-- A write of TBG_CTRL. -/
def Dev.tbgCtrl (d : Dev) (w : Word) : Dev :=
  let old := d.reg R.TBG_CTRL
  let d := d.setReg R.TBG_CTRL (w &&& 0x1F3D#32)
  let d := if bitOf old 0 = bitOf w 0 then d else d.srcChanged
  if !bitOf w 5 then { d with tb := { d.tb with ppsOut := false } }
  else if bitOf old 5 then d else d.ppsOutArm

/-! ## Reading the count (R35) and requests of a Main Processor (R41, R49, R52) -/

/-- A read of TBG_COUNT_LO by requester `r`. -/
def Dev.countRead (d : Dev) (r : Nat) : Dev × Word :=
  (d.setReg (bankKey r R.TBG_COUNT_HI) (wd (d.count / 2 ^ 32)), wd d.count)

/-- The result register of half `h` for Gate Unit `u`. -/
def Dev.armResult (d : Dev) (h u slot code : Nat) : Dev :=
  d.setReg (bankKey (64 + h) (R.GU_ARMRES u)) (pack [(31, 1), (4, slot), (0, code)])

-- Marked: DEDUCED, log entry 95.
/-- A write of GUn_ARMCMD by Main Processor `h`. -/
def Dev.gunArm (d : Dev) (h : Half) (u : Nat) (w : Word) : Dev :=
  let r := 64 + h.toNat
  let fire := d.pair (bankKey r (R.GU_FIRE_LO u)) (bankKey r (R.GU_FIRE_HI u))
  let (d, k, code) := d.arm (.mp h) u (fld w 16 3) fire (fld w 0 16) (if bitOf w 27 then some (fld w 28 4) else none)
  d.armResult h.toNat u k code

-- Marked: DEDUCED, log entry 95.
/-- A write of GUn_DISARM by Main Processor `h`. -/
def Dev.gunDisarm (d : Dev) (h : Half) (u : Nat) (w : Word) : Dev :=
  let (d, code) := d.disarm (.mp h) u (fld w 0 4)
  d.armResult h.toNat u (fld w 0 4) code

end Sys2Proof.Machine
end

