-- ==== Sys2Proof/Machine/Asb.lean ====
section
/-!
DEFINITION. The Anchor Sync Bus station: queueing, arbitration, delivery, and time alignment across a cluster (R323 to
R329, R332).
-/

namespace Sys2Proof.Machine

/-- Own station address. -/
def Dev.station (d : Dev) : Nat := d.f R.ASB_CFG 0 8
def Dev.asbEn (d : Dev) : Bool := d.b R.ASB_CFG 31

/-- ASB_CLOFS, and the cluster count (R328). -/
def Dev.clofs (d : Dev) : Nat := d.pair R.ASB_CLOFS_LO R.ASB_CLOFS_HI
def Dev.cluster (d : Dev) : Nat := (d.count + d.clofs) % 2 ^ 64

/-- A number in `n` octets, most significant first. -/
def beBytes (n v : Nat) : List Byte := (natBytes n v).reverse
def beNat (l : List Byte) : Nat := leNat l.reverse

/-! ## Bits of a frame (R324) -/

/-- The low `n` bits of a number, most significant first. -/
def bitsOf (n v : Nat) : List Bool := (List.range n).reverse.map fun i => v.testBit i

/-- The CRC of R324 over a bit sequence. -/
def crc16 (l : List Bool) : Nat :=
  l.foldl (fun c b =>
    let top := c.testBit 15 != b
    let c := c * 2 % 65536
    if top then c ^^^ 0x1021 else c) 0xFFFF

/-- SOF through CRC, unstuffed. Stuff bits follow from the bits before them, so two frames first differ at the same place
with and without them. -/
def frameBitsOf (f : BusFrame) : List Bool :=
  let body := bitsOf 4 f.type ++ bitsOf 8 f.addr ++ bitsOf 5 f.data.length ++ (f.data.map fun b => bitsOf 8 b.toNat).flatten
  false :: body ++ bitsOf 16 (crc16 body)

/-- At the first bit where two frames differ, the first sends recessive: it loses (R326). -/
def losesTo : List Bool → List Bool → Bool
  | a :: l, b :: r => if a = b then losesTo l r else a
  | _, _ => false

/-- The line bits: after five equal bits one of the opposite value (R324); the last bit and how many equal it are given. -/
def stuff : Bool → Nat → List Bool → List Bool
  | _, _, [] => []
  | last, n, b :: l =>
    let n := if b = last then n + 1 else 1
    if n = 5 then b :: (!b) :: stuff (!b) 1 l else b :: stuff b n l

/-- What a sender drives: SOF through CRC stuffed, then ACK and EOF recessive. -/
def lineBits (f : BusFrame) : List Bool := stuff true 0 (frameBitsOf f) ++ List.replicate 8 true

/-- What two stations drive alike before they differ. -/
def alike : List Bool → List Bool → List Bool
  | a :: l, b :: r => if a = b then a :: alike l r else []
  | _, _ => []

/-! ## Sending (R326) -/

-- Marked: DESIGN CHOICE, log entry 24.
/-- The bus is idle: the station has seen 11 recessive bits of 1 µs (R323, R324). -/
def Dev.asbIdle (d : Dev) : Bool :=
  d.asbEn && match d.asb.quiet with | some t => decide (t + 11 * us ≤ d.clk) | none => false

/-- The order classes of R326. -/
def busClass (t : Nat) : Nat := if t ≤ 2 then 0 else if t ≤ 4 then 1 else 2

/-- TXPEND follows the queue. -/
def Dev.asbPend (d : Dev) : Dev := d.setB R.ASB_STATUS 30 (!d.asb.txq.isEmpty)

def Dev.asbQueue (d : Dev) (f : BusFrame) : Dev :=
  { d with asb := { d.asb with txq := d.asb.txq ++ [(f, 0)] } }.asbPend

/-- The place of the frame sent next: the one started before, else of the first class with one queued the oldest. -/
def Dev.asbNext (d : Dev) : Option Nat :=
  let first (c : Nat) : Option Nat := d.asb.txq.findIdx? fun e => busClass e.1.type == c
  d.asb.cur.orElse fun _ => [0, 1, 2].findSome? first

-- Marked: DESIGN CHOICE, log entry 24.
/-- ASB_TXCMD: types other than 5 and 6, and lengths above 16, are BAD_TYPE; a ninth frame is BUSY (R332). -/
def Dev.asbTxcmd (d : Dev) (w : Word) : Dev :=
  let t := fld w 24 4
  let n := fld w 0 5
  let res (d : Dev) (v : Nat) : Dev := d.setReg R.ASB_TXRES (pack [(31, 1), (0, v)])
  if (t ≠ 5 ∧ t ≠ 6) ∨ 16 < n then res d 2
  else if 8 ≤ (d.asb.txq.filter fun e => busClass e.1.type == 2).length then res d 3
  else
    let octets := (List.range 4).flatMap fun k => (wordBytes (d.reg (R.ASB_TXD k))).reverse
    (d.setReg R.ASB_TXRES 0#32).asbQueue { type := t, addr := fld w 16 8, data := octets.take n }

/-- A FOLLOW takes its content as it is first sent: the cluster count at the SOF of this station's last SYNC (R325,
R329). -/
def Dev.asbFill (d : Dev) (f : BusFrame) : BusFrame :=
  if f.type = 2 && d.asb.cur.isNone then { f with data := beBytes 8 ((d.asb.ownSync.getD 0 + d.clofs) % 2 ^ 64) } else f

/-- The SOF of the frame `f` that this station sends; that of a SYNC is captured (R329). -/
def Dev.asbSof (d : Dev) (f : BusFrame) : Dev :=
  if f.type = 1 then
    { d with asb := { d.asb with
      ownSync := some d.count, syncCaps := tput (fun _ => none) d.asb.syncCaps d.station (some d.count) } }
  else d

-- Marked: DESIGN CHOICE, log entry 24.
/-- At bus idle the station starts its next frame against the stations that start with it. The bit by bit comparison
decides: the loser stops driving, counts ARBLOST and keeps its frame for the next idle (R326). -/
def Dev.asbStart (d : Dev) (rivals : List BusFrame) : Dev :=
  if !d.asbIdle || !d.pdRun 2 || d.asb.sending.isSome then d else
  match d.asbNext with
  | none => d
  | some k =>
    let e := d.asb.txq.getD k default
    let f := d.asbFill e.1
    let d := { d with asb := { d.asb with quiet := none, cur := some k, txq := d.asb.txq.set k (f, e.2) } }
    match rivals.filter fun r => losesTo (frameBitsOf f) (frameBitsOf r) with
    | [] => { d with asb := { d.asb with sending := some f, line := lineBits f } }.asbSof f
    | l =>
      let drove := l.foldl (fun b r => alike b (lineBits r)) (lineBits f)
      { d with asb := { d.asb with line := drove } }.bumpF R.ASB_CNT 8 8 1

/-! ## Receiving (R327, R332) -/

/-- ASB_RXINFO and RXD show the oldest received frame. -/
def Dev.asbShow (d : Dev) : Dev :=
  let d := d.setF R.ASB_STATUS 0 8 d.asb.rxq.length
  match d.asb.rxq with
  | [] => d.forEach (List.range 4) (fun d k => d.setReg (R.ASB_RXD k) 0#32) |>.setReg R.ASB_RXINFO 0#32
  | f :: _ =>
    let d := d.setReg R.ASB_RXINFO (pack [(31, 1), (24, f.type), (16, f.addr), (0, f.data.length)])
    let pad := f.data ++ List.replicate 16 0#8
    d.forEach (List.range 4) fun d k => d.setReg (R.ASB_RXD k) (wd (beNat ((pad.drop (4 * k)).take 4)))

/-- ASB_RXPOP. -/
def Dev.asbPop (d : Dev) : Dev := { d with asb := { d.asb with rxq := d.asb.rxq.drop 1 } }.asbShow

-- Marked: DESIGN CHOICE, log entry 24.
/-- A frame enters the receive queue of 16, or is dropped and counted. -/
def Dev.asbDeliver (d : Dev) (f : BusFrame) : Dev :=
  if d.asb.rxq.length < 16 then { d with asb := { d.asb with rxq := d.asb.rxq ++ [f] } }.asbShow
  else d.bumpF R.ASB_CNT 0 8 1

/-- A FOLLOW from TSRC that refers to a SYNC of that station captured here, on a station that is not the time master
(R328, R329). -/
def Dev.asbFollow (d : Dev) (src value : Nat) : Dev :=
  match tget (fun _ => none) d.asb.syncCaps src with
  | none => d
  | some cap =>
    if src ≠ d.f R.ASB_CFG 8 8 ∨ src = 255 ∨ d.b R.ASB_CFG 30 then d else
    let f : Int := ((cap : Nat) : Int) - d.f R.ASB_DLY 0 8
    let e : Int := (value : Int) - f
    let r := wrapSec e
    let d := { d with asb := { d.asb with syncCaps := tput (fun _ => none) d.asb.syncCaps src none } }
    let d := (d.setPair R.ASB_CLOFS_LO R.ASB_CLOFS_HI (patt 64 (e - r))).setReg R.ASB_SYNCERR (wd (patt 32 r))
    if d.b R.ASB_CFG 29 && !d.b R.TBG_STATUS 7 then d.slew (-r) else d

/-- Removes the frame at place `k`, which was being sent. -/
def Dev.asbDone (d : Dev) (k : Nat) : Dev :=
  { d with asb := { d.asb with txq := d.asb.txq.eraseIdx k, sending := none, cur := none } }.asbPend

/-- SYNCINT has passed: the time master queues a SYNC and a FOLLOW (R329). -/
def Dev.syncInterval (d : Dev) : Dev :=
  let n := d.f R.ASB_SYNCINT 0 16
  if d.asbEn && d.b R.ASB_CFG 30 && decide (n ≠ 0) && d.pdRun 2 && decide (d.asb.nextSync ≤ d.clk) then
    let d := { d with asb := { d.asb with nextSync := d.clk + n * ms } }
    (d.asbQueue { type := 1, addr := 255, data := [] }).asbQueue { type := 2, addr := 255, data := [] }
  else d

-- Marked: DESIGN CHOICE, log entry 24.
/-- A write of ASB_CFG: station 0xFF is not accepted; CLOFS is 0 on the time master and with no source (R328, R332). -/
def Dev.asbCfg (d : Dev) (w : Word) : Dev :=
  let on_ := d.asbEn
  let w := w &&& 0xE00FFFFF#32
  let w := if fld w 0 8 = 255 then setFld w 0 8 d.station else w
  let d := (d.setReg R.ASB_CFG w).setF R.TRK_STATUS 16 8 (fld w 0 8)
  let d := if bitOf w 31 then (if on_ then d else { d with asb := { d.asb with quiet := some d.clk } })
    else { d with asb := { d.asb with sending := none, quiet := none } }
  if bitOf w 30 || fld w 8 8 == 255 then d.setPair R.ASB_CLOFS_LO R.ASB_CLOFS_HI 0 else d

end Sys2Proof.Machine
end

