-- ==== Sys2Proof/Machine/Crypto.lean ====
section
/-!
DEFINITION. The published modes of operation over AES: CCM* and AES-CCM, GCM, and key unwrapping (R226, R228, R229,
R413). The block operation itself and its inverse stay uninterpreted.
-/

namespace Sys2Proof.Machine

/-- Octet by octet, the shorter list deciding the length. -/
def xorBytes (a b : List Byte) : List Byte := List.zipWith (· ^^^ ·) a b

/-- A list held at a length. -/
def fit (n : Nat) (l : List Byte) : List Byte := (l ++ List.replicate n 0#8).take n

/-- An octet list in blocks of 16, the last padded with zeros. -/
def aesBlocks (l : List Byte) : List (List Byte) :=
  (List.range (cdiv l.length 16)).map fun i => fit 16 (l.drop (16 * i))

/-- The octets that `n` counter blocks give, from the block that `ctr` gives for 0. -/
def ctrStream (key : List Byte) (ctr : Nat → List Byte) (n : Nat) : List Byte :=
  ((List.range (cdiv n 16)).map fun i => Config.aesBlock key (ctr i)).flatten.take n

/-! ## CCM (R228, R413): 13-octet nonce, 2-octet length -/

/-- Counter block `i`. -/
def ccmCounter (nonce : List Byte) (i : Nat) : List Byte := 0x01#8 :: (fit 13 nonce ++ beBytes 2 i)

/-- The associated data with its length before it. -/
def ccmAdata (a : List Byte) : List Byte :=
  if a.isEmpty then [] else
  let n := a.length
  let pre := if n < 0xFF00 then beBytes 2 n else 0xFF#8 :: 0xFE#8 :: beBytes 4 n
  (aesBlocks (pre ++ a)).flatten

/-- The MIC of `n` octets over associated data `a` and payload `m`, encrypted with counter block 0. -/
def ccmMic (key nonce a m : List Byte) (n : Nat) : List Byte :=
  let b0 := BitVec.ofNat 8 ((if a.isEmpty then 0 else 64) + 8 * ((n - 2) / 2) + 1) :: (fit 13 nonce ++ beBytes 2 m.length)
  let t := (aesBlocks (b0 ++ ccmAdata a ++ (aesBlocks m).flatten)).foldl
    (fun x b => Config.aesBlock key (xorBytes x b)) (List.replicate 16 0#8)
  fit n (xorBytes t (Config.aesBlock key (ccmCounter nonce 0)))

/-- The payload encrypted, or decrypted. -/
def ccmCrypt (key nonce m : List Byte) : List Byte :=
  fit m.length (xorBytes m (ctrStream key (fun i => ccmCounter nonce (i + 1)) m.length))

/-- CCM* at a security level (R228): levels 5 to 7 encrypt the payload, 1 to 3 leave it plain. -/
def ccmSeal (key nonce : List Byte) (level mic : Nat) (a m : List Byte) : List Byte :=
  if 4 ≤ level then ccmCrypt key nonce m ++ ccmMic key nonce a m mic
  else m ++ ccmMic key nonce (a ++ m) [] mic

/-- Opens what `ccmSeal` gives: the payload, and whether the MIC verifies over the whole associated data and payload. -/
def ccmOpen (key nonce : List Byte) (level mic : Nat) (a c : List Byte) : List Byte × Bool :=
  let n := c.length - mic
  let m := if 4 ≤ level then ccmCrypt key nonce (c.take n) else c.take n
  (m, c.drop n == if 4 ≤ level then ccmMic key nonce a m mic else ccmMic key nonce (a ++ m) [] mic)

/-! ## GCM (R229): 96-bit IV, 16-octet tag -/

/-- The product of two elements of the field GHASH works in, `n` bits of `x` from its highest down. -/
def gfMul : Nat → BitVec 128 → BitVec 128 → BitVec 128
  | 0, _, _ => 0
  | n + 1, x, v =>
    let v' := if v.getLsbD 0 then (v >>> 1) ^^^ (0xE1#128 <<< 120) else v >>> 1
    (if x.getMsbD 0 then v else 0) ^^^ gfMul n (x <<< 1) v'

/-- The hash of blocks under the subkey. -/
def ghash (h : BitVec 128) (l : List Byte) : List Byte :=
  beBytes 16 ((aesBlocks l).foldl (fun y b => gfMul 128 (y ^^^ BitVec.ofNat 128 (beNat b)) h) 0).toNat

def gcmCounter (iv : List Byte) (i : Nat) : List Byte := fit 12 iv ++ beBytes 4 (i + 1)

/-- The tag over associated data `a` and ciphertext `c`. -/
def gcmTag (key iv a c : List Byte) : List Byte :=
  let h := BitVec.ofNat 128 (beNat (Config.aesBlock key (List.replicate 16 0#8)))
  let s := ghash h ((aesBlocks a).flatten ++ (aesBlocks c).flatten ++ beBytes 8 (8 * a.length) ++ beBytes 8 (8 * c.length))
  fit 16 (xorBytes s (Config.aesBlock key (gcmCounter iv 0)))

def gcmCrypt (key iv m : List Byte) : List Byte :=
  fit m.length (xorBytes m (ctrStream key (fun i => gcmCounter iv (i + 1)) m.length))

def gcmSeal (key iv a m : List Byte) : List Byte :=
  let c := gcmCrypt key iv m
  c ++ gcmTag key iv a c

/-- Opens what `gcmSeal` gives: the payload, and whether the tag verifies. -/
def gcmOpen (key iv a c : List Byte) : List Byte × Bool :=
  let n := c.length - 16
  (gcmCrypt key iv (c.take n), c.drop n == gcmTag key iv a (c.take n))

/-! ## Key unwrapping of RFC 3394 (R226) -/

/-- One of its 6n steps, number `t`, on the register A and the n 64-bit blocks. -/
def unwrapStep (kek : List Byte) (n t : Nat) (s : List Byte × List (List Byte)) : List Byte × List (List Byte) :=
  let i := (t - 1) % n
  let b := Config.aesInverse kek (xorBytes s.1 (beBytes 8 t) ++ s.2.getD i [])
  (b.take 8, s.2.set i (b.drop 8))

/-- The key unwrapped from its blocks; none where the integrity check fails. -/
def keyUnwrap (kek wrapped : List Byte) : Option (List Byte) :=
  let n := wrapped.length / 8 - 1
  let r := (List.range n).map fun i => (wrapped.drop (8 * (i + 1))).take 8
  let (a, r) := ((List.range (6 * n)).reverse.map (· + 1)).foldl (fun s t => unwrapStep kek n t s) (wrapped.take 8, r)
  if a = List.replicate 8 0xA6#8 then some r.flatten else none

end Sys2Proof.Machine
end

