-- ==== Sys2Proof/Machine/Sec.lean ====
section
/-!
DEFINITION. The security engine: slots, descriptors, counters and reservations, hold memory, bindings and alarms
(chapter 10), and the filling of transmit buffer entries (R152).
-/

namespace Sys2Proof.Machine

/-! ## Key store (R224 to R226) -/

abbrev slotAddr (k : Nat) : Nat := mramBase + 0x82000 + 16 * k
def Dev.slotState (d : Dev) (k : Nat) : Nat := (d.rd8 (slotAddr k)).toNat
def Dev.slotUsage (d : Dev) (k : Nat) : Nat := (d.rd16 (slotAddr k + 2)).toNat
def Dev.fcLimit (d : Dev) (k : Nat) : Nat := (d.rd32 (slotAddr k + 4)).toNat
def Dev.gcmLimit (d : Dev) (k : Nat) : Nat := leNat (d.rdBytes (slotAddr k + 8) 8)
def Dev.setSlotState (d : Dev) (k v : Nat) : Dev := d.wr8 (slotAddr k) (BitVec.ofNat 8 v)

/-- The key of a slot: 16 octets, or 32 for AES-256. -/
def Dev.slotKey (d : Dev) (k : Nat) : List Byte :=
  d.rdBytes (mramBase + 32 * k) (if (d.rd8 (slotAddr k + 1)).toNat = 1 then 32 else 16)

/-! ## The working key cache (R226) -/

-- Marked: DESIGN CHOICE, log entry 110.
/-- The schedule of a slot's key is brought into the cache of 256, the oldest making room. -/
def Dev.loadKey (d : Dev) (k : Nat) : Dev :=
  if d.sec.cache.any (·.1 == k) then d
  else { d with sec := { d.sec with cache := ((k, d.slotKey k) :: d.sec.cache).take 256 } }

/-- The key an operation uses. -/
def Dev.cachedKey (d : Dev) (k : Nat) : List Byte := ((d.sec.cache.find? (·.1 == k)).map (·.2)).getD (d.slotKey k)

/-- A slot's schedule leaves the cache, its key having changed. -/
def Dev.flushKey (d : Dev) (k : Nat) : Dev :=
  { d with sec := { d.sec with cache := d.sec.cache.filter (·.1 != k) } }

/-- Slots whose record is in a given state; an unlisted record is EMPTY. -/
def Dev.slotsIn (d : Dev) (s : Nat) : List Nat :=
  d.mem.filterMap fun e =>
    if decide (slotAddr 0 ≤ e.1 ∧ e.1 < slotAddr 16640) && (e.1 - slotAddr 0) % 16 == 0 && e.2.toNat == s
    then some ((e.1 - slotAddr 0) / 16) else none

/-- Operations end with NO_KEY while an A2 zeroisation runs (R238, R239). -/
def Dev.alarmed (d : Dev) : Bool := d.b R.SEC_STATUS 31

/-! ## Hold memory (R235) -/

/-- The owner number of ring `h`, and of a received copy. -/
def copyOwner (id : Nat) : Nat := 2 + id

def Dev.holdUsed (d : Dev) : Nat := d.sec.hold.foldl (fun n r => n + r.len) 0

/-- SEC_HOLD shows the free blocks. -/
def Dev.showHold (d : Dev) : Dev := d.setF R.SEC_HOLD 0 11 (1024 - d.holdUsed)

/-- The lowest start at which `n` contiguous blocks of a buffer are free. -/
def Dev.holdRun (d : Dev) (n : Nat) : Option (Nat × Nat) :=
  (List.range 1024).findSome? fun i =>
    let b := i / 256
    let s := i % 256
    if s + n ≤ 256 && !(d.sec.hold.any fun r => r.buf == b && decide (s < r.start + r.len ∧ r.start < s + n))
    then some (b, s) else none

/-- Takes a run of hold blocks; a zero-length payload takes none. -/
def Dev.takeHold (d : Dev) (owner n : Nat) : Option Dev :=
  if n = 0 then some d else
  (d.holdRun n).map fun r =>
    ({ d with sec := { d.sec with hold := ⟨r.1, r.2, n, owner⟩ :: d.sec.hold } }).showHold

/-- Frees (and zeroises) an owner's blocks (R236). -/
def Dev.freeHold (d : Dev) (owner : Nat) : Dev :=
  ({ d with sec := { d.sec with hold := d.sec.hold.filter fun r => r.owner != owner } }).showHold

/-- Hold blocks of a payload. -/
def holdBlocks (n : Nat) : Nat := cdiv n 256

/-! ## Counters and reservations (R233) -/

/-- Asks Rim for a reservation. -/
def Dev.askLimit (d : Dev) (key : Nat) : Dev :=
  if d.sec.requested.contains key then d else { d with sec := { d.sec with requested := d.sec.requested ++ [key] } }

/-- Uses the next CCM* counter of a slot; at limit − 2,048 a reservation is asked for, and at 0xFFFF_FFFF the slot is
EXHAUSTED. -/
def Dev.useFc (d : Dev) (k : Nat) : Dev :=
  let c := tget zeroDflt d.sec.fc k + 1
  let lim := tget zeroDflt d.sec.fcLim k
  let d := { d with sec := { d.sec with fc := tput zeroDflt d.sec.fc k c } }
  let d := if lim ≤ c + 2048 && decide (lim < 0xFFFFFFFF) then d.askLimit k else d
  if c = 0xFFFFFFFF then d.setSlotState k 2 else d

/-- Uses the next GCM invocation counter of a slot. -/
def Dev.useGcm (d : Dev) (k : Nat) : Dev :=
  let c := tget zeroDflt d.sec.gcm k + 1
  let lim := tget zeroDflt d.sec.gcmLim k
  let d := { d with sec := { d.sec with gcm := tput zeroDflt d.sec.gcm k c } }
  if lim ≤ c + 2048 then d.askLimit (k + 32768) else d

/-- Place `i` of the frame-counter reservation log, a circle of 1,664 (R289). -/
abbrev resLogAt (i : Nat) : Nat := mramBase + 0xC3000 + 32 * (i % 1664)

/-- The octets of an entry before its CRC: which counter, the slot, a serial number and the limit. -/
def resLogOctets (k : Nat) (gcm : Bool) (serial lim : Nat) : List Byte :=
  natBytes 2 (1 + b2n gcm) ++ natBytes 2 k ++ natBytes 4 serial ++ natBytes 8 lim

/-- The whole entries of the log: serial number, counter, slot and limit. -/
def Dev.resLog (d : Dev) : List (Nat × Nat × Nat × Nat) :=
  d.mem.filterMap fun e =>
    let a := e.1
    if decide (resLogAt 0 ≤ a ∧ a < mramBase + 0xD0000) && (a - resLogAt 0) % 32 == 0 &&
        crc32 (d.rdBytes a 16) == d.rd32 (a + 16)
    then some ((d.rd32 (a + 4)).toNat, e.2.toNat, (d.rd16 (a + 2)).toNat, leNat (d.rdBytes (a + 8) 8)) else none

-- Marked: DESIGN CHOICE, log entry 94.
/-- Rim logs a limit behind the newest entry of the reservation log, before it writes the attribute record (R289, R294). -/
def Dev.logLimit (d : Dev) (k : Nat) (gcm : Bool) (lim : Nat) : Dev :=
  let n := d.resLog.foldl (fun m e => max m (e.1 + 1)) 0
  let l := resLogOctets k gcm n lim
  d.wrBytes (resLogAt n) (l ++ natBytes 4 (crc32 l).toNat)

/-- Writes a slot's limit to its attribute record. -/
def Dev.putLimit (d : Dev) (k : Nat) (gcm : Bool) (lim : Nat) : Dev :=
  if gcm then d.wrBytes (slotAddr k + 8) (natBytes 8 lim) else d.wr32 (slotAddr k + 4) (wd lim)

-- Marked: DESIGN CHOICE, log entry 94.
/-- Rim replays the log: of each counter the newest entry counts, and raises a lower limit in the attribute record of an
ACTIVE or EXHAUSTED slot (R294). -/
def Dev.replayLog (d : Dev) : Dev :=
  let l := d.resLog
  let newest := l.filter fun e => !l.any fun o => decide (o.2.1 = e.2.1 ∧ o.2.2.1 = e.2.2.1 ∧ e.1 < o.1)
  d.forEach newest fun d e =>
    let (_, c, k, lim) := e
    let gcm := c == 2
    if (d.slotState k = 1 ∨ d.slotState k = 2) ∧ (if gcm then d.gcmLimit k else d.fcLimit k) < lim
    then d.putLimit k gcm lim else d

/-- Rim writes limit + 4,096 to the reservation log and the attribute record, makes it durable, and passes it to the
engine (R233). -/
def Dev.grantLimit (d : Dev) (k : Nat) (gcm : Bool) : Dev :=
  let key := if gcm then k + 32768 else k
  let d := { d with sec := { d.sec with requested := d.sec.requested.filter (· ≠ key) } }
  if gcm then
    let lim := (d.gcmLimit k + 4096) % 2 ^ 64
    let d := (d.logLimit k true lim).putLimit k true lim
    { d with sec := { d.sec with gcmLim := tput zeroDflt d.sec.gcmLim k lim } }
  else
    let lim := min 0xFFFFFFFF (d.fcLimit k + 4096)
    let d := (d.logLimit k false lim).putLimit k false lim
    { d with sec := { d.sec with fcLim := tput zeroDflt d.sec.fcLim k lim } }

/-- PD6 enters Run: every ACTIVE or EXHAUSTED slot's limit is raised and its counter set to the old limit (R234); one
that comes to 0xFFFF_FFFF is EXHAUSTED (R233). -/
def Dev.secRestart (d : Dev) : Dev :=
  let d := d.forEach (d.slotsIn 1 ++ d.slotsIn 2) fun d k =>
    let old := d.fcLimit k
    let oldG := d.gcmLimit k
    let d := (d.grantLimit k false).grantLimit k true
    let d := if old = 0xFFFFFFFF then d.setSlotState k 2 else d
    { d with sec := { d.sec with fc := tput zeroDflt d.sec.fc k old, gcm := tput zeroDflt d.sec.gcm k oldG } }
  d.setB R.SEC_STATUS 29 true

/-! ## Transmit buffer fill (R152) -/

/-- Blocks of a PSDU. -/
def entryBlocks (n : Nat) : Nat := cdiv (n + 16) 64

/-- Free blocks of a lane's transmit buffer. -/
def Dev.txFreeBlocks (d : Dev) (n : Nat) : Nat :=
  512 - (List.range 64).foldl (fun s h => let e := d.txent n h; if e.fill = 0 then s else s + e.blocks) 0

-- Marked: DEDUCED, log entry 29.
/-- The lowest free entry of a lane, when the blocks are there too. -/
def Dev.txPlace (d : Dev) (n len : Nat) : Option Nat :=
  match (List.range 64).find? fun h => (d.txent n h).fill == 0 with
  | some h => if entryBlocks len ≤ d.txFreeBlocks n then some h else none
  | none => none

-- Marked: DESIGN CHOICE, log entry 13; DEDUCED, log entry 29.
/-- Fills entry `h` of lane `n`: complete at once, its tag advanced, its handle queued in FILLED. The handle. -/
def Dev.fillEntry (d : Dev) (n h : Nat) (e : TxEnt) : Dev × Nat :=
  let tag := ((d.txent n h).tag + 1) % 1024
  let handle := 64 * tag + h
  let d := d.setTxent n h { e with fill := 2, tag := tag, blocks := entryBlocks e.psdu.length }
  (d.onRadio n fun r => { r with filled := r.filled ++ [pack [(16, e.psdu.length), (0, handle)]] }, handle)

/-- Largest PA level of a lane's port, and the smallest, in 0.5 dB steps (R138). -/
def maxLevel (n : Nat) : Int := if n < 12 then 32 else 24

/-- The PHY entry fits the lane's band. -/
def phyFits (n : Nat) (w : Word) : Bool := phyKind w == if n < 12 then 1 else 2

/-! ## Descriptors (R227 to R231) -/

/-- A ring descriptor as the engine reads it. -/
structure Desc where
  w : List Word
  deriving DecidableEq, Repr

def Desc.word (x : Desc) (i : Nat) : Word := x.w.getD i 0#32
def Desc.op (x : Desc) : Nat := fld (x.word 0) 28 4
def Desc.level (x : Desc) : Nat := fld (x.word 0) 25 3
def Desc.fcoff (x : Desc) : Nat := fld (x.word 0) 15 8
def Desc.slot (x : Desc) : Nat := fld (x.word 0) 0 15
def Desc.alen (x : Desc) : Nat := fld (x.word 1) 16 12
def Desc.mlen (x : Desc) : Nat := fld (x.word 1) 0 16
def Desc.tag (x : Desc) : Nat := fld (x.word 6) 16 16
def Desc.node (x : Desc) : Nat := fld (x.word 6) 0 14
def Desc.lane (x : Desc) : Nat := fld (x.word 4) 0 4
def Desc.fills (x : Desc) : Bool := x.op == 5
def Desc.encrypts (x : Desc) : Bool := x.op == 1 || x.op == 3 || x.op == 5
def Desc.ccm (x : Desc) : Bool := x.op == 1 || x.op == 2 || x.op == 5
def Desc.phySel (x : Desc) : Nat := fld (x.word 4) 16 8
def Desc.paLevel (x : Desc) : Int := sfld (x.word 4) 24 8

/-- MIC or tag octets. -/
def Desc.mic (x : Desc) : Nat :=
  if x.ccm then [0, 4, 8, 16].getD (x.level % 4) 16 else 16

/-- Output octets at the destination. -/
def Desc.outLen (x : Desc) : Nat := if x.encrypts then x.mlen + x.mic else x.mlen

def Dev.ringBase (d : Dev) (h : Nat) : Nat := storeBase + (d.reg (R.SEC_RING_BASE h)).toNat % 0xC00000
def Dev.ringSize (d : Dev) (h : Nat) : Nat := d.f (R.SEC_RING_SIZE h) 0 12
def Dev.ringHead (d : Dev) (h : Nat) : Nat := d.f (R.SEC_RING_HEAD h) 0 12
def Dev.ringTail (d : Dev) (h : Nat) : Nat := d.f (R.SEC_RING_TAIL h) 0 12

/-- The entry at HEAD. -/
def Dev.headDesc (d : Dev) (h : Nat) : Desc :=
  ⟨(List.range 8).map fun i => d.rd32 (d.ringBase h + 32 * d.ringHead h + 4 * i)⟩

/-- The engine takes the entry at HEAD: the block runs and is ready, and the ring holds an entry (R230, R234). -/
def Dev.ringFront (d : Dev) (h : Nat) : Option Desc :=
  if d.pdRun 6 && d.b R.SEC_STATUS 29 && decide (d.ringTail h < d.ringSize h ∧ d.ringHead h ≠ d.ringTail h) then
    some (d.headDesc h)
  else none

/-- PSDU length of a fill. -/
def Dev.fillLen (d : Dev) (x : Desc) : Nat := x.alen + x.mlen + x.mic + phyFcs (d.phy x.phySel)

-- Marked: PRESUMED, log entry 111.
/-- Largest PSDU of a PHY entry (R152, R187). -/
def psduMax (w : Word) : Nat := if phyKind w = 2 then 127 else 2047

-- Marked: PRESUMED, log entry 111; DESIGN CHOICE, log entry 116.
/-- The BAD_DESC checks of R231, and the PSDU limit of O-QPSK (R187, log entry 111). -/
def Dev.badDesc (d : Dev) (x : Desc) : Bool :=
  x.op == 0 || decide (5 < x.op) || (x.ccm && x.level % 4 == 0) || x.word 7 != 0#32 || decide (16639 < x.slot) ||
  (x.encrypts && decide (x.alen < x.fcoff + 4)) ||
  (x.word 2).toNat % 4 != 0 || (x.word 3).toNat % 4 != 0 || (!x.fills && (x.word 4).toNat % 4 != 0) ||
  (x.op == 4 && (x.word 5).toNat % 4 != 0) ||
  (x.fills && (decide (psduMax (d.phy x.phySel) < d.fillLen x) || decide (maxLevel x.lane < x.paLevel) || !phyFits x.lane (d.phy x.phySel)))

/-- An octet range lies in the message store and, for an engine's descriptor, within its grants (R118, R231). -/
def Dev.storeOk (d : Dev) (owner addr len perm : Nat) : Bool :=
  len == 0 || (decide (addr + len ≤ 0xC00000) &&
    (decide (64 ≤ owner) || d.granted owner (0x41400000 + addr) (0x41400000 + addr + len - 1) perm))

/-- The ACCESS check of R231. -/
def Dev.descAccess (d : Dev) (x : Desc) (owner : Nat) : Bool :=
  d.storeOk owner (x.word 2).toNat x.alen 1 &&
  d.storeOk owner (x.word 3).toNat (if x.encrypts then x.mlen else x.mlen + x.mic) 1 &&
  (x.fills || d.storeOk owner (x.word 4).toNat x.outLen 2) &&
  (x.op != 4 || d.storeOk owner (x.word 5).toNat 12 1)

/-- USAGE bit of an operation (R227). -/
def Desc.usage (x : Desc) : Nat := if x.op = 2 then 1 else if x.ccm then 0 else 2

/-- The NO_KEY check of R231. -/
def Dev.noKey (d : Dev) (x : Desc) : Bool :=
  let s := d.slotState x.slot
  !(s == 1 || s == 2) || !(d.slotUsage x.slot).testBit x.usage || d.alarmed

/-- The CCM* nonce: source EUI-64, counter and level (R228). -/
def ccmNonce (eui fc level : Nat) : List Byte := beBytes 8 eui ++ beBytes 4 fc ++ beBytes 1 level

/-- The header of an encryption, with the counter little-endian at FCOFF. -/
def Dev.encHeader (d : Dev) (x : Desc) (fc : Nat) : List Byte :=
  let h := d.rdBytes (storeBase + (x.word 2).toNat) x.alen
  if x.ccm then h.take x.fcoff ++ natBytes 4 fc ++ h.drop (x.fcoff + 4) else h

/-- The output of an encryption with counter `c`: ciphertext, then the MIC or tag. -/
def Dev.encOut (d : Dev) (x : Desc) (c : Nat) : List Byte :=
  let key := d.cachedKey x.slot
  let m := d.rdBytes (storeBase + (x.word 3).toNat) x.mlen
  let own := Config.eui64.toNat
  let a := d.encHeader x c
  fit x.outLen (if x.ccm then ccmSeal key (ccmNonce own c x.level) x.level x.mic a m
    else gcmSeal key (natBytes 4 own ++ natBytes 8 c) a m)

/-- EUI64 of a node's entry, in a running mirror. -/
def Dev.ntHalf (d : Dev) : Nat :=
  let h := if d.leader = 1 then 1 else 0
  if d.pdRun (40 + h) then h else 1 - h
def Dev.nodeEui (d : Dev) (n : Nat) : Nat := leNat (d.rdBytes (ntBase d.ntHalf + 64 * n) 8)

/-- The 12-octet IV of a GCM decryption (R229). -/
def Dev.ivOf (d : Dev) (x : Desc) : List Byte := d.rdBytes (storeBase + (x.word 5).toNat) 12

/-- A decryption: the plaintext, and whether its tag or MIC verifies over the header and the payload (R236). -/
def Dev.decOpen (d : Dev) (x : Desc) : List Byte × Bool :=
  let key := d.cachedKey x.slot
  let a := d.rdBytes (storeBase + (x.word 2).toNat) x.alen
  let m := d.rdBytes (storeBase + (x.word 3).toNat) (x.mlen + x.mic)
  if x.ccm then ccmOpen key (ccmNonce (d.nodeEui x.node) (x.word 5).toNat x.level) x.level x.mic a m
  else gcmOpen key (d.ivOf x) a m

-- Marked: DESIGN CHOICE, log entry 91.
/-- The engine reads an operation's header and its message from the message store (R403). -/
def Dev.opReads (d : Dev) (x : Desc) (n : Nat) : Dev :=
  (d.msTraffic (storeBase + (x.word 2).toNat) x.alen 2).msTraffic (storeBase + (x.word 3).toNat) n 2

/-! ## Results (R231) -/

/-- SEC_STATUS.RESV_WAIT: an encryption, or the fill of an acknowledgement, waits for a reservation (R233). -/
def Dev.showResv (d : Dev) : Dev :=
  let waits (x : SecWait) : Bool := match x with | .reservation _ => true | _ => false
  d.setB R.SEC_STATUS 30 (waits d.sec.waitA || waits d.sec.waitB || d.sec.acks.any (·.counter))

def Dev.setWait (d : Dev) (h : Nat) (w : SecWait) : Dev :=
  { d with sec := if h = 0 then { d.sec with waitA := w } else { d.sec with waitB := w } }.showResv
def Dev.secWait (d : Dev) (h : Nat) : SecWait := if h = 0 then d.sec.waitA else d.sec.waitB

/-! ## Operations accepted before a slot changes (R237) -/

/-- A slot as it stands: key words, attribute record, counters and limits. -/
def Dev.slotImage (d : Dev) (k : Nat) : SlotImage :=
  { slot := k, key := d.rdBytes (mramBase + 32 * k) 32, attr := d.rdBytes (slotAddr k) 16
    fc := tget zeroDflt d.sec.fc k, fcLim := tget zeroDflt d.sec.fcLim k
    gcm := tget zeroDflt d.sec.gcm k, gcmLim := tget zeroDflt d.sec.gcmLim k }

def Dev.putSlot (d : Dev) (i : SlotImage) : Dev :=
  let d := ((d.flushKey i.slot).wrBytes (mramBase + 32 * i.slot) i.key).wrBytes (slotAddr i.slot) i.attr
  { d with sec := { d.sec with
    fc := tput zeroDflt d.sec.fc i.slot i.fc, fcLim := tput zeroDflt d.sec.fcLim i.slot i.fcLim
    gcm := tput zeroDflt d.sec.gcm i.slot i.gcm, gcmLim := tput zeroDflt d.sec.gcmLim i.slot i.gcmLim } }

/-- The slot that the waiting front of half `h` still uses, where it has changed since. -/
def Dev.oldOf (d : Dev) (h : Nat) : Option SlotImage := (d.sec.olds.find? fun e => e.1 == h).map (·.2)

/-- The key slot of an acknowledged node, and whether its next counter is not yet reserved. -/
def Dev.ackSlot (d : Dev) (node : Nat) : Nat := (d.rd16 (ntBase d.ntHalf + 64 * node + 0x0C)).toNat
def Dev.ackShort (d : Dev) (node : Nat) : Bool :=
  decide (tget zeroDflt d.sec.fcLim (d.ackSlot node) ≤ tget zeroDflt d.sec.fc (d.ackSlot node))

/-- Every operation that waits under the old image `i` of a slot waits under `j`, which has the counters used since (R237). -/
def Dev.sameOld (d : Dev) (i j : SlotImage) : Dev :=
  let next (o : Option SlotImage) : Option SlotImage := if o = some i then some j else o
  { d with
    mac := { d.mac with copies := d.mac.copies.map fun c => { c with old := next c.old } }
    sec := { d.sec with
      olds := d.sec.olds.map fun e => (e.1, if e.2 = i then j else e.2)
      acks := d.sec.acks.map fun a => { a with old := next a.old } } }

-- Marked: DEDUCED, log entry 97.
/-- What was accepted before a change runs under the old key and counters; the slot is then as the change left it. -/
def Dev.underOld (d : Dev) (o : Option SlotImage) (f : Dev → Dev) : Dev :=
  match o with
  | none => f d
  | some i =>
    let e := f (d.putSlot i)
    ({ e with sec := { e.sec with requested := d.sec.requested } }.sameOld i (e.slotImage i.slot)).putSlot (d.slotImage i.slot)

-- Marked: DEDUCED, log entry 97.
/-- Slot `k` is about to change: whatever waits with it keeps it as it stands. -/
def Dev.keepOld (d : Dev) (k : Nat) : Dev :=
  let i := d.slotImage k
  let waits (h : Nat) : Bool := match d.secWait h with
    | .none => false
    | _ => (d.headDesc h).slot == k && (d.oldOf h).isNone
  let mine (a : AckFill) : Bool := a.old.isNone && d.ackSlot a.node == k
  let held (c : Copy) : Bool := c.held && c.verified.isNone && c.old.isNone && d.ackSlot c.node == k
  let l := d.mac.copies.map fun c => if held c then { c with old := some i } else c
  { d with mac := { d.mac with copies := l }, sec := { d.sec with
    olds := (([0, 1].filter waits).map fun h => (h, i)) ++ d.sec.olds
    acks := d.sec.acks.map fun a => if mine a then { a with old := some i } else a } }

/-- SEC_CNT_AUTH, SEC_CNT_NOKEY and SEC_CNT_BUSY count operations by the status they end with. -/
def Dev.countEnd (d : Dev) (status : Nat) : Dev :=
  match status with
  | 1 => d.bump R.SEC_CNT_AUTH
  | 2 => d.bump R.SEC_CNT_NOKEY
  | 3 => d.bump R.SEC_CNT_BUSY
  | _ => d

/-- The operation at HEAD ends with a status: words 0 to 3 of its entry are overwritten and HEAD advances. -/
def Dev.ringEnd (d : Dev) (h : Nat) (x : Desc) (status : Nat) (w1 w2 len : Nat) : Dev :=
  let a := d.ringBase h + 32 * d.ringHead h
  let d := { d with sec := { d.sec with owner := tput zeroDflt d.sec.owner (4096 * h + d.ringHead h) 0 } }
  let d := ((d.msTraffic a 32 2).wrWords a [pack [(31, 1), (24, status), (0, x.tag)], wd w1, wd w2, wd (len % 131072)]).msTraffic
    a 16 1
  let head := (d.ringHead h + 1) % max 1 (d.ringSize h)
  let d := (d.setReg (R.SEC_RING_HEAD h) (wd head)).setWait h .none
  { d with sec := { d.sec with olds := d.sec.olds.filter fun e => e.1 != h } }.pmcEvent 0x09

/-- The same for an operation the engine has performed, or refused, itself: its status is counted. -/
def Dev.ringResult (d : Dev) (h : Nat) (x : Desc) (status : Nat) (w1 w2 len : Nat) : Dev :=
  (d.countEnd status).ringEnd h x status w1 w2 len

/-- The status of the first check that refuses a descriptor on its own: BAD_DESC, ACCESS, NO_KEY. -/
def Dev.refusal (d : Dev) (h : Nat) (x : Desc) : Option Nat :=
  let o := tget zeroDflt d.sec.owner (4096 * h + d.ringHead h)
  let owner := (if o = 0 then tget zeroDflt d.sec.tailBy h else o) - 1
  if d.badDesc x then some 4 else if !d.descAccess x owner then some 5 else if d.noKey x then some 2 else none

/-! ## Bindings (R232) -/

def Dev.duplex (d : Dev) : Bool := d.b R.SEC_CTRL 0

/-- The direction of a request, and what identifies it there (R13, R232). -/
def Desc.dir (x : Desc) : Nat := if x.encrypts then 0 else if x.ccm then 1 else 2
def Dev.matchOf (d : Dev) (x : Desc) : Nat := if x.op = 4 then beNat (d.ivOf x) else (x.word 5).toNat

def Binding.names (b : Binding) (node dir m : Nat) : Bool := b.node == node && b.dir == dir && b.match_ == m

-- Marked: DESIGN CHOICE, log entry 110.
/-- The other half's binding that answers a request. -/
def Dev.bound (d : Dev) (h : Nat) (x : Desc) : Option Binding :=
  d.sec.bindings.find? fun b => b.names x.node x.dir (d.matchOf x) && b.half != h

def Dev.unbind (d : Dev) (node dir m : Nat) : Dev :=
  { d with sec := { d.sec with bindings := d.sec.bindings.filter fun b => !b.names node dir m } }

-- Marked: DESIGN CHOICE, log entry 110.
/-- In Duplex-Protected mode the first result is kept for the other half for 100 ms. -/
def Dev.bind (d : Dev) (h : Nat) (x : Desc) (status fc : Nat) (out : List Byte) : Dev :=
  if !d.duplex then d else
  let m := d.matchOf x
  let d := d.unbind x.node x.dir m
  { d with sec := { d.sec with bindings := ⟨x.node, x.dir, m, h, d.clk + 100 * ms, false, status, fc, out⟩ :: d.sec.bindings } }

/-- The request of half `h` that a binding answers waits for space (R232). -/
def Dev.copyWaits (d : Dev) (h : Nat) (b : Binding) : Bool :=
  b.half != h && match d.secWait h with
    | .copy _ => b.names (d.headDesc h).node (d.headDesc h).dir (d.matchOf (d.headDesc h))
    | _ => false

/-- 100 ms have passed without the other half's request. -/
def Dev.bindingExpiry (d : Dev) (node dir m : Nat) : Dev :=
  let ends (b : Binding) : Bool :=
    b.names node dir m && decide (b.expires ≤ d.clk) && !d.copyWaits 0 b && !d.copyWaits 1 b
  let l := d.sec.bindings.map fun b => if ends b then { b with late := true, out := [] } else b
  { d with sec := { d.sec with bindings := l } }

/-! ## Fills in order of request (R152) -/

/-- The fills that wait for space on a lane: the end of each one's 1 ms, by which they stand in order of request, and
ring A, ring B or the acknowledgement. -/
def Dev.fillsWaiting (d : Dev) (lane : Nat) : List (Nat × Nat) :=
  ([0, 1].filterMap fun h => match d.secWait h with
    | .fill t => if (d.headDesc h).lane == lane then some (t, h) else none
    | .copy t => if (d.headDesc h).lane == lane then some (t, h) else none
    | _ => none) ++
  (d.sec.acks.zipIdx.filterMap fun e => if e.1.lane == lane && !e.1.counter then some (e.1.until_, 2 + e.2) else none)

/-- No fill asked for earlier waits on the lane. -/
def Dev.fillFirst (d : Dev) (lane until_ rank : Nat) : Bool :=
  (d.fillsWaiting lane).all fun q => decide (until_ < q.1 ∨ (until_ = q.1 ∧ rank ≤ q.2))

/-- The end of the 1 ms of ring `h`'s fill, of which the wait may begin now. -/
def Dev.fillUntil (d : Dev) (h : Nat) : Nat :=
  match d.secWait h with
  | .fill t => t
  | .copy t => t
  | _ => d.clk + ms

/-! ## Operations -/

/-- The transmit buffer entry of a fill (R152, R189, R230). -/
def Dev.fillOf (d : Dev) (x : Desc) (fc : Nat) (body : List Byte) : TxEnt :=
  let phy := d.phy x.phySel
  let pre := fld (x.word 4) 4 12
  { phy := phy
    preamble := phyPre (if pre = 0 then fld phy 10 11 else pre)
    level := x.paLevel
    node := x.node
    psdu := withFcs phy (d.encHeader x fc ++ body)
    lsn := fld (x.word 5) 12 20, fc := wd fc }

/-- The counter goes little-endian into the header at FCOFF (R228). -/
def Dev.putCounter (d : Dev) (x : Desc) (fc : Nat) : Dev :=
  if x.ccm then d.msWrite (storeBase + (x.word 2).toNat + x.fcoff) (natBytes 4 fc) else d

-- Marked: PRESUMED, log entry 111.
/-- The MAC hardware fills one entry with the wake-up frame's template and N, where the node's last plan gave a train and the
lane has room; the handle is reported with those of the lane's other fills (R219; log entry 111). -/
def Dev.fillTrain (d : Dev) (h : Nat) (x : Desc) : Dev :=
  let key := 16384 * h + x.node
  let v := tget zeroDflt d.mac.trains key
  let base := ntBase d.ntHalf + 64 * (v % 16384)
  let phy := d.phy (d.rd8 (base + 0x15)).toNat
  let psdu := withFcs phy (wakeUp (d.rd16 (base + 0x08)).toNat 0)
  if v = 0 then d else
  match d.txPlace x.lane psdu.length with
  | none => d
  | some e => (({ d with mac := { d.mac with trains := tput zeroDflt d.mac.trains key 0 } }).fillEntry x.lane e
      { phy := phy, preamble := 4, level := x.paLevel, node := v % 16384, psdu := psdu, train := v / 16384 }).1

-- Marked: DEDUCED, log entry 31; DESIGN CHOICE, log entry 116.
/-- Delivers the output of ring `h`'s encryption: at the destination, or as an entry of the lane. The second result word;
none where the fill finds no room, or must wait behind another. -/
def Dev.deliver (d : Dev) (h : Nat) (x : Desc) (fc : Nat) (out : List Byte) : Option (Dev × Nat) :=
  if x.fills then
    match d.txPlace x.lane (d.fillLen x) with
    | none => none
    | some e =>
      if d.fillFirst x.lane (d.fillUntil h) h then
        let (d, handle) := (d.putCounter x fc).fillEntry x.lane e (d.fillOf x fc out)
        some (d.fillTrain h x, handle)
      else none
  else some ((d.putCounter x fc).msWrite (storeBase + (x.word 4).toNat) out, if x.ccm then 0 else fc / 2 ^ 32)

/-- Output length reported: the PSDU of a fill, otherwise the octets at the destination. -/
def Dev.reported (d : Dev) (x : Desc) : Nat := if x.fills then d.fillLen x else x.outLen

-- Marked: DEDUCED, log entry 31.
/-- An encryption that finds the other half's binding (R232). -/
def Dev.encMatched (d : Dev) (h : Nat) (x : Desc) (b : Binding) : Dev :=
  if b.late then (d.unbind b.node b.dir b.match_).ringEnd h x 7 0 0 0
  else match d.deliver h x b.fc b.out with
    | none => d.setWait h (.copy (d.fillUntil h))
    | some (d, w2) => (d.unbind b.node b.dir b.match_).ringEnd h x 0 b.fc w2 (d.reported x)

/-- An encryption that no binding answers: EXHAUSTED, then the reservation wait, then the fill's space, then the
operation itself (R231, R233). -/
def Dev.encFresh (d : Dev) (h : Nat) (x : Desc) : Dev :=
  let k := x.slot
  let c := tget zeroDflt (if x.ccm then d.sec.fc else d.sec.gcm) k
  let lim := tget zeroDflt (if x.ccm then d.sec.fcLim else d.sec.gcmLim) k
  if d.slotState k = 2 || (x.ccm && decide (0xFFFFFFFF ≤ c)) then d.ringResult h x 6 0 0 0
  else if lim ≤ c then
    (d.askLimit (if x.ccm then k else k + 32768)).setWait h
      (.reservation (match d.secWait h with | .reservation t => t | _ => d.clk + ms))
  else
    let d := (d.loadKey k).opReads x x.mlen
    let out := d.encOut x c
    match d.deliver h x c out with
    | none => d.setWait h (.fill (d.fillUntil h))
    | some (d', w2) =>
      let d' := if x.ccm then d'.useFc k else d'.useGcm k
      (d'.bind h x 0 c out).ringResult h x 0 c w2 (d'.reported x)

/-- An encryption descriptor at the front of ring `h` is processed. -/
def Dev.encrypt (d : Dev) (h : Nat) (x : Desc) : Dev :=
  match d.refusal h x with
  | some s => d.ringResult h x s 0 0 0
  | none =>
    match d.bound h x with
    | some b => d.encMatched h x b
    | none => d.encFresh h x

-- Marked: DESIGN CHOICE, log entry 110.
/-- A decryption that finds the other half's binding: it is not performed again, and its result is a copy (R13). -/
def Dev.decMatched (d : Dev) (h : Nat) (x : Desc) (b : Binding) : Dev :=
  let d := d.unbind b.node b.dir b.match_
  if b.late then d.ringEnd h x 7 0 0 0
  else if b.status = 0 then
    (d.msWrite (storeBase + (x.word 4).toNat) (fit x.mlen b.out)).ringEnd h x 0 b.fc 0 x.mlen
  else d.ringEnd h x b.status b.fc 0 0

/-- A decryption that no binding answers, through a hold buffer (R235, R236). -/
def Dev.decFresh (d : Dev) (h : Nat) (x : Desc) : Dev :=
  let fc := if x.ccm then (x.word 5).toNat else 0
  match d.takeHold h (holdBlocks x.mlen) with
  | none => (d.bumpF R.SEC_HOLD 16 16 1).setWait h .hold
  | some d =>
    let d := (d.loadKey x.slot).opReads x (x.mlen + x.mic)
    let (out, ok) := d.decOpen x
    if ok then
      let d := d.bind h x 0 fc out
      ((d.msWrite (storeBase + (x.word 4).toNat) (fit x.mlen out)).freeHold h).ringResult h x 0 fc 0 x.mlen
    else ((d.bind h x 1 fc []).freeHold h).ringResult h x 1 fc 0 0

/-- A decryption descriptor at the front of ring `h` is processed. -/
def Dev.decrypt (d : Dev) (h : Nat) (x : Desc) : Dev :=
  match d.refusal h x with
  | some s => d.ringResult h x s 0 0 0
  | none =>
    match d.bound h x with
    | some b => d.decMatched h x b
    | none => d.decFresh h x

/-- An OP that the engine does not know (R227). -/
def Desc.reserved (x : Desc) : Bool := x.op == 0 || decide (5 < x.op)

/-- The front descriptor of ring `h`, when it is not waiting and is of operation `op`, or of a reserved one, which any
turn of the engine ends with BAD_DESC (R231). -/
def Dev.takeFront (d : Dev) (h op : Nat) : Option Desc :=
  match d.secWait h with
  | .none => (d.ringFront h).bind fun x => if x.op = op || x.reserved then some x else none
  | _ => none

/-- CCM_ENC, GCM_ENC and CCM_FILL. -/
def Dev.secEncrypt (d : Dev) (h op : Nat) : Dev :=
  match d.takeFront h op with
  | some x => d.encrypt h x
  | none => d

/-- CCM_DEC and GCM_DEC. -/
def Dev.secDecrypt (d : Dev) (h op : Nat) : Dev :=
  match d.takeFront h op with
  | some x => d.underOld (d.oldOf h) fun d => d.decrypt h x
  | none => d

/-- A waiting encryption of ring `h` is tried again. -/
def Dev.retryEnc (d : Dev) (h : Nat) : Dev :=
  if d.pdRun 6 && (d.headDesc h).encrypts then d.underOld (d.oldOf h) fun d => d.encrypt h (d.headDesc h) else d

/-- A reservation arrives: waiting encryptions of the slot proceed (R233). -/
def Dev.reservation (d : Dev) (k : Nat) (gcm : Bool) : Dev :=
  let d := d.grantLimit k gcm
  d.forEach [0, 1] fun d h =>
    match d.secWait h with
    | .reservation _ => if (d.headDesc h).slot = k && (d.headDesc h).ccm != gcm then d.retryEnc h else d
    | _ => d

/-- A waiting front ends with BUSY once its 1 ms has passed. -/
def Dev.endWait (d : Dev) (h t : Nat) : Dev :=
  if d.pdRun 6 && decide (t ≤ d.clk) then d.ringResult h (d.headDesc h) 3 0 0 0 else d

/-- No limit has arrived within 1 ms (R233). -/
def Dev.reservationTimeout (d : Dev) (h : Nat) : Dev :=
  match d.secWait h with
  | .reservation t => d.endWait h t
  | _ => d

/-- No transmit buffer space has come free within 1 ms (R152). -/
def Dev.fillTimeout (d : Dev) (h : Nat) : Dev :=
  match d.secWait h with
  | .fill t => d.endWait h t
  | _ => d

/-- CCM_FILL: a fill that waits for space is tried again, keeping its place in the order of requests. -/
def Dev.secFill (d : Dev) (h : Nat) : Dev :=
  match d.secWait h with
  | .fill _ => d.retryEnc h
  | .copy _ => d.retryEnc h
  | _ => d.secEncrypt h 5

/-- Hold blocks have come free: the ring's waiting decryption takes its run and proceeds (R235), under its slot as it stood
when it was accepted (R237). -/
def Dev.holdFreed (d : Dev) (h : Nat) : Dev :=
  match d.secWait h with
  | .hold =>
    if d.pdRun 6 && (d.takeHold h (holdBlocks (d.headDesc h).mlen)).isSome
    then (d.setWait h .none).underOld (d.oldOf h) fun d => d.decrypt h (d.headDesc h) else d
  | _ => d

-- Marked: DESIGN CHOICE, log entry 110.
/-- A write of SEC_RINGh_TAIL by requester `r`: the entries it first places between HEAD and TAIL are its own, and those
it withdraws are no one's; a TAIL at or beyond SIZE places and withdraws none (R230, R231). -/
def Dev.ringTailWrite (d : Dev) (r h : Nat) (w : Word) : Dev :=
  let size := d.ringSize h
  let head := d.ringHead h
  let t := fld w 0 12
  let owner :=
    if size ≤ t then d.sec.owner
    else
      let n := (t + size - head) % max 1 size
      (List.range size).foldl (fun o i =>
        let k := 4096 * h + (head + i) % max 1 size
        if n ≤ i then tput zeroDflt o k 0 else if tget zeroDflt o k = 0 then tput zeroDflt o k (r + 1) else o) d.sec.owner
  { d with sec := { d.sec with owner := owner, tailBy := tput zeroDflt d.sec.tailBy h (r + 1) } }.setReg (R.SEC_RING_TAIL h)
    (wd t)

/-! ## Event queues (R222) -/

/-- An event record for the MAC timing role of half `h`; one beyond 256 is dropped and counted. -/
def Dev.evPush (d : Dev) (h : Nat) (ws : List Word) : Dev :=
  let q := if h = 0 then d.mac.evqA else d.mac.evqB
  if q.length < 256 then
    { d with mac := if h = 0 then { d.mac with evqA := q ++ [ws] } else { d.mac with evqB := q ++ [ws] } }
  else d.bumpF R.MAC_CNT_EVDROP (16 * h) 16 1

-- Marked: DEDUCED, log entry 43.
/-- An event record for both halves' roles. -/
def Dev.macEvent (d : Dev) (kind node w1 count : Nat) (word2 : Word) (more : List Word) : Dev :=
  let ws := [pack [(28, kind), (0, node)], wd w1, wd count, wd (count / 2 ^ 32), word2] ++ more
  (d.evPush 0 ws).evPush 1 ws

/-- No acknowledgement is sent: a record of kind 5, and MAC_CNT_NOACK. -/
def Dev.noAck (d : Dev) (n fc count : Nat) (w2 : Word) : Dev := (d.bump R.MAC_CNT_NOACK).macEvent 5 n fc count w2 []

/-- The fill of an acknowledgement ends with a status other than OK (R213, R231). -/
def Dev.endAck (d : Dev) (a : AckFill) (status : Nat) : Dev :=
  ((({ d with sec := { d.sec with acks := d.sec.acks.filter (· ≠ a) } }.countEnd status).pmcEvent 0x09).noAck a.node a.fc a.rxCount
    a.rxWord2).showResv

/-! ## Alarms (R237 to R239) -/

/-- SEC_ALMCAUSE: the last alarm's level and source, and the count. -/
def Dev.almCause (d : Dev) (level source : Nat) : Dev :=
  d.setReg R.SEC_ALMCAUSE (pack [(31, 1), (29, level), (26, source), (0, min 255 (d.f R.SEC_ALMCAUSE 0 8 + 1))])

/-- Operations in progress end with NO_KEY, copies in hold buffers are dropped and counted, and hold memory and the key
cache are zeroised; counters are kept (R238). -/
def Dev.abortOps (d : Dev) : Dev :=
  let d := d.forEach [0, 1] fun d h =>
    match d.secWait h with
    | .none => d
    | _ => d.ringResult h (d.headDesc h) 2 0 0 0
  let d := d.forEach d.sec.acks fun d a => d.endAck a 2
  let gone := d.mac.copies.filter Copy.held
  let d := { d with mac := { d.mac with copies := d.mac.copies.filter fun c => !c.held } }
  let d := (d.bumpF R.SEC_CNT_NOKEY 0 32 gone.length).forEach gone fun d _ => d.pmcEvent 0x09
  ({ d with sec := { d.sec with hold := [], olds := [], cache := [] }, clp := { d.clp with key := [] } }).showHold

/-- An alarm of level A1. -/
def Dev.alarm1 (d : Dev) (source : Nat) : Dev := (d.almCause 1 source).abortOps

/-- An alarm of level A2: A1, and the zeroisation of every slot begins, its progress kept in MRAM. -/
def Dev.alarm2 (d : Dev) (source : Nat) : Dev :=
  let d := (d.almCause 2 source).abortOps
  { d with fw := { d.fw with a2Pending := true } }.setB R.SEC_STATUS 31 true

/-- Every slot's key words are zeroised and STATE set to EMPTY; FC_LIMIT and GCM_LIMIT are kept. -/
def Dev.zeroiseKeys (d : Dev) : Dev :=
  let used := d.slotsIn 1 ++ d.slotsIn 2 ++ d.slotsIn 3
  let d := d.forEach used fun d k => d.setSlotState k 0
  let d := { d.clearMem mramBase 0x82000 with sec := { d.sec with cache := [] } }
  { d with fw := { d.fw with a2Pending := false } }

/-- The zeroisation completes. -/
def Dev.a2Done (d : Dev) : Dev :=
  if d.fw.a2Pending then d.zeroiseKeys.setB R.SEC_STATUS 31 false else d

-- Marked: DEDUCED, log entry 30.
/-- A slot's key words fail their ECC check: BAD, with a margin planner notice to Rim and Weave, for which MGN_NOTICE has no
bit (log entry 30); the seventeenth such slot raises A2 (R237, R238). -/
def Dev.slotBad (d : Dev) (k : Nat) : Dev :=
  let s := d.slotState k
  if s ≠ 1 ∧ s ≠ 2 then d else
  let d := (d.setSlotState k 3).flushKey k
  let d := { d with sec := { d.sec with bad := d.sec.bad + 1 }, mgn := { d.mgn with keyNotice := true } }
  if d.sec.bad = 17 then d.alarm2 3 else d

/-! ## The acknowledgement of R213 -/

/-- A node of KIND 2 has a downlink pending: an admitted transaction whose outcome is not decided (R220). -/
def Dev.downPending (d : Dev) (n : Nat) : Bool :=
  (d.rd8 (ntBase d.ntHalf + 64 * n + 0x0B)).toNat / 16 % 4 == 2 &&
    d.msg.tcbs.any fun t => !t.uplink && !t.group && t.target == n && t.state == 1

/-- The header of a node's acknowledgement: a busy answer asks for a retry after BUSYHOLD ms (R220, R255). -/
def Dev.ackHdr (d : Dev) (n fc : Nat) (busy : Bool) : List Byte :=
  Config.ackHeader n fc (if busy then some (d.f R.MSG_CTRL 16 16) else none) (d.downPending n)

/-- No fill asked for before the acknowledgement's waits on its lane (R152). -/
def Dev.ackFirst (d : Dev) (a : AckFill) : Bool :=
  match d.sec.acks.findIdx? (· == a) with
  | some i => d.fillFirst a.lane (if a.counter then d.clk + ms else a.until_) (2 + i)
  | none => d.fillFirst a.lane (d.clk + ms) (2 + d.sec.acks.length)

/-- Fills an acknowledgement for `a`: none where it must wait, otherwise the status and the handle. -/
def Dev.ackFill (d : Dev) (a : AckFill) : Option (Dev × Nat × Nat) :=
  let base := ntBase d.ntHalf + 64 * a.node
  let k := d.ackSlot a.node
  let sec := (d.rd8 (base + 0x0E)).toNat
  let phySel := (d.rd8 (base + 0x15)).toNat
  let level := (d.rd8 (base + 0x1C)).toInt
  let hdr := d.ackHdr a.node a.fc a.busy
  let phy := d.phy phySel
  let x : Desc := ⟨[pack [(28, 1), (25, sec % 8), (0, k)], 0#32, 0#32, 0#32, 0#32, 0#32, pack [(0, a.node)], 0#32]⟩
  let len := hdr.length + x.mic + phyFcs phy
  let c := tget zeroDflt d.sec.fc k
  if sec % 4 = 0 || decide (psduMax phy < len) || !phyFits a.lane phy || decide (maxLevel a.lane < level) then some (d, 4, 0)
  else if d.noKey x then some (d, 2, 0)
  else if d.slotState k = 2 || decide (0xFFFFFFFF ≤ c) then some (d, 6, 0)
  else if d.ackShort a.node then none
  else if !d.ackFirst a then none
  else match d.txPlace a.lane len with
    | none => none
    | some h =>
      let d := d.loadKey k
      let out := ccmMic (d.cachedKey k) (ccmNonce Config.eui64.toNat c (sec % 8)) hdr [] x.mic
      let (d, handle) := d.fillEntry a.lane h
        { phy := phy, preamble := phyPre (fld phy 10 11), level := level, node := a.node
          psdu := withFcs phy (hdr ++ out), fc := wd c }
      some ((d.useFc k).pmcEvent 0x09, 0, handle)

end Sys2Proof.Machine
end

