-- ==== Sys2Proof/Machine/HostOut.lean ====
section
/-!
DEFINITION. What leaves on the host links: completion and delivery entries written to queue pairs (R311, R313 to R316),
segments of AMP streams (R319 to R321), and holding while a link cannot take them.
-/

namespace Sys2Proof.Machine

/-! ## Parts -/

def qpDflt (_ : Nat) : Qp := {}
def Dev.qp (d : Dev) (q : Nat) : Qp := tget qpDflt d.host.qps q
def Dev.setQp (d : Dev) (q : Nat) (x : Qp) : Dev := { d with host := { d.host with qps := tput qpDflt d.host.qps q x } }

def streamDflt (_ : Nat) : Stream := {}
def Dev.stream (d : Dev) (s : Nat) : Stream := tget streamDflt d.host.streams s
def Dev.setStream (d : Dev) (s : Nat) (x : Stream) : Dev :=
  { d with host := { d.host with streams := tput streamDflt d.host.streams s x } }

def Dev.emit (d : Dev) (o : HostOut) : Dev := { d with host := { d.host with out := d.host.out ++ [o] } }

/-- Queue pair `q` is enabled and its endpoint runs. -/
def Dev.qpOn (d : Dev) (q : Nat) : Bool := d.pdRun 13 && d.b (R.HPC_QP_CFG q) 31

/-- ETH_AMPs_STAT: 0 CLOSED, 1 OPEN, 2 LOST. -/
def Dev.ampState (d : Dev) (s : Nat) : Nat := d.f (R.ETH_AMP_STAT s) 30 2
def Dev.ampOpen (d : Dev) (s : Nat) : Bool := d.pdRun 14 && d.ampState s == 1

/-- A message cut into bodies of at most `n` octets. -/
def cut (n : Nat) : Nat → List Byte → List (List Byte)
  | 0, _ => []
  | fuel + 1, l => if l.length ≤ n then [l] else l.take n :: cut n fuel (l.drop n)

-- Marked: DEDUCED, log entry 32.
/-- Posted writes to the host of at most 256 octets each, counted at the PCIe port (R309, R313, R403). -/
def Dev.hostWrite (d : Dev) (a : Nat) (l : List Byte) : Dev :=
  if l.isEmpty then d else
  let parts := cut 256 (l.length + 1) l
  ((List.range parts.length).zip parts).foldl (fun d e => d.emit (.write ((a + 256 * e.1) % 2 ^ 64) e.2)) d
    |>.pmcOctets 0 2 l.length

/-- Vector control is masked at reset, as PCI Express has it. -/
def msixDflt (i : Nat) : Word := if i % 4 = 3 then 1#32 else 0#32
def Dev.msixWord (d : Dev) (i : Nat) : Word := tget msixDflt d.host.msix i

-- Marked: DESIGN CHOICE, log entry 88.
/-- The message of MSI-X vector `v`; a masked one pends (R309, R310). -/
def Dev.sendMsix (d : Dev) (v : Nat) : Dev :=
  if bitOf (d.msixWord (4 * v + 3)) 0 then
    { d with host := { d.host with msixPend := d.host.msixPend.filter (· ≠ v) ++ [v] } }
  else
    (d.emit (.msix v (d.msixWord (4 * v + 1) ++ d.msixWord (4 * v)).toNat (d.msixWord (4 * v + 2)))).pmcOctets 0 2 4

/-- A page address of queue pair `q`: 0 SQB, 1 CQB, 2 DBASE. -/
def Dev.qpBase (d : Dev) (q j : Nat) : Nat := d.pair (R.HPC_QP_BASES q (2 * j)) (R.HPC_QP_BASES q (2 * j + 1))

def Dev.sqSize (d : Dev) (q : Nat) : Nat := 2 ^ d.f (R.HPC_QP_CFG q) 20 4
def Dev.cqSize (d : Dev) (q : Nat) : Nat := 2 ^ d.f (R.HPC_QP_CFG q) 16 4
def Dev.dSize (d : Dev) (q : Nat) : Nat := 2 ^ d.f (R.HPC_QP_CFG q) 11 5

/-! ## Queue pairs -/

-- Marked: DEDUCED, log entry 32.
/-- The CQ has a free entry; one entry stays unused so that head = tail is an empty queue. -/
def Dev.cqFree (d : Dev) (q : Nat) : Bool :=
  let x := d.qp q
  (x.cqTail + 1) % d.cqSize q != x.cqHead

/-- KIND of an entry (R265). -/
def Entry.kind (e : Entry) : Nat := fld (e.words.getD 1 0#32) 29 3

/-- Where a delivery of `len` octets starts in the data region (R314). -/
def Dev.dataStart (d : Dev) (q len : Nat) : Nat :=
  let t := cdiv (d.qp q).dataTail 8 * 8
  if d.dSize q < t + len then 0 else t

/-- The data region has space for the delivery. -/
def Dev.dataFree (d : Dev) (q len : Nat) : Bool :=
  let s := d.dataStart q len
  (d.qp q).data.all fun (_, a, n) => decide (s + len ≤ a ∨ a + n ≤ s)

-- Marked: DESIGN CHOICE, log entry 88.
/-- MSI-X, when COAL_N entries are unsignalled (R315). -/
def Dev.signal (d : Dev) (q : Nat) : Dev :=
  (d.setQp q { d.qp q with unsignalled := 0 }).sendMsix (d.f (R.HPC_QP_CFG q) 24 6)

def Dev.qpSignal (d : Dev) (q : Nat) : Dev :=
  let x := d.qp q
  let d := d.setQp q { x with unsignalled := x.unsignalled + 1, firstAt := if x.unsignalled = 0 then d.clk else x.firstAt }
  if max 1 (d.f R.HPC_COAL 0 8) ≤ (d.qp q).unsignalled then d.signal q else d

/-- Writes an entry to queue pair `q`: data, entry, writeback word, and the MSI-X message when due (R313). -/
def Dev.qpWrite (d : Dev) (q : Nat) (e : Entry) : Dev :=
  let x := d.qp q
  let d :=
    if e.kind = 1 then
      let s := d.dataStart q e.data.length
      (d.hostWrite (d.qpBase q 2 + s) e.data).setQp q
        { x with dataTail := s + e.data.length, data := x.data ++ [(x.cqTail, s, e.data.length)] }
    else d.hostWrite e.raddr e.data
  let d := d.hostWrite (d.qpBase q 1 + 32 * x.cqTail) (e.words.flatMap wordBytes)
  let tail := (x.cqTail + 1) % d.cqSize q
  let d := d.setQp q { d.qp q with cqTail := tail }
  let wb := d.pair R.HPC_WBBASE_LO R.HPC_WBBASE_HI + 8 * q
  (d.hostWrite wb (wordBytes (pack [(16, x.sqHead), (0, tail)]))).qpSignal q

/-! ## AMP streams (R319, R320) -/

/-- The port is not off (R331). -/
def Dev.ethOn (d : Dev) : Bool := d.pdRun 14 && decide (d.f R.ETH_CTRL 0 2 ≠ 0)

def Dev.mtu (d : Dev) : Nat := max 1280 (min 9000 (d.f R.ETH_MTU 0 14))

/-- Frame octets of an AMP datagram, destination address to FCS. -/
def Dev.ampOctets (d : Dev) (body : Nat) : Nat :=
  max 64 (14 + (if d.b R.ETH_CTRL 16 then 4 else 0) + 40 + 8 + 16 + body + 4)

-- Marked: DEDUCED, log entry 32.
/-- Sends one AMP datagram; it carries the acknowledgement of everything taken. -/
def Dev.ampSend (d : Dev) (s type seq flags : Nat) (body : List Byte) : Dev :=
  let x := d.stream s
  let d := d.setStream s { x with ackAt := none }
  if !d.ethOn then d else
  (d.emit (.amp s type seq x.rxNext flags (max 1 Config.ampWindow.toNat) body)).pmcOctets 1 2 (d.ampOctets body.length)

def Dev.rto (d : Dev) : Nat := d.f R.ETH_AMPCFG 16 16 * ms

/-- Sends queued segments while the peer's window has room. -/
def Dev.ampPump (d : Dev) (s : Nat) : Dev :=
  let x := d.stream s
  if !d.ampOpen s then d else
  let go := x.queued.take (x.window - x.unacked.length)
  if go.isEmpty then d else
  let d := d.setStream s { x with
    queued := x.queued.drop go.length
    unacked := x.unacked ++ go
    rtoAt := if x.rtoAt.isSome then x.rtoAt else some (d.clk + d.rto) }
  d.forEach go fun d g => d.ampSend s g.type g.seq g.flags g.body

/-- A COMPLETE message as consecutive segments from FIRST to LAST, each taking the next SEQ. -/
def Dev.ampWrite (d : Dev) (s : Nat) (e : Entry) : Dev :=
  let x := d.stream s
  let msg := e.words.flatMap wordBytes ++ e.data
  let parts := cut (d.mtu - 64) (msg.length + 1) msg
  let segs := (List.range parts.length).map fun i =>
    (⟨(x.txNext + i) % 2 ^ 32, 4, b2n (i == 0) + 2 * b2n (i + 1 == parts.length), parts.getD i []⟩ : Segment)
  (d.setStream s { x with txNext := (x.txNext + parts.length) % 2 ^ 32, queued := x.queued ++ segs }).ampPump s

/-! ## Release to a link queue (R19, R315, R316, R320) -/

/-- HPC_QPq_STAT.HELD shows the held entries. -/
def Dev.showHeld (d : Dev) (q : Nat) : Dev := d.setF (R.HPC_QP_STAT q) 0 16 (min 65535 (d.qp q).held.length)

-- Marked: DEDUCED, log entry 34.
/-- The link queue cannot take an entry now and holds it instead. -/
def Dev.lqHolds (d : Dev) (q : Nat) : Bool := if q < 64 then !d.qpOn q else !d.ampOpen (q - 64)

/-- The link has room for an entry of this kind and data length. -/
def Dev.lqRoom (d : Dev) (q kind len : Nat) : Bool :=
  if q < 64 then d.cqFree q && (kind != 1 || d.dataFree q len)
  else
    let x := d.stream (q - 64)
    decide (x.unacked.length + x.queued.length < x.window)

def Dev.lqHeld (d : Dev) (q : Nat) : List Entry := if q < 64 then (d.qp q).held else (d.stream (q - 64)).held

/-- A release to link queue `q` need not wait: the queue holds it, or has room for it and no earlier entry waits. -/
def Dev.lqReady (d : Dev) (q kind len : Nat) : Bool :=
  d.lqHolds q || ((d.lqHeld q).isEmpty && d.lqRoom q kind len)

def Dev.setHeld (d : Dev) (q : Nat) (l : List Entry) : Dev :=
  if q < 64 then (d.setQp q { d.qp q with held := l }).showHeld q
  else d.setStream (q - 64) { d.stream (q - 64) with held := l }

def Dev.lqPut (d : Dev) (q : Nat) (e : Entry) : Dev := if q < 64 then d.qpWrite q e else d.ampWrite (q - 64) e

/-- Writes or holds a released entry. -/
def Dev.lqWrite (d : Dev) (q : Nat) (e : Entry) : Dev :=
  if d.lqHolds q then d.setHeld q (d.lqHeld q ++ [e]) else d.lqPut q e

/-- Held entries are written while the link takes them. -/
def flushN : Nat → Dev → Nat → Dev
  | 0, d, _ => d
  | n + 1, d, q =>
    match d.lqHeld q with
    | [] => d
    | e :: r =>
      if !d.lqHolds q && d.lqRoom q e.kind e.data.length then flushN n ((d.setHeld q r).lqPut q e) q else d

def Dev.flushHeld (d : Dev) (q : Nat) : Dev := flushN (d.lqHeld q).length d q

end Sys2Proof.Machine
end

