-- ==== Sys2Proof/Machine/Nt.lean ====
section
/-!
DEFINITION. The node-table mirrors as memory: fields of an entry, and changes applied to every mirror whose domain is in
Run (R209, R210).
-/

namespace Sys2Proof.Machine

/-- Mirrors of Main Processor domains in Run. -/
def Dev.running (d : Dev) : List Nat := [0, 1].filter fun h => d.pdRun (40 + h)

-- Marked: DESIGN CHOICE, log entry 114.
/-- Octet `o` of an entry in half `h`'s mirror, where words may be in error: the partner's word is taken before the access
completes, and an entry with a word in error in both mirrors is not VALID (R281). -/
def Dev.ntOctet (d : Dev) (h n o : Nat) : Byte :=
  let a := ntBase h + 64 * n
  let b := ntBase (1 - h) + 64 * n
  let bad (k : Nat) : Bool := d.ecc2.contains (a + 4 * k)
  let lost (k : Nat) : Bool := bad k && (!d.pdRun (41 - h) || d.ecc2.contains (b + 4 * k))
  let x := if bad (o / 4) && !lost (o / 4) then d.rd8 (b + o) else d.rd8 (a + o)
  if o = 0x0B && (List.range 16).any lost then x &&& 0x7F#8 else x

/-- A field of node `n` read from the mirror of half `h`. -/
def Dev.ntField (d : Dev) (h n off size : Nat) : Nat :=
  if d.ecc2.isEmpty then leNat (d.rdBytes (ntBase h + 64 * n + off) size)
  else leNat ((List.range size).map fun i => d.ntOctet h n (off + i))

/-- The same from the mirror the hardware reads: the leading half's, or the other's where that is stopped. -/
def Dev.nt (d : Dev) (n off size : Nat) : Nat := d.ntField d.ntHalf n off size

/-- Writes a field to every running mirror, in the same step. -/
def Dev.ntPut (d : Dev) (n off size v : Nat) : Dev :=
  d.forEach d.running fun d h => d.wrBytes (ntBase h + 64 * n + off) (natBytes size v)

/-! ## Fields (R209) -/

def Dev.ntFlags (d : Dev) (n : Nat) : Nat := d.nt n 0x0A 2
def Dev.ntValid (d : Dev) (n : Nat) : Bool := (d.ntFlags n).testBit 15
def Dev.ntHome (d : Dev) (n : Nat) : Nat := d.ntFlags n / 2 ^ 14 % 2
def Dev.ntKind (d : Dev) (n : Nat) : Nat := d.ntFlags n / 2 ^ 12 % 4
def Dev.ntBand (d : Dev) (n : Nat) : Nat := d.ntFlags n / 2 ^ 11 % 2
def Dev.ntShort (d : Dev) (n : Nat) : Nat := d.nt n 0x08 2
def Dev.ntSlot (d : Dev) (n : Nat) : Nat := d.nt n 0x0C 2
def Dev.ntSec (d : Dev) (n : Nat) : Nat := d.nt n 0x0E 1
def Dev.ntPeriod (d : Dev) (n : Nat) : Nat := d.nt n 0x10 4
def Dev.ntChan (d : Dev) (n : Nat) : Nat := d.nt n 0x14 1
def Dev.ntPhy (d : Dev) (n : Nat) : Word := d.phy (d.nt n 0x15 1)
def Dev.ntRef (d : Dev) (n : Nat) : Nat := d.nt n 0x20 8
def Dev.ntContact (d : Dev) (n : Nat) : Nat := d.nt n 0x28 8
def Dev.ntFc (d : Dev) (n : Nat) : Nat := d.nt n 0x30 4
def Dev.ntReplay (d : Dev) (n : Nat) : Nat := d.nt n 0x34 4
def Dev.ntDrift (d : Dev) (n : Nat) : Nat := d.nt n 0x38 2
def Dev.ntCgen (d : Dev) (n : Nat) : Nat := d.nt n 0x3A 1
def Dev.ntState (d : Dev) (n : Nat) : Nat := d.nt n 0x3B 1
def Dev.ntFcv (d : Dev) (n : Nat) : Bool := (d.ntState n).testBit 7

/-- The valid nodes of half `h`'s mirror, ascending: their FLAGS octet is listed in memory. -/
def Dev.validNodes (d : Dev) (h : Nat) : List Nat :=
  let b := ntBase h
  d.mem.filterMap fun e =>
    if decide (b ≤ e.1 ∧ e.1 < b + 0x100000) && (e.1 - b) % 64 == 0x0B && e.2.msb &&
        (d.ecc2.isEmpty || (d.ntOctet h ((e.1 - b) / 64) 0x0B).msb) then some ((e.1 - b) / 64) else none

end Sys2Proof.Machine
end

