-- ==== Sys2Proof/Machine/Ledger.lean ====
section
/-!
DEFINITION. Transactions, pools and the order ledger (chapter 11): ledger records in memory, acceptance, decisions,
fences, tickets and releases (R242 to R266, R271, R279, R280).
-/

namespace Sys2Proof.Machine

/-! ## Who leads for an entry (R269, R279) -/

/-- The half that works for a node homed at `home`, or for group work, by a value `w` of RIMX_TOKEN: in Duplex-Protected
mode the leader; in Capacity mode the device-lead holder for groups, otherwise the home half, or the survivor of a failed
home half. -/
def workBy (w : Word) (group : Bool) (home : Nat) : Nat :=
  if !bitOf w 14 || group then fld w 0 2
  else if !bitOf w (8 + home) && bitOf w (2 + home) && bitOf w (8 + (1 - home)) then 1 - home else home

-- Marked: DEDUCED, log entry 35.
def Dev.workHalf (d : Dev) (group : Bool) (home : Nat) : Nat := workBy (d.reg R.RIMX_TOKEN) group home

/-- By the value `w` of RIMX_TOKEN, half `h` leads for the entry's domain and its FAILED bit is 0 (R271). -/
def leadsBy (w : Word) (h : Nat) (group : Bool) (home : Nat) : Bool :=
  workBy w group home == h && decide (h < 2) && !bitOf w (2 + h) &&
    if !bitOf w 14 || group then true else bitOf w (8 + h)

/-! ## Ledger records (R259) -/

abbrev ledAddr (h i : Nat) : Nat := ledBase h + 16 * i
-- Marked: DESIGN CHOICE, log entry 114.
def Dev.ledWord (d : Dev) (h i w : Nat) : Word :=
  let b := ledAddr (1 - h) i + 4 * w
  if d.ecc2.contains (ledAddr h i + 4 * w) && d.pdRun (41 - h) && !d.ecc2.contains b && (!d.capacity || decide (i < 256))
  then d.rd32 b else d.rd32 (ledAddr h i + 4 * w)

-- Marked: DEDUCED, log entry 35.
/-- The mirrors a domain's changes are applied to. -/
def Dev.ledMirrors (d : Dev) (group : Bool) (home : Nat) : List Nat :=
  if !d.capacity || group then d.running else d.running.filter fun h => h == d.workHalf false home

/-- The mirror a domain is read from. -/
def Dev.ledHalf (d : Dev) (group : Bool) (home : Nat) : Nat :=
  let h := d.workHalf group home
  if h < 2 && d.pdRun (40 + h) then h else d.ntHalf

/-- Writes one word of a record in every mirror of its domain. -/
def Dev.ledPut (d : Dev) (group : Bool) (home i w : Nat) (v : Word) : Dev :=
  d.forEach (d.ledMirrors group home) fun d h => d.wr32 (ledAddr h i + 4 * w) v

/-- An ordering domain (R242). -/
structure Dom where
  group : Bool
  target : Nat
  home : Nat
  cls : Nat
  up : Bool
  flow : Nat
  deriving DecidableEq, Repr

/-- Word 0 of a domain's record, without the chain. -/
def Dom.word0 (x : Dom) (fenced : Bool) : Word :=
  pack [(31, 1), (30, b2n fenced), (28, x.cls), (27, b2n x.up), (23, if x.cls = 1 then x.flow else 0), (22, b2n x.group)]

/-- A record belongs to the domain: class, direction and, for class F, flow agree. -/
def Dom.is (x : Dom) (w : Word) : Bool := (w &&& 0xBFC00000#32) == x.word0 false

/-- A node has at most 2 class S and 32 class F domains, which bounds its chain. -/
abbrev chainFuel : Nat := 34

/-- The records of a chain from index `i`. -/
def Dev.chainFrom (d : Dev) (h : Nat) : Nat → Nat → List Nat
  | 0, _ => []
  | n + 1, i =>
    let w := d.ledWord h i 0
    i :: if bitOf w 14 then Dev.chainFrom d h n (fld w 0 14) else []

/-- The records of a node, first to last. -/
def Dev.chain (d : Dev) (h node : Nat) : List Nat :=
  let p := d.ntField h node 0x18 4
  if p.testBit 31 then d.chainFrom h chainFuel (p % 2 ^ 14) else []

/-- The record of a domain. -/
def Dev.ledFind (d : Dev) (x : Dom) : Option Nat :=
  let h := d.ledHalf x.group x.home
  if x.group then (if bitOf (d.ledWord h x.target 0) 31 then some x.target else none)
  else (d.chain h x.target).find? fun i => x.is (d.ledWord h i 0)

/-- The lowest free record for node domains. -/
def Dev.ledFree (d : Dev) (h : Nat) : Option Nat :=
  ((List.range 16128).map (· + 256)).find? fun i => !bitOf (d.ledWord h i 0) 31

/-- A domain has a record, or one is free for it. -/
def Dev.ledRoom (d : Dev) (x : Dom) : Bool :=
  x.group || (d.ledFind x).isSome || (d.ledFree (d.ledHalf false x.home)).isSome

/-- Writes a node's LEDGER pointer in the node-table mirrors of the domain's halves. -/
def Dev.setChainHead (d : Dev) (x : Dom) (v : Nat) : Dev :=
  d.forEach (d.ledMirrors false x.home) fun d h => d.wrBytes (ntBase h + 64 * x.target + 0x18) (natBytes 4 v)

/-- Allocates a domain's record: words 1 to 3 start at 0, a node record goes to the head of its chain, and a downlink
domain of a node whose home half has failed starts fenced (R259, R280). -/
def Dev.ledAlloc (d : Dev) (x : Dom) : Option (Dev × Nat) :=
  let fenced := d.capacity && !x.group && !x.up && d.failed x.home && !d.homeLead x.home
  let h := d.ledHalf x.group x.home
  let start (d : Dev) (i : Nat) (w : Word) : Dev :=
    (((d.ledPut x.group x.home i 0 w).ledPut x.group x.home i 1 0#32).ledPut x.group x.home i 2 0#32).ledPut x.group
      x.home i 3 0#32
  if x.group then some (start d x.target (x.word0 false), x.target)
  else match d.ledFree h with
    | none => none
    | some i =>
      let old := d.ntField h x.target 0x18 4
      let w := x.word0 fenced ||| (if old.testBit 31 then pack [(14, 1), (0, old % 2 ^ 14)] else 0#32)
      some ((start d i w).setChainHead x (2 ^ 31 + i), i)

def Dev.ledGet (d : Dev) (x : Dom) : Option (Dev × Nat) :=
  match d.ledFind x with
  | some i => some (d, i)
  | none => d.ledAlloc x

/-- Frees a node record: it leaves its chain and is cleared. -/
def Dev.ledRelease (d : Dev) (x : Dom) (i : Nat) : Dev :=
  let h := d.ledHalf false x.home
  let l := d.chain h x.target
  let next := fld (d.ledWord h i 0) 0 15
  let d := match l.findIdx? (· == i) with
    | some 0 => d.setChainHead x (if next.testBit 14 then 2 ^ 31 + next % 2 ^ 14 else 0)
    | some (k + 1) =>
      let p := l.getD k 0
      d.ledPut false x.home p 0 (setFld (d.ledWord h p 0) 0 15 next)
    | none => d
  (List.range 4).foldl (fun d w => d.ledPut false x.home i w 0#32) d

/-! ## Pools (R249, R250) -/

def Dev.poolEn (d : Dev) (p : Nat) : Bool := d.b (R.MSG_POOL_CFG p) 31
def Dev.poolSize (d : Dev) (p : Nat) : Nat := (d.reg (R.MSG_POOL_SIZE p)).toNat / 256
def Dev.poolResv (d : Dev) (p : Nat) : Nat := max 4 (d.f (R.MSG_POOL_CFG p) 16 12)
def Dev.carves (d : Dev) (p : Nat) : List (Nat × Nat) := tget nilDflt d.msg.carves p
def Dev.carved (d : Dev) (p : Nat) : Nat := (d.carves p).foldl (fun n c => n + c.2) 0
def Dev.poolUsed (d : Dev) (p : Nat) : Nat := tget zeroDflt d.msg.used p
def Dev.setUsed (d : Dev) (p n : Nat) : Dev := { d with msg := { d.msg with used := tput zeroDflt d.msg.used p n } }
def Dev.poolFree (d : Dev) (p : Nat) : Nat := d.poolSize p - d.carved p - d.poolUsed p

/-- A disabled pool stands for pool 0. -/
def Dev.poolOr (d : Dev) (p : Nat) : Nat := if d.poolEn p then p else 0

/-- The pool of a link queue. -/
def Dev.lqPool (d : Dev) (lq : Nat) : Nat := d.poolOr (d.f (R.MSG_LNKPOOL (lq / 8)) (4 * (lq % 8)) 4)

/-- Largest downlink request a pool can hold. -/
def Dev.poolCap (d : Dev) (p : Nat) : Nat := d.poolSize p - d.carved p - d.poolResv p

-- Marked: DESIGN CHOICE, log entry 113.
/-- Addresses of the `n` lowest free blocks of a pool. -/
def Dev.freePlaces (d : Dev) (p n : Nat) : List Nat :=
  let used := (d.msg.tcbs.map (·.place)).flatten ++ (d.msg.reasm.map (·.place)).flatten
  (((List.range (d.poolSize p - d.carved p)).map fun i => (d.reg (R.MSG_POOL_BASE p)).toNat + 256 * i).filter
    fun a => !used.contains a).take n

/-- A flat address lies in one of these blocks. -/
def inPlaces (l : List Nat) (x : Nat) : Bool := l.any fun a => decide (storeBase + a ≤ x ∧ x < storeBase + a + 256)

/-- Blocks that are filled anew hold no earlier error (R64). -/
def Dev.cleanPlaces (d : Dev) (l : List Nat) : Dev :=
  { d with ecc1 := d.ecc1.filter fun x => !inPlaces l x, ecc2 := d.ecc2.filter fun x => !inPlaces l x }

/-- Octets from offset `off` of what these blocks hold are written into the message store. -/
def Dev.putPlaces (d : Dev) (l : List Nat) : Nat → List Byte → Dev
  | _, [] => d
  | off, x :: r => (match l[off / 256]? with
    | some a => d.wrBytes (storeBase + (a + off % 256) % 0xC00000) [x]
    | none => d).putPlaces l (off + 1) r

-- Marked: DESIGN CHOICE, log entry 91.
/-- Octets at places of a payload pass the message store's banks. -/
def Dev.msPlaces (d : Dev) (l : List Nat) (off n dir : Nat) : Dev :=
  d.forEach ((List.range l.length).zip l) fun d e =>
    let lo := 256 * e.1
    d.msTraffic (storeBase + (e.2 + (off - lo)) % 0xC00000) (min (off + n) (lo + 256) - max off lo) dir

/-- Octets of a payload go to their places. -/
def Dev.fillPlaces (d : Dev) (l : List Nat) (off : Nat) (x : List Byte) : Dev :=
  (d.putPlaces l off x).msPlaces l off x.length 1

/-- Blocks of a send transaction. -/
def Tcb.need (t : Tcb) : Nat := cdiv t.len 256 + cdiv (if t.group then 0 else t.respMax) 256 + 1

/-! ## Control blocks -/

/-- LSNs of submissions lie below 2^20; completions of malformed submissions and deliveries are numbered above. -/
abbrev lsnMod : Nat := 2 ^ 20
abbrev upBase : Nat := 2 ^ 21

def Dev.tcbCount (d : Dev) : Nat := max 1024 (min 16384 (d.f R.MSG_TCBCNT 0 15))
def Dev.tcbUse (d : Dev) : Nat := (d.msg.tcbs.filter fun t => decide (t.lsn < lsnMod ∨ upBase ≤ t.lsn)).length

-- Marked: DEDUCED, log entry 25.
/-- A TCB is free; an open reassembly context keeps the one its datagram will need (log entry 25). -/
def Dev.tcbFree (d : Dev) : Bool := decide (d.tcbUse + d.msg.reasm.length < d.tcbCount)

def Dev.tcb (d : Dev) (lsn : Nat) : Option Tcb := d.msg.tcbs.find? fun t => t.lsn == lsn
def Dev.setTcbs (d : Dev) (l : List Tcb) : Dev := { d with msg := { d.msg with tcbs := l } }
def Dev.updTcb (d : Dev) (lsn : Nat) (g : Tcb → Tcb) : Dev :=
  d.setTcbs (d.msg.tcbs.map fun t => if t.lsn = lsn then g t else t)

/-- The next unused number at or above `base`. -/
def Dev.numberFrom (d : Dev) (base top : Nat) : Nat :=
  d.msg.tcbs.foldl (fun m t => if base ≤ t.lsn ∧ t.lsn < top then max m (t.lsn + 1) else m) base

/-- The domain of a control block. -/
def Tcb.dom (t : Tcb) : Dom := ⟨t.group, t.target, t.home, t.cls, t.uplink, t.flow⟩

/-- Every status but OK and OVERLOAD_MARKED is a failure (R256). -/
def failure (s : Nat) : Bool := s != 0 && s != 11

/-! ## Release (R260, R265, R271) -/

/-- The completion or delivery entry of a control block, with its ticket (R265). -/
def Tcb.entry (t : Tcb) (serial : Nat) : Entry :=
  let hole := t.uplink && t.status == 13
  let kind := if hole then 2 else b2n t.uplink
  let data := if hole then [] else t.data
  { words :=
      [(if t.uplink then 0#32 else t.tag),
       pack [(29, kind), (24, t.status), (22, t.cls), (18, if t.cls = 1 then t.flow else 0),
         (17, b2n (t.dlv && !t.group && !t.uplink)), (16, b2n t.group), (0, t.target)],
       wd (if t.ledger.isSome then t.dseq else 0),
       pack [(16, data.length), (8, if hole then 0 else t.count)],
       t.lqw0, t.lqw1, t.fc, wd serial]
    data := data
    raddr := t.raddr }

/-- RIMX_TOKEN as half `h` last read it. -/
def Dev.seen (d : Dev) (h : Nat) : Option Word := if h = 0 then d.tok.seenA else d.tok.seenB

-- Marked: DEDUCED, log entry 98.
/-- Half `h` believes that it leads for the entry, and has not been refused with the epoch it last read. -/
def Dev.asks (d : Dev) (h : Nat) (group : Bool) (home : Nat) : Bool :=
  match d.seen h with
  | some w => leadsBy w h group home && (if h = 0 then d.tok.refusedA else d.tok.refusedB) != some (fld w 16 16)
  | none => false

-- Marked: DEDUCED, log entry 98.
/-- Half `h` presents the epoch it last read: the serial, or a refusal counted in RIMX_TKREFUSE (R271). -/
def Dev.present (d : Dev) (h : Nat) (group : Bool) (home : Nat) : Dev × Option Nat :=
  let e := fld ((d.seen h).getD 0#32) 16 16
  if leadsBy (d.reg R.RIMX_TOKEN) h group home && e == d.epoch then
    let s := (d.reg R.RIMX_TKSERIAL).toNat
    ((d.setReg R.RIMX_TKSERIAL (wd (s + 1))).pmcEvent 0x06, some s)
  else
    ({ d with tok := if h = 0 then { d.tok with refusedA := some e } else { d.tok with refusedB := some e } }.bumpF
      R.RIMX_TKREFUSE (16 * h) 16 1, none)

-- Marked: DEDUCED, log entry 98.
/-- A request for a ticket by each half that believes it leads for the entry, until one is granted. -/
def Dev.ticket (d : Dev) (group : Bool) (home : Nat) : Dev × Option Nat :=
  [0, 1].foldl (fun (x : Dev × Option Nat) h =>
    if x.2.isNone && x.1.asks h group home then x.1.present h group home else x) (d, none)

-- Marked: DESIGN CHOICE, log entry 113.
/-- Fetching is held for the link queues of `l` (R266). -/
def Dev.setStalled (d : Dev) (l : List Nat) : Dev :=
  { d with msg := { d.msg with stalled := l } }.setB R.MSG_STATUS 31 (!l.isEmpty)

-- Marked: DESIGN CHOICE, log entries 113 and 113.
/-- Fetching is no longer held once a TCB and a record are free (R247, R266). -/
def Dev.unstall (d : Dev) : Dev :=
  if !d.msg.stalled.isEmpty && d.tcbFree && (d.ledFree d.ntHalf).isSome then d.setStalled [] else d

-- Marked: DESIGN CHOICE, log entry 112.
/-- Frees a control block and its space. A payload read still in progress goes on (R312). The frames of a transaction that never
radiated, or whose deadline event barred them, stay barred (R243, R258). -/
def Dev.freeTcb (d : Dev) (t : Tcb) : Dev :=
  let d := d.setUsed t.pool (d.poolUsed t.pool - t.blocks)
  let bar := if t.uplink then 0 else if !t.radiated then 1 else if t.deadlinePosted then t.barFrom + 1 else 0
  { d with msg := { d.msg with
      tcbs := d.msg.tcbs.filter fun u => u.lsn != t.lsn, barred := tput zeroDflt d.msg.barred t.lsn bar } }

/-- Releases a decided control block, when its link queue is ready and a ticket is given. Answers whether it did. -/
def Dev.releaseOne (d : Dev) (t : Tcb) : Dev × Bool :=
  let e := t.entry 0
  if !d.lqReady t.linkq e.kind e.data.length then (d, false) else
  match d.ticket (t.group || decide (lsnMod ≤ t.lsn ∧ t.lsn < upBase)) t.home with
  | (d, none) => (d, false)
  | (d, some s) =>
    let d := if t.status = 13 then (d.bump R.MSG_CNT_HOLE).pmcEvent 0x0A else d
    (((d.msPlaces t.place 0 (t.entry s).data.length 2).lqWrite t.linkq (t.entry s)).freeTcb t, true)

/-- Releases `t` if its turn has come: class U at once, otherwise in domain sequence; RELEASE advances, and a node record
with nothing left and no fence is freed. -/
def Dev.releaseTurn (d : Dev) (t : Tcb) : Dev :=
  if t.state ≠ 2 then d else
  match t.ledger with
  | none => (d.releaseOne t).1
  | some i =>
    let h := d.ledHalf t.group t.home
    let rel := d.ledWord h i 2
    if rel ≠ wd t.dseq then d else
    match d.releaseOne t with
    | (d, false) => d
    | (d, true) =>
      let d := d.ledPut t.group t.home i 2 (rel + 1#32)
      if d.ledWord h i 1 = rel + 1#32 && !bitOf (d.ledWord h i 0) 30 && !t.group then d.ledRelease t.dom i else d

/-! ## Decide (R260) -/

/-- The outcome of `t` is decided; a downlink failure fences its domain, whose later undecided work is decided FENCED. -/
def Dev.decideTcb (d : Dev) (t : Tcb) (status : Nat) : Dev :=
  let d := d.updTcb t.lsn fun u => { u with state := 2, status := status, waitUntil := none }
  match t.ledger with
  | none => d
  | some i =>
    let w := d.ledWord (d.ledHalf t.group t.home) i 0
    if !t.uplink && failure status && !bitOf w 30 then
      let d := (d.ledPut t.group t.home i 0 (setBit w 30 true)).ledPut t.group t.home i 3 (wd t.dseq)
      d.setTcbs (d.msg.tcbs.map fun u =>
        if u.ledger = some i && u.dom == t.dom && u.state != 2 && seqAfter u.dseq t.dseq
        then { u with state := 2, status := 8, waitUntil := none } else u)
    else d

-- Marked: DESIGN CHOICE, log entry 113.
/-- A double-bit error in a block of the transaction or delivery ends it with HOLE before its release (R262). -/
def Dev.spoil (d : Dev) (t : Tcb) : Dev :=
  if t.status != 13 && d.ecc2.any (inPlaces t.place)
  then (d.updTcb t.lsn fun u => { u with data := [] }).decideTcb t 13 else d

-- Marked: DESIGN CHOICE, log entry 113.
/-- Releases everything whose turn has come, in order of acceptance; the blocks are read first. -/
def Dev.releaseAll (d : Dev) : Dev :=
  let d := if d.ecc2.isEmpty then d else d.forEach d.msg.tcbs fun d t => d.spoil t
  d.forEach d.msg.tcbs fun d t => d.releaseTurn t

-- Marked: DEDUCED, log entry 98.
/-- A Main Processor's read of RIMX_TOKEN renews what its half presents, and releases are tried again (R271). -/
def Dev.tokenRead (d : Dev) (h : Nat) : Dev × Word :=
  let w := d.reg R.RIMX_TOKEN
  let d := { d with tok :=
    if h = 0 then { d.tok with noticeA := false, seenA := some w, refusedA := none }
    else { d.tok with noticeB := false, seenB := some w, refusedB := none } }
  (d.releaseAll, w)

/-- Decides an outcome and releases what follows; a control block already decided counts in MSG_CNT_STALE. -/
def Dev.conclude (d : Dev) (lsn status : Nat) : Dev :=
  match d.tcb lsn with
  | some t => if t.state = 2 then d.bump R.MSG_CNT_STALE else (d.decideTcb t status).releaseAll
  | none => d

/-! ## Reservation (R250) -/

/-- Takes the blocks of an admitted transaction and begins the fetch of its payload. -/
def Dev.takeBlocks (d : Dev) (t : Tcb) : Dev :=
  let place := d.freePlaces t.pool t.need
  let d := (d.cleanPlaces place).setUsed t.pool (d.poolUsed t.pool + t.need)
  let pcie := decide (t.linkq < 64)
  let d := d.updTcb t.lsn fun u =>
    { u with state := 1, blocks := t.need, place := place, waitUntil := none, fetched := !pcie }
  let d := if pcie then d else d.fillPlaces place 0 t.payload
  if pcie then
    (List.range (cdiv t.len 512)).foldl (fun d i => d.emit (.read (t.paddr + 512 * i) (min 512 (t.len - 512 * i))))
      { d with host := { d.host with reads := d.host.reads ++ [t.lsn] } }
  else d

/-- Some transaction waits in a pool's admission queue. -/
def Dev.poolQueue (d : Dev) (p : Nat) : List Tcb :=
  d.msg.tcbs.filter fun t => t.pool == p && t.waitUntil.isSome && t.state == 0

/-- Reservation at acceptance. -/
def Dev.reserve (d : Dev) (t : Tcb) : Dev :=
  let p := t.pool
  if d.poolCap p < t.need then d.conclude t.lsn 1
  else if (d.poolQueue p).isEmpty && decide (d.poolResv p + t.need ≤ d.poolFree p) then d.takeBlocks t
  else
    let wait := d.f (R.MSG_POOL_CFG p) 0 16
    if wait = 0 then d.conclude t.lsn 12
    else d.updTcb t.lsn fun u => { u with waitUntil := some (d.clk + wait * ms) }

/-- POOL_RESERVE: the head of the admission queue takes its blocks. -/
def Dev.poolReserve (d : Dev) (p : Nat) : Dev :=
  match d.poolQueue p with
  | t :: _ => if d.poolResv p + t.need ≤ d.poolFree p then d.takeBlocks t else d
  | [] => d

/-- POOL_WAIT_TIMEOUT: the first waiting transaction whose time has passed ends with BUSY. -/
def Dev.poolTimeout (d : Dev) (p : Nat) : Dev :=
  match (d.poolQueue p).find? fun t => match t.waitUntil with | some u => decide (u ≤ d.clk) | none => false with
  | some t => d.conclude t.lsn 12
  | none => d

/-! ## Submissions (R245 to R247) -/

/-- A submission entry. -/
structure Sub where
  w : List Word
  deriving DecidableEq, Repr

def Sub.word (s : Sub) (i : Nat) : Word := s.w.getD i 0#32
def Sub.opc (s : Sub) : Nat := fld (s.word 0) 28 4
def Sub.cls (s : Sub) : Nat := fld (s.word 0) 26 2
def Sub.flow (s : Sub) : Nat := fld (s.word 0) 22 4
def Sub.resp (s : Sub) : Bool := bitOf (s.word 0) 21
def Sub.target (s : Sub) : Nat := fld (s.word 0) 0 14
def Sub.respMax (s : Sub) : Nat := fld (s.word 2) 16 16
def Sub.len (s : Sub) : Nat := fld (s.word 2) 0 16
def Sub.deadline (s : Sub) : Nat := (s.word 3).toNat
def Sub.group (s : Sub) : Bool := s.opc == 2

-- Marked: DEDUCED, log entry 36.
/-- R246. A LIFT_FENCE names its domain as a send to a node does; FLOW is 0 outside class F. -/
def Dev.malformed (d : Dev) (s : Sub) : Bool :=
  s.opc == 0 || decide (3 < s.opc) || s.cls == 3 || fld (s.word 0) 14 7 != 0 ||
  ((List.range 8).any fun i => s.word (8 + i) != 0#32) || (s.cls != 1 && s.flow != 0) ||
  (if s.group then decide (255 < s.target) else !d.ntValid s.target) ||
  (if s.opc = 3 then s.len != 0 else s.len == 0) || s.deadline == 0 ||
  (s.group && (s.cls == 1 || s.resp)) || (s.resp && s.respMax == 0)

/-- The domain of a submission. -/
def Dev.subDom (d : Dev) (s : Sub) : Dom :=
  ⟨s.group, s.target, if s.group then 0 else d.ntHome s.target, s.cls, false, s.flow⟩

/-- The device can take this submission now: the block runs with EN = 1, a TCB is free, and its domain has or can have
a record (R247). -/
def Dev.canAccept (d : Dev) (s : Sub) : Bool :=
  d.pdRun 5 && d.b R.MSG_CTRL 0 &&
    (d.malformed s || (d.tcbFree && (s.cls == 2 || d.ledRoom (d.subDom s))))

def Dev.newTcb (d : Dev) (lq : Nat) (s : Sub) (lsn : Nat) (payload : List Byte) : Tcb :=
  { lsn := lsn, linkq := lq, tag := s.word 1, opc := s.opc, cls := s.cls, flow := s.flow, group := s.group
    target := s.target, len := s.len, resp := s.resp, respMax := s.respMax
    paddr := (s.word 4).toNat + 2 ^ 32 * (s.word 5).toNat
    raddr := (s.word 6).toNat + 2 ^ 32 * (s.word 7).toNat
    deadline := d.clk + s.deadline * ms, pool := d.lqPool lq, payload := payload
    home := if s.group then 0 else d.ntHome s.target }

def Dev.addTcb (d : Dev) (t : Tcb) : Dev := d.setTcbs (d.msg.tcbs ++ [t])

-- Marked: DEDUCED, log entry 36.
/-- Acceptance: a malformed submission completes at once with BAD_SUBMISSION; any other takes an LSN, its domain sequence
and its place (R246, R247, R260). `canAccept` holds. -/
def Dev.accept (d : Dev) (lq : Nat) (s : Sub) (payload : List Byte) : Dev :=
  if d.malformed s then
    let lsn := d.numberFrom lsnMod upBase
    let t := d.newTcb lq s lsn []
    (d.addTcb { t with state := 2, status := 14, len := 0 }).releaseAll
  else
    let lsn := d.msg.nextLsn
    let t := d.newTcb lq s lsn payload
    let d := { d with msg := { d.msg with
      nextLsn := (lsn + 1) % lsnMod, barred := tput zeroDflt d.msg.barred lsn 0 } }
    if s.cls = 2 then
      let d := d.addTcb t
      if s.opc = 3 then d.conclude lsn 0 else d.reserve t
    else match d.ledGet t.dom with
      | none => d
      | some (d, i) =>
        let h := d.ledHalf t.group t.home
        let a := d.ledWord h i 1
        let t := { t with ledger := some i, dseq := a.toNat }
        let d := (d.ledPut t.group t.home i 1 (a + 1#32)).addTcb t
        let w := d.ledWord h i 0
        if s.opc = 3 then (d.ledPut t.group t.home i 0 (setBit w 30 false)).conclude lsn 0
        else if bitOf w 30 then d.conclude lsn 8
        else d.reserve t

-- Marked: DESIGN CHOICE, log entry 109.
/-- An AMP submission of the same domain has been placed in this clock period (R20). -/
def Dev.ampAhead (d : Dev) (s : Sub) : Bool :=
  s.cls != 2 && d.host.ampNow.any fun e => e.1 == d.clk && (Sub.mk e.2).cls != 2 && d.subDom ⟨e.2⟩ == d.subDom s

-- Marked: DESIGN CHOICE, log entry 109.
/-- The submissions an AMP stream places in one clock period are kept through it. -/
def Dev.noteAmp (d : Dev) (lq : Nat) (s : Sub) : Dev :=
  if lq < 64 then d
  else { d with host := { d.host with ampNow := (d.host.ampNow.filter (·.1 == d.clk)) ++ [(d.clk, s.w)] } }

-- Marked: DESIGN CHOICE, log entry 109.
/-- A submission arrives: it is accepted, or fetching stalls and nothing else changes. In one step a PCIe submission takes
the earlier place of a domain: given after an AMP one, it belongs to the next step and is not taken in this one (R20). -/
def Dev.submit (d : Dev) (lq : Nat) (s : Sub) (payload : List Byte) : Dev :=
  if lq < 64 && d.ampAhead s then d
  else if d.canAccept s then ((d.noteAmp lq s).setStalled (d.msg.stalled.filter (· ≠ lq))).accept lq s payload
  else if d.pdRun 5 && d.b R.MSG_CTRL 0 then d.setStalled ((d.msg.stalled.filter (· ≠ lq)) ++ [lq]) else d

/-! ## Deadline and result records (R257, R258, R273) -/

-- Marked: DESIGN CHOICE, log entry 112.
/-- The deadline of a transaction passes: it ends, or the deadline event is posted, once. -/
def Dev.deadline (d : Dev) (lsn : Nat) : Dev :=
  match d.tcb lsn with
  | some t =>
    if decide (lsn < lsnMod) && t.state != 2 && decide (t.deadline ≤ d.clk) then
      if t.radiated && !(d.capacity && !t.group && d.failed t.home && !d.homeLead t.home)
      then if t.deadlinePosted then d else
        (d.updTcb lsn fun u => { u with deadlinePosted := true, barFrom := d.armSeq }).macEvent 6 (t.target % 16384) lsn d.count
          (stampWordOf 0 0 false d.tbState d.slewing) []
      else d.conclude lsn 3
    else d
  | none => d

-- Marked: DEDUCED, log entry 37.
/-- The shortest secured header of IEEE 802.15.4, frame control, short destination, security control and frame counter, and the
octets of a fragment IE with its header (R251, R252; log entry 37). -/
abbrev leastHeader : Nat := 9
-- Marked: DEDUCED, log entry 37.
abbrev fragIe : Nat := 11

-- Marked: DEDUCED, log entry 37.
/-- Statuses a role or the security engine can end a transaction with; those of R253 never end a group's (R256). -/
def roleStatus (group : Bool) (s : Nat) : Bool :=
  s == 6 || s == 7 || s == 9 || s == 12 || s == 13 || (!group && (s == 2 || s == 4 || s == 5))

/-- The largest fragment payload (R266). -/
def Dev.fragMax (d : Dev) : Nat := max 64 (d.f R.MSG_FRAGMAX 0 16 / 8 * 8)

/-- Fragments of a transaction at fragment size `size`; one where the payload goes whole (R252). -/
def Tcb.frags (t : Tcb) (size : Nat) : Nat := if size = 0 then 1 else cdiv t.len size

-- Marked: DEDUCED, log entry 37.
/-- R252: `size` is a fragment size the role may choose for the transaction, the one it has chosen, and `frag` one of the
fragments it gives. -/
def Dev.fragOk (d : Dev) (t : Tcb) (frag size : Nat) : Bool :=
  let phy := d.ntPhy t.target
  let most := psduMax phy - phyFcs phy - [0, 4, 8, 16].getD (d.ntSec t.target % 4) 16 - leastHeader - (if size = 0 then 0 else fragIe)
  ((size == 0 && decide (t.len ≤ most)) || (size % 8 == 0 && decide (64 ≤ size ∧ size ≤ d.fragMax ∧ size ≤ most ∧ t.frags size ≤ 1024))) &&
    (t.acked.isEmpty || t.fragSize == size) && decide (frag < t.frags size)

-- Marked: DEDUCED, log entry 37.
/-- A record admitted at the ledger for an undecided transaction. A second report of a fragment is discarded and counted
(R257); after the deadline event only completion and `idle` end the transaction (R258). -/
def Dev.report (d : Dev) (t : Tcb) (r : ResultRec) : Dev :=
  let note (u : Tcb) : Tcb := { u with lqw0 := r.lqw0, lqw1 := r.lqw1 }
  match r.report with
  | .acked frag size =>
    if t.group || t.acked.contains frag || !d.fragOk t frag size then d.bump R.MSG_CNT_STALE else
    let acked := t.acked ++ [frag]
    let all := (List.range (t.frags size)).all acked.contains
    let d := d.updTcb t.lsn fun u => { note u with acked := acked, fragSize := size, dlv := u.dlv || all }
    if all && !t.resp then d.conclude t.lsn 0 else d
  | .complete resp =>
    let d := d.updTcb t.lsn fun u =>
      { note u with dlv := !u.group, data := if u.resp then resp.take u.respMax else [] }
    d.conclude t.lsn 0
  | .idle => if t.deadlinePosted then d.conclude t.lsn 3 else d
  | .failed s =>
    if !roleStatus t.group s then d.bump R.MSG_CNT_STALE
    else if t.deadlinePosted then d else d.conclude t.lsn s

/-- A live transaction whose outcome is not decided. -/
def Dev.undecided (d : Dev) (lsn : Nat) : Option Tcb :=
  match d.tcb lsn with
  | some t => if t.state = 2 || decide (lsnMod ≤ lsn) then none else some t
  | none => none

-- Marked: DEDUCED, log entry 37.
/-- The ledger acts on a record, or discards it and counts it. -/
def Dev.admitResult (d : Dev) (r : ResultRec) : Dev :=
  match d.undecided r.lsn with
  | some t => d.report t r
  | none => d.bump R.MSG_CNT_STALE

def Dev.trail (d : Dev) (h : Nat) : List ResultRec := if h = 0 then d.tok.trailA else d.tok.trailB
def Dev.setTrail (d : Dev) (h : Nat) (l : List ResultRec) : Dev :=
  { d with tok := if h = 0 then { d.tok with trailA := l } else { d.tok with trailB := l } }

-- Marked: DEDUCED, log entry 37.
/-- A record of a trailing half's role goes to its trail queue of 4,096 (R273): one that names a decided transaction is
discarded; a full queue makes room by the oldest such record, and otherwise the role waits. -/
def Dev.trailPut (d : Dev) (h : Nat) (r : ResultRec) : Dev :=
  if (d.undecided r.lsn).isNone then d else
  let q := d.trail h
  if q.length < 4096 then d.setTrail h (q ++ [r])
  else match q.findIdx? fun x => (d.undecided x.lsn).isNone with
    | some i => d.setTrail h (q.eraseIdx i ++ [r])
    | none => d

/-- A record of half `h` reaches the ledger. In Capacity mode a record from a half that does not work for the transaction
is discarded and counted (R257, R273). -/
def Dev.admitRecord (d : Dev) (h : Nat) (r : ResultRec) : Dev :=
  if !d.pdRun 5 then d
  else if !d.capacity then (if d.leader = h then d.admitResult r else d.trailPut h r)
  else match d.undecided r.lsn with
    | some t => if d.workHalf t.group t.home = h then d.report t r else d.bump R.MSG_CNT_STALE
    | none => d.bump R.MSG_CNT_STALE

/-- At a change of lead the new leader admits its trail queue in the order written (R273). -/
def Dev.admitTrail (d : Dev) (h : Nat) : Dev :=
  let q := d.trail h
  d.setTrail h [] |>.forEach q fun d r => d.admitResult r

/-! ## Host reads (R312, R316) -/

/-- A payload read ends: the payload is in the pool, or the transaction ends with HOLE. -/
def Dev.readDone (d : Dev) (lsn : Nat) (ok : Bool) (data : List Byte) : Dev :=
  if !d.host.reads.contains lsn then d else
  let d := { d with host := { d.host with reads := d.host.reads.filter (· ≠ lsn) } }
  if ok then
    let d := d.updTcb lsn fun u => { u with fetched := true, payload := data.take u.len }
    match d.tcb lsn with
    | some t => (d.fillPlaces t.place 0 (data.take t.len)).pmcOctets 0 1 t.len
    | none => d
  else
    let d := d.bump R.HPC_CNT_ERR
    if (d.undecided lsn).isSome then d.conclude lsn 13 else d

/-! ## Reassembly and deliveries (R244, R254, R255) -/

/-- Class, flow, pool and link queue of a node's deliveries, from the uplink table. -/
def Dev.upEntry (d : Dev) (n : Nat) : Nat × Nat × Nat × Nat :=
  let w := d.rd32 (storeBase + ((d.reg R.MSG_UPTBASE).toNat + 4 * n) % 0xC00000)
  if bitOf w 31 then (min 2 (fld w 29 2), fld w 25 4, d.poolOr (fld w 21 4), fld w 14 7) else (2, 0, 0, 0)

/-- A whole datagram takes a context of its own, keyed by its counter, which no limit of R255 counts. -/
def wholeTag (fc : Nat) : Nat := 65536 + fc

def Dev.contexts (d : Dev) : List Reasm := d.msg.reasm.filter fun c => decide (c.tag < 65536)
def Dev.context (d : Dev) (n tag : Nat) : Option Reasm := d.msg.reasm.find? fun c => c.node == n && c.tag == tag
def Dev.setReasm (d : Dev) (l : List Reasm) : Dev := { d with msg := { d.msg with reasm := l } }

def Dev.dropContext (d : Dev) (c : Reasm) : Dev :=
  (d.setUsed c.pool (d.poolUsed c.pool - c.blocks)).setReasm
    (d.msg.reasm.filter fun x => !(x.node == c.node && x.tag == c.tag))

/-- A context that a whole datagram's copy opened goes with the last of its verified copies, where none of them filled it
(R254). -/
def Dev.sweepWhole (d : Dev) : Dev :=
  d.forEach (d.msg.reasm.filter fun c => decide (65536 ≤ c.tag) && c.parts.isEmpty &&
      !(d.mac.copies.any fun x => x.node == c.node && x.verified.isSome && wholeTag x.inn.fc == c.tag))
    fun d c => d.dropContext c

/-- The domain of a context's datagram. -/
def Dev.upDom (d : Dev) (n cls flow : Nat) : Dom := ⟨false, n, d.ntHome n, cls, true, flow⟩

-- Marked: DEDUCED, log entry 25.
/-- Opens the context a copy needs, where it is not open; false when blocks, a context, a TCB or a ledger record is
lacking (R255). -/
def Dev.openContext (d : Dev) (n tag size : Nat) : Dev × Bool :=
  if (d.context n tag).isSome then (d, true) else
  let (cls, flow, pool, lq) := d.upEntry n
  let need := cdiv size 256 + 1
  let mine := d.contexts.filter fun c => c.node == n
  let full := decide (tag < 65536) && (decide (1024 ≤ d.contexts.length) || decide (4 ≤ mine.length))
  if !d.b R.MSG_CTRL 0 || full || !d.tcbFree || decide (d.poolFree pool < need) ||
      (cls != 2 && !d.ledRoom (d.upDom n cls flow)) then (d, false)
  else
    let place := d.freePlaces pool need
    let c : Reasm := { node := n, tag := tag, size := size, pool := pool, blocks := need, place := place, cls := cls
                       flow := flow, linkq := lq, last := d.clk }
    (((d.cleanPlaces place).setUsed pool (d.poolUsed pool + need)).setReasm (d.msg.reasm ++ [c]), true)

/-- An octet of the datagram has been filled. -/
def Reasm.octet (c : Reasm) (i : Nat) : Option Byte :=
  c.parts.findSome? fun (o, l) => if o ≤ i then l[i - o]? else none

def Reasm.complete (c : Reasm) : Bool := (List.range c.size).all fun i => (c.octet i).isSome

-- Marked: DESIGN CHOICE, log entry 39.
/-- A complete datagram becomes a delivery: a TCB, its domain sequence, and its release (R254, stage 8). -/
def Dev.deliverUp (d : Dev) (c : Reasm) : Dev :=
  let d := d.setReasm (d.msg.reasm.filter fun x => !(x.node == c.node && x.tag == c.tag))
  let t : Tcb :=
    { lsn := d.numberFrom upBase (2 ^ 32), linkq := c.linkq, tag := 0#32, opc := 0, cls := c.cls, flow := c.flow
      group := false, target := c.node, uplink := true, state := 2, status := if c.marked then 11 else 0, len := c.size
      pool := c.pool, blocks := c.blocks, place := c.place, data := (List.range c.size).map fun i => (c.octet i).getD 0#8
      count := min 255 c.dups, lqw0 := c.lqw0, lqw1 := c.lqw1, fc := wd (c.fc.getD 0), home := d.ntHome c.node }
  if c.cls = 2 then (d.addTcb t).releaseAll
  else match d.ledGet t.dom with
    | none => (d.setUsed c.pool (d.poolUsed c.pool - c.blocks)).bump R.MSG_CNT_REASM_BUSY
    | some (d, i) =>
      let a := d.ledWord (d.ledHalf false t.home) i 1
      ((d.ledPut false t.home i 1 (a + 1#32)).addTcb { t with ledger := some i, dseq := a.toNat }).releaseAll

-- Marked: DESIGN CHOICE, log entry 39.
/-- Stage 7: an admitted fragment is copied into place; one that disagrees with its context discards it. -/
def Dev.fillContext (d : Dev) (n tag size off : Nat) (octets : List Byte) (fc dups : Nat) (l0 l1 : Word)
    (marked : Bool) : Dev :=
  match d.context n tag with
  | none => d
  | some c =>
    if size ≠ c.size ∨ c.size < off + octets.length then (d.dropContext c).bump R.MSG_CNT_REASM_BAD else
    let filled := (List.range octets.length).all fun i => (c.octet (off + i)).isSome
    let (cls, flow, _, lq) := d.upEntry n
    let c := if c.fc.isNone then { c with cls := cls, flow := flow, linkq := lq } else c
    let c := { c with
      parts := if filled then c.parts else (off, octets) :: c.parts
      last := d.clk, fc := some (c.fc.getD fc), dups := c.dups + dups, lqw0 := l0, lqw1 := l1
      marked := c.marked || marked }
    let d := d.setReasm (d.msg.reasm.map fun x => if x.node = n ∧ x.tag = tag then c else x)
    let d := if filled then d else d.fillPlaces c.place off octets
    if c.complete then d.deliverUp c else d

-- Marked: DESIGN CHOICE, log entry 9.
/-- A context that has received no fragment for TIMEOUT ms is discarded. -/
def Dev.reasmTimeout (d : Dev) (n tag : Nat) : Dev :=
  match d.context n tag with
  | some c =>
    if c.last + d.f R.MSG_REASM 0 16 * ms ≤ d.clk then
      let d := d.dropContext c
      if tag < 65536 then d.bump R.MSG_CNT_REASM_TO else d
    else d
  | none => d

/-! ## MSG commands (R261, R266) -/

/-- Completes a banked command of requester `r`. -/
def Dev.msgResult (d : Dev) (r cmd res : Nat) (outs : List Word) : Dev :=
  let d := d.forEach (List.range 4) fun d k => d.setReg (bankKey r (R.MSG_CMDOUT k)) (outs.getD k 0#32)
  d.setReg (bankKey r R.MSG_CMDRES) (pack [(31, 1), (4, cmd), (0, res)])

def Dev.msgArg (d : Dev) (r k : Nat) : Word := d.reg (bankKey r (R.MSG_CMDARG k))

/-- LIFT and QUERY name a domain in ARG0; none where it is out of range. -/
def Dev.argDom (d : Dev) (w : Word) (up : Bool) : Option Dom :=
  let cls := fld w 28 2
  let g := bitOf w 22
  let t := fld w 0 14
  if 1 < cls || (g && (decide (255 < t) || cls == 1)) then none
  else some ⟨g, t, if g then 0 else d.ntHome t, cls, up, fld w 23 4⟩

-- Marked: DEDUCED, log entry 26.
/-- LIFT: a transaction of the domain with TAG 0 and link queue 127, released in its place; NOT_FOUND where the domain has
no record, NO_SPACE where no TCB is free (log entry 26). -/
def Dev.msgLift (d : Dev) (r : Nat) : Dev :=
  match d.argDom (d.msgArg r 0) false with
  | none => d.msgResult r 1 1 []
  | some x =>
    let s : Sub := ⟨[pack [(28, 3), (26, x.cls), (22, if x.cls = 1 then x.flow else 0), (0, x.target)], 0#32, 0#32, 1#32]⟩
    if (d.ledFind x).isNone then d.msgResult r 1 2 []
    else if !d.tcbFree then d.msgResult r 1 3 [] else
    let lsn := d.msg.nextLsn
    let t := { d.newTcb 127 s lsn [] with group := x.group, home := x.home }
    match d.ledGet x with
    | none => d
    | some (d, i) =>
      let h := d.ledHalf x.group x.home
      let a := d.ledWord h i 1
      let d := { d with msg := { d.msg with nextLsn := (lsn + 1) % lsnMod } }
      let d := (d.ledPut x.group x.home i 1 (a + 1#32)).addTcb { t with ledger := some i, dseq := a.toNat }
      let d := d.ledPut x.group x.home i 0 (setBit (d.ledWord h i 0) 30 false)
      (d.conclude lsn 0).msgResult r 1 0 []

/-- CARVE: contiguous blocks leave the top of a pool. -/
def Dev.msgCarve (d : Dev) (r : Nat) : Dev :=
  let p := fld (d.msgArg r 0) 0 4
  let n := fld (d.msgArg r 1) 0 16
  if !d.poolEn p then d.msgResult r 2 4 []
  else if d.poolFree p < d.poolResv p + n then d.msgResult r 2 3 []
  else
    let a := (d.reg (R.MSG_POOL_BASE p)).toNat + 256 * (d.poolSize p - d.carved p - n)
    let d := { d with msg := { d.msg with carves := tput nilDflt d.msg.carves p ((a, n) :: d.carves p) } }
    d.msgResult r 2 0 [wd a]

/-- UNCARVE: the most recent carve of a pool returns. -/
def Dev.msgUncarve (d : Dev) (r : Nat) : Dev :=
  let p := fld (d.msgArg r 0) 0 4
  if !d.poolEn p then d.msgResult r 3 4 []
  else match d.carves p with
    | (a, n) :: rest =>
      if a = (d.msgArg r 1).toNat ∧ n = fld (d.msgArg r 2) 0 16 then
        { d with msg := { d.msg with carves := tput nilDflt d.msg.carves p rest } }.msgResult r 3 0 []
      else d.msgResult r 3 1 []
    | [] => d.msgResult r 3 1 []

/-- QUERY: the record of a domain. -/
def Dev.msgQuery (d : Dev) (r : Nat) : Dev :=
  match d.argDom (d.msgArg r 0) (bitOf (d.msgArg r 0) 27) with
  | none => d.msgResult r 4 1 []
  | some x =>
    match d.ledFind x with
    | none => d.msgResult r 4 2 []
    | some i =>
      let h := d.ledHalf x.group x.home
      d.msgResult r 4 0 [wd i, d.ledWord h i 1, d.ledWord h i 2, d.ledWord h i 3]

/-- A write of MSG_CMD: by its code; a reserved code answers BAD_RANGE. -/
def Dev.msgCmd (d : Dev) (r : Nat) (w : Word) : Dev :=
  match fld w 0 4 with
  | 1 => d.msgLift r
  | 2 => d.msgCarve r
  | 3 => d.msgUncarve r
  | 4 => d.msgQuery r
  | c => d.msgResult r c 1 []

/-- Two octet ranges overlap. -/
def overlaps (a n b m : Nat) : Bool := decide (a < b + m ∧ b < a + n)

/-- A write of MSG_POOLp_CFG (R249). -/
def Dev.poolCfg (d : Dev) (p : Nat) (w : Word) : Dev :=
  let k := R.MSG_POOL_CFG p
  let was := d.poolEn p
  let d := d.setReg k (setFld (d.reg k &&& 0xC0000000#32) 0 28 (fld w 0 28))
  if !bitOf w 31 then d.setB k 31 false
  else if was then d
  else
    let b := (d.reg (R.MSG_POOL_BASE p)).toNat
    let n := (d.reg (R.MSG_POOL_SIZE p)).toNat
    let bad := b % 4096 != 0 || n % 4096 != 0 || decide (n < 0x10000) || decide (0xC00000 < b + n) ||
      ((List.range 16).any fun q => q != p && d.poolEn q &&
        overlaps b n (d.reg (R.MSG_POOL_BASE q)).toNat (d.reg (R.MSG_POOL_SIZE q)).toNat) ||
      overlaps b n (d.reg R.MSG_TCBBASE).toNat (64 * d.tcbCount) || overlaps b n (d.reg R.MSG_UPTBASE).toNat 0x10000
    if bad then d.setB k 30 true else (d.setB k 30 false).setB k 31 true

/-! ## Loss of a half in Capacity mode (R262, R279) -/

/-- Rebuilds the record of a domain in the survivor's mirror from the live control blocks. -/
def Dev.rebuild (d : Dev) (x : Dom) (l : List Tcb) : Dev :=
  match l with
  | [] => d
  | t0 :: _ =>
    let old : Option Nat := d.ledFind x
    let got := match old with
      | some i => some (d, i)
      | none => d.ledAlloc x
    match got with
    | none => d
    | some (d, i) =>
      let hi := l.foldl (fun m u => if seqAfter u.dseq m then u.dseq else m) t0.dseq
      let lo := l.foldl (fun m u => if seqAfter m u.dseq then u.dseq else m) t0.dseq
      let d := (d.ledPut x.group x.home i 1 (wd (hi + 1))).ledPut x.group x.home i 2 (wd lo)
      let live := l.filter fun u => u.state != 2
      let w := d.ledWord (d.ledHalf x.group x.home) i 0
      let d := if x.up || live.isEmpty then d
        else (d.ledPut x.group x.home i 0 (setBit w 30 true)).ledPut x.group x.home i 3
          (wd (live.foldl (fun m u => if seqAfter m u.dseq then u.dseq else m) (live.head?.map Tcb.dseq |>.getD 0)))
      d.setTcbs (d.msg.tcbs.map fun u => if l.any (fun v => v.lsn == u.lsn) then { u with ledger := some i } else u)

/-- The live control blocks of one domain. -/
def Dev.domTcbs (d : Dev) (x : Dom) : List Tcb := d.msg.tcbs.filter fun t => t.ledger.isSome && t.dom == x

-- Marked: DEDUCED, log entry 38.
/-- Work of lost domains ends in holes: undecided transactions and unreleased deliveries (R262). -/
def Dev.holeWork (d : Dev) (p : Tcb → Bool) : Dev :=
  d.setTcbs (d.msg.tcbs.map fun t =>
    if p t && (t.uplink || t.state != 2) then { t with state := 2, status := 13, waitUntil := none, data := [] } else t)

-- Marked: DEDUCED, log entry 38.
/-- The surviving half takes over the nodes homed at half `h`. -/
def Dev.ledgerLoss (d : Dev) (h : Nat) : Dev :=
  let mine (t : Tcb) : Bool := !t.group && t.home == h && decide (t.lsn < lsnMod ∨ upBase ≤ t.lsn)
  let doms := ((d.msg.tcbs.filter fun t => mine t && t.ledger.isSome).map Tcb.dom).eraseDups
  let d := d.forEach doms fun d x => d.rebuild x (d.domTcbs x)
  (d.holeWork mine).releaseAll

-- Marked: DEDUCED, log entries 38 and 48.
/-- A ledger record is lost in both mirrors: its domain is rebuilt with holes (R281). -/
def Dev.domainLoss (d : Dev) (x : Dom) : Dev :=
  let d := d.rebuild x (d.domTcbs x)
  (d.holeWork fun t => t.ledger.isSome && t.dom == x).releaseAll

end Sys2Proof.Machine
end

