-- ==== Sys2Proof/Machine/Mac.lean ====
section
/-!
DEFINITION. The MAC block (chapter 9): writes of the node-table window, node-table commands, the planning rule, the replay
window, the duplicate filter, contacts, and the acknowledgement service (R209 to R223, stages 2 to 8 of R16).
-/

namespace Sys2Proof.Machine

/-! ## The node-table window (R210) -/

/-- The bits of an octet of an entry that hold content; reserved octets and bits stay 0 (R209). -/
def ntMask (o : Nat) : Byte :=
  if o = 0x0A ∨ o = 0x0F ∨ (0x1D ≤ o ∧ o < 0x20) then 0#8
  else if o = 0x0B then 0xFC#8 else if o = 0x0E then 0x1F#8 else if o = 0x17 then 0x0F#8 else 0xFF#8

-- Marked: DEDUCED, log entry 40.
/-- A write of `size` octets at window offset `off` by a processor of half `h`: group C only while VALID = 0, group W
always, group H never. A discarded write sets NTWERR. -/
def Dev.ntWrite (d : Dev) (h off size v : Nat) : Dev :=
  let n := off / 64
  let o := off % 64
  let valid := (d.ntField h n 0x0A 2).testBit 15
  if o < 0x10 && !valid || decide (0x10 ≤ o ∧ o < 0x20) then
    d.wrBytes (ntBase h + off) ((natBytes size v).zipIdx.map fun e => e.1 &&& ntMask (o + e.2))
  else d.setB R.MAC_STATUS 0 true

/-! ## Replay window (R214) -/

/-- `replay_ok` of R214. -/
def Dev.replayOk (d : Dev) (n fc : Nat) : Bool :=
  if fc = 0xFFFFFFFF then false
  else if !d.ntFcv n then true
  else
    let top := d.ntFc n
    if top < fc then true
    else if 32 ≤ top - fc then false
    else !(d.ntReplay n).testBit (top - fc)

/-- `commit` of R214, in every running mirror. -/
def Dev.commitFc (d : Dev) (n fc : Nat) : Dev :=
  let top := d.ntFc n
  let rep := d.ntReplay n
  if !d.ntFcv n then
    ((d.ntPut n 0x30 4 fc).ntPut n 0x34 4 1).ntPut n 0x3B 1 (d.ntState n % 128 + 128)
  else if top < fc then
    let shifted := if 32 ≤ fc - top then 0 else (rep * 2 ^ (fc - top)) % 2 ^ 32
    (d.ntPut n 0x34 4 (shifted ||| 1)).ntPut n 0x30 4 fc
  else d.ntPut n 0x34 4 (rep ||| 2 ^ (top - fc))

/-! ## Recent-admission table (R215, R216) -/

def Dev.ratHas (d : Dev) (n fc : Nat) : Option RatEnt := d.mac.rat.find? fun e => e.node == n && e.fc == fc
def Dev.setRat (d : Dev) (l : List RatEnt) : Dev := { d with mac := { d.mac with rat := l } }

/-- DUPWIN ms after its commit an entry is removed. -/
def Dev.dupExpiry (d : Dev) (n fc : Nat) : Dev :=
  d.setRat (d.mac.rat.filter fun e =>
    !(e.node == n && e.fc == fc &&
      match e.commit with | some t => decide (t + d.f R.MAC_DUPWIN 0 16 * ms ≤ d.clk) | none => false))

/-- The committed entry with the oldest commit. -/
def Dev.ratOldest (d : Dev) : Option RatEnt :=
  d.mac.rat.foldl (fun b e =>
    match e.commit, b with
    | none, _ => b
    | some _, none => some e
    | some t, some x => if t < x.commit.getD 0 then some e else b) none

/-- Room for one more entry: none while the table is full of uncommitted ones. -/
def Dev.ratRoom (d : Dev) : Option Dev :=
  if d.mac.rat.length < 512 then some d
  else d.ratOldest.map fun e => d.setRat (d.mac.rat.filter fun x => !(x.node == e.node && x.fc == e.fc))

/-- DUPCNT of a node, saturating (R209). -/
def Dev.dupCount (d : Dev) (n : Nat) : Dev := d.ntPut n 0x3C 2 (min 65535 (d.nt n 0x3C 2 + 1))

/-- A copy is discarded as a duplicate; the context its twin went to, if still open, counts it (R17, R265). -/
def Dev.duplicate (d : Dev) (e : RatEnt) : Dev :=
  let d := d.dupCount e.node
  d.setReasm (d.msg.reasm.map fun c => if c.node = e.node ∧ c.tag = e.tag then { c with dups := c.dups + 1 } else c)

/-- INVALIDATE, INSERT or SETFC on a node: its copies between stages 3 and 6 become stale, its entries go (R216). -/
def Dev.purge (d : Dev) (n : Nat) : Dev :=
  { d with mac := { d.mac with
      rat := d.mac.rat.filter fun e => e.node != n
      copies := d.mac.copies.map fun c => if c.node = n then { c with stale := true } else c } }

/-! ## The planning rule (R218, R219) -/

/-- A plan: method, N, guard, first TXS and frame TXS. -/
structure Plan where
  method : Nat
  n : Nat := 0
  g : Nat := 0
  txs : Nat := 0
  frame : Nat := 0
  deriving DecidableEq, Repr

/-- Ceiling of an integer quotient by a positive number. -/
def icdiv (a : Int) (b : Nat) : Int := -((-a) / (b : Int))

/-- The guard at instant `s`: the whole period before any contact. -/
def Dev.guardAt (d : Dev) (n : Nat) (p s : Int) : Int :=
  if d.ntContact n = 0 then p
  else max ((d.f R.MAC_SCHED 16 16 * 160 : Nat) : Int) (icdiv ((s - (d.ntContact n : Int)) * d.ntDrift n) 16000000)

/-- The plan of a node of KIND 0; none when it is too long. -/
def Dev.planSampled (d : Dev) (n nb : Nat) : Option Plan :=
  let p : Int := (d.ntPeriod n * 160 : Nat)
  let phy := d.ntPhy n
  let bits := phyBits phy
  let wuf := wufAirtime phy
  let pmax : Int := if phyKind phy = 1 then 1000 else 4
  let ref : Int := d.ntRef n
  let s0 := ref + (max 0 (icdiv ((nb : Int) - ref) p.toNat)) * p
  let s := if s0 - min (d.guardAt n p s0) (p / 2) < nb then s0 + p else s0
  let g := d.guardAt n p s
  let pre := max 4 (icdiv (2 * g * bits) (8 * 160000000))
  if 2 * g ≤ p ∧ pre ≤ pmax then
    some { method := 1, n := pre.toNat, g := g.toNat, txs := (s - g).toNat, frame := (s - g).toNat }
  else
    let full := decide (p < 2 * g)
    let gp := if full then p / 2 else g
    let k := cdiv (2 * gp.toNat + wuf) wuf
    let txs := (s - gp).toNat
    let frame := txs + k * wuf + d.f R.MAC_SCHED 0 16 * 160
    let rz0 := (frame - (txs + wuf)) * phySym phy / (10 * 160000000)
    if 65535 < rz0 then none
    else some { method := if full then 3 else 2, n := k, g := g.toNat, txs := txs, frame := frame }

-- Marked: DEDUCED, log entry 40.
/-- The entry PLAN uses: for a node with RTE = 1, its first relay's (R221). -/
def Dev.planNode (d : Dev) (n : Nat) : Nat :=
  if (d.ntFlags n).testBit 10 then
    (d.rd16 (storeBase + (d.reg R.MAC_ROUTEBASE).toNat + 16 * (d.nt n 0x16 2 % 4096) + 2)).toNat % 16384
  else n

-- Marked: PRESUMED, log entry 111.
/-- The train a plan gives waits for the node's next fill; one without a train leaves none (R219; log entry 111). -/
def Dev.noteTrain (d : Dev) (h node n : Nat) : Dev :=
  let v := if n = 0 then 0 else 16384 * n + d.planNode node
  { d with mac := { d.mac with trains := tput zeroDflt d.mac.trains (16384 * h + node) v } }

/-- PLAN's checks and result: INVALID (7), TOO_LONG (6), or the plan. -/
def Dev.plan (d : Dev) (node nb : Nat) : Nat × Option Plan :=
  let n := d.planNode node
  let phy := d.ntPhy n
  let kind := d.ntKind n
  if !d.ntValid node || !d.ntValid n || phyKind phy != d.ntBand n + 1 || kind == 3 ||
      (kind == 0 && !decide (1000 ≤ d.ntPeriod n ∧ d.ntPeriod n ≤ 600000000)) then (7, none)
  else if kind = 1 then (0, some { method := 0, txs := nb, frame := nb })
  else if kind = 2 then (0, some { method := 4 })
  else match d.planSampled n nb with
    | some x => (0, some x)
    | none => (6, none)

-- Marked: DEDUCED, log entry 27.
/-- NTOUT0 to NTOUT5 of a plan; NTOUT0 holds the method in [31:28] and N in [27:0] (log entry 27). -/
def Plan.words (x : Plan) : List Word :=
  [pack [(28, x.method), (0, x.n)], wd x.g, wd x.txs, wd (x.txs / 2 ^ 32), wd x.frame, wd (x.frame / 2 ^ 32)]

/-! ## Node-table commands (R211) -/

-- Marked: DEDUCED, log entry 92.
/-- INSERT's checks, in order, on half `h`'s mirror. -/
def Dev.insertCheck (d : Dev) (h n : Nat) : Nat :=
  let fl := d.ntField h n 0x0A 2
  let short := d.ntField h n 0x08 2
  let eui := d.ntField h n 0 8
  let sec := d.ntField h n 0x0E 1 % 8
  let slot := d.ntField h n 0x0C 2
  if fl.testBit 15 || (d.validNodes h).any (fun m => d.ntField h m 0x08 2 == short || d.ntField h m 0 8 == eui) then 2
  else if sec = 0 ∨ sec = 4 then 3
  else if slot < 256 ∨ 16639 < slot then 4
  else if short = 0xFFFE ∨ short = 0xFFFF ∨ fl / 2 ^ 12 % 4 = 3 ∨
      phyKind (d.phy (d.ntField h n 0x15 1)) ≠ fl / 2 ^ 11 % 2 + 1 then 7
  else 0

/-- Sets or clears VALID in every running mirror. -/
def Dev.setValid (d : Dev) (n : Nat) (v : Bool) : Dev :=
  d.forEach d.running fun d h =>
    let a := ntBase h + 64 * n + 0x0B
    (d.wr8 a (if v then d.rd8 a ||| 0x80#8 else d.rd8 a &&& 0x7F#8)).unmark a

/-- FC_IN, FCV and REPLAY := FCV. -/
def Dev.setFcIn (d : Dev) (n fc : Nat) (fcv : Bool) (state : Nat) : Dev :=
  ((d.ntPut n 0x30 4 fc).ntPut n 0x34 4 (b2n fcv)).ntPut n 0x3B 1 (state % 128 + 128 * b2n fcv)

def Dev.ntInsert (d : Dev) (n fc : Nat) (fcv : Bool) : Dev :=
  let d := (d.setFcIn n fc fcv 0).setValid n true
  let d := ((d.ntPut n 0x20 8 0).ntPut n 0x28 8 0).ntPut n 0x38 2 (d.f R.MAC_DINIT 0 16)
  ((d.ntPut n 0x3A 1 0).ntPut n 0x3C 4 0).purge n

-- Marked: DEDUCED, log entry 92.
/-- A command with its arguments, judged on half `h`'s mirror: the result code and the outputs. -/
def Dev.ntExec (d : Dev) (h cmd : Nat) (a : List Word) : Dev × Nat × List Word :=
  let arg (i : Nat) : Word := a.getD i 0#32
  let n := (arg 0).toNat
  let valid := (d.ntField h n 0x0A 2).testBit 15
  match cmd with
  | 1 =>
    if 16383 < n then (d, 1, []) else
    let r := d.insertCheck h n
    (if r = 0 then d.ntInsert n (arg 1).toNat (bitOf (arg 2) 0) else d, r, [])
  | 2 => if 16383 < n then (d, 1, []) else if !valid then (d, 7, []) else ((d.setValid n false).purge n, 0, [])
  | 3 =>
    if 16383 < n then (d, 1, []) else if !valid then (d, 7, [])
    else ((d.setFcIn n (arg 1).toNat (bitOf (arg 2) 0) (d.ntState n)).purge n, 0, [])
  | 4 =>
    if 16383 < n then (d, 1, []) else if !valid then (d, 7, [])
    else
      let d := (d.ntPut n 0x20 8 ((arg 1).toNat + 2 ^ 32 * (arg 2).toNat)).ntPut n 0x28 8 d.count
      (d.ntPut n 0x3A 1 (d.ntCgen n + 1), 0, [])
  | 5 =>
    if 16383 < n then (d, 1, []) else
    match d.plan n ((arg 1).toNat + 2 ^ 32 * (arg 2).toNat) with
    | (r, some p) => (d.noteTrain h n (if p.method = 2 ∨ p.method = 3 then p.n else 0), r, p.words)
    | (r, none) => (d, r, [])
  | 6 =>
    let l := d.validNodes h
    let hit := if bitOf (arg 0) 0 then l.find? fun m => d.ntField h m 0 8 == (arg 1).toNat + 2 ^ 32 * (arg 2).toNat
      else l.find? fun m => d.ntField h m 0x08 2 == (arg 1).toNat
    match hit with
    | some m => (d, 0, [wd m])
    | none => (d, 5, [])
  | _ => (d, 1, [])

/-- The bank a half's role or Main Processor keeps its arguments, result and outputs in. -/
def mpBank (h : Nat) : Nat := 64 + h
def roleBank (h res : Nat) : Nat := 70 + 2 * h + res % 2

-- Marked: DEDUCED, log entry 92.
/-- A command of a bank: a Main Processor's result goes to MAC_NTRES, a role's to its NTRQ. -/
def Dev.ntCommand (d : Dev) (bank h cmd : Nat) : Dev :=
  if !d.pdRun 4 then d else
  let (d, r, outs) := d.ntExec h cmd ((List.range 4).map fun k => d.reg (bankKey bank (R.MAC_NTARG k)))
  let d := d.forEach (List.range outs.length) fun d k => d.setReg (bankKey bank (R.MAC_NTOUT k)) (outs.getD k 0#32)
  let w := pack [(31, 1), (4, cmd), (0, r)]
  if bank < 70 then d.setReg (bankKey bank R.MAC_NTRES) w
  else
    let key := bank - 70
    { d with mac := { d.mac with ntrq := tput nilDflt d.mac.ntrq key (tget nilDflt d.mac.ntrq key ++ [w]) } }

/-! ## Received copies (R16, R212, R215) -/

/-- A node of an address. -/
def Dev.findNode (d : Dev) (s : Source) : Option Nat :=
  let h := d.ntHalf
  (d.validNodes h).find? fun m =>
    match s with
    | .short a => d.ntField h m 0x08 2 == a
    | .ext a => d.ntField h m 0 8 == a

def Dev.setCopies (d : Dev) (l : List Copy) : Dev := { d with mac := { d.mac with copies := l } }
def Dev.copy (d : Dev) (id : Nat) : Option Copy := d.mac.copies.find? fun c => c.id == id

/-- A copy leaves: its hold blocks are zeroised and freed. -/
def Dev.dropCopy (d : Dev) (id : Nat) : Dev :=
  (d.freeHold (copyOwner id)).setCopies (d.mac.copies.filter fun c => c.id != id)

-- Marked: DEDUCED, log entry 43.
/-- A stranger's record, at most STRMAX in a second (R212). -/
def Dev.stranger (d : Dev) (x : FrameIn) : Dev :=
  let d := if d.mac.strSec = d.second then d else { d with mac := { d.mac with strSec := d.second, strCnt := 0 } }
  if d.mac.strCnt < d.f R.MAC_CTRL 16 8 then
    let ws := bytesWords x.header
    ({ d with mac := { d.mac with strCnt := d.mac.strCnt + 1 } }).macEvent 3 0 ws.length x.rxCount x.rxWord2 ws
  else d.bump R.MAC_CNT_STRANGER

/-- MIC octets of a node's frames, and the octets of a copy's payload without them (R228, R235). -/
def Dev.micOf (d : Dev) (n : Nat) : Nat := [0, 4, 8, 16].getD (d.ntSec n % 4) 16
def Dev.plainLen (d : Dev) (c : Copy) : Nat := c.inn.payload.length - d.micOf c.node

/-- A waiting copy takes its hold blocks if there is a run for them. -/
def Dev.holdCopy (d : Dev) (c : Copy) : Dev :=
  match d.takeHold (copyOwner c.id) (holdBlocks (d.plainLen c)) with
  | some d => d.setCopies (d.mac.copies.map fun x => if x.id = c.id then { x with held := true } else x)
  | none => d

-- Marked: DESIGN CHOICE, log entry 93.
/-- A parsed copy enters: address lookup and the replay test of stage 3. -/
def Dev.frameCopy (d : Dev) (x : FrameIn) : Dev :=
  if !d.pdRun 4 then d else
  match d.findNode x.source with
  | none => d.stranger x
  | some n =>
    if d.capacity && d.ntHome n != x.half.toNat then d.bump R.MAC_CNT_FOREIGN
    else if !d.replayOk n x.fc then
      match d.ratHas n x.fc with
      | some e => d.duplicate e
      | none => (d.bump R.MAC_CNT_REPLAY).macEvent 2 n x.fc x.rxCount x.rxWord2 []
    else
      let c : Copy := { id := d.mac.copySeq, node := n, inn := x }
      let d := { d with mac := { d.mac with copySeq := c.id + 1, copies := d.mac.copies ++ [c] } }
      let d' := d.holdCopy c
      if (d'.copy c.id).any Copy.held then d' else d.bumpF R.SEC_HOLD 16 16 1

/-- Every waiting copy is tried, in order of arrival. -/
def Dev.holdCopies (d : Dev) : Dev := d.forEach (d.mac.copies.filter fun c => !c.held) fun d c => d.holdCopy c

/-! ## The acknowledgement service (R213) -/

-- Marked: DEDUCED, log entry 41.
/-- Index of the channel plan entry at an ACR-S channel's centre; the node's CHIDX where none is there. -/
def Dev.ackChannel (d : Dev) (n k : Nat) : Nat :=
  let f : Int := ((d.f (R.ACR_CENTRE 0) 0 16 : Nat) + sfld (d.reg (R.ACRK_CFG 0 k)) 16 11) * 1000
  let hit := (List.range 256).find? fun j =>
    let w := d.reg (R.MAC_CHPLAN j)
    bitOf w 31 && decide ((chFreq w : Int) = f)
  hit.getD (d.ntChan n)

/-- Airtime of the acknowledgement of a node. -/
def Dev.ackAir (d : Dev) (n fc : Nat) (busy : Bool) : Nat :=
  let phy := d.ntPhy n
  airtime phy (phyPre (fld phy 10 11)) ((d.ackHdr n fc busy).length + d.micOf n + phyFcs phy) (phyFec phy != 0)

-- Marked: DEDUCED, log entry 41.
/-- The lane of R213 step 1. -/
def Dev.ackLane (d : Dev) (n fc e : Nat) (busy : Bool) : Option Nat :=
  let half := if d.capacity then d.ntHome n else d.leader
  let before := e + 160000 + d.ackAir n fc busy + 15360
  (List.range 16).find? fun l =>
    d.b R.MAC_ACKLANES l && laneHalf l == half && ((d.radio l).st == sIDLER || (d.radio l).st == sIDLET) &&
      (d.armed l).all fun ka => ka.2.cls == 6 || decide (before ≤ ka.2.fire)

/-- A fill that cannot be made yet waits, 1 ms for a counter (R233) and 1 ms for space (R152). -/
def Dev.ackWaits (d : Dev) (a : AckFill) : Dev :=
  let b := d.ackShort a.node
  let d := if b then d.askLimit (d.ackSlot a.node) else d
  let l := if !d.sec.acks.contains a then d.sec.acks ++ [{ a with counter := b }]
    else if a.counter && !b then
      d.sec.acks.map fun x => if x = a then { a with counter := false, until_ := d.clk + ms } else x
    else d.sec.acks
  { d with sec := { d.sec with acks := l } }.showResv

/-- A fill is tried: it waits, or ends with the record for the lane's sequencer, or with none. -/
def Dev.tryAck (d : Dev) (a : AckFill) : Dev := d.underOld a.old fun d =>
  match d.ackFill a with
  | none => d.ackWaits a
  | some (d, status, handle) =>
    if status = 0 then
      ({ d with sec := { d.sec with acks := d.sec.acks.filter (· ≠ a) } }.showResv).onRadio a.lane fun r =>
        { r with rxq := r.rxq ++ [pack [(29, 3), (0, handle)], wd a.ended, wd (a.ended / 2 ^ 32), wd a.channel] }
    else d.endAck a status

/-- Waiting acknowledgements are tried again (CCM_FILL, RESERVATION_GRANT). -/
def Dev.retryAcks (d : Dev) : Dev := d.forEach d.sec.acks fun d a => d.tryAck a

/-- Those that have waited 1 ms for a counter, or for space, end with BUSY (RESERVATION_TIMEOUT, FILL_TIMEOUT). -/
def Dev.expireAcks (d : Dev) (counter : Bool) : Dev :=
  d.forEach (d.sec.acks.filter fun a => a.counter == counter && decide (a.until_ ≤ d.clk)) fun d a => d.endAck a 3

/-- The device acknowledges a verified SUN FSK frame heard only by ACR-S. -/
def Dev.uplinkAck (d : Dev) (c : Copy) (first : Bool) : Dev :=
  match c.inn.path with
  | .acr .s k _ =>
    let lane := d.mac.copies.any fun x =>
      x.node == c.node && x.inn.fc == c.inn.fc && match x.inn.path with | .lane _ => true | _ => false
    if d.b R.MAC_CTRL 0 && c.inn.fsk && c.inn.ackReq && first && !lane then
      match d.ackLane c.node c.inn.fc c.inn.ended c.busy with
      | none => d.noAck c.node c.inn.fc c.inn.rxCount c.inn.rxWord2
      | some l => d.tryAck
          { lane := l, node := c.node, fc := c.inn.fc, busy := c.busy, ended := c.inn.ended, until_ := d.clk + ms
            channel := d.ackChannel c.node k.val, rxCount := c.inn.rxCount, rxWord2 := c.inn.rxWord2 }
    else d
  | _ => d

/-! ## Stage 4 (R236, R254) -/

/-- The link key cannot open a frame of the node (R231). -/
def Dev.rxNoKey (d : Dev) (n : Nat) : Bool :=
  let k := d.ntSlot n
  let s := d.slotState k
  !(s == 1 || s == 2) || !(d.slotUsage k).testBit 1 || d.alarmed

-- Marked: PRESUMED, log entry 111.
/-- A plaintext whose first octets are the fragment IE, a Vendor Specific Payload IE of the organisation with 6 octets of
content, and then perhaps the payload termination IE, is a fragment; any other is a whole datagram (R251). -/
def openPlain (l : List Byte) (datagram : Bool) : Opened :=
  if 11 ≤ l.length ∧ leNat (l.take 2) = 0x9009 ∧ leNat ((l.drop 2).take 3) = Config.oui.toNat then
    let x := (l.drop 5).take 6
    let rest := l.drop 11
    ⟨if rest.take 2 = [0x00#8, 0xF8#8] then rest.drop 2 else rest,
      some (leNat (x.take 2), leNat ((x.drop 2).take 2), leNat (x.drop 4) % 8192 * 8), datagram⟩
  else ⟨l, none, datagram⟩

/-- A copy's payload under its node's key and EUI-64, and whether its MIC verifies (R228, R236). -/
def Dev.openCopy (d : Dev) (c : Copy) : List Byte × Bool :=
  let level := d.ntSec c.node % 8
  ccmOpen (d.cachedKey (d.ntSlot c.node)) (ccmNonce (d.nodeEui c.node) c.inn.fc level) level (d.micOf c.node) c.inn.header
    c.inn.payload

/-- The context tag and size of a copy's datagram. -/
def Copy.context (c : Copy) : Nat × Nat × Nat :=
  match c.opened.frag with
  | some (size, tag, off) => (tag % 65536, size, off)
  | none => (wholeTag c.inn.fc, c.opened.payload.length, 0)

/-- The copy carries a datagram or a fragment for reassembly. -/
def Copy.delivers (c : Copy) : Bool := c.opened.datagram

/-- DECRYPT_DONE, stage 4 of a copy in hold blocks: its tag verifies, or the copy is dropped and counted. A copy accepted
before its node's slot changed is judged by the slot as it stood (R237). -/
def Dev.decryptDone (d : Dev) (id : Nat) (datagram : Bool) : Dev :=
  match d.copy id with
  | none => d
  | some c =>
    if !c.held || c.verified.isSome then d else
    let d := (d.pmcEvent 0x09).loadKey (d.ntSlot c.node)
    let e := match c.old with | some i => d.putSlot i | none => d
    if c.stale then (d.dropCopy id).bump R.MAC_CNT_LATE
    else if e.rxNoKey c.node then (d.dropCopy id).bump R.SEC_CNT_NOKEY
    else if !(e.openCopy c).2 then (d.dropCopy id).bump R.SEC_CNT_AUTH
    else
      let first := (d.ratHas c.node c.inn.fc).isNone &&
        !(d.mac.copies.any fun x => x.node == c.node && x.inn.fc == c.inn.fc && x.verified.isSome)
      let c := { c with verified := some d.clk, opened := openPlain (e.openCopy c).1 datagram }
      let (tag, size, _) := c.context
      let (d, ok) := if c.delivers && (d.ratHas c.node c.inn.fc).isNone then d.openContext c.node tag size else (d, true)
      let c := { c with busy := !ok }
      (d.setCopies (d.mac.copies.map fun x => if x.id = id then c else x)).uplinkAck c first

/-! ## Stages 5 to 8 (R17, R215 to R217, R254, R255) -/

/-- Order of preference among copies of one step (R17). -/
def pathRank : Path → Nat
  | .acr _ _ q => q.val
  | .lane n => 2 + n.val
  | .trunk => 18

/-- One eighth of the difference toward a new value, rounded toward it (R209). -/
def eighth (mean new : Int) : Int :=
  let x := new - mean
  if 0 ≤ x then mean + (x + 7) / 8 else mean - (-x + 7) / 8

-- Marked: DESIGN CHOICE, log entry 14.
/-- The RSSI and LQI means of an admitted copy; RSSI in whole dBm, rounded down. -/
def Dev.lqsUpdate (d : Dev) (n : Nat) (lqw0 : Word) : Dev :=
  let r := eighth (sfld (wd (d.nt n 0x3F 1)) 0 8) (sfld lqw0 16 16 / 4)
  let q := eighth (d.nt n 0x3E 1 : Int) (fld lqw0 8 8 : Int)
  (d.ntPut n 0x3F 1 (patt 8 r)).ntPut n 0x3E 1 (patt 8 q)

/-- Quotient rounded to nearest, ties away from zero. -/
def nearest (a : Int) (b : Nat) : Int :=
  if 0 ≤ a then (2 * a + b) / (2 * b) else -((2 * (-a) + b) / (2 * b))

-- Marked: DEDUCED, log entry 40.
/-- R217: a contact of counter `fc` with receive count `r` whose next sample instant is `q`. -/
def Dev.contact (d : Dev) (n fc r q : Nat) (word2 : Word) : Dev :=
  let last := d.ntContact n
  let per := d.ntPeriod n
  let t : Int := (r : Int) - last
  let d :=
    if last ≠ 0 ∧ 160000000 ≤ t ∧ 1000 ≤ per ∧ per ≤ 600000000 then
      let p := per * 160
      let diff : Int := (q : Int) - d.ntRef n
      let err := (diff - nearest diff p * p).natAbs
      let m := cdiv (err * 20000000) t.toNat
      let drift := d.ntDrift n
      let late := decide (cdiv (t.toNat * drift) 16000000 < err)
      let new := min (d.f R.MAC_DRIFT 16 16) (max (d.f R.MAC_DRIFT 0 16) (max m (drift - drift / 16)))
      let d := if late then d.macEvent 4 n fc r word2 [] else d
      d.ntPut n 0x38 2 new
    else d
  let d := (d.ntPut n 0x20 8 q).ntPut n 0x28 8 r
  let d := (d.ntPut n 0x3A 1 (d.ntCgen n + 1)).ntPut n 0x3B 1 (d.ntState n / 128 * 128 + min 127 (d.ntState n % 128 + 1))
  d.macEvent 1 n fc r word2 []

/-- The OVL or BLK mark of a copy's Link Quality Word (R171, R192). -/
def overloadMarked (lqw1 : Word) : Bool := bitOf lqw1 13 || bitOf lqw1 12

-- Marked: DEDUCED, log entry 99.
/-- The other verified copies of the same frame that reach the duplicate filter in the same step (R17). -/
def Dev.twins (d : Dev) (c : Copy) : List Copy :=
  d.mac.copies.filter fun x =>
    x.id != c.id && x.node == c.node && x.inn.fc == c.inn.fc && x.verified == c.verified && !x.stale

-- Marked: DEDUCED, log entry 99.
/-- A copy of the node with a lower counter reaches stage 6 in the same step and commits first (R216). -/
def Dev.lowerFirst (d : Dev) (c : Copy) : Bool :=
  d.mac.copies.any fun x =>
    x.node == c.node && decide (x.inn.fc < c.inn.fc) && x.verified == c.verified && !x.stale &&
      (d.ratHas x.node x.inn.fc).isNone && d.replayOk x.node x.inn.fc

/-- Stages 7 and 8 of an admitted copy, of which `dups` twins were discarded. -/
def Dev.store (d : Dev) (c : Copy) (dups : Nat) : Dev :=
  if !c.delivers then d else
  let (tag, size, off) := c.context
  let (d, ok) := if c.busy then (d, false) else d.openContext c.node tag size
  if ok then
    d.fillContext c.node tag size off c.opened.payload c.inn.fc dups c.inn.lqw0 c.inn.lqw1 (overloadMarked c.inn.lqw1)
  else d.bump R.MSG_CNT_REASM_BUSY

-- Marked: DEDUCED, log entry 99.
/-- Stage 5 for a verified copy, then stages 6 to 8. While the table holds only uncommitted entries the copy waits, and so
does one whose node has a lower counter to commit in the same step. With the admitted copy its twins of the step go. -/
def Dev.duplicateFilter (d : Dev) (id : Nat) : Dev :=
  match d.copy id with
  | none => d
  | some c =>
    if c.verified.isNone then d
    else if c.stale then (d.dropCopy id).bump R.MAC_CNT_LATE
    else match d.ratHas c.node c.inn.fc with
      | some e => (d.dropCopy id).duplicate e
      | none =>
        let twins := d.twins c
        if twins.any fun x => decide (pathRank x.inn.path < pathRank c.inn.path) then
          (d.dropCopy id).duplicate { node := c.node, fc := c.inn.fc, tag := c.context.1 }
        else if d.lowerFirst c then d else
        match d.ratRoom with
        | none => d
        | some d =>
          if !d.replayOk c.node c.inn.fc then (d.dropCopy id).bump R.MAC_CNT_LATE else
          let d := d.setRat (d.mac.rat ++ [{ node := c.node, fc := c.inn.fc, commit := some d.clk, tag := c.context.1 }])
          let d := (d.commitFc c.node c.inn.fc).lqsUpdate c.node c.inn.lqw0
          let d := match c.inn.csl with
            | some q => d.contact c.node c.inn.fc c.inn.rxCount q c.inn.rxWord2
            | none => d
          let d := d.forEach twins fun d x => (d.dropCopy x.id).dupCount x.node
          (d.store c twins.length).dropCopy id

end Sys2Proof.Machine
end

