-- ==== Sys2Proof/Machine/Host.lean ====
section
/-!
DEFINITION. What the host and the Ethernet peer do to the links: doorbells, fetching, configuration, AMP datagrams, PTP
timestamps and link events (R309 to R322, R330, R331).
-/

namespace Sys2Proof.Machine

/-! ## PCIe (R310 to R316) -/

-- Marked: DEDUCED, log entry 28.
/-- A link or leadership event signals vector HPC_EVTVEC while the link is up (R330; log entry 28). -/
def Dev.linkEvent (d : Dev) : Dev :=
  if d.pdRun 13 && d.b R.HPC_STATUS 31 then d.sendMsix (d.f R.HPC_EVTVEC 0 6) else d

-- Marked: DESIGN CHOICE, log entry 88.
/-- A host write of BAR2: the MSI-X table takes it, and a vector whose mask it takes away sends what pends (R310). -/
def Dev.bar2Write (d : Dev) (off : Nat) (w : Word) : Dev :=
  if off % 4 ≠ 0 ∨ off < 0x1000 ∨ 0x1400 ≤ off then d else
  let i := (off - 0x1000) / 4
  let w := if i % 4 = 3 then w &&& 1#32 else if i % 4 = 0 then w &&& 0xFFFFFFFC#32 else w
  let d := { d with host := { d.host with msix := tput msixDflt d.host.msix i w } }
  let v := i / 4
  if d.host.msixPend.contains v && !bitOf (d.msixWord (4 * v + 3)) 0 then
    { d with host := { d.host with msixPend := d.host.msixPend.filter (· ≠ v) } }.sendMsix v
  else d

-- Marked: DESIGN CHOICE, log entry 88.
/-- What BAR2 reads as: the MSI-X table and the pending-bit array; doorbells read 0. -/
def Dev.bar2Word (d : Dev) (off : Nat) : Word :=
  if 0x1000 ≤ off ∧ off < 0x1400 then d.msixWord ((off - 0x1000) / 4)
  else if 0x1800 ≤ off ∧ off < 0x1808 then
    let base := 8 * (off - 0x1800)
    wd ((d.host.msixPend.filter fun v => decide (base ≤ v ∧ v < base + 32)).foldl (fun n v => n + 2 ^ (v - base)) 0)
  else 0#32

/-- SQ tail doorbell of queue pair `q` (R310). -/
def Dev.sqDoorbell (d : Dev) (q v : Nat) : Dev :=
  let d := if d.pdRun 13 then d.pmcOctets 0 1 4 else d
  if !d.qpOn q then d
  else if d.sqSize q ≤ v then d.setB R.HPC_STATUS 25 true
  else d.setQp q { d.qp q with sqTail := v }

/-- CQ head doorbell: entries behind the head and their data space are free, and waiting releases proceed (R314, R315). -/
def Dev.cqDoorbell (d : Dev) (q v : Nat) : Dev :=
  let d := if d.pdRun 13 then d.pmcOctets 0 1 4 else d
  if !d.qpOn q then d
  else if d.cqSize q ≤ v then d.setB R.HPC_STATUS 25 true
  else
    let x := d.qp q
    let n := d.cqSize q
    let passed (i : Nat) : Bool := decide ((i + n - x.cqHead) % n < (v + n - x.cqHead) % n)
    ((d.setQp q { x with cqHead := v, data := x.data.filter fun e => !passed e.1 }).flushHeld q).releaseAll

/-- The next queue pair with work, round-robin in ascending order (R312). -/
def Dev.nextQueue (d : Dev) : Option Nat :=
  ((List.range 64).map fun i => (d.host.nextQ + i) % 64).find? fun q =>
    d.qpOn q && (d.qp q).sqHead != (d.qp q).sqTail

/-- The endpoint fetches one entry. An entry that stalls stays in host memory; other queues are served meanwhile
(R247, R312). -/
def Dev.fetch (d : Dev) (words : List Word) : Dev :=
  match d.nextQueue with
  | none => d
  | some q =>
    let x := d.qp q
    let s : Sub := ⟨words⟩
    if d.ampAhead s then d else
    let d := (d.emit (.read (d.qpBase q 0 + 64 * x.sqHead) 64)).pmcOctets 0 1 64
    let d := { d with host := { d.host with nextQ := (q + 1) % 64 } }
    if d.canAccept s then
      (d.setQp q { x with sqHead := (x.sqHead + 1) % d.sqSize q }).submit q s []
    else d.submit q s []

/-- COAL_US has passed since the first unsignalled entry (R315). -/
def Dev.coalesce (d : Dev) (q : Nat) : Dev :=
  let x := d.qp q
  if d.qpOn q && decide (0 < x.unsignalled) && decide (x.firstAt + d.f R.HPC_COAL 16 16 * us ≤ d.clk) then d.signal q
  else d

-- Marked: DEDUCED, log entry 33.
/-- A write of HPC_QPq_CFG: discarded while EN = 1; EN is refused for sizes out of range; enabling starts the queues at 0
and writes the held entries (R311, R316, R330). -/
def Dev.qpCfg (d : Dev) (q : Nat) (w : Word) : Dev :=
  let k := R.HPC_QP_CFG q
  if d.b k 31 then d else
  let ok := decide (4 ≤ fld w 20 4 ∧ fld w 20 4 ≤ 12) && decide (4 ≤ fld w 16 4 ∧ fld w 16 4 ≤ 12) &&
    decide (16 ≤ fld w 11 5 ∧ fld w 11 5 ≤ 24)
  let d := d.setReg k (setBit (w &&& 0x3FFFF800#32) 31 (bitOf w 31 && ok))
  if bitOf w 31 && ok then
    let d := d.setQp q { held := (d.qp q).held }
    (d.flushHeld q).releaseAll
  else d

-- Marked: DEDUCED, log entry 33.
/-- Link-down, hot reset, Function Level Reset or D3hot: EN of every queue pair clears, and every outstanding read ends
as in R312. Link-down itself shows in LINKUP. -/
def Dev.linkDown (d : Dev) (down : Bool) : Dev :=
  let d := d.forEach (List.range 64) fun d q =>
    if d.b (R.HPC_QP_CFG q) 31 then d.setB (R.HPC_QP_CFG q) 31 false else d
  let d := (d.forEach d.host.reads fun d lsn => d.readDone lsn false []).releaseAll
  if down then d.setB R.HPC_STATUS 31 false else d

/-- DISCARD releases a queue pair's held entries without writing them (R316). -/
def Dev.discard (d : Dev) (q : Nat) : Dev :=
  let n := (d.qp q).held.length
  (d.setHeld q []).bumpF (R.HPC_QP_STAT q) 16 16 n

-- Marked: DEDUCED, log entry 28.
def Dev.linkUp (d : Dev) (rate width : Nat) : Dev :=
  if !d.pdRun 13 || rate == 0 || !([1, 2, 4].contains width) then d else
  (((d.setF R.HPC_STATUS 29 2 rate).setF R.HPC_STATUS 26 3 width).setB R.HPC_STATUS 31 true).linkEvent

/-! ## AMP (R318 to R321) -/

def Dev.peerAddr (d : Dev) (s : Nat) : Nat :=
  (List.range 4).foldl (fun a k => a * 2 ^ 32 + (d.reg (R.ETH_AMP_PEER s k)).toNat) 0

/-- The datagram comes from the stream's peer (R318). -/
def Dev.fromPeer (d : Dev) (x : AmpIn) : Bool :=
  let s := x.stream.val
  d.b (R.ETH_AMP_CTRL s) 31 && d.peerAddr s == x.src && d.f (R.ETH_AMP_CTRL s) 0 16 == x.port

def Dev.setAmp (d : Dev) (s v : Nat) : Dev := d.setF (R.ETH_AMP_STAT s) 30 2 v

/-- Sequence `a` lies before `b`. -/
def seqBefore (a b : Nat) : Bool := seqAfter (b % 2 ^ 32) (a % 2 ^ 32)

/-- The ACK of a datagram from the peer: what it acknowledges is kept no longer, and the wait for it begins anew (R320). -/
def Dev.ampTaken (d : Dev) (s ack : Nat) : Dev :=
  let st := d.stream s
  let rest := st.unacked.filter fun g => !seqBefore g.seq ack
  let moved := decide (rest.length < st.unacked.length)
  d.setStream s { st with
    unacked := rest
    retries := if moved then 0 else st.retries
    rtoAt := if rest.isEmpty then none else if moved then some (d.clk + d.rto) else st.rtoAt }

/-- The ACK and WINDOW of an accepted datagram (R320). -/
def Dev.ampAck (d : Dev) (x : AmpIn) : Dev :=
  let s := x.stream.val
  if !d.ampOpen s then d else
  let d := d.ampTaken s x.ack
  let d := d.setStream s { d.stream s with window := max 1 (min 255 x.window) }
  ((d.ampPump s).flushHeld (64 + s)).releaseAll

/-- The stream is LOST: it sends nothing, and holds what waits and what comes (R320, R321). -/
def Dev.ampLost (d : Dev) (s : Nat) : Dev := (d.setAmp s 2).releaseAll

-- Marked: DESIGN CHOICE, log entry 42.
/-- A frame with this 802.1Q tag is for the port (R331). -/
def Dev.tagOk (d : Dev) (tag : Option Nat) : Bool := !d.b R.ETH_CTRL 16 || tag == some (d.f R.ETH_CTRL 4 12)

-- Marked: DESIGN CHOICE, log entry 42.
/-- An accepted datagram is handled by `g` after its header; any other is discarded, one from another source counted. -/
def Dev.ampIn (d : Dev) (x : AmpIn) (g : Dev → Dev) : Dev :=
  if !d.ethOn || !d.tagOk x.tag || x.dport != d.f R.ETH_PORT 0 16 then d else
  let d := d.pmcOctets 1 1 (d.ampOctets x.body.length)
  if !d.fromPeer x then d.bump R.ETH_CNT_DROP
  else if x.ver ≠ 1 then d
  else g d

/-- An ACK is due within 1 ms. -/
def Dev.ackSoon (d : Dev) (s : Nat) : Dev :=
  let x := d.stream s
  if x.ackAt.isSome then d else d.setStream s { x with ackAt := some (d.clk + ms) }

/-- A segment at the expected SEQ is taken by `take`; below it is a duplicate; above it is discarded. -/
def Dev.ampSegment (d : Dev) (x : AmpIn) (take : Dev → Dev) : Dev :=
  let s := x.stream.val
  if !d.ampOpen s then d
  else if x.seq = (d.stream s).rxNext then take d
  else if seqBefore x.seq (d.stream s).rxNext then (d.bump R.ETH_CNT_AMPDUP).ackSoon s
  else d

def Dev.ampNext (d : Dev) (s : Nat) (partial_ : List Byte) : Dev :=
  let x := d.stream s
  (d.setStream s { x with rxNext := (x.rxNext + 1) % 2 ^ 32, partial_ := partial_ }).ackSoon s

/-- The body of a SUBMIT: the entry of R245, then the payload. -/
def ampSub (l : List Byte) : Sub × List Byte := (⟨bytesWords (l.take 64)⟩, l.drop 64)

/-- SUBMIT: the submission is accepted when its LAST segment is taken; while it stalls the segment is not taken. -/
def Dev.ampSubmit (d : Dev) (x : AmpIn) : Dev :=
  d.ampIn x fun d => (d.ampAck x).ampSegment x fun d =>
    let s := x.stream.val
    let msg := if x.flags.testBit 0 then x.body else (d.stream s).partial_ ++ x.body
    let d := { d with host := { d.host with ethReady := true } }
    if x.flags.testBit 1 then
      let (sub, payload) := ampSub msg
      if d.canAccept sub then (d.ampNext s []).submit (64 + s) sub payload else d.submit (64 + s) sub payload
    else d.ampNext s msg

-- Marked: DEDUCED, log entry 34.
/-- COMPLETE from the peer: taken in sequence and acknowledged; the device has no use for its body. -/
def Dev.ampComplete (d : Dev) (x : AmpIn) : Dev :=
  d.ampIn x fun d => (d.ampAck x).ampSegment x fun d => d.ampNext x.stream.val (d.stream x.stream.val).partial_

-- Marked: DEDUCED, log entry 34.
/-- ACK and OPEN_ACK carry nothing beyond the header. -/
def Dev.ampHeader (d : Dev) (x : AmpIn) : Dev := d.ampIn x fun d => d.ampAck x

/-- CLOSE makes the stream LOST at once (R321). -/
def Dev.ampClose (d : Dev) (x : AmpIn) : Dev := d.ampIn x fun d => (d.ampTaken x.stream.val x.ack).ampLost x.stream.val

/-- OPEN (R321): a resumed session goes on and resends; any other starts afresh, its unacknowledged and held entries
released unsent and counted. -/
def Dev.ampOpenIn (d : Dev) (x : AmpIn) : Dev :=
  d.ampIn x fun d =>
    if x.body.length < 4 then d else
    let s := x.stream.val
    let d := d.ampTaken s x.ack
    let st := d.stream s
    let session := leNat (x.body.take 4)
    let window := max 1 (min 255 x.window)
    if x.flags.testBit 2 && st.session == some session then
      let d := d.setStream s { st with
        window := window, retries := 0, rtoAt := if st.unacked.isEmpty then none else some (d.clk + d.rto) }
      let d := (d.setAmp s 1).ampSend s 2 0 0 (x.body.take 4)
      let d := d.forEach (st.unacked.take window) fun d g => d.ampSend s g.type g.seq g.flags g.body
      ((d.ampPump s).flushHeld (64 + s)).releaseAll
    else
      let lost := ((st.unacked ++ st.queued).filter fun g => g.flags.testBit 1).length + st.held.length
      let d := (d.setStream s { session := some session, window := window }).bumpF (R.ETH_AMP_STAT s) 0 16 lost
      ((d.setAmp s 1).ampSend s 2 0 0 (x.body.take 4)).releaseAll

/-- RTO expires: the oldest unacknowledged segment is resent, or after RETRY resends the stream is LOST (R320). -/
def Dev.ampRto (d : Dev) (s : Nat) : Dev :=
  let st := d.stream s
  match st.rtoAt, st.unacked with
  | some t, g :: _ =>
    if !d.ampOpen s || decide (d.clk < t) then d
    else if d.f R.ETH_AMPCFG 0 8 ≤ st.retries then (d.setStream s { st with rtoAt := none }).ampLost s
    else
      (d.setStream s { st with retries := st.retries + 1, rtoAt := some (d.clk + d.rto) }).ampSend s g.type g.seq
        g.flags g.body
  | _, _ => d

/-- 1 ms has passed without outgoing traffic: an ACK is sent. -/
def Dev.ampAckTimer (d : Dev) (s : Nat) : Dev :=
  match (d.stream s).ackAt with
  | some t => if d.ampOpen s && decide (t ≤ d.clk) then d.ampSend s 5 0 0 [] else d
  | none => d

/-! ## PTP and raw frames (R317, R322) -/

/-- ETH_PTPINFO and ETH_PTPTSk show the oldest timestamp. -/
def Dev.showPtp (d : Dev) : Dev :=
  let (i, a, b, c) := d.host.ptp.headD (0#32, 0#32, 0#32, 0#32)
  (((d.setReg R.ETH_PTPINFO i).setReg (R.ETH_PTPTS 0) a).setReg (R.ETH_PTPTS 1) b).setReg (R.ETH_PTPTS 2) c

/-- An event message of type 0 to 3 is timestamped; a queue of 32 takes no more. -/
def Dev.ptpEvent (d : Dev) (tx : Bool) (type seq back : Nat) : Dev :=
  if !d.ethOn || decide (3 < type) || decide (32 ≤ d.host.ptp.length) then d else
  let t := (256 * d.count + 2 ^ 72 - back) % 2 ^ 72
  match d.stamp (t / 256) (t % 256) 7 false with
  | [a, b, c] =>
    { d with host := { d.host with
        ptp := d.host.ptp ++ [(pack [(31, 1), (30, b2n tx), (24, type), (0, seq % 65536)], a, b, c)] } }.showPtp
  | _ => d

def Dev.ptpPop (d : Dev) : Dev := { d with host := { d.host with ptp := d.host.ptp.drop 1 } }.showPtp

/-- The VLAN identifier of a frame's 802.1Q tag, and what follows the tag or the addresses. -/
def frameTag (l : List Byte) : Option Nat × List Byte :=
  if beNat ((l.drop 12).take 2) = 0x8100 then (some (beNat ((l.drop 14).take 2) % 4096), l.drop 16) else (none, l.drop 12)

-- Marked: DESIGN CHOICE, log entry 42.
/-- The frame is AMP or PTP, which the port hardware terminates: PTP over Ethernet, or UDP over IPv6 without a fragment
header to one of their ports (R317). -/
def Dev.terminated (d : Dev) (l : List Byte) : Bool :=
  let l := (frameTag l).2
  let ip := l.drop 2
  let port := beNat ((ip.drop 42).take 2)
  beNat (l.take 2) == 0x88F7 ||
    (beNat (l.take 2) == 0x86DD && ip.getD 6 0#8 == 17#8 && (port == d.f R.ETH_PORT 0 16 || port == 319 || port == 320))

-- Marked: DESIGN CHOICE, log entry 42.
/-- A frame for Weave goes to the raw receive ring and the head advances; a ring of no entries takes none. -/
def Dev.rawReceive (d : Dev) (frame : List Byte) : Dev :=
  let n := d.f R.ETH_RAWRX_CTL 0 12
  if !d.ethOn || n == 0 || !d.tagOk (frameTag frame).1 || d.terminated frame then d else
  let head := d.f R.ETH_RAWRX_CTL 16 12
  let a := ((d.reg R.ETH_RAWRX_BASE).toNat + 2048 * head) % 0xC00000
  let d := d.msWrite (storeBase + a) (frame.take 2048)
  let d := (d.setF R.ETH_RAWRX_CTL 16 12 ((head + 1) % n)).pmcOctets 1 1 (frame.length + 4)
  { d with host := { d.host with ethReady := true } }

-- Marked: DESIGN CHOICE, log entry 42.
/-- A write of ETH_RAWTX_CTL: the frames of the entries that its tail moves past are sent. How long each is the manual does
not say. -/
def Dev.rawSend (d : Dev) (w : Word) : Dev :=
  let n := fld w 0 12
  let from_ := d.f R.ETH_RAWTX_CTL 16 12
  let d := d.setReg R.ETH_RAWTX_CTL (w &&& 0x0FFF0FFF#32)
  if n = 0 || !d.ethOn then d else
  let base := (d.reg R.ETH_RAWTX_BASE).toNat
  d.forEach (List.range ((fld w 16 12 + n - from_ % n) % n)) fun d i =>
    let a := (base + 2048 * ((from_ + i) % n)) % 0xC00000
    let (v, d) := d.fresh
    ((d.emit (.raw (d.rdBytes (storeBase + a) 2048))).msTraffic (storeBase + a) 2048 2).pmcOctets 1 2 (64 + v.toNat % 1989)

-- Marked: DEDUCED, log entry 28.
/-- The Ethernet link comes up or goes down. -/
def Dev.ethLink (d : Dev) (up : Bool) (speed : Nat) (an : Bool) : Dev :=
  if !d.pdRun 14 then d else
  (d.setReg R.ETH_STATUS (pack [(31, b2n up), (29, speed % 4), (28, b2n an)])).linkEvent

end Sys2Proof.Machine
end

