-- ==== Sys2Proof/Machine/Reset.lean ====
section
/-!
DEFINITION. Device reset: what it keeps, the causes it records, and release (R334, R337, R371, R461, R462).
-/

namespace Sys2Proof.Machine

-- Marked: DEDUCED, log entry 44.
/-- Registers that a device reset leaves: DEV and the RTC, which only the loss of VDD_AON ends, and the planner's values
held in MRAM (R371, R461, R368). -/
def keptReg (k : Nat) : Bool :=
  let o := k % bankSize
  decide (o < 0x100 ∨ (0x90000 ≤ o ∧ o < 0xA0000)) ||
    (decide (0x41000 ≤ o ∧ o < 0x41C00) && o % 32 == 8)

/-- Memory that a device reset leaves: MRAM and flash. -/
def keptMem (a : Nat) : Bool := decide (mramBase ≤ a ∧ a < storeBase) || decide (flashBase ≤ a ∧ a < romBase)

-- Marked: DESIGN CHOICE, log entry 94.
/-- What Rim keeps in MRAM, and the duty buckets of the always-on domain (R155, R289). -/
def Fw.kept (f : Fw) : Fw :=
  { weave := f.weave, rim := f.rim, settings := f.settings, revoked := f.revoked, sealed := f.sealed, profiles := f.profiles, charges := f.charges
    snapshot := f.snapshot, a2Pending := f.a2Pending }

/-- The Margin Ledger and the weekly history in MRAM (R360, R368). -/
def Mgn.kept (m : Mgn) : Mgn :=
  { rings := m.rings.map fun e => (e.1, { e.2 with began := 0, valid := false }), recs := m.recs, serial := m.serial
    week := m.week, onTicks := m.onTicks }

/-- The tag front end is powered by the field and keeps its session; the reader's side is lost (R410). -/
def Clp.kept (c : Clp) : Clp :=
  { c with
    tagIrq := false, firstDone := false
    rdRecs := [], rdTags := [], rdRats := [], rdCmds := [], rdWake := false, rdActive := none, rdWait := none
    rdNaks := 0, rdWtx := 0, rdWaitFrom := 0, nextMeas := 0 }

-- Marked: DESIGN CHOICE, log entry 103.
/-- Power is lost over the MRAM stores that no completed FENCE follows, newest first: each may have taken effect or not,
and an octet keeps the newest store that has; `done` are the octets that keep one (R62, log entry 103). -/
def loseStores : List (Nat × Byte) → List Nat → Dev → Dev
  | [], _, d => d
  | (a, old) :: l, done, d =>
    if done.contains a then loseStores l done d else
    let (v, d) := d.fresh
    if bitOf v 0 then loseStores l (a :: done) d else loseStores l done (d.wr8 a old)

-- Marked: DESIGN CHOICE, log entry 103.
/-- MRAM after a loss of power (R62), which ends a write of the Commissioning Area that Rim asked for (R417). -/
def Dev.powerLoss (d : Dev) : Dev :=
  { loseStores d.unfenced [] d with
    unfenced := []
    clp := { d.clp with wrs := d.clp.wrs.map fun w => if w.tag then w else { w with lost := w.lost <|> some d.clk } } }

-- Marked: DEDUCED, log entry 44.
/-- Every block at its reset state, but for what a reset keeps, and every domain off until release. -/
def Dev.wiped (d : Dev) : Dev :=
  let r : Dev :=
    { clk := d.clk, freeCtr := d.freeCtr
      regs := d.regs.filter fun e => keptReg e.1
      mem := d.mem.filter fun e => keptMem e.1
      ecc1 := d.ecc1.filter keptMem, ecc2 := d.ecc2.filter keptMem
      rtc := d.rtc, fw := d.fw.kept, mgn := d.mgn.kept, clp := d.clp.kept, power := { inReset := true } }
  (r.forEach (List.range 54) fun r n => (r.setReg (R.PWR_PD_STAT n) 0#32).setReg (R.PWR_PD_VOTES n) 0#32).discMiss

-- Marked: DESIGN CHOICE, log entry 103.
/-- The device enters reset. DEV_RSTCAUSE moves CODE to PRIOR, DEV_RSTSEC and DEV_RSTCNT are written; a further cause in
the same reset only lowers CODE (R462). -/
def Dev.enterReset (d : Dev) (code arg : Nat) : Dev :=
  let old := d.f R.DEV_RSTCAUSE 0 8
  if d.power.inReset then
    if code < old then (d.setF R.DEV_RSTCAUSE 0 8 code).setF R.DEV_RSTCAUSE 8 8 0 else d
  else
    let sec := d.rtcSec
    let d := (if code ≤ 3 then d.powerLoss else d).wiped.setReg R.DEV_RSTCAUSE (pack [(24, old), (8, arg % 256), (0, code)])
    (d.setReg R.DEV_RSTSEC (wd sec)).bump R.DEV_RSTCNT

-- Marked: DEDUCED, log entry 44; DESIGN CHOICE, log entry 103.
/-- VDD_AON enters its range: the RTC starts from 0, every DEV register takes its reset value, and the duty buckets and
the queued ledger records are lost (R371, R461, R462). -/
def Dev.aonReset (d : Dev) : Dev :=
  let d := (d.powerLoss.wiped.resetRange 0 0x100).resetRange 0x90000 0xA0000
  { d with rtc := { clk0 := d.clk }, fw := { d.fw with charges := [] }, mgn := { d.mgn with recs := [] } }

/-- The device leaves reset: Rim's votes start every domain in Run (R334, R348). -/
def Dev.leaveReset (d : Dev) : Dev :=
  if d.power.inReset then { d.resetRange 0x20000 0x21000 with power := {} } else d

end Sys2Proof.Machine
end

