-- ==== Sys2Proof/Machine/Token.lean ====
section
/-!
DEFINITION. The custody token unit: the token and its commands, class H, K and D faults, failover, half loss, mirror
resync and repair (R267 to R288).
-/

namespace Sys2Proof.Machine

/-! ## Changes of the token (R269, R287, R288) -/

/-- Some half holds the lead or can take it (R287). -/
def Dev.leadAlive (d : Dev) : Bool :=
  d.elig 0 || d.elig 1 ||
    if d.capacity then (d.homeLead 0 && !d.failed 0) || (d.homeLead 1 && !d.failed 1)
    else decide (d.leader < 2) && !d.failed d.leader

/-- The second of R287 starts when the lead is lost, and ends when some half holds or can take it. -/
def Dev.judgeLead (d : Dev) : Dev :=
  if !d.b R.RIMX_TOKEN 15 || d.leadAlive then { d with tok := { d.tok with noLead := none } }
  else if d.tok.noLead.isNone then { d with tok := { d.tok with noLead := some d.clk } } else d

-- Marked: DEDUCED, log entries 28 and 45.
/-- Sets the token. A change of LEADER or HOME_LEAD raises EPOCH, stamps RIMX_LASTSW, posts source 6 and signals the
leadership event; any change sets every notice latch. -/
def Dev.setToken (d : Dev) (w : Word) : Dev :=
  let old := d.reg R.RIMX_TOKEN
  let moved := fld old 0 2 != fld w 0 2 || fld old 8 2 != fld w 8 2
  let w := if moved then setFld w 16 16 (fld old 16 16 + 1) else w
  if w = old then d else
  let d := d.setReg R.RIMX_TOKEN w
  let d := { d with tok := { d.tok with noticeA := true, noticeB := true, noticeC := true } }.judgeLead
  if moved then ((d.setPair R.RIMX_LASTSW_LO R.RIMX_LASTSW_HI d.count).hwEvent srcToken).linkEvent else d

/-- Sets one bit or field of the token. -/
def Dev.tokBit (d : Dev) (i : Nat) (v : Bool) : Dev := d.setToken (setBit (d.reg R.RIMX_TOKEN) i v)

-- Marked: DEDUCED, log entry 47.
/-- A record in RIMX_FLTLAST, with the EPOCH after the action taken (R288). -/
def Dev.faultRecord (d : Dev) (cls h cause : Nat) (latched : Bool) : Dev :=
  { d.setReg R.RIMX_FLTLAST
      (pack [(31, 1), (29, cls), (28, h), (27, b2n latched), (24, cause), (0, d.epoch)]) with
    tok := { d.tok with noticeC := true } }

/-- The new leader admits its trail queue and releases from the unchanged RELEASE point (R276, order 3). -/
def Dev.takeLead (d : Dev) (h : Nat) : Dev := (d.admitTrail h).releaseAll

/-! ## Class H faults (R275 to R279) -/

-- Marked: DEDUCED, log entry 49.
/-- The lanes of half `h` are disabled with MOVE = 0. The answer lists the transactions of the frames disarmed, whose
transmit buffer entries are released. -/
def Dev.shutLanes (d : Dev) (h : Nat) : Dev × List Nat :=
  (lanesOf h).foldl (fun (x : Dev × List Nat) n =>
    if ((x.1.radio n).st == sOFF) || (x.1.radio n).draining then x else
    let (d, out) := x.1.drain n
    (d.forEach out fun d w => d.releaseEntry n w.handle, x.2 ++ out.map (·.lsn))) (d, [])

-- Marked: DEDUCED, log entries 38 and 49.
/-- A class H fault of half `h` is acted on. -/
def Dev.actH (d : Dev) (h cause : Nat) : Dev :=
  let o := 1 - h
  let w := setBit (setBit (d.reg R.RIMX_TOKEN) (2 + h) true) (10 + h) false
  if d.capacity then
    let take := d.leader = h && d.elig o
    let w := setBit w (8 + h) false
    let d := d.setToken (if take then setBit (setFld w 0 2 o) 12 false else w)
    let d := if take then { d with tok := { d.tok with swAt := none } } else d
    let (d, lsns) := d.shutLanes h
    let d := (d.faultRecord 1 h cause false).ledgerLoss h
    let d := d.forEach lsns fun d l => if (d.undecided l).isSome then d.conclude l 7 else d
    if take then d.takeLead o else d
  else if d.leader = h then
    if d.b R.RIMX_HBCFG 31 && d.elig o then
      let d := d.setToken (setBit (setFld w 0 2 o) 12 false)
      let d := { d with tok := { d.tok with swAt := none } }
      (((d.shutLanes h).1).faultRecord 1 h cause false).takeLead o
    else (d.setToken w).faultRecord 1 h cause false
  else
    let d := d.setToken w
    ((((d.shutLanes h).1).setTrail h []).faultRecord 1 h cause false)

-- Marked: DEDUCED, log entry 49.
/-- A class H fault of half `h` is declared: counted, and during a freeze latched (R282). A half already FAILED, or with a
fault latched, declares nothing more. -/
def Dev.declareH (d : Dev) (h cause : Nat) : Dev :=
  if d.failed h || d.tok.latched.any (fun (x : HFault) => x.half == h) then d else
  let d := d.bumpF R.RIMX_FLTCNT 16 16 1
  if d.restarting then
    Dev.faultRecord { d with tok := { d.tok with latched := d.tok.latched ++ [HFault.mk h cause] } } 1 h cause true
  else d.actH h cause

/-! ## Heartbeats (R275) -/

def Dev.watched (d : Dev) (h : Nat) : Bool := if h = 0 then d.tok.watchA else d.tok.watchB
def Dev.lastBeat (d : Dev) (h : Nat) : Nat := if h = 0 then d.tok.hbA else d.tok.hbB

/-- Heartbeats of half `h` are watched or not. -/
def Dev.setWatch (d : Dev) (h : Nat) (v : Bool) : Dev :=
  { d with tok := if h = 0 then { d.tok with watchA := v } else { d.tok with watchB := v } }

/-- A heartbeat of half `h` is accepted now. -/
def Dev.beat (d : Dev) (h : Nat) : Dev :=
  { d with tok := if h = 0 then { d.tok with hbA := d.clk } else { d.tok with hbB := d.clk } }

/-- HBMISS × HBINT in clock periods: HBMISS 0 acts as 1, HBINT below 50 as 50. -/
def Dev.hbSpan (d : Dev) : Nat := max 1 (d.f R.RIMX_HBCFG 16 4) * max 50 (d.f R.RIMX_HBCFG 0 16) * us

/-- A lapse: no heartbeat for HBMISS × HBINT µs; declared at most once for each release. -/
def Dev.hbLapse (d : Dev) (h : Nat) : Dev :=
  if d.watched h && !d.failed h && decide (d.lastBeat h + d.hbSpan ≤ d.clk)
  then (d.setWatch h false).declareH h 1 else d

/-- Rim releases the half's Main Processor: a heartbeat, and watching begins. -/
def Dev.mpReleased (d : Dev) (h : Nat) : Dev := (d.setWatch h true).beat h

/-- A write of RIMX_HBh: a heartbeat, or with YIELD = 1 a class H fault. -/
def Dev.heartbeat (d : Dev) (h : Nat) : Dev := d.beat h
def Dev.yieldHalf (d : Dev) (h : Nat) : Dev := (d.beat h).declareH h 4

/-! ## Commands (R283, R284, R288) -/

/-- The result in RIMX_TKRES. -/
def Dev.tkRes (d : Dev) (code : Nat) : Dev := d.setReg R.RIMX_TKRES (pack [(31, 1), (0, code)])

abbrev tkOK : Nat := 0
abbrev tkBAD : Nat := 1
abbrev tkNOTELIG : Nat := 2
abbrev tkLATE : Nat := 3

/-- GRANT. -/
def Dev.tkGrant (d : Dev) (h : Nat) : Dev :=
  if d.restarting || d.failed h || (!d.capacity && decide (d.leader < 2)) then d.tkRes tkBAD else
  let w := setBit (setBit (d.reg R.RIMX_TOKEN) 15 true) (4 + h) true
  let w := if d.capacity then setBit w (8 + h) true else w
  let w := if d.leader < 2 then w else setFld w 0 2 h
  ((d.setToken w).takeLead h).tkRes tkOK

-- Marked: DEDUCED, log entry 46.
/-- The conditions of R284 for SWITCH: BAD_STATE, NOT_ELIGIBLE or none. -/
def Dev.switchBar (d : Dev) : Option Nat :=
  if ¬ d.leader < 2 then some tkBAD
  else
    let o := 1 - d.leader
    if !d.elig o || (d.capacity && !d.homeLead o) then some tkNOTELIG else none

-- Marked: DEDUCED, log entry 46.
/-- SWITCH at count S. LATE is judged before eligibility (R283). An accepted command reports at S. -/
def Dev.tkSwitch (d : Dev) : Dev :=
  let s := d.pair R.RIMX_TKSW_LO R.RIMX_TKSW_HI
  if d.restarting || ¬ d.leader < 2 then d.tkRes tkBAD
  else if s < d.count + 16000 then d.tkRes tkLATE
  else match d.switchBar with
    | some c => d.tkRes c
    | none =>
      { (d.setReg R.RIMX_TKRES 0#32).tokBit 12 true with tok := { (d.tokBit 12 true).tok with swAt := some s } }

/-- At S the switch is judged again, and made or dropped; the old leader's lanes become the trailing lanes (R283). -/
def Dev.plannedSwitch (d : Dev) : Dev :=
  match d.tok.swAt with
  | none => d
  | some s =>
    if d.count < s then d else
    let d := { d with tok := { d.tok with swAt := none } }
    match d.switchBar with
    | some _ => (d.tokBit 12 false).tkRes tkNOTELIG
    | none =>
      if d.restarting then (d.tokBit 12 false).tkRes tkBAD
      else
        let o := 1 - d.leader
        ((d.setToken (setBit (setFld (d.reg R.RIMX_TOKEN) 0 2 o) 12 false)).takeLead o).tkRes tkOK

/-- REVOKE. -/
def Dev.tkRevoke (d : Dev) (h : Nat) : Dev :=
  if d.restarting then d.tkRes tkBAD else
  let o := 1 - h
  let w := setBit (setBit (d.reg R.RIMX_TOKEN) (10 + h) false) (4 + h) false
  let next := if d.capacity && d.homeLead o then o else 2
  let w := if d.leader = h then setFld w 0 2 next else w
  let d1 := d.setToken (if d.capacity then setBit w (8 + h) false else w)
  let d1 := if d.leader = h && next = o then d1.takeLead o else d1
  d1.tkRes tkOK

/-- ELIGIBLE with SET. -/
def Dev.tkEligible (d : Dev) (h : Nat) (set : Bool) : Dev :=
  if d.restarting || (set && (!d.resynced h || d.failed h)) then d.tkRes tkBAD
  else (d.tokBit (10 + h) set).tkRes tkOK

/-- RESYNC. -/
def Dev.tkResync (d : Dev) (h : Nat) : Dev :=
  let leads := if d.capacity then d.homeLead h else d.leader == h
  if d.restarting || leads || decide (¬ d.leader < 2) || !d.pdRun (40 + h) || d.tok.resync.isSome then d.tkRes tkBAD
  else ({ d with tok := { d.tok with resync := some h } }.tokBit (4 + h) false).tkRes tkOK

/-- Copies `n` octets of memory from `src` to `dst`. -/
def Dev.copyMem (d : Dev) (src dst n : Nat) : Dev :=
  let part := d.mem.filter fun e => decide (src ≤ e.1 ∧ e.1 < src + n)
  part.foldl (fun d e => d.wr8 (dst + (e.1 - src)) e.2) (d.clearMem dst n)

-- Marked: DEDUCED, log entry 48.
/-- The mirrors of half `h` take the contents of half `s`: in Capacity mode the ledger records of nodes homed at `h`, the
pointers of the others cleared (R274, R284). -/
def Dev.copyMirrors (d : Dev) (s h : Nat) : Dev :=
  if s = h then d else
  let d := d.copyMem (ntBase s) (ntBase h) 0x100000
  if !d.capacity then d.copyMem (ledBase s) (ledBase h) 0x40000 else
  d.forEach (d.validNodes s) fun d n =>
    if d.ntField s n 0x0A 2 / 2 ^ 14 % 2 = h
    then d.forEach (d.chain s n) fun d i => d.copyMem (ledAddr s i) (ledAddr h i) 16
    else d.wr32 (ntBase h + 64 * n + 0x18) 0#32

/-- A RESYNC completes: RESYNCED sets and FAILED clears. -/
def Dev.resyncDone (d : Dev) : Dev :=
  match d.tok.resync with
  | none => d
  | some h =>
    let d := { d with tok := { d.tok with resync := none } }
    let d := d.copyMirrors (if d.leader < 2 then d.leader else 1 - h) h
    d.setToken (setBit (setBit (d.reg R.RIMX_TOKEN) (4 + h) true) (2 + h) false)

/-- CANCEL. -/
def Dev.tkCancel (d : Dev) : Dev :=
  if d.restarting then d.tkRes tkBAD
  else ({ d with tok := { d.tok with swAt := none } }.tokBit 12 false).tkRes tkOK

-- Marked: DEDUCED, log entry 49.
/-- The Main Processor domain of half `h` leaves Run (R274, R275, R288). -/
def Dev.mpDomainLost (d : Dev) (h : Nat) : Dev :=
  let d := d.setWatch h false
  let d := if d.tok.resync = some h then { d with tok := { d.tok with resync := none } } else d
  let d := { d with tok := if h = 0 then { d.tok with rolesA := false } else { d.tok with rolesB := false } }
  let d := (d.setTrail h []).setToken (setBit (setBit (d.reg R.RIMX_TOKEN) (10 + h) false) (4 + h) false)
  d.declareH h 3

/-! ## Custody restart and class D (R285 to R287) -/

/-- The posted calls of half `h`, by slot. -/
def Dev.posted (d : Dev) (s : Nat) : Bool := d.b R.RIMX_MBPEND s

/-- The reply to the call in slot `s` is ready: source 49 of the half (R308). -/
def Dev.mbReply (d : Dev) (s : Nat) (res : List Word) : Dev :=
  let d := (List.range 6).foldl (fun d i => d.setReg (R.RIMX_MB_RES s i) (res.getD i 0#32)) d
  let d := (d.setB R.RIMX_MBPEND s false).setB R.RIMX_MBPEND (16 + s) true
  d.wake (64 + s / 8)

-- Marked: DEDUCED, log entry 46.
/-- RESUME: the freeze ends, calls still outstanding are answered RESTARTED, and latched faults are acted on. -/
def Dev.tkResume (d : Dev) : Dev :=
  if !d.restarting then d.tkRes tkBAD else
  let d := (d.tokBit 13 false).bumpF R.RIMX_CRCNT 0 8 1
  let d := d.forEach (List.range 16) fun d s => if d.posted s then d.mbReply s [6#32] else d
  let l := d.tok.latched
  let d := { d with tok := { d.tok with latched := [] } }
  (d.forEach l fun d x => if d.failed x.half then d else d.actH x.half x.cause).tkRes tkOK

/-- A class D fault: recorded, and the device resets with its code. -/
def Dev.classD (d : Dev) (cause code : Nat) : Dev := (d.faultRecord 3 0 cause false).enterReset code 0

/-- No half holds or can take the lead for one second (R287). -/
def Dev.noLeader (d : Dev) : Dev :=
  match d.tok.noLead with
  | some t => if t + 160000000 ≤ d.clk then d.classD 6 5 else d
  | none => d

/-- Custody from its ROM: both cores in step (R285, R294). -/
def Dev.custodyStart (d : Dev) : Dev := d.setCpu 66 { run := .running }

/-! ## Mirror repair (R281) -/

-- Marked: DEDUCED, log entry 48.
/-- The domain whose live work a ledger record of half `h`'s mirror orders. -/
def Dev.domOfRec (d : Dev) (h i : Nat) : Option Dom :=
  (d.msg.tcbs.find? fun t => t.ledger == some i && (!d.capacity || t.group || d.workHalf false t.home == h)).map Tcb.dom

/-- A flat address of a half's node-table entries or ledger records. -/
def inMirror (a : Nat) : Bool :=
  decide (ntBase 0 ≤ a ∧ a < ntBase 0 + 0x200000) || decide (ledBase 0 ≤ a ∧ a < ledBase 0 + 0x80000)

-- Marked: DESIGN CHOICE, log entry 114.
/-- A record that names no live control block's domain is lost with nothing to rebuild: a group's restarts, a node's leaves its
chain and is free (R279, R281). -/
def Dev.recordLost (d : Dev) (h i : Nat) : Dev :=
  if i < 256 then d.forEach (List.range 4) fun d w => d.ledPut true 0 i w 0#32
  else match (d.validNodes h).find? fun n => (d.chain h n).contains i with
    | some n => d.ledRelease ⟨false, n, d.ntHome n, 0, false, 0⟩ i
    | none => d.forEach (List.range 4) fun d w => d.wr32 (ledAddr h i + 4 * w) 0#32

-- Marked: DEDUCED, log entry 47; DESIGN CHOICE, log entry 114.
/-- A double-bit error at flat address `a` of a mirror of half `h` is repaired from the partner's word. Where the partner's
word is in error too, or in Capacity mode does not hold the domain, repair fails as R281 tells. -/
def Dev.mirrorRepair (d : Dev) (a : Nat) : Dev :=
  let a := a / 4 * 4
  if !d.ecc2.contains a then d else
  let isNt := decide (ntBase 0 ≤ a ∧ a < ntBase 0 + 0x200000)
  let h := if isNt then (a - ntBase 0) / 0x100000 else (a - ledBase 0) / 0x40000
  let off := if isNt then (a - ntBase 0) % 0x100000 else (a - ledBase 0) % 0x40000
  let base (k : Nat) : Nat := if isNt then ntBase k else ledBase k
  let o := 1 - h
  let b := base o + off
  let held := d.pdRun (40 + o) && !d.ecc2.contains b && (isNt || !d.capacity || decide (off < 4096))
  if held then (d.wr32 a (d.rd32 b)).bumpF R.RIMX_FLTCNT 0 16 1
  else if isNt then
    let n := off / 64
    let d := { d with ecc2 := d.ecc2.filter fun x => x ≠ a ∧ x ≠ b }
    (d.setValid n false).faultRecord 1 h 2 false
  else
    let i := off / 16
    let owner := d.domOfRec h i
    let d := { d with ecc2 := d.ecc2.filter fun x => x ≠ a ∧ x ≠ b }
    match owner with
    | some x => d.domainLoss x
    | none => d.recordLost h i

end Sys2Proof.Machine
end

