-- ==== Sys2Proof/Machine/Image.lean ====
section
/-!
DEFINITION. Firmware images: the bundle header and its checks, and the start of a half from a verified bundle
(R289 to R294, R296).
-/

namespace Sys2Proof.Machine

/-! ## Images (R289, R291, R292) -/

/-- Weave slot `k` in flash, and Rim slot `k` in MRAM. -/
abbrev weaveBase (k : Nat) : Nat := flashBase + k * 0x1000000
abbrev rimBase (k : Nat) : Nat := mramBase + 0x200000 + k * 0x80000

/-- A 4-octet field of the header at `b`. -/
def Dev.hdr (d : Dev) (b off : Nat) : Nat := (d.rd32 (b + off)).toNat

/-- Some octet of a range is not 0. -/
def Dev.dirty (d : Dev) (lo hi : Nat) : Bool := d.mem.any fun e => decide (lo ≤ e.1 ∧ e.1 < hi) && e.2 != 0#8

/-- The digest of octets agrees with the 32 octets at `a`. -/
def Dev.digestIs (d : Dev) (a : Nat) (l : List Byte) : Bool :=
  (List.range 8).all fun k => beNat (d.rdBytes (a + 4 * k) 4) == (Config.sha256 l k).toNat

/-- Checks 2 to 6 and 8 need only the header; a KEYID above 3 has no key that could verify (7). `keys` is the header of the
Rim image that carries the signing keys. -/
def Dev.verify (d : Dev) (b keys floor : Nat) (rim readErr : Bool) : Nat :=
  let len := d.hdr b 0x0C
  let key := (d.rd8 (b + 0x14)).toNat
  let pub := if rim then d.rdBytes (b + 0x58) 64 else d.rdBytes (keys + 0x98 + 64 * key) 64
  if readErr then 9
  else if d.hdr b 0 ≠ 0x57564E31 then 1
  else if (d.rd16 (b + 4)).toNat ≠ 1 ∨ d.dirty (b + 0xFC0) (b + 0x1000) ∨
      d.dirty (b + if rim then 0x1D8 else 0x58) (b + 0xF80) ∨ (!rim ∧ d.dirty (b + 0x15) (b + 0x18)) then 2
  else if d.hdr b 8 / 2 ^ 16 ≠ 0x6400 ∨ d.f R.DEV_ID 0 16 < d.hdr b 8 % 2 ^ 16 then 3
  else if len % 4096 ≠ 0 ∨ len < 4096 ∨ 16773120 < len then 4
  else if len < d.hdr b 0x40 + d.hdr b 0x44 ∨ len < d.hdr b 0x50 + d.hdr b 0x54 ∨ 2097152 < d.hdr b 0x44 ∨
      1048576 < d.hdr b 0x54 then 5
  else if !rim ∧ d.fw.revoked.contains key then 6
  else if (!rim ∧ 3 < key) ∨ (rim ∧ !Config.romKeyOk pub) ∨ !Config.ecdsaOk pub (d.rdBytes b 0xF80) (d.rdBytes (b + 0xF80) 64) then 7
  else if d.hdr b 0x10 < floor then 8
  else if !d.digestIs (b + 0x20) (d.rdBytes (b + 4096) len) then 10
  else 0

def Dev.verifyWeave (d : Dev) (k : Nat) (readErr : Bool) : Nat :=
  d.verify (weaveBase k) (rimBase d.fw.rslot) d.fw.weave.floor false readErr
def Dev.verifyRim (d : Dev) (k : Nat) : Nat := d.verify (rimBase k) 0 d.fw.rim.floor true false

/-- SETFMT of the image in a Weave slot. -/
def Dev.setfmtOf (d : Dev) (k : Nat) : Nat := (d.rd16 (weaveBase k + 6)).toNat

/-! ## Records in two copies (R290) -/

/-- A copy of `n` octets is valid when its last word is the CRC-32 of the rest. -/
def Dev.recValid (d : Dev) (a n : Nat) : Bool := crc32 (d.rdBytes a (n - 4)) == d.rd32 (a + (n - 4))

/-- The valid copy with the higher generation, of the copies at `at_ 0` and `at_ 1`; none if neither is valid. -/
def Dev.newestAt (d : Dev) (at_ : Nat → Nat) (n : Nat) : Option Nat :=
  let v (i : Nat) : Bool := d.recValid (at_ i) n
  let g (i : Nat) : Nat := (d.rd32 (at_ i)).toNat
  if v 0 && v 1 then some (if g 0 < g 1 then 1 else 0) else if v 0 then some 0 else if v 1 then some 1 else none

/-- Writes the copy with the older generation: generation `gen`, the record cut or filled to `n - 8` octets, the CRC. -/
def Dev.putAt (d : Dev) (at_ : Nat → Nat) (n gen : Nat) (body : List Byte) : Dev :=
  let i := match d.newestAt at_ n with | some i => 1 - i | none => 0
  let l := natBytes 4 gen ++ fit (n - 8) body
  d.wrBytes (at_ i) (l ++ natBytes 4 (crc32 l).toNat)

/-- The generation after that of the newest copy. -/
def Dev.nextGen (d : Dev) (at_ : Nat → Nat) (n : Nat) : Nat :=
  match d.newestAt at_ n with
  | some i => ((d.rd32 (at_ i)).toNat + 1) % 2 ^ 32
  | none => 1

/-- The newest record, without generation and CRC. -/
def Dev.getAt (d : Dev) (at_ : Nat → Nat) (n : Nat) : Option (List Byte) :=
  (d.newestAt at_ n).map fun i => d.rdBytes (at_ i + 4) (n - 8)

/-- The copies of the Upsett record with the signer revocations, of the settings headers, and of the Seal (R289). -/
abbrev upsettAt (i : Nat) : Nat := mramBase + 0xD8000 + 0x100 * i
abbrev journalAt (i : Nat) : Nat := mramBase + 0xDC000 + 0x100 * i
abbrev settingsAt (i : Nat) : Nat := mramBase + 0xE0000 + 0x10000 * i
abbrev sealAt (i : Nat) : Nat := mramBase + 0xD4000 + 0x2000 * i

/-- What the Upsett record holds for one image, in 12 octets (R296). -/
def Boot.octets (b : Boot) : List Byte :=
  natBytes 1 b.active ++ natBytes 1 b.confirmed ++ natBytes 1 (b2n b.trial) ++ natBytes 1 b.tries ++ natBytes 4 b.floor ++
    natBytes 4 b.setfmt

def bootOf (l : List Byte) : Boot :=
  let at_ (i n : Nat) : Nat := leNat ((l.drop i).take n)
  { active := at_ 0 1, confirmed := at_ 1 1, trial := at_ 2 1 != 0, tries := at_ 3 1, floor := at_ 4 4, setfmt := at_ 8 4 }

/-- The Upsett record's octets: the Weave slots, the Rim slots and a bit for each KEYID revoked. -/
def Fw.record (f : Fw) : List Byte :=
  f.weave.octets ++ f.rim.octets ++ natBytes 32 (f.revoked.foldl (fun n k => n ||| 2 ^ (k % 256)) 0)

-- Marked: DESIGN CHOICE, log entry 94.
/-- Rim stores the Upsett record; a record that stands already is not written again. -/
def Dev.putUpsett (d : Dev) : Dev :=
  if d.getAt upsettAt 64 == some d.fw.record then d
  else d.putAt upsettAt 64 (d.nextGen upsettAt 64) d.fw.record

-- Marked: DESIGN CHOICE, log entry 94.
/-- Upsett reads the newest valid Upsett record. With neither copy valid, what was last held stands. -/
def Dev.getUpsett (d : Dev) : Dev :=
  match d.getAt upsettAt 64 with
  | some l =>
    let rev := leNat ((l.drop 24).take 32)
    { d with fw := { d.fw with
      weave := bootOf (l.take 12), rim := bootOf ((l.drop 12).take 12)
      revoked := (List.range 256).filter fun k => rev.testBit k } }
  | none => d

-- Marked: DESIGN CHOICE, log entry 94.
/-- FWU_BOOTINFO, FWU_FLOOR and FWU_RFLOOR show the Upsett record, which is stored (R290, R296). -/
def Dev.showBoot (d : Dev) : Dev :=
  let d := d.putUpsett
  let w := d.fw.weave
  let d := d.setReg R.FWU_BOOTINFO
    (setFld (pack [(24, min 255 w.tries), (16, w.setfmt % 256), (15, b2n w.trial), (14, w.active), (13, w.confirmed),
      (12, b2n (d.fw.halfwise != 0)), (11, d.fw.rslot), (10, b2n d.fw.rim.trial)]) 0 8 (d.f R.FWU_BOOTINFO 0 8))
  (d.setReg R.FWU_FLOOR (wd w.floor)).setReg R.FWU_RFLOOR (wd d.fw.rim.floor)

def Dev.setWeave (d : Dev) (b : Boot) : Dev := { d with fw := { d.fw with weave := b } }.showBoot

/-! ## The Rim section of the settings (R300) -/

/-- The settings copy held in a format; empty if none is. -/
def Settings.copy (x : Settings) (fmt : Nat) : List Byte := tget (fun _ => []) x.copies fmt

-- Marked: DESIGN CHOICE, log entry 94.
/-- The Rim section in force: that of the copy in the active image's format, else of the confirmed image's, else of
whichever is held. -/
def Dev.rimSection (d : Dev) : List Byte :=
  match d.fw.settings with
  | none => []
  | some x =>
    let w := d.fw.weave
    let held := [x.copy (d.setfmtOf w.active), x.copy w.setfmt] ++ x.copies.map (·.2)
    ((held.find? fun l => !l.isEmpty).getD []).take 64

def Dev.rimOctet (d : Dev) (i : Nat) : Nat := (d.rimSection.getD i 0#8).toNat
def Dev.rimWord (d : Dev) (i : Nat) : Nat := (List.range 4).foldl (fun n k => n + 256 ^ k * d.rimOctet (i + k)) 0

def Dev.tryMax (d : Dev) : Nat := if d.rimOctet 2 = 0 then 3 else min 8 (d.rimOctet 2)
def Dev.trialSecs (d : Dev) : Nat := if d.rimWord 8 = 0 then 600 else d.rimWord 8

/-! ## Starting a half (R294 steps 7 and 8, R283) -/

/-- The slot whose image half `h` runs. -/
def Dev.runSlot (d : Dev) (h : Nat) : Nat := if h = 0 then d.fw.runA else d.fw.runB

-- Marked: DESIGN CHOICE, log entry 52.
/-- VERSION of the Weave image that runs: the leading half's, and half A's while none leads (R307). -/
def Dev.runVersion (d : Dev) : Nat := if d.leader = 1 then d.fw.verB else d.fw.verA

-- Marked: DESIGN CHOICE, log entry 52.
/-- Rim copies the images of half `h`'s slot, and releases its Main Processor: supervisor mode at MPENTRY, g31 = MPSP,
g1 the staged engine area, g2 ENGLEN, g3 FWU_BOOTINFO. -/
def Dev.startHalf (d : Dev) (h : Nat) : Dev :=
  let b := weaveBase (d.runSlot h)
  let v := d.hdr b 0x10
  let d := { d with fw := if h = 0 then { d.fw with verA := v } else { d.fw with verB := v } }
  let d := d.copyMem (b + 4096 + d.hdr b 0x40) (sramBase h) (d.hdr b 0x44)
  let d := (d.copyMem (b + 4096 + d.hdr b 0x50) (storeBase + 0xB00000) (d.hdr b 0x54)).msTraffic (storeBase + 0xB00000)
    (d.hdr b 0x54) 1
  let c : Cpu := { run := .running, pc := d.rd32 (b + 0x48) }
  let c := (((c.put 31 (d.rd32 (b + 0x4C))).put 1 0xB00000#32).put 2 (d.rd32 (b + 0x54))).put 3 (d.reg R.FWU_BOOTINFO)
  (d.setCpu (64 + h) c).mpReleased h

-- Marked: DESIGN CHOICE, log entry 52.
/-- Steps 7 to 9 of R294 for half `h` alone, as its domain returns: the bundle of its slot is checked again, header and
digest (R283, R302); a half whose bundle is refused stays in reset. -/
def Dev.returnHalf (d : Dev) (h : Nat) : Dev :=
  if d.verifyWeave (d.runSlot h) false = 0 then d.startHalf h else d

/-- Rim restarts half `h` through its final switch: its vote on the Main Processor domain is withdrawn, and returns once
the domain has stopped (R283). -/
def Dev.restartHalf (d : Dev) (h : Nat) : Dev :=
  let d := { d with fw := { d.fw with restart := d.fw.restart ++ [h] } }
  (d.setB (R.PWR_PD_SWV (40 + h)) 31 false).vote (40 + h) 31 false

end Sys2Proof.Machine
end

