-- ==== Sys2Proof/Machine/Power.lean ====
section
/-!
DEFINITION. Power domains: software votes, Prepare, refusals, Stop and Run entry (R347 to R356), and what each domain
loses and restores (R29, R348, R386).
-/

namespace Sys2Proof.Machine

/-! ## What makes a voter refuse (R349, R350) -/

/-- A Gate Unit with a slot armed. -/
def Dev.gateHeld (d : Dev) (u : Nat) : Option Nat := if (d.armed u).isEmpty then none else some 1

/-- Data no one has taken. -/
def heldIf (b : Bool) : Option Nat := if b then some 2 else none

/-- The lock bit of some channel or cell is set (R396). -/
def Dev.anyLock (d : Dev) : Bool :=
  d.regs.any fun e =>
    (decide (0xB2000 ≤ e.1 ∧ e.1 < 0xB4000) && (e.1 - 0xB2000) % 0x20 == 0 && bitOf e.2 30) ||
    (decide (0xB0400 ≤ e.1 ∧ e.1 < 0xB0600) && (e.1 - 0xB0400) % 0x10 == 0 && bitOf e.2 31)

-- Marked: DEDUCED, log entry 50.
/-- What voter `v` of domain `n` answers to Prepare: none when it has quiesced, or the reason of its refusal. -/
def Dev.voterAnswer (d : Dev) (n v : Nat) : Option Nat :=
  match n, v with
  | 2, 0 => heldIf (!d.tb.late.isEmpty)
  | 2, 1 => d.gateHeld 16
  | 2, 2 => d.gateHeld 17
  | 2, _ => heldIf (!d.asb.txq.isEmpty || !d.asb.rxq.isEmpty || d.asb.sending.isSome)
  | 3, 0 => heldIf d.anyLock
  | 4, _ => heldIf (!d.mac.evqA.isEmpty || !d.mac.evqB.isEmpty || !d.mac.ntrq.isEmpty || !d.mac.copies.isEmpty)
  | 5, _ => heldIf (!d.msg.tcbs.isEmpty || !d.msg.reasm.isEmpty)
  | 6, _ => heldIf (d.alarmed || d.ringHead 0 != d.ringTail 0 || d.ringHead 1 != d.ringTail 1)
  | 7, _ => heldIf (d.b R.TST_DBGCTL 31)
  | 9, _ => heldIf (d.acrq.any fun e => e.1 % 16 != 8)
  | 11, _ => heldIf (d.acrq.any fun e => e.1 % 16 == 8)
  | 12, 0 => heldIf (!d.trunk.txd.isEmpty || !d.trunk.txc.isEmpty || !d.trunk.rxr.isEmpty)
  | 12, _ => d.gateHeld 16
  | 14, _ => heldIf (!d.host.ptp.isEmpty || d.host.ethReady)
  | 15, _ => heldIf (d.b R.CLP_RDSTAT 31 || !d.clp.rdRecs.isEmpty)
  | _, _ =>
    if decide (16 ≤ n ∧ n < 32) then
      let r := d.radio (n - 16)
      match v with
      | 1 => heldIf (!r.rxq.isEmpty || !r.filled.isEmpty)
      | 2 => d.gateHeld (n - 16)
      | 3 => heldIf (!r.capq.isEmpty)
      | _ => none
    else if (n = 40 ∨ n = 41) ∧ v = 2 then heldIf (!(d.trail (n - 40)).isEmpty || !(d.wen (n - 40)).hold.isEmpty)
    else none

/-! ## Stop (R348) -/

/-- Clears table entries of a key range. -/
def dropRange {α : Type} (lo hi : Nat) (t : Table α) : Table α := tclear (fun k => decide (lo ≤ k ∧ k < hi)) t

/-- The reader's side of the contactless port is lost; the tag side is not (R354). -/
def Clp.readerOff (c : Clp) : Clp :=
  { c with
    rdRecs := [], rdTags := [], rdRats := [], rdCmds := [], rdWake := false, rdActive := none, rdWait := none
    rdNaks := 0, rdWtx := 0, rdWaitFrom := 0, nextMeas := 0 }

-- Marked: DESIGN CHOICE, log entry 5; DEDUCED, log entry 51.
/-- What stands in domain `n` beside its registers is lost; the retention areas of PD0 keep the Timebase count and the
timers (R29, R386); releases held for a link stay in order (R344). -/
def Dev.loseDomain (d : Dev) (n : Nat) : Dev :=
  if n = 2 then
    let d := d.discMiss
    { d with
      tb := { retained := some (d.tb.count, d.rtcRan) }, asb := {}
      slots := dropRange 256 288 d.slots, ghosts := d.ghosts.filter fun g => g.1 != 16 && g.1 != 17 }
  else if n = 3 then { d.tmrKeep with skein := {}, timers := [] }
  else if n = 4 then { d with mac := {}, planq := tclear (fun k => k < 8) d.planq }
  else if n = 5 then { d with msg := {} }
  else if n = 6 then { d with sec := {} }
  else if n = 7 then { d with tap := {} }
  else if n = 8 then { d with acrs := tdel 0 d.acrs }
  else if n = 9 then
    { d with
      acrs := tdel 0 d.acrs, acrq := tclear (fun k => k % 16 != 8) d.acrq
      acrDrops := tclear (fun k => k % 16 != 8) d.acrDrops }
  else if n = 10 then { d with acrs := tdel 1 d.acrs }
  else if n = 11 then
    { d with
      acrs := tdel 1 d.acrs, acrq := tclear (fun k => k % 16 == 8) d.acrq
      acrDrops := tclear (fun k => k % 16 == 8) d.acrDrops }
  else if n = 12 then
    { d with trunk := {}, radios := tdel 16 d.radios, planq := tclear (fun k => 8 ≤ k) d.planq }
  else if n = 13 then
    let d := d.linkDown true
    { d with host := { d.host with
      qps := (d.host.qps.filter fun e => !e.2.held.isEmpty).map fun e => (e.1, { held := e.2.held }), nextQ := 0, reads := [] } }
  else if n = 14 then
    { d with host := { d.host with
      ptp := [], ethReady := false
      streams := d.host.streams.map fun e => (e.1, { e.2 with rtoAt := none, ackAt := none, partial_ := [] }) } }
  else if n = 15 then { d with clp := d.clp.readerOff }
  else if n < 32 then
    let u := n - 16
    { d with
      radios := tdel u d.radios, txents := dropRange (64 * u) (64 * u + 64) d.txents
      slots := dropRange (16 * u) (16 * u + 16) d.slots, ghosts := d.ghosts.filter fun g => g.1 != u }
  else if n < 40 then d.clearMem (storeBase + (n - 32) * 0x180000) 0x180000
  else if n < 42 then
    let h := n - 40
    let d := ((d.clearMem (sramBase h) 0x200000).clearMem (ntBase h) 0x100000).clearMem (ledBase h) 0x40000
    { d.setWen h {} with cpus := tdel (64 + h) d.cpus }
  else if n < 50 then
    let e0 := 8 * (n - 42)
    { d.clearMem (engBase e0) 0x40000 with cpus := dropRange e0 (e0 + 8) d.cpus }
  else d

/-- The domain of sentinel ring `k` (R357). -/
def ringPd (k : Nat) : Nat :=
  if k < 64 then 42 + k / 8
  else if k < 68 then 40 + (k - 64) / 2
  else if k < 70 then 1
  else if k < 86 then 16 + (k - 70)
  else if k < 90 then 8 + (k - 86)
  else [2, 3, 4, 5, 6, 12].getD (k - 90) 0

def ringDflt (_ : Nat) : Ring := {}
def Dev.ring (d : Dev) (k : Nat) : Ring := tget ringDflt d.mgn.rings k
def Dev.setRing (d : Dev) (k : Nat) (r : Ring) : Dev :=
  { d with mgn := { d.mgn with rings := tput ringDflt d.mgn.rings k r } }

/-- The registers of domain `n` go to their reset state (R348). -/
def Dev.clearRegs (d : Dev) (n : Nat) : Dev :=
  { d with regs := d.regs.filter fun e => pdOf (e.1 % bankSize) != n || n == 0 }

/-- Domain `n` enters Stop: every register, memory and queue it holds is lost. The timers count up to this tick (R386). -/
def Dev.stopDomain (d : Dev) (n : Nat) : Dev :=
  let d := if n = 2 ∨ n = 3 then d.tmrHalt else d
  let d := (d.setF (R.PWR_PD_STAT n) 29 3 0).loseDomain n
  let d := d.clearRegs n
  let d := { d with
    power := { d.power with refuser := tdel n d.power.refuser }
    mgn := { d.mgn with
      rings := d.mgn.rings.map (fun e => if ringPd e.1 = n then (e.1, { e.2 with valid := false }) else e) } }
  if n = 40 ∨ n = 41 then
    let d := d.mpDomainLost (n - 40)
    if d.fw.restart.contains (n - 40) then
      let d := { d with fw := { d.fw with restart := d.fw.restart.filter (· ≠ n - 40) } }
      (d.setB (R.PWR_PD_SWV n) 31 true).vote n 31 true
    else d
  else d

/-! ## Prepare (R350, R351) -/

/-- Sets SUP_STATUS.EVNOTE of processors (R356). -/
def Dev.note (d : Dev) (l : List Nat) : Dev := d.forEach l fun d p => d.setB (bankKey p R.SUP_STATUS) 31 true
def Dev.noteAll (d : Dev) : Dev := d.note [64, 65, 66]

/-- A refusal is recorded: PWR_PDn_REF, the bit of PWR_REFMAP, and the notice to the half's Main Processor, or to both. -/
def Dev.recordRefusal (d : Dev) (n v reason : Nat) : Dev :=
  let k := R.PWR_PD_REF n
  let d := d.setReg k (pack [(31, 1), (24, v), (20, reason), (0, min 255 (d.f k 0 8 + 1))])
  let d := d.setB (if n < 32 then R.PWR_REFMAP_LO else R.PWR_REFMAP_HI) (n % 32) true
  match pdHalf n with
  | some h => d.note [64 + h]
  | none => d.note [64, 65]

/-- The attempt ends. -/
def Dev.endPrepare (d : Dev) (n : Nat) (retry : Bool) : Dev :=
  ({ d with power := { d.power with prep := tdel n d.power.prep } }.setB (R.PWR_PD_STAT n) 30 false).setB
    (R.PWR_PD_STAT n) 29 retry

/-- Voter `v` refuses, or a vote has arrived: the voters that have quiesced resume, the refusal is recorded, and a stop
without votes awaits retry. -/
def Dev.refuseStop (d : Dev) (n v reason : Nat) : Dev :=
  let votes := d.reg (R.PWR_PD_VOTES n)
  if votes = 0#32 then
    let d := (d.recordRefusal n v reason).endPrepare n true
    { d with power := { d.power with refuser := tput zeroDflt d.power.refuser n (v + 1) } }
  else (d.recordRefusal n (lowBit votes) 4).endPrepare n false

-- Marked: DEDUCED, log entry 50.
/-- The voter asked answers: it refuses, or it has quiesced and the next is asked, or after the last the stop commits. -/
def Dev.prepareAnswer (d : Dev) (n : Nat) : Dev :=
  if !d.pdPrep n then d else
  let v := (tget pairDflt d.power.prep n).1
  match d.voterAnswer n v with
  | some reason => d.refuseStop n v reason
  | none =>
    if d.reg (R.PWR_PD_VOTES n) ≠ 0#32 then d.refuseStop n v 4
    else if v + 1 < hwVoters n then
      { d with power := { d.power with prep := tput pairDflt d.power.prep n (v + 1, d.clk) } }
    else (d.endPrepare n false).stopDomain n

-- Marked: DESIGN CHOICE, log entry 9.
/-- The voter asked has not answered within PWR_PREPTMO: BUSY. -/
def Dev.prepareTimeout (d : Dev) (n : Nat) : Dev :=
  let (v, t) := tget pairDflt d.power.prep n
  if d.pdPrep n && decide (t + d.f R.PWR_PREPTMO 0 16 * us ≤ d.clk) then d.refuseStop n v 3 else d

/-- The refusing voter's condition has cleared: the stop is attempted again. -/
def Dev.stopRetry (d : Dev) (n : Nat) : Dev :=
  let v := tget zeroDflt d.power.refuser n
  if d.b (R.PWR_PD_STAT n) 29 && !d.pdPrep n && (v == 0 || (d.voterAnswer n (v - 1)).isNone) then
    { d with power := { d.power with refuser := tdel n d.power.refuser } }.beginPrepare n
  else d

/-! ## Software votes (R355) -/

/-- The bit of PWR_PDn_SWV a requester owns. -/
def swvBit (r : Nat) : Option Nat := if r = 66 then some 31 else if r = 64 then some 30 else if r = 65 then some 29 else none

/-- A write of PWR_PDn_SWV; bits the writer does not own, and every write for PD54 to PD63, are ignored. -/
def Dev.swvWrite (d : Dev) (r n : Nat) (w : Word) : Dev :=
  match swvBit r with
  | some i => if n < 54 then (d.setB (R.PWR_PD_SWV n) i (bitOf w i)).vote n i (bitOf w i) else d
  | none => d

/-- Rim sets or withdraws V31. -/
def Dev.rimVote (d : Dev) (n : Nat) (on_ : Bool) : Dev := (d.setB (R.PWR_PD_SWV n) 31 on_).vote n 31 on_

/-! ## Ride-Through: what is kept (R343) -/

/-- The kept half: the leader, or the holder of the device lead. -/
def Dev.keptHalf (d : Dev) : Option Nat := d.devLead

/-- A lane is kept: SUP_RTCFG.RTLANES names it and it belongs to the kept half. -/
def Dev.laneKept (d : Dev) (n : Nat) : Bool := d.b R.SUP_RTCFG (16 + n) && d.keptHalf == some (laneHalf n)

/-- A message-store bank holds an enabled pool, the TCB area or the uplink table. -/
def Dev.bankUsed (d : Dev) (b : Nat) : Bool :=
  let o (a n : Nat) : Bool := overlaps (b * 0x180000) 0x180000 a n
  ((List.range 16).any fun p => d.poolEn p && o (d.reg (R.MSG_POOL_BASE p)).toNat (d.poolSize p * 256)) ||
    o (d.reg R.MSG_TCBBASE).toNat (64 * d.tcbCount) || o (d.reg R.MSG_UPTBASE).toNat 0x10000

/-- A domain that Ride-Through keeps. -/
def Dev.domainKept (d : Dev) (n : Nat) : Bool :=
  let half (h : Nat) : Bool := d.keptHalf == some h
  if n < 7 then true
  else if n = 8 ∨ n = 9 then true
  else if n < 16 then false
  else if n < 32 then d.laneKept (n - 16)
  else if n < 40 then d.bankUsed (n - 32)
  else if n < 42 then half (n - 40)
  else if n < 50 then half ((n - 42) / 4)
  else (List.range 16).any fun l => laneQuad l == n - 50 && d.laneKept l

-- Marked: DESIGN CHOICE, log entry 54.
/-- Rim ends Ride-Through once every domain is in Run again (R346, step 3). -/
def Dev.endRide (d : Dev) : Dev :=
  if d.b R.SUP_RTSTAT 31 && d.b R.SUP_RTSTAT 29 && ((List.range 54).all fun n => d.pdRun n)
  then d.setB R.SUP_RTSTAT 31 false else d

/-! ## Run entry (R29, R348, R386) -/

-- Marked: DESIGN CHOICE, log entry 52.
/-- The Timebase returns: the count is restored and made up by the RTC; state 1 where the TCXO is present, otherwise 0. -/
def Dev.tbReturn (d : Dev) (tcxo : Bool) : Dev :=
  match d.tb.retained with
  | none => d
  | some (c, at_) =>
    let n := d.rtcElapsed at_
    let d := { d with tb := { d.tb with count := (c + n * 78125 / 16) % 2 ^ 64, retained := none } }
    if tcxo then (d.setB R.TBG_STATUS TBG_XO true).setTb 1 else d

-- Marked: DESIGN CHOICE, log entry 52.
/-- What a block does on entry to Run, its reset state being in place. -/
def Dev.enterRun (d : Dev) (n : Nat) (tcxo : Bool) : Dev :=
  let both (d : Dev) : Dev := if d.pdRun 2 && d.pdRun 3 then d.tmrReturn else d
  if n = 2 then both (d.tbReturn tcxo)
  else if n = 3 then both d.tmrRestore
  else if n = 6 then d.secRestart.setB R.SEC_CTRL 0 (decide (8 ≤ d.fw.step) && !d.capacity)
  else if n = 13 then d.forEach (List.range 64) fun d q => if (d.qp q).held.isEmpty then d else d.showHeld q
  else if (n = 40 ∨ n = 41) ∧ 8 ≤ d.fw.step then d.returnHalf (n - 40)
  else d

-- Marked: DESIGN CHOICE, log entry 53.
/-- The rings of domain `n` begin their bursts, and the outputs they feed read 0 until the first is complete (R358). -/
def Dev.ringsStart (d : Dev) (n : Nat) : Dev :=
  let d := d.forEach ((List.range 96).filter fun k => ringPd k == n) fun d k =>
    (d.setReg (R.MGN_SN_MEAS k) 0#32).setRing k { d.ring k with began := d.clk, valid := false }
  if n = 40 ∨ n = 41 then d.setF R.MGN_MPRATE (16 * (n - 40)) 16 0
  else if decide (8 ≤ n ∧ n < 12) then d.setF (R.ACR_ALLOW ((n - 8) / 2)) 0 8 0
  else d

/-- Run entry ends, at most 8,000 ticks after the first vote: the domain is in Run. A domain whose votes have all been
withdrawn meanwhile begins Prepare. -/
def Dev.runEntryDone (d : Dev) (n : Nat) (tcxo : Bool) : Dev :=
  if tget zeroDflt d.power.entry n = 0 || d.pdRun n || d.power.inReset then d else
  let d := ({ d with power := { d.power with entry := tdel n d.power.entry } }.clearRegs n).setB (R.PWR_PD_STAT n) 31 true
  let d := (d.enterRun n tcxo).ringsStart n
  if d.reg (R.PWR_PD_VOTES n) = 0#32 && decide (2 ≤ n) then d.beginPrepare n else d

end Sys2Proof.Machine
end

