-- ==== Sys2Proof/Machine/Margin.lean ====
section
/-!
DEFINITION. Sentinel rings, ageing, the margin planner's outputs, voltage control and shedding, and the Margin Ledger
(R357 to R370, R125, R149, R166, R182, R336, R431).
-/

namespace Sys2Proof.Machine

/-! ## Rings (R357 to R359) -/

def ringT0 (k : Nat) : Nat := (Config.ringT0 k).toNat
/-- RATE; 0 for rings without a rate output (R361, R370). -/
def ringRate (k : Nat) : Nat := if k < 68 ∨ (86 ≤ k ∧ k < 90) then (Config.ringRate k).toNat else 0

/-- BURST used for the outputs; 0 before the ring's first burst since its domain entered Run. -/
def Dev.burst (d : Dev) (k : Nat) : Nat := if (d.ring k).valid && d.pdRun (ringPd k) then d.f (R.MGN_SN_MEAS k) 0 16 else 0

/-! ## The Margin Ledger (R367, R368) -/

-- Marked: DEDUCED, log entry 30.
/-- A cause is noted in MGN_NOTICE, which keeps sources 55 and 38 pending. -/
def Dev.mgnNotice (d : Dev) (i : Nat) : Dev := d.setB R.MGN_NOTICE i true

/-- An event record is queued, 64 deep; one that finds the queue full is lost and counted. -/
def Dev.mgnRecord (d : Dev) (kind obj before after : Nat) : Dev :=
  if 64 ≤ d.mgn.recs.length then (d.bumpF R.MGN_STATUS 16 8 1).mgnNotice 8
  else
    let r : MgnRec := ⟨kind, obj, d.count, d.rtcSec, before, after, d.f R.SUP_AVS 16 12, d.mgn.serial⟩
    { d with mgn := { d.mgn with recs := d.mgn.recs ++ [r], serial := d.mgn.serial + 1 } }

/-- The words of a record. -/
def MgnRec.words (r : MgnRec) : List Word :=
  [pack [(24, r.kind), (16, r.obj)], wd r.count, wd (r.count / 2 ^ 32), wd r.sec, wd r.before, wd r.after, wd r.mv, wd r.serial]

-- Marked: DESIGN CHOICE, log entry 53.
/-- Rim writes the oldest queued record to the circle of 10,240 in MRAM. -/
def Dev.mgnDrain (d : Dev) : Dev :=
  match d.mgn.recs with
  | [] => d
  | r :: l =>
    { d with mgn := { d.mgn with recs := l } }.wrWords (mramBase + 0x3B0000 + 32 * (r.serial % 10240)) r.words

/-- MGN_STATUS as it reads. -/
def Dev.vctl (d : Dev) : Bool := d.b R.MGN_FLOOR 0
def Dev.avsErr (d : Dev) : Bool := d.b R.SUP_AVS 31
-- Marked: DESIGN CHOICE, log entry 53.
/-- VMIN and VMAX as setpoints, which go in steps of 5 mV up to 900 (R336, R363, R370). -/
def Dev.vmin (d : Dev) : Nat := min 900 (cdiv (max 620 (d.f R.MGN_FLOOR 22 10)) 5 * 5)
def Dev.vmax (d : Dev) : Nat := max (min 900 (d.f R.MGN_POLICY 22 10) / 5 * 5) d.vmin
def Dev.setpoint (d : Dev) : Nat := d.f R.SUP_AVS 16 12

/-! ## Outputs (R361) -/

/-- G: the larger guard plus 256. -/
def Dev.guard (d : Dev) : Nat := 256 + max (d.f R.MGN_POLICY 8 8) (d.f R.MGN_FLOOR 8 8)

/-- The raw output of a ring: ⌊RATE × T0 × 256 ÷ (BURST × G)⌋, 0 until a burst has completed. -/
def Dev.rawOut (d : Dev) (k : Nat) : Nat :=
  if d.burst k = 0 then 0 else ringRate k * ringT0 k * 256 / (d.burst k * d.guard)

/-- The smaller raw output of a pair of rings. -/
def Dev.rawPair (d : Dev) (k : Nat) : Nat := min (d.rawOut k) (d.rawOut (k + 1))

/-- ⌈ARMPATH × Smax⌉ over SN90 and the rings of lanes not OFF. -/
def Dev.armPath (d : Dev) : Nat :=
  let ks := 90 :: ((List.range 16).filter fun n => (d.radio n).st != sOFF).map (70 + ·)
  ks.foldl (fun m k => max m (cdiv (d.f R.MGN_ARMPATH 0 16 * d.burst k * d.guard) (256 * ringT0 k))) 0

-- Marked: DESIGN CHOICE, log entry 102.
/-- One arm lead: max(FLOOR, LEADREQ, ⌈ARMPATH × Smax⌉), saturating. One that rises in a tick in which a request has been
judged by it rises at the next (R40, log entry 102). -/
def Dev.putLead (d : Dev) (arm c : Nat) : Dev :=
  let old := d.f (R.TBG_LEAD c) 0 16
  let v := min 65535 (max (max (d.f (R.TBG_LEAD c) 16 16) (d.f (R.MGN_LEADREQ c) 0 16)) arm)
  if v = old then d
  else if old < v && d.leadKnown c then { d with tb := { d.tb with leadDue := true } } else
  let d := (d.setLead c v).mgnRecord 6 c old v
  if old < v then d.mgnNotice 3 else d

def Dev.putLeads (d : Dev) : Dev :=
  if d.pdRun 2 then d.forEach (List.range 7) fun d c => d.putLead d.armPath c else d

/-- An allowance: the planner's value, for ACR-S in Ride-Through at most RTALLOW; channels above it are shed. -/
def Dev.putAllow (d : Dev) (a v : Nat) : Dev :=
  let v := if a = 0 && d.b R.SUP_RTSTAT 31 then min v (d.f R.SUP_RTCFG 8 8) else v
  let old := d.f (R.ACR_ALLOW a) 0 8
  let (d, shed) := d.acrAllow a v
  if v = old && shed.isEmpty then d
  else
    let d := d.mgnRecord (if old < v && shed.isEmpty then 5 else 4) a old v
    if v < old || !shed.isEmpty then d.mgnNotice 2 else d

/-- Writes the outputs that ring `k` feeds. -/
def Dev.outputs (d : Dev) (k : Nat) : Dev :=
  if k < 64 then d.setF (R.WEN_BUDGET k) 0 16 (min 65535 (d.rawOut k))
  else if k < 68 then
    let h := (k - 64) / 2
    d.setF R.MGN_MPRATE (16 * h) 16 (min 65535 (d.rawPair (64 + 2 * h)))
  else if 86 ≤ k ∧ k < 88 then d.putAllow 0 (min 128 (d.rawPair 86))
  else if 88 ≤ k ∧ k < 90 then d.putAllow 1 (min 16 (d.rawPair 88))
  else if k = 90 ∨ (70 ≤ k ∧ k < 86) then d.putLeads
  else d

/-! ## Demands (R363, R364) -/

/-- A demand: its raw output, its want, and its rings. -/
structure Demand where
  raw : Nat
  want : Nat
  rings : List Nat
  deriving DecidableEq, Repr

-- Marked: DESIGN CHOICE, log entry 53.
/-- The demands whose rings have been measured: engines in RUN, the Main Processors, receivers not OFF. -/
def Dev.demands (d : Dev) : List Demand :=
  let engs := ((List.range 64).filter fun n => d.engState n == 3).map fun n =>
    Demand.mk (d.rawOut n) (d.f (R.WEN_BUDGET n) 16 16) [n]
  let want := max (d.f R.MGN_MPMIN 16 16) (d.f R.MGN_MPMIN 0 16)
  let mps := [0, 1].map fun h =>
    Demand.mk (d.rawPair (64 + 2 * h)) want [64 + 2 * h, 65 + 2 * h]
  let acrs := ([0, 1].filter fun a => d.acrState a != 0).map fun a =>
    Demand.mk (d.rawPair (86 + 2 * a)) (d.f R.MGN_ACRWANT (16 * a) 8) [86 + 2 * a, 87 + 2 * a]
  (engs ++ mps ++ acrs).filter fun x => x.rings.all fun k => d.burst k != 0

/-- Headroom `m` times HEAD. -/
def Dev.headroom (d : Dev) (m : Nat) (x : Demand) : Bool :=
  decide (x.want * (256 + m * d.f R.MGN_POLICY 16 6) ≤ x.raw * 256)

-- Marked: DESIGN CHOICE, log entry 53.
/-- A shortfall is shed at VMAX, or while the AVS error holds stepping. -/
def Dev.shedNow (d : Dev) : Bool := decide (d.vmax ≤ d.setpoint) || d.avsErr

def Dev.shedding (d : Dev) : Bool := d.shedNow && d.demands.any fun x => decide (x.raw < x.want)
def Dev.atVmax (d : Dev) : Bool := decide (d.vmax ≤ d.setpoint) && d.demands.any fun x => !d.headroom 1 x

/-- Engine `n`'s SHORT bit: set by a shed, cleared when the output is back at its want. -/
def Dev.engShort (d : Dev) (n : Nat) : Dev :=
  let k := if n < 32 then R.MGN_SHORT_LO else R.MGN_SHORT_HI
  let want := d.f (R.WEN_BUDGET n) 16 16
  let is_ := d.b k (n % 32)
  if is_ && decide (want ≤ d.rawOut n) then (d.setB k (n % 32) false).mgnRecord 3 n want (d.rawOut n)
  else if !is_ && d.engState n == 3 && d.shedNow && d.burst n != 0 && decide (d.rawOut n < want)
  then ((d.setB k (n % 32) true).mgnRecord 2 n want (d.rawOut n)).mgnNotice 1 else d

-- Marked: DESIGN CHOICE, log entry 53.
/-- Main Processor `h`'s demand is shed, or met again: recorded as an engine's is, by its first ring (R364). -/
def Dev.mpShort (d : Dev) (h : Nat) : Dev :=
  let want := max (d.f R.MGN_MPMIN 16 16) (d.f R.MGN_MPMIN 0 16)
  let k := 64 + 2 * h
  let out := d.rawPair k
  let is_ := d.mgn.mpShed.contains h
  let put (d : Dev) (l : List Nat) : Dev := { d with mgn := { d.mgn with mpShed := l } }
  if is_ && decide (want ≤ out) then (put d (d.mgn.mpShed.filter (· ≠ h))).mgnRecord 3 k want out
  else if !is_ && d.shedNow && d.burst k != 0 && d.burst (k + 1) != 0 && decide (out < want)
  then ((put d (h :: d.mgn.mpShed)).mgnRecord 2 k want out).mgnNotice 1 else d

/-- A setpoint is sent over AVSBus (R336). -/
def Dev.avsSend (d : Dev) (mv : Nat) : Dev :=
  let old := d.setpoint
  let d := (d.setF R.SUP_AVS 0 12 mv).setB R.SUP_AVS 30 true
  ({ d with sup := { d.sup with avsSent := some d.clk } }.mgnRecord 1 0 old mv).mgnNotice 0

-- Marked: DESIGN CHOICE, log entry 53.
/-- A ring of some demand has completed no burst since the last step was applied (R363). -/
def Dev.awaited (d : Dev) : Bool :=
  match d.mgn.stepAt with
  | some t => d.demands.any fun x => x.rings.any fun k => decide ((d.ring k).began ≤ t)
  | none => false

/-- No step is possible: control off, an AVS error, a step not applied, or a ring of a demand not yet measured since. -/
def Dev.stepBarred (d : Dev) : Bool := !d.vctl || d.avsErr || d.b R.SUP_AVS 30 || d.awaited

/-- Brings the setpoint into VMIN to VMAX, and raises it by 10 mV when some demand lacks headroom; a raise after a lowering
bars lowering for 600 s. Keeps the time since which every demand has had twice HEAD. -/
def Dev.planVoltage (d : Dev) : Dev :=
  let l := d.demands
  let since := if l.all (d.headroom 2) then (match d.mgn.highSince with | some t => some t | none => some d.clk) else none
  let d := { d with mgn := { d.mgn with highSince := since } }
  if d.stepBarred then d
  else if d.setpoint < d.vmin then d.avsSend d.vmin
  else if d.vmax < d.setpoint then d.avsSend d.vmax
  else if l.all (d.headroom 1) then { d with mgn := { d.mgn with lowered := false } }
  else if d.vmax ≤ d.setpoint then d
  else
    let d := if d.mgn.lowered
      then { d with mgn := { d.mgn with lowered := false, noLower := d.clk + 600 * 160000000 } } else d
    d.avsSend (min d.vmax (max d.vmin (d.setpoint + 10)))

/-- SETPOINT_LOWER: double headroom has held for DOWNHOLD seconds. -/
def Dev.setpointLower (d : Dev) : Dev :=
  match d.mgn.highSince with
  | none => d
  | some t =>
    if !d.stepBarred && decide (t + max 1 (d.f R.MGN_POLICY 0 8) * 160000000 ≤ d.clk ∧ d.mgn.noLower ≤ d.clk ∧
        d.vmin + 5 ≤ d.setpoint)
    then { d with mgn := { d.mgn with lowered := true, highSince := none } }.avsSend
      (min d.vmax (d.setpoint - 5)) else d

/-- The regulator acknowledges the setpoint: it is applied, and the next step waits for the demands' rings. -/
def Dev.avsResponse (d : Dev) : Dev :=
  if !d.b R.SUP_AVS 30 then d else
  let d := (d.setF R.SUP_AVS 16 12 (d.f R.SUP_AVS 0 12)).setB R.SUP_AVS 30 false
  { d with sup := { d.sup with avsSent := none }, mgn := { d.mgn with stepAt := some d.clk } }

/-- No AVSBus response within 100 µs: AVSERR, and the previous setpoint stays in force (R336). -/
def Dev.avsTimeout (d : Dev) : Dev :=
  match d.sup.avsSent with
  | some t =>
    if t + 100 * us ≤ d.clk then
      let d := (d.setB R.SUP_AVS 31 true).setB R.SUP_AVS 30 false
      (({ d with sup := { d.sup with avsSent := none } }).mgnRecord 8 0 d.setpoint (d.f R.SUP_AVS 0 12)).mgnNotice 7
    else d
  | none => d

/-! ## Calibration triggers (R149, R166, R366) -/

/-- A calibration request of the planner: record and notice. -/
def Dev.calNotice (d : Dev) (k : Nat) : Dev := (d.mgnRecord 7 k 0 0).mgnNotice 4

/-- A lane's temperature has moved by more than CAL_DT since a kind last ran. -/
def Dev.laneTemp (d : Dev) (n : Nat) (temp : Int) : Dev :=
  let r := d.radio n
  let dt := d.f (R.LAN_CFG n) 16 8
  let m := (List.range 4).foldl (fun m i =>
    let t := tget (fun _ => (0 : Int)) r.calTemp i
    if t != 0 && decide (dt < (temp - (t - 1000)).natAbs) then m + 2 ^ i else m) 0
  if d.b (R.LAN_CFG n) 8 && decide (m ≠ 0) then d.setPend n (r.calPend ||| m) else d

/-- A receiver's temperature has moved by more than CAL_DT since its last calibration: CAL_DUE and a notice. -/
def Dev.acrTempDue (d : Dev) (a : Nat) (temp : Int) : Dev :=
  let dt := d.f (R.ACR_CFG a) 16 8
  if d.b (R.ACR_CFG a) 8 && !d.b (R.ACR_STATUS a) 26 && (d.acr a).calTemp != 0 &&
      decide (dt < (temp - ((d.acr a).calTemp - 1000)).natAbs)
  then (d.setB (R.ACR_STATUS a) 26 true).mgnNotice 4 else d

/-! ## Bursts (R358, R362) -/

/-- The measurement is in place: the outputs, the shorts and the voltage follow. -/
def Dev.replan (d : Dev) (k : Nat) : Dev :=
  let d := d.outputs k
  (if k < 64 then d.engShort k else if k < 68 then d.mpShort ((k - 64) / 2) else d).planVoltage

-- Marked: DESIGN CHOICE, log entry 10.
/-- SENTINEL_BURST: ring `k` has completed a burst of `burst` ticks at `mv` and `temp`. -/
def Dev.sentinelBurst (d : Dev) (k burst mv : Nat) (temp : Int) : Dev :=
  if !d.pdRun (ringPd k) then d else
  let d := d.setReg (R.MGN_SN_MEAS k) (pack [(16, burst), (0, burst)])
  let d := d.setReg (R.MGN_SN_ENV k) (pack [(16, mv % 1024), (8, patt 8 temp)])
  let d := (d.setRing k { d.ring k with began := d.clk, valid := true }).replan k
  if 70 ≤ k ∧ k < 86 then d.laneTemp (k - 70) temp
  else if k = 86 ∨ k = 88 then d.acrTempDue ((k - 86) / 2) temp
  else d

/-- BURST_TIMEOUT: the ring's burst has not completed within 65,535 ticks. -/
def Dev.burstTimeout (d : Dev) (k : Nat) : Dev :=
  if d.pdRun (ringPd k) && decide ((d.ring k).began + 65535 ≤ d.clk) then
    let d := (d.setF (R.MGN_SN_MEAS k) 0 16 65535).setB (R.MGN_SN_ENV k) 31 true
    let d := (d.setRing k { d.ring k with began := d.clk, valid := true }).mgnRecord 10 k 0 65535
    (d.mgnNotice 5).replan k
  else d

/-! ## Ageing (R359, R360, R366) -/

-- Marked: DESIGN CHOICE, log entry 53.
/-- The slowdown of a burst in ppm, rounded down. -/
def slowdown (k burst mv : Nat) (temp : Int) : Int :=
  let x := ((Config.ringKv k).toNat : Int) * (800 - mv) + ((Config.ringKt k).toNat : Int) * (temp - 25)
  (burst : Int) * 1000000000000 / ((1000000 + x) * ringT0 k) - 1000000

-- Marked: DESIGN CHOICE, log entry 85.
/-- Each minute the latest burst of every measured ring is normalised. -/
def Dev.minute (d : Dev) : Dev := d.forEach (List.range 96) fun d k =>
  if d.burst k = 0 || d.f (R.MGN_SN_MEAS k) 16 16 == 0 then d else
  let r := d.ring k
  let t := sfld (d.reg (R.MGN_SN_ENV k)) 8 8
  let s := slowdown k (d.f (R.MGN_SN_MEAS k) 16 16) (d.f (R.MGN_SN_ENV k) 16 10) t
  d.setRing k { r with weekSum := r.weekSum + s, weekN := r.weekN + 1, tempSum := r.tempSum + t }

/-- Power-on hours H. -/
def Dev.hours (d : Dev) : Nat := d.mgn.onTicks / 576000000000

/-- ⌊AGE × (131,400 ÷ H)^(1/4)⌋. -/
def projection (age h : Nat) : Nat := Nat.sqrt (Nat.sqrt (age ^ 4 * 131400 / h))

/-- The planner requests every kind of the block of ring `k` for ageing; with AUTOCAL = 0 only the notice is raised. -/
def Dev.ageTrigger (d : Dev) (k : Nat) : Dev :=
  let age := d.f (R.MGN_SN_AGE k) 0 24
  let block := decide (70 ≤ k ∧ k < 86) || k == 86 || k == 88 || k == 95
  if !block || decide (age < (d.ring k).calAge + d.f R.MGN_CALAGE 0 24) then d else
  let d := d.calNotice k
  if 70 ≤ k ∧ k < 86 then (if d.b (R.LAN_CFG (k - 70)) 8 then d.setPend (k - 70) 15 else d)
  else if k = 95 then d
  else
    let a := (k - 86) / 2
    if d.b (R.ACR_CFG a) 8 then d.setB (R.ACR_STATUS a) 26 true else d

-- Marked: DEDUCED, log entry 84.
/-- A complete calibration of the block of ring `k` has ended (R366). -/
def Dev.calComplete (d : Dev) (k : Nat) : Dev := d.setRing k { d.ring k with calAge := d.f (R.MGN_SN_AGE k) 0 24 }

/-- The mean of a ring's week goes to the weekly records, and AGE follows; a week without a sample has no mean. -/
def Dev.weekMean (d : Dev) (k : Nat) : Dev :=
  let r := d.ring k
  if r.weekN = 0 then d else
  let s := r.weekSum / (r.weekN : Int)
  let a := mramBase + 0x310000 + 8 * (96 * d.mgn.week + k)
  let d := if d.mgn.week < 832
    then d.wrWords a [wd (patt 32 s), pack [(16, min 65535 r.weekN), (8, patt 8 (r.tempSum / (r.weekN : Int)))]] else d
  let age := max (d.f (R.MGN_SN_AGE k) 0 24) (min 0xFFFFFF s.toNat)
  (d.setReg (R.MGN_SN_AGE k) (pack [(31, 1), (0, age)])).setRing k { r with weekSum := 0, weekN := 0, tempSum := 0 }

-- Marked: DESIGN CHOICE, log entry 53.
/-- One ring at the end of a week: its weekly record and AGE, and from 1,000 h its EOL, with the notice and the record of
kind 11 where that is beyond the limit. -/
def Dev.weekRing (d : Dev) (k : Nat) : Dev :=
  let d := d.weekMean k
  let age := d.f (R.MGN_SN_AGE k) 0 24
  let eol := projection age d.hours
  let d := if d.hours < 1000 then d else
    let d := d.setRing k { d.ring k with eol := eol }
    if d.f R.MGN_EOLLIM 0 24 < eol then (d.mgnRecord 11 k age eol).mgnNotice 6 else d
  d.ageTrigger k

/-- The summary's two copies in the Margin Ledger (R290, R367). -/
abbrev summaryAt (i : Nat) : Nat := mramBase + 0x300000 + 0x8000 * i

-- Marked: DESIGN CHOICE, log entry 94.
/-- The summary: H, and AGE and EOL of each ring. -/
def Dev.putSummary (d : Dev) : Dev :=
  d.putAt summaryAt 780 (d.nextGen summaryAt 780) (natBytes 4 d.hours ++ (List.range 96).flatMap fun k =>
    natBytes 4 (d.f (R.MGN_SN_AGE k) 0 24) ++ natBytes 4 (min 0xFFFFFFFF (d.ring k).eol))

-- Marked: DESIGN CHOICE, log entry 53.
/-- WEEKLY_RECORD. -/
def Dev.weekly (d : Dev) : Dev :=
  let d := d.forEach (List.range 96) Dev.weekRing
  let top := (List.range 96).foldl (fun m k => if (d.ring m).eol < (d.ring k).eol then k else m) 0
  let d := if d.hours < 1000 then d
    else d.setReg R.MGN_EOL (pack [(31, 1), (24, top), (0, min 0xFFFFFF (d.ring top).eol)])
  { d with mgn := { d.mgn with week := d.mgn.week + 1 } }.putSummary

/-! ## Floors (R39, R365) -/

/-- A write of TBG_LEADc's floor: LEAD rises to it in the same tick; recorded. -/
def Dev.leadFloor (d : Dev) (c v : Nat) : Dev :=
  let old := d.f (R.TBG_LEAD c) 16 16
  let d := (d.setF (R.TBG_LEAD c) 16 16 v).mgnRecord 9 c old (v % 65536)
  if d.f (R.TBG_LEAD c) 0 16 < v % 65536 then d.setLead c (v % 65536) else d

/-- A write of MGN_FLOOR or of MGN_MPMIN.FLOOR, recorded. -/
def Dev.floorWrite (d : Dev) (k : Nat) (w : Word) : Dev :=
  let old := d.reg k
  (d.setReg k w).mgnRecord 9 0xFF old.toNat w.toNat

/-- MGN_STATUS. -/
def Dev.mgnStatus (d : Dev) : Word :=
  pack [(31, b2n d.vctl), (30, b2n d.atVmax), (29, b2n d.avsErr), (28, b2n d.shedding), (16, d.f R.MGN_STATUS 16 8),
    (8, d.mgn.recs.length), (7, b2n ((List.range 96).any fun k => d.b (R.MGN_SN_ENV k) 31))]

end Sys2Proof.Machine
end

