-- ==== Sys2Proof/Machine/Rx.lean ====
section
/-!
DEFINITION. Receiving on a path, a lane's or an ACR channel's: detection, the SFD, diversity, and what a frame's end
delivers (R142, R146, R147, R153, R170, R171, R183, R188 to R193).
-/

namespace Sys2Proof.Machine

/-! ## Paths -/

def Dev.pathRx (d : Dev) (p : Path) : Option RxFrame :=
  match p with
  | .lane n => (d.radio n.val).rx
  | .trunk => (d.radio 16).rx
  | .acr a k q => (d.acrPath (Acr.num a) k.val q.val).rx

def Dev.setPathRx (d : Dev) (p : Path) (x : Option RxFrame) : Dev :=
  match p with
  | .lane n => d.onRadio n.val fun r => { r with rx := x }
  | .trunk => d.onRadio 16 fun r => { r with rx := x }
  | .acr a k q =>
    d.setAcrPath (Acr.num a) k.val q.val { d.acrPath (Acr.num a) k.val q.val with rx := x }

/-- The window profile of a lane's open window. -/
def Dev.laneProfile (d : Dev) (n : Nat) : Word :=
  match (d.radio n).win with
  | some (w, _) => d.reg (R.LAN_WPROF n w)
  | none => 0#32

/-- The PHY entry lane `n`'s next search uses (R189). -/
def Dev.lanePhy (d : Dev) (n : Nat) : Word := d.phy (fld (d.laneProfile n) 0 8)

/-- Ticks of one dwell of lane `n`: DWELL symbol periods, 0 acting as 4 (R146, R159). -/
def Dev.dwellTicks (d : Dev) (n : Nat) : Nat :=
  let k := fld (d.laneProfile n) 26 4
  cdiv ((if k = 0 then 4 else k) * 160000000) (phySym (d.radio n).searchPhy)

/-- The PHY entry a path's search in progress uses (R189). -/
def Dev.pathPhy (d : Dev) (p : Path) : Word :=
  match p with
  | .lane n => (d.radio n.val).searchPhy
  | .trunk => 0#32
  | .acr a k q => (d.acrPath (Acr.num a) k.val q.val).searchPhy

/-- THRESH of a path's search in progress, 0 acting as 96 (R190). -/
def Dev.pathThr (d : Dev) (p : Path) : Nat :=
  let t := match p with
    | .lane n => (d.radio n.val).searchThr
    | .trunk => 0
    | .acr a k q => (d.acrPath (Acr.num a) k.val q.val).searchThr
  if t = 0 then 96 else t

/-- The kind of PHY a path's band carries: 1 SUN FSK, 2 O-QPSK (R186, R187); the trunk has its own waveform (R194). -/
def pathKind : Path → Nat
  | .lane n => if n.val < 12 then 1 else 2
  | .trunk => 0
  | .acr a _ _ => if a = .s then 1 else 2

/-- A path searches for preambles: a lane with its window open; an ACR path that is running, enabled and settled; and
no frame in progress on it (R175, R190). -/
def Dev.searching (d : Dev) (p : Path) : Bool :=
  (d.pathRx p).isNone && phyKind (d.pathPhy p) == pathKind p &&
    match p with
    | .lane n => (d.radio n.val).st == sRX
    | .trunk => (d.radio 16).st == sRX
    | .acr a k q =>
      let i := Acr.num a
      decide (k.val < acrChans i) && d.acrState i == 3 && d.b (R.ACRK_CFG i k.val) 31 &&
        d.acrHasPath i k.val q.val && (d.acrPath i k.val q.val).settled

/-- Two consecutive evaluations of the correlation, in 1/256: a preamble is detected where both reach THRESH (R190). The
trunk's training has no THRESH. -/
def Dev.preamble (d : Dev) (p : Path) (r1 r2 : Nat) : Dev :=
  if d.searching p && (p == .trunk || decide (d.pathThr p ≤ r1 ∧ d.pathThr p ≤ r2)) then
    let d := match p with
      | .lane n => d.onRadio n.val fun r => { r with divAer := none, dwellAt := d.clk }
      | .trunk => d
      | .acr a k q =>
        let i := Acr.num a
        d.setAcrPath i k.val q.val { d.acrPath i k.val q.val with mark := false, seen := 0, hits := 0 }
    d.setPathRx p (some { phy := d.pathPhy p })
  else d

/-- A path begins its next search, with the PHY entry as it stands (R189). -/
def Dev.newSearch (d : Dev) (p : Path) : Dev :=
  match p with
  | .lane n => d.onRadio n.val fun r => { r with
      dwellAt := d.clk, searchPhy := d.lanePhy n.val, searchThr := fld (d.laneProfile n.val) 16 8 }
  | .trunk => d
  | .acr a k q => d.acrSearch (Acr.num a) k.val q.val

/-- Eight consecutive evaluations: where all stay below THRESH before an SFD, the detection is given up, the search resumes
and nothing is reported (R190). -/
def Dev.giveUp (d : Dev) (p : Path) (l : List Nat) : Dev :=
  match d.pathRx p with
  | some x => if x.sfd || (p != .trunk && !l.all (· < d.pathThr p)) then d else (d.setPathRx p none).newSearch p
  | none => d

/-- The path hears: an unsettled ACR path passes erasures, on which nothing is found (R175). -/
def Dev.hears (d : Dev) (p : Path) : Bool :=
  match p with
  | .acr a k q => (d.acrPath (Acr.num a) k.val q.val).settled
  | _ => true

-- Marked: DESIGN CHOICE, log entry 116.
/-- The SFD, where what arrived matches it (R191): the receive timestamp is taken, `back` (in 1/256 tick) being the path latency the hardware
removes, and in Full the group delay with it (R37, R178). Found before an aerial was selected, it makes the frame
diversity-short (R146). A lane freezes its gain, which is what its AGC had set (R139). -/
def Dev.sfdFound (d : Dev) (p : Path) (seen : SfdSeen) (back : Nat) : Dev :=
  match d.pathRx p, if p = .trunk then some false else sfdMatch ((d.pathRx p).elim 0#32 (·.phy)) seen with
  | some x, some coded =>
    if x.sfd || !d.hears p then d else
    let gd := match p with
      | .lane _ => 0
      | .trunk => 0
      | .acr a k q => if d.acrFull (Acr.num a) then d.acrGd (Acr.num a) k.val q.val else 0
    let t := (256 * d.count + 2 ^ 72 - back - gd) % 2 ^ 72
    let short := match p with
      | .lane n => bitOf (d.laneProfile n.val) 31 && !x.sel && !(d.radio n.val).divEnded
      | _ => false
    let d := d.setPathRx p (some { x with
      sfd := true, sfdAt := d.clk, coded := coded, sfdCount := t / 256, sub := t % 256, divShort := short, tbState := d.tbState, slewing := d.slewing })
    match p with
    | .lane n =>
      let (g, d) := d.fresh
      (d.onRadio n.val fun r => { r with gain := fld g 0 8 % 12 }).captureAt n.val 0 (t / 256) (t % 256)
    | .trunk => d.captureAt 16 0 (t / 256) (t % 256)
    | .acr _ _ _ => d
  | _, _ => d

/-- A dwell of DWELL symbol periods ends on a lane whose profile has DIV_EN = 1 (R146): the aerial alternates until a preamble is
detected; then the energies of one dwell on each aerial decide, an equal pair choosing the aerial of detection. -/
def Dev.dwell (d : Dev) (n energy : Nat) : Dev :=
  let r := d.radio n
  if r.st != sRX || r.divEnded || !bitOf (d.laneProfile n) 31 || decide (d.clk < r.dwellAt + d.dwellTicks n) then d else
  let r := { r with dwellAt := d.clk }
  let other := 1 - r.winAer
  match r.rx with
  | none => d.setRadio n { r with winAer := other }
  | some x =>
    if x.sfd || x.sel then d else
    match r.divAer with
    | none => d.setRadio n { r with divAer := some energy, winAer := other }
    | some first =>
      d.setRadio n { r with winAer := if first < energy then r.winAer else other, rx := some { x with sel := true } }

/-! ## Frame end -/

/-- LQI of an SNR estimate in 1/16 dB: 8 × (snr + 4), rounded with halves away from zero, within 0 to 255 (R193). -/
def lqiOf (snr : Int) : Nat :=
  let x := snr + 64
  let r : Int := if 0 ≤ x then (x + 1) / 2 else -((-x + 1) / 2)
  (max 0 (min 255 r)).toNat

/-- Blanked fraction in 1/256, rounded down and at most 255 (R170). -/
def blankOf (blanked samples : Nat) : Nat := if samples = 0 then 0 else min 255 (blanked * 256 / samples)

/-- The Link Quality Word of a frame with status `st` (R192). -/
def lqw (st : Nat) (m : Measures) (blank kind : Nat) (ovl blk : Bool) (aer src : Nat) (short : Bool) : List Word :=
  [pack [(16, patt 16 m.rssi), (8, lqiOf m.snr), (0, blank)],
   pack [(16, if st = 2 then 0 else if kind = 1 then m.evm else m.devErr), (14, if st = 2 then 0 else kind), (13, b2n ovl), (12, b2n blk), (11, aer),
     (10, b2n short), (8, src)]]

/-- Deviation error for FSK, EVM for O-QPSK (R193). -/
def qkind (x : RxFrame) : Nat := if phyKind x.phy = 2 then 1 else 2

-- Marked: DESIGN CHOICE, log entries 10 and 13.
/-- A frame ends on a lane: a receive record, a capture of source 1, the current aerial takes the frame's, and a window
an RXC has closed ends (R142, R147, R153). -/
def Dev.laneFrameEnd (d : Dev) (n : Nat) (x : RxFrame) (e : RxEnd) (peak : Int) : Dev :=
  let r := d.radio n
  let psdu := e.octets x.phy
  let st := e.status x.phy
  let rec_ := [pack [(29, st), (28, b2n x.divShort), (16, psdu.length)]] ++ bytesWords psdu ++
    lqw st e.m 0 (qkind x) e.m.clipped false r.winAer 0 x.divShort ++ x.stamp 0 false
  let d := d.setRadio n { r with rx := none, dwellAt := d.clk, searchPhy := d.lanePhy n, searchThr := fld (d.laneProfile n) 16 8, heard := some d.clk, divAer := none, rxq := r.rxq ++ rec_ }
  let d := ((d.capture n 1).setAer n r.winAer).pmcOctets (12 + n) 1 psdu.length
  if r.closeAfter then ((d.closeWin n peak).setSt n sIDLER).mayShut n else d

-- Marked: DESIGN CHOICE, log entry 107.
/-- A frame ends on an ACR path: its samples run through the rank stage and the FIR, and a descriptor goes to each half,
with the overload and blank marks (R169 to R171, R179, R183). -/
def Dev.acrFrameEnd (d : Dev) (a k p : Nat) (x : RxFrame) (e : RxEnd) : Dev :=
  let (path, n, sat) := d.chainRun a k p e.chain (d.acrPath a k p)
  let psdu := e.octets x.phy
  let st := e.status x.phy
  let n := n + path.hits
  let all := e.chain.length + path.seen
  let blk := d.overLimit a k n all
  let ws := [pack [(29, st), (16, psdu.length), (15, p), (8, k), (7, b2n path.mark), (6, b2n blk)]] ++
    bytesWords psdu ++ lqw st e.m (blankOf n all) (qkind x) path.mark blk p (1 + p) false ++ d.acrStamp a x
  let d := if sat then d.setB (R.ACRK_STATUS a k) 22 true else d
  ((d.overGone a fun d => d.setAcrPath a k p { path with rx := none, mark := false }).acrSearch a k p).acrDescriptor a k ws

/-- A frame whose SFD was found ends. `peak` is the highest RSSI of a window this closes. -/
def Dev.frameEnd (d : Dev) (p : Path) (e : RxEnd) (peak : Int) : Dev :=
  match d.pathRx p with
  | none => d
  | some x =>
    if !x.sfd then d else
    match p with
    | .lane n => d.laneFrameEnd n.val x e peak
    | .trunk => d
    | .acr a k q => d.acrFrameEnd (Acr.num a) k.val q.val x e

end Sys2Proof.Machine
end

