-- ==== Sys2Proof/Machine/Trunk.lean ====
section
/-!
DEFINITION. The Rand trunk: roles and claims, superframes, loading maps, the descriptors it sends and the frames it
receives (R194 to R208), and the ends of bus frames, which carry the claims.
-/

namespace Sys2Proof.Machine

/-- The trunk transceiver's radio and Gate Unit. -/
abbrev trk : Nat := 16

/-! ## Roles and command results (R208) -/

/-- TRK_STATUS.ROLE: 0 OFF, 1 SEEKING, 2 MEMBER, 3 COORDINATOR, 4 CONTENDING. -/
def Dev.role (d : Dev) : Nat := d.f R.TRK_STATUS 0 3

/-- Takes a role; a change posts (R206, R396). -/
def Dev.setRole (d : Dev) (v : Nat) : Dev :=
  if d.role = v then d else (d.setF R.TRK_STATUS 0 3 v).hwEvent srcTrunk

def Dev.trkRes (d : Dev) (v : Nat) (done : Bool) : Dev := (d.setF R.TRK_STATUS 28 3 v).setB R.TRK_STATUS 31 done

def Dev.epochT (d : Dev) : Nat := d.f R.TRK_EPOCH 0 16
def Dev.ownEui (_ : Dev) : Nat := Config.eui64.toNat

/-- TRK_SFLEN held within its limits, in ticks. -/
def Dev.sfLenReg (d : Dev) : Nat := 160 * max 1000 (min 20000 (d.f R.TRK_SFLEN 0 15))

-- Marked: DEDUCED, log entry 100.
/-- ENABLE: NO_REF in Timebase state 0; the transceiver warms up and runs all four kinds of R148, then ROLE SEEKING. -/
def Dev.trkEnable (d : Dev) : Dev :=
  if d.role ≠ 0 || d.fw.recov == 1 then d.trkRes 1 true
  else if d.tbState = 0 then d.trkRes 2 true
  else
    let d := d.onRadio trk fun r => { r with
      until_ := d.clk + 32000, enabledAt := d.clk, everEnabled := true, shut := false, chw := d.reg R.TRK_CHAN, calPend := 15
      lastWin := none, kept := [], aer := 0 }
    let d := (d.setF R.TRK_STATUS 16 8 d.station).trkRes 0 false
    (d.setSt trk sWARM).vote 12 0 true

/-- The transceiver's calibration has ended: ROLE SEEKING. -/
def Dev.trkReady (d : Dev) : Dev :=
  if d.role = 0 && (d.radio trk).st == sIDLER && !(d.radio trk).draining then (d.setRole 1).setB R.TRK_STATUS 31 true
  else d

-- Marked: DESIGN CHOICE, log entry 108.
/-- DISABLE: queued descriptors complete with result 3, and the transceiver drains; ROLE is OFF once it has (R157, R208,
log entry 108). -/
def Dev.trkDisable (d : Dev) : Dev :=
  if d.role = 0 then d.trkRes 1 true
  else
    let done := d.trunk.txd.map fun x => pack [(29, 3), (0, fld (x.getD 0 0#32) 0 16)]
    let d := { d with trunk := { d.trunk with
      txd := [], txc := d.trunk.txc ++ done, coordKnown := false, ownClaim := false, ownResign := false
      takeOver := false, winEnd := none, entries := [] } }
    ((d.drain trk).1.setB R.TRK_STATUS 3 false).trkRes 0 true

/-- CLAIM, in SEEKING and MEMBER: a claim frame on the bus. -/
def Dev.trkClaim (d : Dev) : Dev :=
  if d.role ≠ 1 ∧ d.role ≠ 2 then d.trkRes 1 true
  else
    let prev := d.role
    let f : BusFrame := { type := 3, addr := 255
                          data := beBytes 2 d.epochT ++ beBytes 1 (255 - d.f R.TRK_CFG 24 8) ++ beBytes 8 d.ownEui }
    let d := { d with trunk := { d.trunk with ownClaim := true, prevRole := prev } }
    ((d.asbQueue f).setRole 4).trkRes 0 false

/-- RESIGN, in COORDINATOR only. -/
def Dev.trkResign (d : Dev) : Dev :=
  if d.role ≠ 3 then d.trkRes 1 true
  else
    let d := { d with trunk := { d.trunk with ownResign := true } }
    (d.asbQueue { type := 4, addr := 255, data := beBytes 2 d.epochT }).trkRes 0 false

/-! ## Claims and the decision (R204) -/

/-- The first claim or resignation of the epoch opens the window. -/
def Dev.openWindow (d : Dev) : Dev :=
  match d.trunk.winEnd with
  | some _ => d
  | none => { d with trunk := { d.trunk with winEnd := some (d.count + 160 * d.f R.TRK_TIMES 0 16), entries := [] } }

/-- A claim completes on the bus; one of another epoch is ignored, and the sender reads STALE. -/
def Dev.claimSeen (d : Dev) (e prio eui : Nat) (own : Bool) : Dev :=
  if e ≠ d.epochT then
    if own then
      let d := { d with trunk := { d.trunk with ownClaim := false } }
      (if d.role = 4 then d.setRole d.trunk.prevRole else d).trkRes 5 true
    else d
  else
    let d := d.openWindow
    match d.trunk.winEnd with
    | some w =>
      if d.count ≤ w then { d with trunk := { d.trunk with entries := d.trunk.entries ++ [⟨prio, eui⟩] } } else d
    | none => d

/-- A resignation completes on the bus. -/
def Dev.resignSeen (d : Dev) (e : Nat) : Dev :=
  if e ≠ d.epochT then d
  else { d.openWindow with trunk := { d.openWindow.trunk with resigned := true } }

/-- The entry with the highest priority, and among equals the lowest EUI-64. -/
def winnerOf : List Claim → Option Claim
  | [] => none
  | c :: r =>
    match winnerOf r with
    | none => some c
    | some b => if b.prio < c.prio ∨ (b.prio = c.prio ∧ c.eui ≤ b.eui) then some c else some b

-- Marked: DEDUCED, log entries 23 and 23.
/-- The claim window closes and the winner is decided (R204). Only a claim of this station that is among the entries is
answered; one still queued on the bus meets the epoch that stands when it completes. -/
def Dev.claimEnd (d : Dev) : Dev :=
  match d.trunk.winEnd with
  | none => d
  | some w =>
    if d.count < w then d else
    let t := d.trunk
    let mine := t.ownClaim && t.entries.any (·.eui == d.ownEui)
    let entries := t.entries ++ if t.coordKnown && !t.resigned then [⟨t.coordPrio, t.coordEui⟩] else []
    let base := { d with trunk := { t with
      winEnd := none, entries := [], ownClaim := t.ownClaim && !mine, ownResign := false } }
    match winnerOf entries with
    | none =>
      let base := { base with trunk := { base.trunk with resigned := false } }
      if t.ownResign then base.trkRes 4 true else base
    | some c =>
      let e := (d.epochT + 1) % 65536
      let won := decide (c.eui = d.ownEui)
      let d := { base with trunk := { base.trunk with
        coordPrio := c.prio, coordEui := c.eui, coordKnown := true, resigned := false, takeOver := won } }
      let d := d.setReg R.TRK_ROLEEV (pack [(31, 1), (30, b2n won), (16, min 255 entries.length), (0, e)])
      let d := (d.setF R.TRK_EPOCH 0 16 e).setB R.TRK_STATUS 3 false
      if d.role = 0 || (d.radio trk).draining then d
      else if won then
        let d := (d.setF R.TRK_EPOCH 16 8 d.station).setRole 3
        if mine then d.trkRes 0 true else d
      else
        let d := if d.role = 3 then d.setRole 2 else if d.role = 4 && mine then d.setRole t.prevRole else d
        if mine then d.trkRes 3 true else if t.ownResign then d.trkRes 0 true else d

/-! ## Peers and maps (R198 to R200) -/

/-- The peer entry of a station. -/
def Dev.peerOf (d : Dev) (station : Nat) : Option Nat :=
  (List.range 6).find? fun p => d.b (R.TRK_PEER_CTRL p) 31 && d.f (R.TRK_PEER_CTRL p) 0 8 == station

/-- A map's 48 entries. -/
def Dev.mapOf (d : Dev) (base : Nat) : List Nat :=
  (List.range 48).map fun k => fld (d.reg (base + 4 * (k / 8))) (4 * (k % 8)) 4

/-- Writes a map's entries. -/
def Dev.setMap (d : Dev) (base : Nat) (m : List Nat) : Dev :=
  d.forEach (List.range 6) fun d w =>
    d.setReg (base + 4 * w) (pack ((List.range 8).map fun i => (4 * i, m.getD (8 * w + i) 0)))

abbrev defaultMap : List Nat := List.replicate 48 2

/-- Both maps of a peer return to generation 0 (R200). -/
def Dev.resetMaps (d : Dev) (p : Nat) : Dev :=
  let d := (d.setMap (R.TRK_PEER_TXMAP p 0) defaultMap).setMap (R.TRK_PEER_RXMAP p 0) defaultMap
  let t := d.trunk
  { d with trunk := { t with
      snr := tdel p t.snr, prevGen := tdel p t.prevGen, mapSentAt := tdel p t.mapSentAt
      mapq := t.mapq.filter (· ≠ p), mapDefer := t.mapDefer.filter (· ≠ p) } }.setReg (R.TRK_PEER_MAPGEN p) 0#32

/-- A write of TRK_PEERp_CTRL: a new station address resets the maps of a valid entry, and an entry that becomes valid has
just been written (R200). -/
def Dev.peerCtrl (d : Dev) (p : Nat) (w : Word) : Dev :=
  let old := d.reg (R.TRK_PEER_CTRL p)
  let d := d.setReg (R.TRK_PEER_CTRL p) (w &&& 0x800000FF#32)
  if bitOf w 31 && (fld old 0 8 != fld w 0 8 || !bitOf old 31) then d.resetMaps p
  else if fld old 0 8 != fld w 0 8 && bitOf old 31 then d.resetMaps p else d

/-- A write of a peer's EUI-64. -/
def Dev.peerEui (d : Dev) (p k : Nat) (w : Word) : Dev :=
  let moved := d.reg k != w
  let d := d.setReg k w
  if moved && d.b (R.TRK_PEER_CTRL p) 31 then d.resetMaps p else d

/-- THR(b) in 0.25 dB. -/
def Dev.thr (d : Dev) (b : Nat) : Nat :=
  d.f (if b ≤ 4 then R.TRK_LTHR0 else if b ≤ 8 then R.TRK_LTHR1 else R.TRK_LTHR2) (8 * ((b - 1) % 4)) 8

/-- The loading of one sub-carrier whose SNRs sum to `sum` over `n` symbols (R198). -/
def Dev.loading (d : Dev) (sum : Int) (n : Nat) : Nat :=
  let m := 2 * d.f R.TRK_CFG 10 6
  ((List.range (min 10 (d.f R.TRK_CFG 16 4))).reverse.find? fun i => decide ((((d.thr (i + 1) + m) * n : Nat) : Int) ≤ sum)).elim 0 (· + 1)

def Dev.txGen (d : Dev) (p : Nat) : Nat := d.f (R.TRK_PEER_MAPGEN p) 4 4
def Dev.rxGen (d : Dev) (p : Nat) : Nat := d.f (R.TRK_PEER_MAPGEN p) 0 4

def addOnce (l : List Nat) (p : Nat) : List Nat := if l.contains p then l else l ++ [p]

/-- Queues the current receive map to a peer. -/
def Dev.queueMap (d : Dev) (p : Nat) : Dev :=
  { d with trunk := { d.trunk with mapq := addOnce d.trunk.mapq p, mapDefer := d.trunk.mapDefer.filter (· ≠ p) } }

/-- MAPHOLD has passed since the last map frame to a peer (R199). -/
def Dev.mapHeld (d : Dev) (p : Nat) : Bool :=
  let t := tget zeroDflt d.trunk.mapSentAt p
  decide (t = 0 ∨ t - 1 + d.f R.TRK_TIMES 16 16 * ms ≤ d.clk)

/-- One sounding symbol: the map is recomputed, and a changed one becomes the next generation and is queued, at once if
it lowers an entry (R198, R199). -/
def Dev.sounding (d : Dev) (p : Nat) (snr : List Int) : Dev :=
  let keep := 2 ^ min 6 (d.f R.TRK_CFG 20 4)
  let l := (snr :: tget nilDflt d.trunk.snr p).take keep
  let d := { d with trunk := { d.trunk with snr := tput nilDflt d.trunk.snr p l } }
  let new : List Nat := (List.range 48).map fun k => d.loading (l.foldl (fun s x => s + x.getD k 0) 0) l.length
  let old := d.mapOf (R.TRK_PEER_RXMAP p 0)
  if new = old then d else
  let g := d.rxGen p
  let d := { d with trunk := { d.trunk with prevGen := tput zeroDflt d.trunk.prevGen p (g + 1) } }
  let d := (d.setMap (R.TRK_PEER_RXMAP p 0) new).setF (R.TRK_PEER_MAPGEN p) 0 4 (g % 15 + 1)
  if (List.range 48).any (fun k => decide (new.getD k 0 < old.getD k 0)) || d.mapHeld p then d.queueMap p
  else { d with trunk := { d.trunk with mapDefer := addOnce d.trunk.mapDefer p } }

/-- A raised map whose hold is over is queued (R199). -/
def Dev.mapQueue (d : Dev) (p : Nat) : Dev :=
  if d.trunk.mapDefer.contains p && d.mapHeld p then d.queueMap p else d

/-! ## Airtime and slots (R195, R197, R202, R203) -/

/-- Airtime of a trunk frame of `len` payload octets at a rate, with `nsnd` sounding symbols, over a map; none where the
map carries no bit. -/
def trunkAir (len rate nsnd : Nat) (m : List Nat) : Option Nat :=
  let nbps := m.foldl (· + ·) 0
  if nbps = 0 then none else
  let k := [1152, 1536, 1920].getD rate 1920
  some (3840 + 640 * nsnd + 640 * cdiv (2304 * cdiv (8 * (len + 4)) k) nbps)

/-- The slot table of the registers, slot 0 being the coordinator's own broadcast slot (R202). -/
def Dev.ownSlots (d : Dev) : List (Word × Word) :=
  (List.range 16).map fun k =>
    (d.reg (R.TRK_SLOT_T k), if k = 0 then pack [(8, d.station), (0, 255)] else d.reg (R.TRK_SLOT_P k))

-- Marked: DESIGN CHOICE, log entry 22.
/-- An airtime that starts now lies inside a slot in which this station transmits, to a receiver as `dst` says (R203). The
table is that of the beacon which opened the superframe, also once a decision has begun a new epoch (R202, R205). -/
def Dev.inSlot (d : Dev) (air : Nat) (dst : Nat → Bool) : Bool :=
  let t := (d.cluster + 2 ^ 64 - d.trunk.sfStart) % 2 ^ 64
  (d.role == 2 || d.role == 3 || (d.role == 4 && d.trunk.prevRole == 2)) &&
    d.trunk.slots.any fun s =>
      bitOf s.1 31 && fld s.2 8 8 == d.station && dst (fld s.2 0 8) &&
        decide (160 * fld s.1 16 15 ≤ t ∧ t + air ≤ 160 * (fld s.1 16 15 + fld s.1 0 15))

/-- A queued descriptor by TAG. -/
def Dev.txdOf (d : Dev) (tag : Nat) : Option (List Word) :=
  d.trunk.txd.find? fun x => fld (x.getD 0 0#32) 0 16 == tag

/-- The transmit map for a destination: the peer's, or the default for broadcast and for a station with none. -/
def Dev.txMapFor (d : Dev) (dst : Nat) : List Nat :=
  match d.peerOf dst with
  | some p => if dst = 255 then defaultMap else d.mapOf (R.TRK_PEER_TXMAP p 0)
  | none => defaultMap

/-- The peer to whom a map frame goes out ahead of a frame to `dst` (R199). -/
def Dev.mapAhead (d : Dev) (dst : Nat) : Option Nat :=
  match d.peerOf dst with
  | some p => if d.trunk.mapq.contains p then some p else none
  | none => none

-- Marked: DESIGN CHOICE, log entry 22.
/-- Airtime of a descriptor, with the map frame that goes ahead of it. -/
def Dev.txdAir (d : Dev) (x : List Word) : Option Nat :=
  let w := x.getD 0 0#32
  let m := d.txMapFor (fld w 24 8)
  match trunkAir (fld (x.getD 2 0#32) 0 14 + 1) (fld w 22 2) (fld w 20 2) m with
  | none => none
  | some a =>
    match d.mapAhead (fld w 24 8) with
    | none => some a
    | some _ => (trunkAir 25 0 0 m).map (· + a)

-- Marked: DEDUCED, log entry 11.
/-- The band the transceiver occupies, in 25 Hz units: 52 tones and their spacing about the tuned centre. -/
def Dev.trkBand (d : Dev) : Nat × Nat :=
  let c := (2400 + fld (d.radio trk).chw 0 7) * 40000
  (c - 331250, c + 331250)

-- Marked: DESIGN CHOICE, log entry 22.
/-- Driver level, −20 to +10 dBm, plus external gain, in 0.5 dB steps (R194, R203). -/
def Dev.trkLevel (d : Dev) : Int := max (-40) (min 20 Config.trunkDriver) + 2 * (d.f R.TRK_CFG 5 5 : Int)

/-- A frame as it goes out (R195 to R197). -/
def Dev.trkTx (d : Dev) (type dst rate mgen nsnd : Nat) (m : List Nat) (payload : List Byte) : TrunkTx :=
  { symbols := trunkFrameSymbols (trunkHeader type d.station dst (payload.length - 1) rate mgen nsnd) nsnd
      (trunkSymbols m (trunkCoded rate payload)) }

/-- The 25 octets of the map frame to a peer: its receive map, low nibble first, then the generation (R199). -/
def Dev.mapFrame (d : Dev) (p : Nat) : List Byte :=
  let m := d.mapOf (R.TRK_PEER_RXMAP p 0)
  ((List.range 24).map fun i => BitVec.ofNat 8 (m.getD (2 * i) 0 + 16 * m.getD (2 * i + 1) 0)) ++ [BitVec.ofNat 8 (d.rxGen p)]

/-- The frames of a TXS: the map frame that goes ahead, then the descriptor's, on the map to its destination. -/
def Dev.txdFrames (d : Dev) (x : List Word) : List TrunkTx :=
  let w := x.getD 0 0#32
  let dst := fld w 24 8
  let m := d.txMapFor dst
  let gen := match d.peerOf dst with | some p => if dst = 255 then 0 else d.txGen p | none => 0
  let pay := d.rdBytes (storeBase + (x.getD 1 0#32).toNat % 0xC00000) (fld (x.getD 2 0#32) 0 14 + 1)
  ((d.mapAhead dst).toList.map fun p => d.trkTx 1 dst 0 gen 0 m (d.mapFrame p)) ++
    [d.trkTx 0 dst (fld w 22 2) gen (fld w 20 2) m pay]

-- Marked: DESIGN CHOICE, log entry 108.
/-- A destination the station exchanges frames with: a valid peer, or every one (R201). -/
def Dev.trkKnows (d : Dev) (dst : Nat) : Bool := dst == 255 || (d.peerOf dst).isSome

/-- Takes a descriptor off the queue. -/
def Dev.dropTxd (d : Dev) (tag : Nat) : Dev :=
  { d with trunk := { d.trunk with txd := d.trunk.txd.eraseP fun x => fld (x.getD 0 0#32) 0 16 == tag } }

-- Marked: DESIGN CHOICE, log entry 13.
def Dev.pushTxc (d : Dev) (res tag : Nat) : Dev :=
  { d with trunk := { d.trunk with txc := d.trunk.txc ++ [pack [(29, res), (0, tag)]] } }

-- Marked: DESIGN CHOICE, log entry 22.
/-- The check of R47 for the trunk: a TXS that names no queued TAG is missed. -/
def Dev.trkTxsCheck (d : Dev) (k : Nat) : Dev :=
  match d.armOf trk k with
  | some a =>
    if a.cls = 5 && !a.checked && decide (a.fire ≤ d.count + 320) then
      let ready := (d.txdOf a.param).isSome
      let d := d.checkArm trk k a ready
      if ready then d else d.pushTxc 2 a.param
    else d
  | none => d

-- Marked: DESIGN CHOICE, log entry 22.
/-- A TXS on GU16 at its firing count, by the order of R430. -/
def Dev.fireTxsTrunk (d : Dev) (k : Nat) (a : Arming) : Dev :=
  let tag := a.param
  let ok (d : Dev) : Dev := (d.fired trk k a).noteFired trk a
  match gateRefusal 5 (d.radio trk).st false with
  | some why => (ok d).refuse trk k 5 why
  | none =>
    if d.pinControl then (ok d).refuse trk k 5 10 else
    match d.txdOf tag with
    | none => ok d
    | some x =>
      match d.txdAir x with
      | none => (ok d).refuse trk k 5 8
      | some air =>
        if !d.inSlot air (fun _ => true) || !d.trkKnows (fld (x.getD 0 0#32) 24 8) then (ok d).refuse trk k 5 8 else
        let frames := d.txdFrames x
        let (lo, hi) := d.trkBand
        match d.sealCheck trk lo hi d.trkLevel air with
        | some (why, sub) =>
          ((((d.endArming trk k a 2).pmcEvent 0x05).deny trk why sub).dropTxd tag).pushTxc 1 tag
        | none =>
          let d := match d.mapAhead (fld (x.getD 0 0#32) 24 8) with
            | none => d
            | some p => { d with trunk := { d.trunk with
                mapq := d.trunk.mapq.filter (· ≠ p)
                mapSentAt := tput zeroDflt d.trunk.mapSentAt p (d.clk + 1) } }
          let d := (ok d).charge trk lo hi air
          let d := { d with trunk := { d.trunk with air := frames } }
          let n := fld (x.getD 2 0#32) 0 14 + 1
          (((d.dropTxd tag).startTx trk air tag).pmcOctets 28 2 (n + 25 * (frames.length - 1))).msTraffic
            (storeBase + (x.getD 1 0#32).toNat % 0xC00000) n 2

/-- TXS on GU16. -/
def Dev.fireTrkTxs (d : Dev) (k : Nat) : Dev :=
  let d := d.settle trk
  match d.due trk k 5 with
  | none => d
  | some _ =>
    let d := (d.beforeGate trk).trkTxsCheck k
    match d.armOf trk k with
    | some a => (d.fireTxsTrunk k a).mayShut trk
    | none => d

/-! ## Superframes (R202, R206) -/

/-- The 109 octets of a beacon: epoch, TRK_SFLEN, PRIO, EUI-64 and the slot table, octets low first (R202, log entry 18). -/
def Dev.beacon (d : Dev) : List Byte :=
  natBytes 2 d.epochT ++ natBytes 2 (d.sfLenReg / 160) ++ natBytes 1 (d.f R.TRK_CFG 24 8) ++ natBytes 8 d.ownEui ++
    d.ownSlots.flatMap fun s => natBytes 2 (fld s.1 16 15) ++ natBytes 2 (if bitOf s.1 31 then fld s.1 0 15 else 0) ++
      natBytes 1 (fld s.2 8 8) ++ natBytes 1 (fld s.2 0 8)

/-- A frame the hardware sends by itself from IDLE_T, if the Seal permits (R154, R429): a denied one leaves only the denial. -/
def Dev.sendOwn (d : Dev) (air : Nat) (x : TrunkTx) (octets : Nat) (act : Dev → Dev) : Dev :=
  let (lo, hi) := d.trkBand
  if (d.radio trk).st ≠ sIDLET || d.pinControl then d else
  match d.sealCheck trk lo hi d.trkLevel air with
  | some (why, sub) => d.deny trk why sub
  | none =>
    let d := { d.charge trk lo hi air with trunk := { d.trunk with air := [x] } }
    (act (((d.onRadio trk fun r => { r with until_ := d.clk + air, tx := none }).setSt trk sTX).capture trk 2)).pmcOctets
      28 2 octets

-- Marked: DESIGN CHOICE, log entry 22.
/-- The coordinator's beacon: 120 µs in slot 0 from IDLE_T (R202). The PRIO it carries is the one the coordinator defends with
from then on, at every station (R204). -/
def Dev.sendBeacon (d : Dev) : Dev :=
  d.sendOwn 19200 (d.trkTx 2 255 0 0 0 defaultMap d.beacon) 109 fun d =>
    ({ d with trunk := { d.trunk with coordPrio := d.f R.TRK_CFG 24 8 } }).setB R.TRK_STATUS 3 true

-- Marked: DESIGN CHOICE, log entry 22.
/-- A map frame queued for a peer goes out by itself as soon as its airtime lies in a slot of this station to that peer, from
IDLE_T and where no TXS is armed to begin before its end (R199; log entry 22). -/
def Dev.mapSlot (d : Dev) : Dev :=
  if d.trunk.mapq.isEmpty || (d.radio trk).st ≠ sIDLET || !d.pdRun 12 || d.pdPrep 12 then d else
  let go := d.trunk.mapq.find? fun p =>
    match trunkAir 25 0 0 (d.txMapFor (d.f (R.TRK_PEER_CTRL p) 0 8)) with
    | some air => d.inSlot air (· == d.f (R.TRK_PEER_CTRL p) 0 8) &&
        !(d.armed trk).any fun ka => ka.2.cls == 5 && decide (ka.2.fire ≤ d.count + air)
    | none => false
  match go with
  | none => d
  | some p =>
    let dst := d.f (R.TRK_PEER_CTRL p) 0 8
    let m := d.txMapFor dst
    d.sendOwn ((trunkAir 25 0 0 m).getD 0) (d.trkTx 1 dst 0 (d.txGen p) 0 m (d.mapFrame p)) 25 fun d =>
      { d with trunk := { d.trunk with
        mapq := d.trunk.mapq.filter (· ≠ p), mapSentAt := tput zeroDflt d.trunk.mapSentAt p (d.clk + 1) } }

-- Marked: DESIGN CHOICE, log entry 22; DEDUCED, log entry 23.
/-- Superframe n starts at SF0 + n × TRK_SFLEN. The coordinator takes its slot table and sends a beacon; any other has no slot
table until it decodes a beacon, and for which none opens it counts a miss, and a member at LOSTSF takes ROLE SEEKING (R202, R206). -/
def Dev.superframe (d : Dev) (heard : Bool) : Dev :=
  let d := (d.endTurn trk sTURN).txEnd trk
  let now := d.cluster
  let start := d.trunk.sfNext.getD now
  let isDue := match d.trunk.sfNext with
    | some t => decide (t ≤ now)
    | none => d.role == 3
  if d.role = 0 || (d.radio trk).draining || !isDue then d
  else if d.role = 3 then
    let len := d.sfLenReg
    let d := { d with trunk := { d.trunk with
      sfStart := start, sfLen := len, sfNext := some (start + len), slots := d.ownSlots, takeOver := false } }
    (d.setF R.TRK_STATUS 8 8 0).sendBeacon
  else
    let d := { d with trunk := { d.trunk with sfStart := start, sfNext := some (start + d.trunk.sfLen), slots := [] } }
    if heard then d else
    let m := min 255 (d.f R.TRK_STATUS 8 8 + 1)
    let d := d.setF R.TRK_STATUS 8 8 m
    if max 1 (d.f R.TRK_CFG 2 3) ≤ m then
      let d := { d with trunk := { d.trunk with coordKnown := false } }
      if d.role = 2 then d.setRole 1 else d
    else d

end Sys2Proof.Machine

namespace Sys2Proof

/-- Header fields (R196). -/
def TrunkRx.field (x : TrunkRx) (lo n : Nat) : Nat := x.header.toNat / 2 ^ lo % 2 ^ n
def TrunkRx.type (x : TrunkRx) : Nat := x.field 38 2
def TrunkRx.src (x : TrunkRx) : Nat := x.field 30 8
def TrunkRx.dst (x : TrunkRx) : Nat := x.field 22 8
def TrunkRx.len (x : TrunkRx) : Nat := x.field 8 14
def TrunkRx.rate (x : TrunkRx) : Nat := x.field 6 2
def TrunkRx.mgen (x : TrunkRx) : Nat := x.field 2 4
def TrunkRx.nsnd (x : TrunkRx) : Nat := x.field 0 2

/-- The payload with its CRC-32, descrambled (R197). -/
def TrunkRx.octets (x : TrunkRx) : List Byte := Machine.bitOctets (Machine.scramble 0x7F (Machine.bitsLow x.scrambled))
def TrunkRx.payload (x : TrunkRx) : List Byte := x.octets.take (x.len + 1)

/-- The header passes its CRC-8, and its TYPE and RATE are not reserved (R196). -/
def TrunkRx.headerOk (x : TrunkRx) : Bool :=
  x.crc8.toNat == Machine.crc8 (Machine.bitsHigh 40 x.header.toNat) && decide (x.type < 3 ∧ x.rate < 3)

/-- The payload passes its CRC-32 (R194). -/
def TrunkRx.crcOk (x : TrunkRx) : Bool := x.octets.drop (x.len + 1) == Machine.natBytes 4 (Machine.crc32 x.payload).toNat

end Sys2Proof

namespace Sys2Proof.Machine

/-! ## Receiving (R196, R199, R202, R207) -/

-- Marked: DESIGN CHOICE, log entry 108.
/-- A received map: 48 entries, low nibble first, then the generation (R199); generation 0 is the default map. One with an
entry above 10, which no sub-carrier can carry (R194), is not taken. -/
def Dev.takeMap (d : Dev) (p : Nat) (l : List Byte) : Dev :=
  let g := (l.getD 24 0#8).toNat % 16
  let m := (List.range 48).map fun k => (l.getD (k / 2) 0#8).toNat / (if k % 2 = 0 then 1 else 16) % 16
  if g ≠ 0 ∧ m.any (10 < ·) then d else
  (d.setMap (R.TRK_PEER_TXMAP p 0) (if g = 0 then defaultMap else m)).setF (R.TRK_PEER_MAPGEN p) 4 4 g

-- Marked: PRESUMED, log entry 18.
/-- A received beacon (R202): little-endian fields in the order R202 gives (log entry 18). -/
def Dev.takeBeacon (d : Dev) (x : TrunkRx) : Dev :=
  if d.role = 0 || d.role == 3 || (d.radio trk).draining then d else
  let l := x.payload
  let num (o n : Nat) : Nat := leNat ((l.drop o).take n)
  let epoch := num 0 2
  let len := 160 * num 2 2
  let start := (d.cluster + 2 ^ 64 - x.startAgo) % 2 ^ 64
  let slots := (List.range 16).map fun k =>
    let o := 13 + 6 * k
    (pack [(31, b2n (num (o + 2) 2 != 0)), (16, num o 2 % 32768), (0, num (o + 2) 2 % 32768)],
     pack [(8, num (o + 4) 1), (0, num (o + 5) 1)])
  let fresh := epoch != d.epochT || !d.b R.TRK_STATUS 3
  let d := if fresh then d.setReg R.TRK_EPOCH (pack [(16, x.src), (0, epoch)]) else d.setF R.TRK_EPOCH 16 8 x.src
  let d := { d with trunk := { d.trunk with
    sfStart := start, sfLen := len, sfNext := some (start + len), slots := slots
    coordPrio := num 4 1, coordEui := num 5 8, coordKnown := true } }
  let d := (d.setF R.TRK_STATUS 8 8 0).setB R.TRK_STATUS 3 true
  if d.role = 1 then d.setRole 2 else d

-- Marked: DESIGN CHOICE, log entry 108.
/-- The port a frame is received on: with DIV_EN the one whose training has the higher energy, T_A where they are equal;
without it the current aerial (R195). -/
def Dev.trkPort (d : Dev) (x : TrunkRx) : Nat :=
  if d.b R.TRK_CFG 1 then b2n (decide (x.energyA < x.energyB)) else (d.radio trk).aer

/-- The record of a data frame (R207). -/
def Dev.trkRecord (d : Dev) (f : RxFrame) (x : TrunkRx) (status : Nat) (buf : Word) : Dev :=
  let ws := [pack [(29, status), (0, x.len)], buf,
      pack [(30, x.type), (22, x.src), (14, x.dst), (10, x.mgen)]] ++
    lqw status x.m 0 1 x.m.clipped false (d.trkPort x) 3 false ++ f.stamp 3 false
  { d with trunk := { d.trunk with rxr := d.trunk.rxr ++ [ws] } }

/-- A data frame takes the buffer at the head of RXB (R207). -/
def Dev.takeData (d : Dev) (f : RxFrame) (x : TrunkRx) (abandoned : Bool) : Dev :=
  match d.trunk.rxb with
  | [] => d.bumpF R.TRK_CNT 0 16 1
  | (addr, cap) :: rest =>
    let d := { d with trunk := { d.trunk with rxb := rest } }
    if abandoned || decide (cap.toNat < x.payload.length) then d.trkRecord f x 2 addr
    else
      let d := d.msWrite (storeBase + addr.toNat % 0xC00000) x.payload
      (d.trkRecord f x (if x.crcOk then 0 else 1) addr).pmcOctets 28 1 x.payload.length

/-- What a frame from a valid peer does (R196 to R202, R207). -/
def Dev.takeTrunk (d : Dev) (p : Nat) (f : RxFrame) (x : TrunkRx) : Dev :=
  let d := d.forEach (x.soundings.take x.nsnd) fun d s => d.sounding p s
  if x.dst ≠ d.station ∧ x.dst ≠ 255 then d else
  let prev := tget zeroDflt d.trunk.prevGen p
  let known := x.mgen == 0 || x.mgen == d.rxGen p || prev == x.mgen + 1
  if !known then
    let d := (d.bumpF R.TRK_CNT 16 16 1).queueMap p
    if x.type = 0 then d.takeData f x true else d
  else match x.type with
    | 0 => d.takeData f x false
    | 1 => if x.crcOk && x.payload.length == 25 then d.takeMap p x.payload else d
    | _ => if x.crcOk && x.payload.length == 109 then d.takeBeacon x else d

/-- The trunk frame in progress ends (R195 to R200, R207); a window that an RXC has closed meanwhile ends with it (R143). -/
def Dev.trunkFrame (d : Dev) (x : TrunkRx) (peak : Int) : Dev :=
  match (d.radio trk).rx with
  | none => d
  | some f =>
    if !f.sfd then d else
    let d := d.onRadio trk fun r => { r with rx := none, heard := some d.clk }
    let d := if (d.radio trk).st ≠ sRX || !x.headerOk then d else
      match d.peerOf x.src with
      | none => d
      | some p => (d.capture trk 1).takeTrunk p f x
    if (d.radio trk).closeAfter then ((d.closeWin trk peak).setSt trk sIDLER).mayShut trk else d

/-! ## The end of a bus frame (R204, R327, R329) -/

/-- A role message reaches the trunk block (R325). -/
def Dev.roleMessage (d : Dev) (f : BusFrame) (own : Bool) : Dev :=
  let e := beNat (f.data.take 2)
  if f.type = 3 then d.claimSeen e (255 - (f.data.getD 2 0#8).toNat) (beNat ((f.data.drop 3).take 8)) own
  else d.resignSeen e

/-- A received intact frame, addressed to this station or broadcast: acknowledged, and delivered (R324, R325, R327). -/
def Dev.asbReceive (d : Dev) (src : Nat) (f : BusFrame) : Dev :=
  if f.addr ≠ d.station ∧ f.addr ≠ 255 then d else
  let d := { d with asb := { d.asb with line := [false] } }
  match f.type with
  | 1 => d.asbDeliver f
  | 2 => (d.asbDeliver f).asbFollow src (beNat f.data)
  | 3 => d.roleMessage f false
  | 4 => d.roleMessage f false
  | 5 => d.asbDeliver f
  | 6 => d.asbDeliver f
  | _ => d

-- Marked: DESIGN CHOICE, log entry 24.
/-- The frame this station sends has reached its EOF: done, sent again, or dropped with NOACK (R327). -/
def Dev.asbSent (d : Dev) (ok : Bool) : Dev :=
  match d.asb.cur, d.asb.sending with
  | some k, some f =>
    let result (d : Dev) (w : Word) : Dev := if 4 < f.type then d.setReg R.ASB_TXRES w else d
    if ok then
      let d := d.asbDone k
      if f.type = 3 ∨ f.type = 4 then d.roleMessage f true else result d 0x80000000#32
    else
      let tries := (d.asb.txq.getD k default).2
      if tries < d.f R.ASB_CFG 16 4 then
        { d with asb := { d.asb with txq := d.asb.txq.set k (f, tries + 1), sending := none } }
      else result (d.asbDone k) 0x80000001#32
  | _, _ => d

-- Marked: DESIGN CHOICE, log entry 24.
/-- A bus frame completes, for its sender or for a receiver, at the end of its EOF of 7 recessive bits; after a stuff error
the line is watched anew (R324, R327). -/
def Dev.asbComplete (d : Dev) (x : BusEnd) : Dev :=
  if !d.asbEn || !d.pdRun 2 then d else
  let since := match x with | .stuffError => d.clk | _ => d.clk - 7 * us
  let d := { d with asb := { d.asb with quiet := some since } }
  match x with
  | .crcError => d.bumpF R.ASB_CNT 24 8 1
  | .stuffError => d.bumpF R.ASB_CNT 16 8 1
  | .other src f ago =>
    let caps := tput (fun _ => none) d.asb.syncCaps src (some (d.count - ago))
    (if f.type = 1 then { d with asb := { d.asb with syncCaps := caps } } else d).asbReceive src f
  | .own acked bitError => d.asbSent (acked && !bitError)

end Sys2Proof.Machine
end

