-- ==== Sys2Proof/Machine/Supply.lean ====
section
/-!
DEFINITION. The mains monitor, power-fail warning, core undervoltage, and Ride-Through (R337 to R346, R356).
-/

namespace Sys2Proof.Machine

/-! ## Event records (R340) -/

/-- SUP_EVINFO, SUP_EVSTART and SUP_EVDUR show the oldest record. -/
def Dev.showSup (d : Dev) : Dev :=
  let lost := min 255 d.sup.lost
  match d.sup.events with
  | [] => ((d.setReg R.SUP_EVINFO (pack [(16, lost)])).setPair R.SUP_EVSTART_LO R.SUP_EVSTART_HI 0).setReg R.SUP_EVDUR 0#32
  | e :: _ =>
    let d := d.setReg R.SUP_EVINFO (pack [(31, 1), (28, e.kind), (16, lost), (8, e.extreme)])
    (d.setPair R.SUP_EVSTART_LO R.SUP_EVSTART_HI e.start).setReg R.SUP_EVDUR (wd (min 0xFFFFFFFF e.dur))

/-- Queues a record of an event that began at count `start` and clock period `began`; one beyond 16 is counted. -/
def Dev.supEvent (d : Dev) (kind start began extreme : Nat) : Dev :=
  let e : SupEvent := ⟨kind, start, (d.clk - began) / us, min 255 extreme⟩
  { d with sup := if d.sup.events.length < 16 then { d.sup with events := d.sup.events ++ [e] }
                  else { d.sup with lost := d.sup.lost + 1 } }.showSup

/-- SUP_EVPOP; the count of lost records clears when the queue empties. -/
def Dev.supPop (d : Dev) : Dev :=
  let l := d.sup.events.drop 1
  { d with sup := { d.sup with events := l, lost := if l.isEmpty then 0 else d.sup.lost } }.showSup

/-! ## Ride-Through (R342 to R346) -/

/-- Orders 1 and 2 of R344: notices, the allowance, and the lanes, trunk and ACR-W that are not kept. -/
def Dev.rideSup (d : Dev) : Dev :=
  let d := (d.noteAll.acrAllow 0 (d.f R.SUP_RTCFG 8 8)).1
  let d := d.forEach (List.range 16) fun d n =>
    if d.laneKept n || (d.radio n).st == sOFF || (d.radio n).draining then d else d.drainOffer n
  let d := if d.role = 0 then d else d.trkDisable
  let d := if 3 ≤ d.acrState 1 then d.acrStop 1 else d
  if d.acrState 1 = 0 then d else d.acrDisable 1

/-- Orders 3 and 4: Rim completes reservations in progress, saves the kept half's node-table mirror and sets SAVED, and
withdraws its vote on every domain not kept. -/
def Dev.rideRim (d : Dev) : Dev :=
  let d := d.forEach d.sec.requested fun d k => (d.reservation (k % 32768) (decide (32768 ≤ k))).retryAcks
  let d := match d.keptHalf with
    | some h => { d.copyMem (ntBase h) (mramBase + 0x100000) 0x100000 with fw := { d.fw with snapshot := true } }
    | none => d
  let d := d.setB R.SUP_RTSTAT 30 true
  d.forEach (List.range 54) fun d n => if d.domainKept n then d else d.rimVote n false

/-- Custody runs Rim. -/
def Dev.rimRuns (d : Dev) : Bool := (d.cpu 66).run == .running && !d.restarting

/-- What Rim does in Ride-Through, as soon as it runs: orders 3 and 4 of R344 after a trigger, and after EXIT_READY the
votes of every domain back to Run; and it ends Ride-Through once all are in Run again (R346). -/
def Dev.rideServe (d : Dev) : Dev :=
  if !d.rimRuns || !d.b R.SUP_RTSTAT 31 then d
  else if !d.b R.SUP_RTSTAT 29 then (if d.b R.SUP_RTSTAT 30 then d else d.rideRim)
  else if d.sup.voteBack then
    ({ d with sup := { d.sup with voteBack := false } }.forEach (List.range 54) fun d n =>
      if d.b (R.PWR_PD_SWV n) 31 then d else d.rimVote n true).endRide
  else d.endRide

/-- A trigger whose enable is set (R342, R346). Cause 1 line, 2 PFW_N, 3 core undervoltage. Rim's part follows in
`rideServe`. -/
def Dev.rideTrigger (d : Dev) (cause : Nat) : Dev :=
  if !d.b R.SUP_RTCFG (cause - 1) then d else
  let d := d.bumpF R.SUP_RTSTAT 0 16 1
  let active := d.b R.SUP_RTSTAT 31
  if active && !d.b R.SUP_RTSTAT 29 then d else
  let d := (d.setB R.SUP_RTSTAT 29 false).setB R.SUP_RTSTAT 30 false
  let d := if active then d else (d.setB R.SUP_RTSTAT 31 true).setF R.SUP_RTSTAT 26 3 cause
  { d with sup := { d.sup with voteBack := false } }.rideSup

/-- The line class is Normal and PFW_N high since now, or not. -/
def Dev.exitCheck (d : Dev) : Dev :=
  let ok := d.f R.SUP_STATUS 28 3 = 0 && !d.b R.SUP_STATUS 27
  let since := if !ok then none else match d.sup.okSince with | some t => some t | none => some d.clk
  { d with sup := { d.sup with okSince := since } }

-- Marked: DESIGN CHOICE, log entry 54.
/-- The exit conditions have held for SUP_RTRECOV ms: EXIT_READY, after which Rim votes the stopped domains back to Run
(`rideServe`); VDD_CORE is at or above 0.62 V, so CORE_UV clears (R346). -/
def Dev.exitReady (d : Dev) : Dev :=
  match d.sup.okSince with
  | none => d
  | some t =>
    if d.b R.SUP_RTSTAT 31 && !d.b R.SUP_RTSTAT 29 && decide (t + d.f R.SUP_RTRECOV 0 16 * ms ≤ d.clk) then
      let d := ((d.setB R.SUP_RTSTAT 29 true).setB R.SUP_STATUS 26 false).note [66]
      { d with sup := { d.sup with voteBack := true } }
    else d

/-! ## Mains (R338 to R340) -/

-- Marked: DESIGN CHOICE, log entry 54.
/-- The class after a half-cycle of `code`, with thresholds in per cent of the nominal code. -/
def Dev.classAfter (d : Dev) (code : Nat) : Nat :=
  let old := d.f R.SUP_STATUS 28 3
  let nom : Int := d.f R.SUP_LINENOM 0 16
  let x : Int := 100 * code
  let swell : Int := d.f R.SUP_LINECFG 24 8
  let sag : Int := d.f R.SUP_LINECFG 16 8
  let intr : Int := d.f R.SUP_LINECFG 8 8
  let hyst : Int := d.f R.SUP_LINECFG 0 8
  let plain : Nat := if x < intr * nom then 3 else if x < sag * nom then 1 else if swell * nom < x then 2 else 0
  if old = 3 then (if x < (intr + hyst) * nom then 3 else if x < sag * nom then 1 else 0)
  else if old = 1 ∧ intr * nom ≤ x ∧ x < (sag + hyst) * nom then 1
  else if old = 2 ∧ (swell - hyst) * nom < x then 2
  else plain

/-- p, whole per cent, saturating at 255. -/
def Dev.pct (d : Dev) (code : Nat) : Nat :=
  let nom := d.f R.SUP_LINENOM 0 16
  if nom = 0 then 255 else min 255 (100 * code / nom)

-- Marked: DESIGN CHOICE, log entry 54.
/-- The class becomes `new`; `p` is the per cent of this half-cycle, none where the 2 ms rule declares an interruption.
The event that ends is recorded, a change posts, notices and may trigger Ride-Through. -/
def Dev.setClass (d : Dev) (new : Nat) (p : Option Nat) : Dev :=
  let old := d.f R.SUP_STATUS 28 3
  if new = old then
    match d.sup.lineAt, p with
    | some (c, t, e), some p =>
      let e := if e = 0 then p + 1 else if old = 2 then max e (p + 1) else min e (p + 1)
      { d with sup := { d.sup with lineAt := some (c, t, e) } }
    | _, _ => d
  else
    let d := match d.sup.lineAt with
      | some (c, t, e) =>
        if e = 0 then
          let (w, d) := d.fresh
          d.supEvent old c t (w.toNat % 256)
        else d.supEvent old c t (e - 1)
      | none => d
    let d := { d with sup := { d.sup with
      lineAt := if new = 0 then none else some (d.count, d.clk, match p with | some p => p + 1 | none => 0) } }
    let d := ((d.setF R.SUP_STATUS 28 3 new).hwEvent srcMains).noteAll
    (if new = 3 then d.rideTrigger 1 else d).exitCheck

/-- How far a frequency in 0.01 Hz lies from 45 to 65 Hz. -/
def offRange (f : Nat) : Nat := if f < 4500 then 4500 - f else f - 6500

-- Marked: DESIGN CHOICE, log entry 10.
/-- A half-cycle ends with RMS code `code`; the line frequency is `freq` in 0.01 Hz. -/
def Dev.halfCycle (d : Dev) (code freq : Nat) : Dev :=
  let d := d.setReg R.SUP_LINEMEAS (pack [(16, min 65535 code), (0, min 65535 freq)])
  let bad := decide (freq < 4500 ∨ 6500 < freq)
  let d := { d with sup := { d.sup with freqBad := if bad then d.sup.freqBad + 1 else 0 } }
  let d := match d.sup.freqAt with
    | some (c, t, f) =>
      if bad then { d with sup := { d.sup with freqAt := some (c, t, if offRange f < offRange freq then freq else f) } }
      else
        let d := { d with sup := { d.sup with freqAt := none } }.setB R.SUP_STATUS 25 false
        d.supEvent 4 c t ((f + 50) / 100)
    | none => d
  d.setClass (d.classAfter code) (some (d.pct code))

-- Marked: DESIGN CHOICE, log entry 54.
/-- The deviation has stayed below INTR for 2 ms: Interruption at once. -/
def Dev.lineLoss (d : Dev) : Dev := d.setClass 3 none

/-- The frequency has been out of range for 10 half-cycles: FREQERR, with its notice. -/
def Dev.freqErr (d : Dev) : Dev :=
  if decide (10 ≤ d.sup.freqBad) && !d.b R.SUP_STATUS 25 then
    ({ d with sup := { d.sup with freqAt := some (d.count, d.clk, d.f R.SUP_LINEMEAS 0 16) } }.setB
      R.SUP_STATUS 25 true).noteAll
  else d

/-! ## PFW_N and VDD_CORE (R337, R341) -/

def Dev.pfwLow (d : Dev) : Dev :=
  if d.b R.SUP_STATUS 27 then d else (((d.setB R.SUP_STATUS 27 true).noteAll).rideTrigger 2).exitCheck

def Dev.pfwHigh (d : Dev) : Dev := (d.setB R.SUP_STATUS 27 false).exitCheck

/-- VDD_CORE has been below 0.60 V for 1 µs. The recovery time starts again. -/
def Dev.coreUv (d : Dev) : Dev :=
  let d := ((d.setB R.SUP_STATUS 26 true).noteAll).rideTrigger 3
  { d with sup := { d.sup with okSince := none } }.exitCheck

end Sys2Proof.Machine
end

