-- ==== Sys2Proof/Machine/Rim.lean ====
section
/-!
DEFINITION. Rim: the Upsett steps, serving Rim calls, trials, settings, keys and the Seal; and the FWU commands
(R226, R237, R289 to R308).
-/

namespace Sys2Proof.Machine

/-! ## Serving a call (R88, R303, R304) -/

abbrev rsOK : Word := 0#32
abbrev rsBADARG : Word := 1#32
abbrev rsDENIED : Word := 2#32
abbrev rsNOKEY : Word := 3#32
abbrev rsBUSY : Word := 4#32
abbrev rsREFUSED : Word := 5#32
abbrev rsUNKNOWN : Word := 8#32

/-- Function numbers assigned (R304). -/
def rimFns : List Nat :=
  [1, 2, 3, 4, 5, 6, 7, 8, 9, 0xA, 0x10, 0x11, 0x12, 0x13, 0x18, 0x19, 0x20, 0x21, 0x22, 0x23, 0x28, 0x30]

def mboxDflt (_ : Nat) : MboxState := {}
def Dev.mboxOrder (d : Dev) (s : Nat) : Nat := (tget mboxDflt d.fw.mbox s).order

/-- Call `s` was posted before call `b`; of two posted in one step Half A's is first (R303). -/
def Dev.callBefore (d : Dev) (s b : Nat) : Bool :=
  let at_ (x : Nat) : Nat := (tget mboxDflt d.fw.mbox x).at_
  decide (at_ s < at_ b) || (at_ s == at_ b &&
    (decide (s / 8 < b / 8) || (s / 8 == b / 8 && decide (d.mboxOrder s < d.mboxOrder b))))

/-- The oldest call posted and not answered. -/
def Dev.headCall (d : Dev) : Option Nat :=
  ((List.range 16).filter d.posted).foldl (fun best s =>
    match best with
    | some b => if d.callBefore s b then some s else some b
    | none => some s) none

def Dev.callFn (d : Dev) (s : Nat) : Nat := d.f (R.RIMX_MB_FN s) 0 16
/-- Argument g_i of a call, i from 1. -/
def Dev.callArg (d : Dev) (s i : Nat) : Word := d.reg (R.RIMX_MB_ARG s (i - 1))

-- Marked: DEDUCED, log entry 60.
/-- Calls at the head whose function is not assigned are answered UNKNOWN. -/
def answerUnknownN : Nat → Dev → Dev
  | 0, d => d
  | n + 1, d =>
    match d.headCall with
    | some s => if rimFns.contains (d.callFn s) then d else answerUnknownN n (d.mbReply s [rsUNKNOWN])
    | none => d

/-- The functions that change durable state (R303, R304). -/
def durableCalls : List Nat := [4, 7, 8, 9, 0xA, 0x10, 0x11, 0x12, 0x13, 0x18, 0x21, 0x23]

-- Marked: DESIGN CHOICE, log entry 94.
/-- A call that changes durable state is journalled in MRAM before its effect: its slot, its function and its arguments
(R289, R303). -/
def Dev.journal (d : Dev) (s fn : Nat) : Dev :=
  if !durableCalls.contains fn then d else
  d.putAt journalAt 40 (d.nextGen journalAt 40)
    (natBytes 2 s ++ natBytes 2 fn ++ (List.range 6).flatMap fun i => natBytes 4 (d.callArg s (i + 1)).toNat)

-- Marked: DEDUCED, log entry 60.
/-- Rim serves the call in slot `s`, the oldest outstanding, when it is of function `fn`: `body` gives the new state and
the reply, status first. An argument not in `args` must be 0. -/
def Dev.serve (d : Dev) (s fn : Nat) (args : List Nat) (body : Dev → Dev × List Word) : Dev :=
  if !d.rimRuns || d.fw.recov != 0 then d else
  let d := answerUnknownN 16 d
  if d.headCall = some s && d.callFn s == fn then
    if [1, 2, 3, 4, 5, 6].any fun i => !args.contains i && d.callArg s i != 0#32 then d.mbReply s [rsBADARG]
    else
      let (d, r) := body (d.journal s fn)
      if d.power.inReset then d else d.mbReply s r
  else d

/-- A range of the message store. -/
def msOk (a n : Nat) : Bool := decide (a + n ≤ 0xC00000)

/-! ## Information and settings (R300, R301) -/

def Dev.rimInfo (d : Dev) (s : Nat) : Dev := d.serve s 1 [] fun d =>
  (d, [rsOK, wd (d.hdr (rimBase d.fw.rslot) 0x10), wd d.runVersion, d.reg R.FWU_BOOTINFO])

def Dev.rimRolesRunning (d : Dev) (s : Nat) : Dev := d.serve s 2 [] fun d =>
  ({ d with tok := if s < 8 then { d.tok with rolesA := true } else { d.tok with rolesB := true } }, [rsOK])

-- Marked: DESIGN CHOICE, log entry 94.
/-- The generation of the settings; 0 before any. -/
def Dev.setGen (d : Dev) : Nat := match d.fw.settings with | some x => x.gen | none => 0

/-- No Seal. -/
def noneDflt {α : Type} (_ : Nat) : Option α := none

/-- The octets of the settings after the header: the copies, one after the other. -/
def Settings.octets (x : Settings) : List Byte := x.copies.flatMap fun e => e.2

/-- They fit 64 KiB with the header of 32 octets (R289). -/
def Settings.fits (x : Settings) : Bool := decide (x.octets.length ≤ 0x10000 - 32)

-- Marked: DESIGN CHOICE, log entry 94.
/-- The header between generation and CRC: how many copies, the format and the length of each of up to two, and the CRC-32
of what follows the header. -/
def Settings.header (x : Settings) : List Byte :=
  let c (i : Nat) : Nat × List Byte := x.copies.getD i (0, [])
  natBytes 2 x.copies.length ++ natBytes 2 (c 0).1 ++ natBytes 2 (c 1).1 ++ natBytes 4 (c 0).2.length ++
    natBytes 4 (c 1).2.length ++ natBytes 4 (crc32 x.octets).toNat

-- Marked: DESIGN CHOICE, log entry 94.
/-- Rim stores the settings: the octets behind the older header, then that header, which names the format of each copy
(R290, R300, R301). -/
def Dev.putSettings (d : Dev) (x : Settings) : Dev :=
  let i := match d.newestAt settingsAt 32 with | some i => 1 - i | none => 0
  let d := { d with fw := { d.fw with settings := some x } }.wrBytes (settingsAt i + 32) x.octets
  d.putAt settingsAt 32 x.gen x.header

/-- The settings of S0 or S1, where header and octets are whole. -/
def Dev.settingsOf (d : Dev) (i : Nat) : Option Settings :=
  let a := settingsAt i
  let n := (d.rd16 (a + 4)).toNat
  let fmt (j : Nat) : Nat := (d.rd16 (a + 6 + 2 * j)).toNat
  let n0 := min 0x10000 (d.rd32 (a + 10)).toNat
  let n1 := min 0x10000 (d.rd32 (a + 14)).toNat
  let l := d.rdBytes (a + 32) (n0 + n1)
  let t : Table (List Byte) := if n = 0 then [] else tput nilDflt [] (fmt 0) (l.take n0)
  let t := if n = 2 then tput nilDflt t (fmt 1) (l.drop n0) else t
  if d.recValid a 32 && crc32 l == d.rd32 (a + 18) then some ⟨(d.rd32 a).toNat, t⟩ else none

-- Marked: DESIGN CHOICE, log entry 94.
/-- Upsett reads the newest valid settings. With neither copy valid, what was last held stands. -/
def Dev.getSettings (d : Dev) : Dev :=
  let newer (x y : Settings) : Settings := if x.gen < y.gen then y else x
  match d.settingsOf 0, d.settingsOf 1 with
  | some x, some y => { d with fw := { d.fw with settings := some (newer x y) } }
  | some x, none => { d with fw := { d.fw with settings := some x } }
  | none, some y => { d with fw := { d.fw with settings := some y } }
  | none, none => d

/-- The settings held in a format: the Rim section and the Weave part. -/
def Dev.settingsIn (d : Dev) (fmt : Nat) : List Byte :=
  match d.fw.settings with
  | some x => x.copy fmt
  | none => []

-- Marked: DEDUCED, log entry 55.
def Dev.rimSettingsRead (d : Dev) (s : Nat) : Dev := d.serve s 3 [1, 2, 3] fun d =>
  let a := (d.callArg s 2).toNat
  let cap := (d.callArg s 3).toNat
  let l := d.settingsIn (d.callArg s 1).toNat
  if !msOk a (min cap l.length) then (d, [rsBADARG])
  else (d.msWrite (storeBase + a) (l.take cap), [rsOK, wd l.length, wd d.setGen])

-- Marked: DEDUCED, log entry 55.
/-- SETTINGS_WRITE: the generation must match; on trial with another SETFMT both formats are needed. Each copy supplied
begins with the Rim section, and all must fit a copy of 64 KiB. -/
def Dev.rimSettingsWrite (d : Dev) (s : Nat) : Dev := d.serve s 4 [1, 2, 3, 4, 5] fun d =>
  let a := (d.callArg s 2).toNat
  let n := (d.callArg s 3).toNat
  let a2 := (d.callArg s 4).toNat
  let n2 := (d.callArg s 5).toNat
  let w := d.fw.weave
  let fmt := d.setfmtOf w.active
  let two := w.trial && fmt != w.setfmt
  let bad (a n : Nat) : Bool := n < 65 || decide (65536 < n) || !msOk a n
  if (d.callArg s 1).toNat ≠ d.setGen then (d, [rsDENIED])
  else if bad a n || (two && bad a2 n2) then (d, [rsBADARG])
  else
    let copies := tput nilDflt [] fmt (d.rdBytes (storeBase + a) n)
    let copies := if two then tput nilDflt copies w.setfmt (d.rdBytes (storeBase + a2) n2) else copies
    let g := (d.setGen + 1) % 2 ^ 32
    let x : Settings := ⟨g, copies⟩
    if !x.fits then (d, [rsBADARG]) else (d.putSettings x, [rsOK, wd g])

/-! ## Firmware slots and trials (R293, R296 to R299, R302) -/

def Dev.stagedOk (d : Dev) (k : Nat) : Bool := if k = 0 then d.fw.stagedA else d.fw.stagedB
def Dev.setStaged (d : Dev) (k : Nat) (v : Bool) : Dev :=
  { d with fw := if k = 0 then { d.fw with stagedA := v } else { d.fw with stagedB := v } }

def Dev.rimFwWindow (d : Dev) (s : Nat) : Dev := d.serve s 5 [1] fun d =>
  let k := (d.callArg s 1).toNat
  if 1 < k then (d, [rsBADARG])
  else if k = d.fw.weave.active ∨ (d.fw.weave.trial ∧ k = d.fw.weave.confirmed) then (d, [rsDENIED])
  else ((d.setReg R.FWU_WRWIN (pack [(31, 1), (0, k)])).setStaged k false, [rsOK])

/-- The open window closes, whichever slot's it is: no slot has passed FW_STAGE since (R304). -/
def Dev.closeWindow (d : Dev) : Dev :=
  if d.b R.FWU_WRWIN 31 then ((d.setReg R.FWU_WRWIN 0#32).setStaged 0 false).setStaged 1 false else d

/-- FW_STAGE; `readErr` tells that a flash read failed. -/
def Dev.rimFwStage (d : Dev) (s : Nat) (readErr : Bool) : Dev := d.serve s 6 [1] fun d =>
  let k := (d.callArg s 1).toNat
  if 1 < k then (d, [rsBADARG]) else
  let d := d.closeWindow
  let c := d.verifyWeave k readErr
  if c = 0 then (d.setStaged k true, [rsOK]) else (d.setStaged k false, [rsREFUSED, wd c])

def Dev.setRun (d : Dev) (h k : Nat) : Dev :=
  { d with fw := if h = 0 then { d.fw with runA := k } else { d.fw with runB := k } }

/-- FW_ACTIVATE: from the next Upsett, or with HALFWISE one half after the other, the trailing half first. -/
def Dev.rimFwActivate (d : Dev) (s : Nat) : Dev := d.serve s 7 [1] fun d =>
  let w := d.callArg s 1
  let k := fld w 0 1
  if w.toNat > 3 then (d, [rsBADARG])
  else if !d.stagedOk k then (d, [rsDENIED])
  else if !bitOf w 1 then (d.setWeave { d.fw.weave with active := k, trial := true, tries := 0 }, [rsOK])
  else if d.capacity || !d.elig 0 || !d.elig 1 || ¬ d.leader < 2 || d.setfmtOf k != d.setfmtOf d.fw.weave.active
  then (d, [rsDENIED])
  else
    let h := 1 - d.leader
    let d := { d with fw := { d.fw with halfwise := 1, byHalf := true } }
    let d := d.setWeave { d.fw.weave with active := k, trial := true, tries := 0 }
    ((d.setRun h k).restartHalf h, [rsOK])

/-- TRIAL := 0 and ACTIVE := CONFIRMED, and no trial time runs. -/
def Dev.dropTrial (d : Dev) : Dev :=
  { d with fw := { d.fw with trialEnd := none } }.setWeave { d.fw.weave with trial := false, active := d.fw.weave.confirmed }

/-- Half by half, the trailing half first, what runs the staged image restarts from slot `k`. -/
def Dev.backTo (d : Dev) (k : Nat) : Dev :=
  let t := if d.leader < 2 then 1 - d.leader else 0
  let stale (h : Nat) : Bool := d.runSlot h != k
  if stale t then
    ({ d with fw := { d.fw with halfwise := if stale (1 - t) then 1 else 2 } }.setRun t k).restartHalf t
  else if stale (1 - t) then ({ d with fw := { d.fw with halfwise := 2 } }.setRun (1 - t) k).restartHalf (1 - t)
  else d

/-- The trial ends without confirmation: ACTIVE := CONFIRMED and the device resets, or after a half-at-a-time activation
each half that runs the staged image restarts from the confirmed slot, the trailing half first. -/
def Dev.abandonTrial (d : Dev) : Dev :=
  if !d.fw.byHalf then d.dropTrial.enterReset 7 0
  else { d.dropTrial with fw := { d.dropTrial.fw with byHalf := false } }.backTo d.fw.weave.confirmed

/-- A planned switch has been made in a half-at-a-time activation: the old leader restarts from the active slot. -/
def Dev.halfwiseSwitched (d : Dev) : Dev :=
  if d.fw.halfwise ≠ 1 ∨ ¬ d.leader < 2 then d else
  let h := 1 - d.leader
  (({ d with fw := { d.fw with halfwise := 2 } }.setRun h d.fw.weave.active).restartHalf h).showBoot

/-- The second half of a half-at-a-time activation is ELIGIBLE: the trial time runs. -/
def Dev.halfwiseEligible (d : Dev) : Dev :=
  if d.fw.halfwise ≠ 2 then d else
  { d with fw := { d.fw with
    halfwise := 0
    trialEnd := if d.fw.weave.trial then some (d.clk + d.trialSecs * 160000000) else none } }.showBoot

def Dev.rimConfirm (d : Dev) (s : Nat) : Dev := d.serve s 8 [1] fun d =>
  let w := d.fw.weave
  match (d.callArg s 1).toNat with
  | 0 => if w.trial then (d.abandonTrial, [rsOK]) else (d, [rsDENIED])
  | 1 =>
    if !w.trial then (d, [rsDENIED]) else
    let fmt := d.setfmtOf w.active
    let d := { d with fw := { d.fw with trialEnd := none, byHalf := false } }
    let d := match d.fw.settings with
      | some x => if x.copies.all fun e => e.1 == fmt then d
        else d.putSettings { gen := (x.gen + 1) % 2 ^ 32, copies := x.copies.filter fun e => e.1 == fmt }
      | none => d
    (d.setWeave { w with
      confirmed := w.active, trial := false, setfmt := fmt
      floor := max w.floor (d.hdr (weaveBase w.active) 0x10) }, [rsOK])
  | _ => (d, [rsBADARG])

/-- No CONFIRM within TRIALS seconds of step 10 (R298). -/
def Dev.trialTimeout (d : Dev) : Dev :=
  match d.fw.trialEnd with
  | some t => if d.fw.weave.trial && decide (t ≤ d.clk) then d.abandonTrial else d
  | none => d

/-- RIM_STAGE writes the inactive Rim slot and verifies it; it is selected at the next Upsett. -/
def Dev.rimRimStage (d : Dev) (s : Nat) : Dev := d.serve s 9 [1, 2] fun d =>
  let a := (d.callArg s 1).toNat
  let n := (d.callArg s 2).toNat
  let k := 1 - d.fw.rslot
  if n < 4096 ∨ 0x80000 < n ∨ !msOk a n then (d, [rsBADARG]) else
  let d := (d.clearMem (rimBase k) 0x80000).copyMem (storeBase + a) (rimBase k) n
    |>.msTraffic (storeBase + a) n 2
  let c := d.verifyRim k
  if c ≠ 0 then (d, [rsREFUSED, wd c])
  else ({ d with fw := { d.fw with rim := { d.fw.rim with active := k, trial := true } } }.showBoot, [rsOK])

-- Marked: DEDUCED, log entry 56.
def Dev.rimSignerRevoke (d : Dev) (s : Nat) : Dev := d.serve s 0xA [1] fun d =>
  let k := (d.callArg s 1).toNat
  if 3 < k then (d, [rsBADARG])
  else if (d.rd8 (weaveBase d.fw.weave.confirmed + 0x14)).toNat = k ∨ (d.rd8 (rimBase d.fw.rim.confirmed + 0x14)).toNat = k
  then (d, [rsDENIED])
  else ({ d with fw := { d.fw with revoked := d.fw.revoked ++ [k] } }.putUpsett, [rsOK])

/-! ## Keys (R225, R226, R237) -/

-- Marked: DEDUCED, log entry 97.
/-- Reservations pending for a slot complete before it changes; what still waits with it keeps it (R237). -/
def Dev.settleSlot (d : Dev) (k : Nat) : Dev :=
  (d.forEach (d.sec.requested.filter fun x => x % 32768 == k) fun d x =>
    (d.reservation k (decide (32768 ≤ x))).retryAcks).keepOld k

/-- A key is installed: ACTIVE, both limits and both counters 0. -/
def Dev.installKey (d : Dev) (k usage : Nat) (key : List Byte) : Dev :=
  let d := (d.settleSlot k).flushKey k
  let d := (d.clearMem (mramBase + 32 * k) 32).wrBytes (mramBase + 32 * k) key
  let d := (d.logLimit k false 0).logLimit k true 0
  let d := d.wrBytes (slotAddr k) ([1#8, if key.length = 32 then 1#8 else 0#8] ++ natBytes 2 usage ++ natBytes 12 0)
  { d with sec := { d.sec with
    fc := tput zeroDflt d.sec.fc k 0, gcm := tput zeroDflt d.sec.gcm k 0
    fcLim := tput zeroDflt d.sec.fcLim k 0, gcmLim := tput zeroDflt d.sec.gcmLim k 0 } }

/-- R225 forbids KEK and AUTH in node link slots. -/
def usageForbidden (k usage : Nat) : Bool := decide (256 ≤ k) && (usage &&& 24) != 0

-- Marked: DEDUCED, log entry 70.
def Dev.rimKeyUnwrap (d : Dev) (s : Nat) : Dev := d.serve s 0x10 [1, 2, 3, 4] fun d =>
  let k := (d.callArg s 1).toNat
  let kek := (d.callArg s 2).toNat
  let a := (d.callArg s 3).toNat
  let w := d.callArg s 4
  let n := if bitOf w 0 then 32 else 16
  if 16639 < k ∨ 16639 < kek then (d, [rsNOKEY])
  else if (w &&& ~~~ 0x1F01#32) ≠ 0#32 ∨ !msOk a (n + 8) then (d, [rsBADARG])
  else if usageForbidden k (fld w 8 5) then (d, [rsDENIED])
  else if ¬ (d.slotState kek = 1 ∧ (d.slotUsage kek).testBit 3) then (d, [rsNOKEY])
  else match keyUnwrap (d.slotKey kek) (d.rdBytes (storeBase + a) (n + 8)) with
    | some key => (d.installKey k (fld w 8 5) (fit n key), [rsOK])
    | none => (d, [rsBADARG])

def Dev.rimKeyGenerate (d : Dev) (s : Nat) : Dev := d.serve s 0x11 [1, 4] fun d =>
  let k := (d.callArg s 1).toNat
  let w := d.callArg s 4
  if 16639 < k then (d, [rsNOKEY])
  else if (w &&& ~~~ 0x1F01#32) ≠ 0#32 then (d, [rsBADARG])
  else if usageForbidden k (fld w 8 5) then (d, [rsDENIED])
  else
    let key := fit (if bitOf w 0 then 32 else 16) (Config.generatedKey d.freeCtr)
    ({ d with freeCtr := d.freeCtr + 1 }.installKey k (fld w 8 5) key, [rsOK])

def Dev.rimKeyErase (d : Dev) (s : Nat) : Dev := d.serve s 0x12 [1] fun d =>
  let k := (d.callArg s 1).toNat
  if 16639 < k then (d, [rsNOKEY])
  else ((((d.settleSlot k).flushKey k).clearMem (mramBase + 32 * k) 32).setSlotState k 0, [rsOK])

def Dev.rimKeyUsage (d : Dev) (s : Nat) : Dev := d.serve s 0x13 [1, 2] fun d =>
  let k := (d.callArg s 1).toNat
  let u := (d.callArg s 2).toNat
  if 16639 < k then (d, [rsNOKEY])
  else if 31 < u then (d, [rsBADARG])
  else if usageForbidden k u then (d, [rsDENIED])
  else (d.wrBytes (slotAddr k + 2) (natBytes 2 u), [rsOK])

/-! ## The Seal (R155, R305) -/

/-- Buckets of one radio under a new profile: a sub-band with an identical range keeps its own; every other begins with the
radio's whole airtime of the past hour. -/
def Dev.newCharges (d : Dev) (n : Nat) (old new : SealLane) : List Charge :=
  let mine := d.fw.charges.filter fun c => c.radio == n
  let all := mine.filter fun c => c.sub == 255
  let keepOf (b : SubBand) : Option Nat := old.subs.findIdx? fun o => o.lo == b.lo && o.hi == b.hi
  let per (i : Nat) (b : SubBand) : List Charge :=
    match keepOf b with
    | some j => (mine.filter fun c => c.sub == j).map fun c => { c with sub := i }
    | none => all.map fun c => { c with sub := i }
  all ++ ((List.range new.subs.length).zip new.subs).flatMap fun x => per x.1 x.2

-- Marked: DESIGN CHOICE, log entry 94.
/-- A profile goes to the older of the Seal's two copies of 8 KiB: its header as far as the signature, and its body of
4,096 octets (R289, R290). `x` is what the body says. -/
def Dev.putSeal (d : Dev) (b : Nat) (x : Seal) : Dev :=
  let i := match d.newestAt sealAt 0x2000 with | some i => 1 - i | none => 0
  let d := { d with fw := { d.fw with profiles := tput noneDflt d.fw.profiles i (some x) } }
  d.putAt sealAt 0x2000 (d.nextGen sealAt 0x2000) (d.rdBytes b 0xFC0 ++ d.rdBytes (b + 4096) 4096)

-- Marked: DESIGN CHOICE, log entries 59 and 94.
/-- A new Seal replaces the installed one, from the first TXS after. -/
def Dev.installSeal (d : Dev) (x : Seal) : Dev :=
  let lane (s : Option Seal) (n : Nat) : SealLane := (s.bind fun s => s.lanes[n]?).getD {}
  let ch := (List.range 17).flatMap fun n => d.newCharges n (lane d.fw.sealed n) (lane (some x) n)
  { d with fw := { d.fw with sealed := some x, charges := ch } }

-- Marked: DESIGN CHOICE, log entry 94.
/-- Step 6: the Seal of the newest valid copy is installed; with neither copy valid, what was last held stands. -/
def Dev.getSeal (d : Dev) : Dev :=
  match d.newestAt sealAt 0x2000 with
  | some i =>
    match tget noneDflt d.fw.profiles i with
    | some x => if d.fw.sealed = some x then d else d.installSeal x
    | none => d
  | none => d

/-- A reserved field of a profile's header is not 0, of the fields R305 leaves without a use. -/
def Dev.sealReserved (d : Dev) (b : Nat) : Bool :=
  d.dirty (b + 0x15) (b + 0x18) || d.dirty (b + 0x58) (b + 0xF80) || d.dirty (b + 0xFC0) (b + 0x1000)

-- Marked: DESIGN CHOICE, log entry 59.
/-- SEAL_INSTALL; `profile` is what the body of the profile says. The header's checks are those of R293 that apply. -/
def Dev.rimSealInstall (d : Dev) (s : Nat) (profile : Seal) : Dev := d.serve s 0x18 [1, 2] fun d =>
  let a := (d.callArg s 1).toNat
  let n := (d.callArg s 2).toNat
  let b := storeBase + a
  let version := d.hdr b 0x10
  let installed := match d.fw.sealed with | some x => x.version | none => 0
  let pub := d.rdBytes (rimBase d.fw.rslot + 0x198) 64
  if n < 4096 ∨ !msOk a n then (d, [rsBADARG])
  else if d.hdr b 0 ≠ 0x5345414C then (d, [rsREFUSED, 1#32])
  else if (d.rd16 (b + 4)).toNat ≠ 1 ∨ d.sealReserved b then (d, [rsREFUSED, 2#32])
  else if d.hdr b 8 / 2 ^ 16 ≠ 0x6400 ∨ d.f R.DEV_ID 0 16 < d.hdr b 8 % 2 ^ 16 then (d, [rsREFUSED, 3#32])
  else if d.hdr b 0x0C ≠ 4096 ∨ n ≠ 0x2000 then (d, [rsREFUSED, 4#32])
  else if !Config.ecdsaOk pub (d.rdBytes b 0xF80) (d.rdBytes (b + 0xF80) 64) then (d, [rsREFUSED, 7#32])
  else if version < installed then (d, [rsREFUSED, 8#32])
  else if !d.digestIs (b + 0x20) (d.rdBytes (b + 4096) (n - 4096)) then (d, [rsREFUSED, 10#32])
  else
    let x := { profile with version := version }
    ((d.putSeal b x).installSeal x, [rsOK])

def Dev.rimSealQuery (d : Dev) (s : Nat) : Dev := d.serve s 0x19 [] fun d =>
  match d.fw.sealed with
  | some x => (d, [rsOK, wd x.region, wd x.version])
  | none => (d, [rsOK, 0#32, 0#32])

/-! ## Power, snapshot, alarm, reset -/

-- Marked: DEDUCED, log entry 50.
/-- Rim refuses to stop a domain (R353). -/
def Dev.stopDenied (d : Dev) (n : Nat) : Bool :=
  if n < 2 then true
  else if n = 2 then (List.range 16).any (fun l => d.pdRun (16 + l)) || d.pdRun 12
  else if 50 ≤ n then (List.range 16).any fun l => laneQuad l == n - 50 && d.pdRun (16 + l)
  else if decide (32 ≤ n ∧ n < 40) then d.bankUsed (n - 32)
  else if n = 5 then d.b R.MSG_CTRL 0
  else if n = 40 ∨ n = 41 then d.devLead == some (n - 40)
  else false

-- Marked: DEDUCED, log entry 58.
/-- The domains a domain needs in Run before it: the Timebase and the quad reference for a lane, the Timebase for the
trunk, and each receiver's front for its channels. -/
def prerequisites (n : Nat) : List Nat :=
  if decide (16 ≤ n ∧ n < 32) then [2, 50 + laneQuad (n - 16)]
  else if n = 12 then [2]
  else if n = 9 ∨ n = 11 then [n - 1]
  else if decide (42 ≤ n ∧ n < 50) then [40 + (n - 42) / 4]
  else []

-- Marked: DEDUCED, log entry 58.
def Dev.rimPdSwitch (d : Dev) (s : Nat) : Dev := d.serve s 0x20 [1, 2] fun d =>
  let n := (d.callArg s 1).toNat
  match (d.callArg s 2).toNat with
  | 0 =>
    if 54 ≤ n then (d, [rsBADARG]) else if d.stopDenied n then (d, [rsDENIED]) else (d.rimVote n false, [rsOK])
  | 1 =>
    if 54 ≤ n then (d, [rsBADARG])
    else ((d.forEach ((prerequisites n).filter fun m => !d.pdRun m) fun d m => d.rimVote m true).rimVote n true, [rsOK])
  | _ => (d, [rsBADARG])

def Dev.rimNtSnapshot (d : Dev) (s : Nat) : Dev := d.serve s 0x21 [] fun d =>
  ({ d.copyMem (ntBase (s / 8)) (mramBase + 0x100000) 0x100000 with fw := { d.fw with snapshot := true } }, [rsOK])

def Dev.rimAlarm (d : Dev) (s : Nat) : Dev := d.serve s 0x28 [1] fun d =>
  if d.callArg s 1 = 1#32 then (d.alarm1 0, [rsOK]) else (d, [rsBADARG])

def Dev.rimReset (d : Dev) (s : Nat) : Dev := d.serve s 0x30 [1] fun d =>
  let c := (d.callArg s 1).toNat
  if 255 < c then (d, [rsBADARG]) else (d.enterReset 9 c, [rsOK])

/-! ## Upsett (R294, R295, R297) -/

/-- The device is held for recovery by the ROM (1) or by Rim (2). -/
def Dev.holdRecovery (d : Dev) (kind : Nat) : Dev :=
  { d with fw := { d.fw with recov := kind } }.setB R.FWU_STATUS 26 true

/-- Rim starts in place from slot `k` of MRAM, at the start of its body, where Custody sees it (R289, R293). -/
def Dev.startRim (d : Dev) (k : Nat) : Dev :=
  { d with fw := { d.fw with rslot := k } }.setCpu 66 { d.cpu 66 with pc := wd (0x2000000 + rimBase k - mramBase + 4096) }

-- Marked: DEDUCED, log entry 57.
/-- The ROM holds the device: the Main Processors in reset, and every lane and the trunk on its way to OFF, where
`laneEnable` and `trkEnable` keep it (R295). -/
def Dev.romHold (d : Dev) : Dev :=
  let d := ((d.holdRecovery 1).setCpu 64 {}).setCpu 65 {}
  let d := d.forEach (List.range 16) fun d n => if (d.radio n).st = sOFF then d else d.drainOffer n
  if d.role = 0 then d else d.trkDisable

/-- The Rim slot the ROM starts: the one the Upsett record names, or the other where that is refused (R294 step 3). -/
def Dev.rimPick (d : Dev) : Option Nat :=
  let r := d.fw.rim.active
  if d.verifyRim r = 0 then some r else if d.verifyRim (1 - r) = 0 then some (1 - r) else none

-- Marked: DEDUCED, log entry 90.
/-- Custody restarts: RESTARTING, and the ROM, which completes any pending A2, verifies the Rim image and starts Rim, or
enters ROM recovery; the fourth restart within 10 s resets the device instead (R285, R287). -/
def Dev.custodyRestart (d : Dev) (cause : Nat) : Dev :=
  let d := d.faultRecord 2 0 cause false
  let l := d.tok.restarts.filter (fun t => d.clk < t + 1600000000) ++ [d.clk]
  let d := { d with tok := { d.tok with restarts := l } }
  if 4 ≤ l.length then d.classD 7 6
  else
    let d := (d.tokBit 13 true).a2Done.custodyStart.getUpsett
    match d.rimPick with
    | none => d.romHold
    | some k => d.startRim k

-- Marked: DEDUCED, log entry 90.
/-- The Custody cores disagree: both halt, A1 is raised, and Custody restarts (R285). -/
def Dev.lockstep (d : Dev) : Dev := (d.alarm1 2).custodyRestart 5

/-- Step 5: the selection of R297; `e` tells of each slot whether its flash read fails. Answers the slot's code. -/
def Dev.selectWeave (d : Dev) (e : Nat → Bool) : Dev × Nat :=
  let w := d.fw.weave
  let w := if w.trial then { w with tries := w.tries + 1 } else w
  let w := if w.trial && decide (d.tryMax < w.tries) then { w with trial := false, active := w.confirmed } else w
  let note (d : Dev) (k c : Nat) : Dev := d.setF R.FWU_BOOTINFO (if k = 0 then 4 else 0) 4 c
  let c := d.verifyWeave w.active (e w.active)
  let d := note d w.active c
  let (d, w, c) :=
    if c ≠ 0 ∧ w.trial then
      let w := { w with trial := false, active := w.confirmed }
      let c := d.verifyWeave w.active (e w.active)
      (note d w.active c, w, c)
    else (d, w, c)
  if c = 0 then (d.setWeave w, 0)
  else
    let o := 1 - w.active
    let c := d.verifyWeave o (e o)
    let d := note d o c
    if c = 0 then (d.setWeave { w with active := o, confirmed := o, setfmt := d.setfmtOf o }, 0) else (d.setWeave w, c)

-- Marked: DESIGN CHOICE, log entry 7.
/-- The floors of R39, by class: RXC, AER, RTN, TRN, RXO, TXS, EVT. -/
def leadFloors : List Nat := [320, 320, 640, 640, 640, 2560, 160]

-- Marked: DESIGN CHOICE, log entry 7.
/-- Step 6: Rim sets the arm-lead floors and the margin floor, with voltage control (R39, R370), and installs the Seal. -/
def Dev.setFloors (d : Dev) : Dev :=
  let d := d.forEach ((List.range 7).zip leadFloors) fun d e => d.leadFloor e.1 e.2
  (d.floorWrite R.MGN_FLOOR (setBit (d.reg R.MGN_FLOOR) 0 true)).getSeal

-- Marked: DESIGN CHOICE, log entry 7.
/-- Steps 1 to 8: from the release of reset to the release of both Main Processors. `octal` tells that the flash's SFDP
tables advertise 8D-8D-8D. -/
def Dev.upsettStart (d : Dev) (e : Nat → Bool) (octal : Bool) : Dev :=
  let d := d.custodyStart.a2Done.getUpsett
  match d.rimPick with
  | none => { d with fw := { d.fw with step := 2 } }.romHold.showBoot
  | some k =>
    let d := (d.startRim k).replayLog.secRestart
    let d := (d.setF R.FWU_STATUS 24 2 (b2n octal)).getSettings
    let (d, c) := d.selectWeave e
    if c ≠ 0 then { d with fw := { d.fw with step := 4 } }.holdRecovery 2
    else
      let cap := d.rimOctet 0 = 1
      let d := (d.tokBit 14 cap).setB R.SEC_CTRL 0 (!cap)
      let d := if d.fw.settings.isSome then d.setReg R.RIMX_HBCFG (wd (d.rimWord 4) &&& 0x800FFFFF#32) else d
      let d := d.setFloors
      let k := d.fw.weave.active
      let l := d.rdBytes (weaveBase k + 4096) (d.hdr (weaveBase k) 0x0C)
      let d := d.forEach (List.range 8) fun d i => d.setReg (R.FWU_DIGEST i) (Config.sha256 l i)
      let d := (d.setRun 0 k).setRun 1 k
      { (d.startHalf 0).startHalf 1 with fw := { ((d.startHalf 0).startHalf 1).fw with step := 8 } }

/-- ELIGIBLE for the second half ends a half-at-a-time activation (R302). -/
def Dev.tkEligibleRim (d : Dev) (h : Nat) (set : Bool) : Dev :=
  let d := d.tkEligible h set
  if set && d.elig h then d.halfwiseEligible else d

/-- Half `h` has reported its roles running. -/
def Dev.rolesOf (d : Dev) (h : Nat) : Bool := if h = 0 then d.tok.rolesA else d.tok.rolesB

/-- The first GRANT after reset: the trial timer starts, and a Rim image on trial is confirmed (R294 step 10, R298). -/
def Dev.firstGrant (d : Dev) : Dev :=
  let d := if d.fw.weave.trial
    then { d with fw := { d.fw with trialEnd := some (d.clk + d.trialSecs * 160000000) } } else d
  let r := d.fw.rim
  if r.trial && d.fw.rslot == r.active then
    { d with fw := { d.fw with rim := { r with
      trial := false, confirmed := r.active, floor := max r.floor (d.hdr (rimBase r.active) 0x10) } } }.showBoot
  else d

/-- GRANT, with what Rim does at the first. -/
def Dev.rimGrant (d : Dev) (h : Nat) : Dev :=
  let was := d.b R.RIMX_TOKEN 15
  let d := d.tkGrant h
  if !was && d.b R.RIMX_TOKEN 15 then d.firstGrant else d

/-- Step 10: GRANT to the half FIRST names, in Capacity mode to the other too, and RESYNC for the other; ELIGIBLE
too where its roles already run, else once they do (R274). -/
def Dev.upsettGrant (d : Dev) : Dev :=
  let h := d.rimOctet 1 % 2
  let d := d.rimGrant h
  let d := if d.capacity then d.rimGrant (1 - h) else d
  let d := d.tkResync (1 - h)
  let d := if d.rolesOf (1 - h) then d.tkEligible (1 - h) true else d
  { d with fw := { d.fw with step := 10 } }

/-- UPSETT: what comes next of R294. Steps 1 to 8 from the release of reset; step 10 once the half FIRST names has reported
its roles; then ELIGIBLE for the other half once its mirrors are in step and its roles run. -/
def Dev.upsett (d : Dev) (e : Nat → Bool) (octal : Bool) : Dev :=
  if d.fw.recov ≠ 0 then d
  else if d.fw.step = 0 then d.upsettStart e octal
  else if !d.rimRuns then d
  else if d.fw.step = 8 then (if d.rolesOf (d.rimOctet 1 % 2) then d.upsettGrant else d)
  else
    let h := if d.leader = 0 then 1 else 0
    if d.resynced h && d.rolesOf h && !d.elig h then d.tkEligibleRim h true else d

/-! ## FWU (R295, R307) -/

def Dev.fwuResult (d : Dev) (v : Nat) (done : Bool) : Dev := (d.setF R.FWU_STATUS 27 3 v).setB R.FWU_STATUS 31 done

-- Marked: DEDUCED, log entry 57.
/-- The check of a command: its result code, 0 when it may run. -/
def Dev.fwuCheck (d : Dev) (r : Nat) (w : Word) : Nat :=
  let op := fld w 0 4
  let src := (d.reg R.FWU_SRC).toNat
  let dst := (d.reg R.FWU_DST).toNat
  let len := d.f R.FWU_LEN 0 25
  let rom := d.fw.recov = 1
  let top := if rom then 0x100000 else 0x2000000
  let win := d.f R.FWU_WRWIN 0 1 * 0x1000000
  let mp := decide (r = 64 ∨ r = 65)
  let confirmed := d.fw.weave.confirmed * 0x1000000
  if op = 0 ∨ 4 < op then 1
  else if mp ∧ (op < 3 ∨ !d.b R.FWU_WRWIN 31 ∨ src < win ∨ win + 0x1000000 < src + len) then 5
  else if 3 ≤ op ∧ d.fw.recov = 0 ∧ d.fw.weave.trial ∧ src < confirmed + 0x1000000 ∧ confirmed < src + len then 5
  else if 3 ≤ op ∧ d.fw.recov = 2 ∧ 0x1000000 < src + len then 5
  else if op = 1 ∧ ((bitOf w 10 ∧ (d.cpu 64).run ≠ .inReset) ∨ (bitOf w 11 ∧ (d.cpu 65).run ≠ .inReset)) then 5
  else if top < src + len ∨ (op = 3 ∧ (src % 65536 ≠ 0 ∨ len % 65536 ≠ 0)) then 2
  else if op = 1 ∧ (dst % 4 ≠ 0 ∨ (bitOf w 9 ∧ !msOk dst len) ∨ ((bitOf w 10 ∨ bitOf w 11) ∧ 0x200000 < dst + len)) then 2
  else if op = 4 ∧ (dst % 4 ≠ 0 ∨ !msOk dst len) then 2
  else 0

/-- A command is written. -/
def Dev.fwuCmd (d : Dev) (r : Nat) (w : Word) : Dev :=
  if d.b R.FWU_STATUS 30 then d.fwuResult 6 false else
  let c := d.fwuCheck r w
  if c ≠ 0 then d.fwuResult c true
  else
    { (d.fwuResult 0 false).setB R.FWU_STATUS 30 true with
      fw := { d.fw with cmd := some (w, (d.reg R.FWU_SRC).toNat, (d.reg R.FWU_DST).toNat, d.f R.FWU_LEN 0 25) } }

-- Marked: DEDUCED, log entry 57.
/-- In recovery, an image that passes resets the device (R295). -/
def Dev.recovered (d : Dev) : Dev :=
  if (d.fw.recov = 1 ∧ (d.verifyRim 0 = 0 ∨ d.verifyRim 1 = 0)) ∨ (d.fw.recov = 2 ∧ d.verifyWeave 0 false = 0)
  then d.enterReset 8 0 else d

-- Marked: DEDUCED, log entry 57.
/-- The effect of a command that has ended well. -/
def Dev.fwuEffect (d : Dev) (w : Word) (src dst len : Nat) : Dev :=
  let base := if d.fw.recov = 1 then rimBase 0 else flashBase
  let digest (d : Dev) : Dev :=
    let l := (if bitOf w 8 then d.fw.digested else []) ++ d.rdBytes (base + src) len
    { d with fw := { d.fw with digested := l } }.forEach (List.range 8) fun d i => d.setReg (R.FWU_DIGEST i) (Config.sha256 l i)
  match fld w 0 4 with
  | 1 =>
    let put (d : Dev) (on_ : Bool) (to_ : Nat) : Dev := if on_ then (d.copyMem (base + src) (to_ + dst) len).msTraffic (to_ + dst) len 1 else d
    digest (put (put (put d (bitOf w 9) storeBase) (bitOf w 10) (sramBase 0)) (bitOf w 11) (sramBase 1))
  | 2 => digest d
  | 3 => d.clearMem (base + src) len
  | _ => ((d.copyMem (storeBase + dst) (base + src) len).msTraffic (storeBase + dst) len 2).recovered

/-- FWU_DONE: the command in progress ends, well or with FLASH_ERROR. -/
def Dev.fwuDone (d : Dev) (ok : Bool) : Dev :=
  match d.fw.cmd with
  | none => d
  | some (w, src, dst, len) =>
    let d := ({ d with fw := { d.fw with cmd := none } }.fwuResult (if ok then 0 else 4) true).setB R.FWU_STATUS 30 false
    if ok then d.fwuEffect w src dst len else d

end Sys2Proof.Machine
end

