-- ==== Sys2Proof/Machine/Contactless.lean ====
section
/-!
DEFINITION. The contactless port: the tag front end, the Commissioning Area and its write sequence, the reader, and the
Rim calls of R425 (R409 to R426).
-/

namespace Sys2Proof.Machine

/-! ## The Commissioning Area (R415 to R418) -/

abbrev caBase : Nat := mramBase + 0xD0000
abbrev caShadow : Nat := caBase + 0x1000
abbrev caSelAt (i : Nat) : Nat := caBase + 0x1100 + 32 * i
abbrev caCfgAt (i : Nat) : Nat := caBase + 0x1140 + 32 * i

-- Marked: PRESUMED, log entry 71.
/-- The newest of two record copies of 32 octets (R290). -/
def Dev.newestCopy (d : Dev) (a : Nat) : Option Nat := d.newestAt (fun i => a + 32 * i) 32

-- Marked: PRESUMED, log entry 71.
/-- Writes the copy with the older generation: its generation, 24 octets and the CRC. -/
def Dev.putCopy (d : Dev) (a gen : Nat) (body : List Byte) : Dev := d.putAt (fun i => a + 32 * i) 32 gen body

-- Marked: PRESUMED, log entry 71.
/-- The selector: GEN, STATE and PAGE; all 0 while no copy is valid. -/
def Dev.caSel (d : Dev) : Nat × Nat × Nat :=
  match d.newestCopy (caSelAt 0) with
  | some i => ((d.rd32 (caSelAt i)).toNat, (d.rd8 (caSelAt i + 4)).toNat, (d.rd8 (caSelAt i + 5)).toNat % 16)
  | none => (0, 0, 0)

def Dev.caGen (d : Dev) : Nat := d.caSel.1
def Dev.caFlip (d : Dev) (gen state page : Nat) : Dev :=
  d.putCopy (caSelAt 0) (gen % 2 ^ 32) [BitVec.ofNat 8 state, BitVec.ofNat 8 page]

-- Marked: PRESUMED, log entry 71.
/-- The tag configuration record: TAG_EN and WP. -/
def Dev.tagCfg (d : Dev) : Bool × Nat :=
  match d.newestCopy (caCfgAt 0) with
  | some i => (d.rd8 (caCfgAt i + 4) != 0#8, (d.rd16 (caCfgAt i + 6)).toNat)
  | none => (false, 0)

/-- CLP_TAGCFG is stored in the record (R426). -/
def Dev.setTagCfg (d : Dev) (w : Word) : Dev :=
  let gen := match d.newestCopy (caCfgAt 0) with | some i => (d.rd32 (caCfgAt i)).toNat | none => 0
  d.putCopy (caCfgAt 0) ((gen + 1) % 2 ^ 32) [BitVec.ofNat 8 (b2n (bitOf w 31)), 0#8, byteOf w 0, byteOf w 1]

def Dev.tagCfgWord (d : Dev) : Word := let (e, w) := d.tagCfg; pack [(31, b2n e), (0, w)]
def Dev.caStateWord (d : Dev) : Word := let (_, s, p) := d.caSel; pack [(31, s % 2), (16, p)]

/-- One octet of the area; the page the selector names comes from the shadow while STATE = 1. -/
def Dev.caOctet (d : Dev) (o : Nat) : Byte :=
  let (_, s, p) := d.caSel
  if s = 1 ∧ o / 256 = p then d.rd8 (caShadow + o % 256) else d.rd8 (caBase + o)

def Dev.caRead (d : Dev) (o n : Nat) : List Byte := (List.range n).map fun i => d.caOctet (o + i)

/-- Step 5: the shadow page is copied to the primary page, and the selector goes to STATE 0. -/
def Dev.caCopyBack (d : Dev) : Dev :=
  let (g, _, p) := d.caSel
  (d.wrBytes (caBase + 256 * p) (d.rdBytes caShadow 256)).caFlip (g + 1) 0 p

-- Marked: PRESUMED, log entry 71.
/-- Octets a step left half written hold what the manual does not say. -/
def Dev.wrOpen (d : Dev) (a n : Nat) : Dev :=
  d.forEach (List.range n) fun d i => let (v, d) := d.fresh; d.wr32 (a + 4 * i) v

-- Marked: PRESUMED, log entry 71; DESIGN CHOICE, log entry 72.
/-- Steps 2 to 5 of R417 for one page: `cut` is the step during which power goes, 0 for none; `mism` how many times the
shadow page read back wrong. The result is a tag status. -/
def Dev.caWrite (d : Dev) (page : Nat) (l : List Byte) (cut mism : Nat) : Dev × Nat :=
  let (g, _, _) := d.caSel
  if cut = 1 then (d, 6)
  else if cut = 2 then (d.wrOpen caShadow 64, 6)
  else
    let d := d.wrBytes caShadow l
    if cut = 3 ∨ 2 ≤ mism then (d, 6)
    else if cut = 4 then
      let (v, d) := d.fresh
      (if bitOf v 0 then d.caFlip (g + 1) 1 page else d, 6)
    else
      let d := d.caFlip (g + 1) 1 page
      if cut = 5 then (d.wrOpen (caBase + 256 * page) 64, 6) else (d.caCopyBack, 0)

/-- The steps of a write with their maximum durations in µs (R417): a first mismatch has the shadow page written again, a
second ends the write. -/
def caSteps : Nat → List (Nat × Nat)
  | 0 => [(2, 3200), (3, 400), (4, 600), (5, 3800)]
  | 1 => [(2, 3200), (3, 400), (2, 3200), (3, 400), (4, 600), (5, 3800)]
  | _ => [(2, 3200), (3, 400), (2, 3200), (3, 400)]

/-- How long a list of steps takes at most, in µs. -/
def stepsTime (l : List (Nat × Nat)) : Nat := (l.map Prod.snd).sum

/-- The step in progress `e` clock periods after the first began; 0 after the last. -/
def stepAt : List (Nat × Nat) → Nat → Nat
  | [], _ => 0
  | (k, t) :: r, e => if e < t * us then k else stepAt r (e - t * us)

/-- The clock period at which the write ends, and its step at clock period `now`: 1 until it begins, 0 once it has ended. -/
def CaWr.ends (w : CaWr) : Nat := w.start + stepsTime (caSteps w.mism) * us
-- Marked: DESIGN CHOICE, log entry 72.
def CaWr.step (w : CaWr) (now : Nat) : Nat := if now < w.start then 1 else stepAt (caSteps w.mism) (now - w.start)

/-- The clock period at which the sequencer is free (R420). -/
def Dev.caFree (d : Dev) : Nat := match d.clp.wrs with | w :: _ => max d.clk w.ends | [] => d.clk

/-- The area as the collapse of write `w` in step `k` leaves it. -/
def Dev.caUndo (d : Dev) (w : CaWr) (k : Nat) : Dev :=
  (((d.wrBytes (caBase + 256 * w.page) w.old).wrBytes (caSelAt 0) w.sel).caWrite w.page w.new k w.mism).1

-- Marked: DESIGN CHOICE, log entry 72.
/-- Writes of the tag, or of Rim, that power leaves at clock period `now` collapse in the step they are in (R417). -/
def Dev.caCollapse (d : Dev) (tag : Bool) (now : Nat) : Dev :=
  let d := d.forEach (d.clp.wrs.filter fun w => w.tag == tag && w.step now != 0) fun d w => d.caUndo w (w.step now)
  { d with clp := { d.clp with wrs := d.clp.wrs.filter fun w => w.tag != tag } }

-- Marked: DESIGN CHOICE, log entry 72.
/-- The area as a read finds it now: a write that has not passed step 4 has changed nothing, and one in step 5 is seen
through its shadow page (R417). -/
def Dev.caNow (d : Dev) : Dev :=
  d.forEach (d.clp.wrs.filter fun w => w.step d.clk != 0) fun d w => d.caUndo w (if w.step d.clk = 5 then 5 else 1)

-- Marked: DESIGN CHOICE, log entry 72.
/-- A write of Rim's that a loss of power ended collapses in the step it was in. -/
def Dev.caLost (d : Dev) : Dev :=
  match d.clp.wrs.findSome? CaWr.lost with
  | some t => d.caCollapse false t
  | none => d

/-- The first access after power returns completes an interrupted copy-back; a collapse leaves STATE = 1 (R418). -/
def Dev.caFirst (d : Dev) (cut : Bool) : Dev :=
  if d.clp.firstDone then d else
  let d := d.caLost
  let (_, s, _) := d.caSel
  if s = 1 ∧ cut then d else
  let d := if s = 1 then d.caCopyBack else d
  { d with clp := { d.clp with firstDone := true } }

-- Marked: DESIGN CHOICE, log entry 72.
/-- A whole write takes its turn in the sequencer: its effect on MRAM, and its record until the steps have taken their
time. -/
def Dev.caTurn (d : Dev) (tag : Bool) (page : Nat) (l : List Byte) (mism : Nat) : Dev × Nat :=
  let w : CaWr := { tag := tag, start := d.caFree, page := page, old := d.rdBytes (caBase + 256 * page) 256
                    sel := d.rdBytes (caSelAt 0) 64, new := l, mism := mism }
  let (e, r) := d.caWrite page l 0 mism
  ({ e with clp := { e.clp with wrs := w :: e.clp.wrs.filter fun x => decide (d.clk < x.ends) } }, r)

/-- The page with `l` put over its current value at offset `o` of the area. -/
def Dev.caPage (d : Dev) (o : Nat) (l : List Byte) : List Byte :=
  let old := d.caRead (o / 256 * 256) 256
  old.take (o % 256) ++ l ++ old.drop (o % 256 + l.length)

/-- A write addresses 1 to 256 octets of one page (R412, R416). -/
def caOnePage (o n : Nat) : Bool := decide (1 ≤ n ∧ n ≤ 256 ∧ o < 4096 ∧ o % 256 + n ≤ 256)

/-! ## Activation (R409 to R411, R424) -/

def Dev.setClp (d : Dev) (c : Clp) : Dev := { d with clp := c }

-- Marked: DESIGN CHOICE, log entry 93.
/-- Draws octets from the front end's noise source. -/
def Clp.draw (c : Clp) (n : Nat) : List Byte × Clp :=
  ((List.range n).map fun i => Config.noiseByte (c.noise + i), { c with noise := c.noise + n })

-- Marked: DEDUCED, log entry 74.
/-- A session ends: authentication, the key register and chained blocks go with it. -/
def Clp.endSession (c : Clp) (st : Nat) : Clp :=
  { c with st := st, authed := 0, key := [], rndR := [], rndT := [], counter := 0, fails := 0, slot := 0, chain := []
           part := [], wtx := [], waits := 0 }

/-- The reader's field is on (R424). -/
def Dev.rdField (d : Dev) : Bool := d.b R.CLP_RDSTAT 31

/-- An external field powers the front end: a random UID, and the configuration of the record comes into force. -/
def Dev.fieldActivation (d : Dev) : Dev :=
  let c := d.clp
  if c.field then d else
  let (e, wp) := d.tagCfg
  if !e || d.rdField then d.setClp { c with field := true, tagEn := e, wp := wp } else
  let (r, c) := c.draw 3
  d.setClp { c.endSession 1 with field := true, tagEn := e, wp := wp, uid := 0x08#8 :: r }

/-- The field is lost, and with it the UID, the session and a write in progress (R411, R417). -/
def Dev.fieldGone (d : Dev) : Dev :=
  if d.clp.field then
    let d := if d.clp.wrs.any (fun w => w.tag && w.step d.clk != 0) then
        let d := d.caCollapse true d.clk
        d.setClp { d.clp with firstDone := false } else d
    d.setClp { d.clp.endSession 0 with field := false, uid := [], fieldLost := d.clk, lastReply := [] }
  else d

/-- The field has been absent for 100 ms (R414). -/
def Dev.lockoutEnd (d : Dev) : Dev :=
  let c := d.clp
  if c.lockout && !c.field && decide (c.fieldLost + 100 * ms ≤ d.clk) then d.setClp { c with lockout := false } else d

/-- The tag hears frames: the front end is active and not silent. -/
def Clp.hears (c : Clp) : Bool := decide (c.st ≠ 0) && !c.lockout

-- Marked: PRESUMED, log entry 75.
/-- BCC: the XOR of the UID's octets. -/
def bcc (l : List Byte) : Byte := l.foldl (· ^^^ ·) 0#8

-- Marked: PRESUMED, log entry 75.
/-- REQA, or WUPA, which alone wakes a halted tag; elsewhere in activation the tag returns to IDLE. -/
def Dev.clpReqa (d : Dev) (wupa : Bool) : Dev :=
  let c := d.clp
  if !c.hears || c.st = 5 then d
  else if c.st = 1 ∨ (c.st = 4 ∧ wupa) then d.setClp { c with st := 2, lastReply := [0x04#8, 0x00#8] }
  else if c.st = 4 then d else d.setClp { c with st := 1 }

/-- The bits of octets as they go over the air, least significant first. -/
def airBits (l : List Byte) : List Bool := l.flatMap fun b => (List.range 8).map fun i => b.getLsbD i

-- Marked: PRESUMED, log entry 75.
/-- A tag in READY whose UID begins with the bits given answers with the rest. -/
def Dev.clpAnticoll (d : Dev) (known : List Bool) : Dev :=
  let c := d.clp
  let all := c.uid ++ [bcc c.uid]
  if c.hears && c.st == 2 && (airBits all).take known.length == known
  then d.setClp { c with lastReply := all.drop (known.length / 8) } else d

-- Marked: PRESUMED, log entry 75.
/-- SELECT of cascade level 1: the tag named answers SAK; another leaves READY. -/
def Dev.clpSelect (d : Dev) (uid : List Byte) : Dev :=
  let c := d.clp
  if !c.hears || c.st ≠ 2 then d
  else if uid = c.uid ++ [bcc c.uid] then d.setClp { c with st := 3, lastReply := [0x20#8] }
  else d.setClp { c with st := 1 }

-- Marked: PRESUMED, log entry 75.
/-- Frame sizes of ISO/IEC 14443-4 by code. -/
def fsdOf (i : Nat) : Nat := [16, 24, 32, 40, 48, 64, 96, 128, 256].getD i 256

-- Marked: PRESUMED, log entry 75.
/-- RATS opens the layer-4 session (R409). -/
def Dev.clpRats (d : Dev) (fsdi : Nat) : Dev :=
  let c := d.clp
  if c.hears && c.st == 3 then
    d.setClp { c.endSession 5 with fsd := fsdOf fsdi, lastReply := [0x05#8, 0x75#8, 0x00#8, 0x40#8, 0x00#8] }
  else d

-- Marked: PRESUMED, log entry 75.
/-- HLTA: the tag halts and its session ends. -/
def Dev.clpHlta (d : Dev) : Dev :=
  let c := d.clp
  if !c.hears then d
  else if c.st = 3 ∨ c.st = 5 then d.setClp (c.endSession 4)
  else if c.st = 2 then d.setClp { c with st := 1 } else d

-- Marked: PRESUMED, log entry 75.
/-- S(DESELECT). -/
def Dev.clpDeselect (d : Dev) : Dev :=
  let c := d.clp
  if c.hears && c.st == 5 then d.setClp { c.endSession 4 with lastReply := [0xC2#8] } else d

-- Marked: PRESUMED, log entry 75; DEDUCED, log entry 115.
/-- R(ACK) takes the next block of a chain; R(NAK) has the last block sent again; the answer to an S(WTX) puts the extended
waiting time in force, WTXM times 4.833 ms (R419). -/
def Dev.clpRBlock (d : Dev) (kind : Nat) : Dev :=
  let c := d.clp
  if c.hears && c.st == 5 && kind == 0 then
    match c.chain with
    | x :: r => d.setClp { c with lastReply := x, chain := r }
    | [] => d
  else if c.hears && c.st == 5 && kind == 2 then
    match c.wtx with
    | m :: r => d.setClp { c with wtx := r, waits := m * 4833 * us }
    | [] => d
  else d

/-! ## Commands (R412 to R414) -/

-- Marked: DEDUCED, log entry 74.
/-- A reply: its status, then its data, protected once the session is authenticated, and chained by the reader's
frame size. -/
def Dev.tagReply (d : Dev) (status : Nat) (data : List Byte) : Dev :=
  let c := d.clp
  let plain := BitVec.ofNat 8 status :: data
  let nonce := 0x01#8 :: (natBytes 4 c.counter ++ c.rndT.take 8)
  let l := if c.authed = 2 then ccmSeal c.key nonce 5 8 [] plain else plain
  let blocks := cut (max 1 (c.fsd - 3)) (l.length + 1) l
  d.setClp { c with
    lastst := status, lastReply := blocks.headD [], chain := blocks.drop 1
    counter := if c.authed = 2 then (c.counter + 1) % 2 ^ 32 else c.counter }

/-- AUTH_FAILED: counted while the device is powered; the third in a session silences the tag (R414). -/
def Dev.authFail (d : Dev) : Dev :=
  let d := if d.power.inReset then d else d.bumpF R.CLP_TAGLOG 0 16 1
  let n := d.clp.fails + 1
  let d := (d.setClp { d.clp with authed := 0, key := [] }).tagReply 4 []
  d.setClp { d.clp with fails := n, lockout := decide (3 ≤ n) }

-- Marked: PRESUMED, log entry 73.
def Dev.clpGetInfo (d : Dev) (msg : List Byte) : Dev :=
  if !msg.isEmpty then d.tagReply 2 []
  else d.tagReply 0 ([0x01#8] ++ natBytes 2 4096 ++ natBytes 2 256 ++ natBytes 2 d.clp.wp)

-- Marked: DEDUCED, log entry 74.
/-- A slot that AUTH1 can succeed for (R413), while no zeroisation of A2 is due (R238). -/
def Dev.authSlot (d : Dev) (k : Nat) : Bool :=
  decide (k < 256) && d.slotState k == 1 && d.slotUsage k / 16 % 2 == 1 && !d.fw.a2Pending

/-- The first pass: the slot's key goes to the key register; for a slot that cannot succeed, C1 is random and the
register stays empty. -/
def Dev.clpAuth1 (d : Dev) (msg : List Byte) : Dev :=
  if msg.length ≠ 18 then d.tagReply 2 [] else
  let k := leNat (msg.take 2)
  let r := msg.drop 2
  let (t, c) := d.clp.draw 16
  let key := if d.authSlot k then d.slotKey k else []
  let (x, c) := if d.authSlot k then (Config.aesBlock key (xorBytes r t), c) else c.draw 16
  let d := (d.setClp { c with slot := k, rndR := r }).tagReply 0 (t ++ x)
  d.setClp { d.clp with rndT := t, authed := 1, counter := 0, key := key }

/-- The second pass establishes the session key, or fails. -/
def Dev.clpAuth2 (d : Dev) (msg : List Byte) : Dev :=
  let c := d.clp
  if c.authed ≠ 1 then d.tagReply 1 []
  else if msg.length ≠ 16 then d.tagReply 2 []
  else
    let rot := c.rndR.drop 1 ++ c.rndR.take 1
    if !c.key.isEmpty && msg == Config.aesBlock c.key (xorBytes c.rndT rot) then
      let d := d.tagReply 0 []
      d.setClp { d.clp with
        authed := 2, counter := 0, key := Config.aesBlock c.key (c.rndR.take 8 ++ c.rndT.take 8) }
    else d.authFail

def Dev.clpIdent (d : Dev) (msg : List Byte) : Dev :=
  if !msg.isEmpty then d.tagReply 2 []
  else
    let v := d.hdr (weaveBase d.fw.weave.confirmed) 0x10
    d.tagReply 0 (natBytes 8 Config.eui64.toNat ++ natBytes 4 (d.reg R.DEV_ID).toNat ++ natBytes 4 v)

-- Marked: PRESUMED, log entry 73.
def Dev.clpRead (d : Dev) (msg : List Byte) : Dev :=
  let o := leNat (msg.take 2)
  let n := leNat ((msg.drop 2).take 2)
  if msg.length ≠ 4 ∨ n < 1 ∨ 256 < n ∨ 4096 < o + n then d.tagReply 2 []
  else let d := d.caFirst false; d.tagReply 0 (d.caNow.caRead o n)

-- Marked: DEDUCED, log entry 115.
/-- WTXM for a remaining maximum duration in µs (R419). -/
def wtxm (left : Nat) : Nat := min 59 (cdiv left 4833)

-- Marked: DEDUCED, log entry 115.
/-- WTXM of the S(WTX) sent before each step whose end could fall after the waiting time in force, `force` µs of which
`used` have gone; the steps come with their maximum durations (R419). -/
def wtxAsks : Nat → Nat → List (Nat × Nat) → List Nat
  | _, _, [] => []
  | force, used, (k, t) :: r =>
    if force < used + t then
      let m := wtxm (stepsTime ((k, t) :: r))
      m :: wtxAsks (m * 4833) t r
    else wtxAsks force (used + t) r

-- Marked: DEDUCED, log entry 115.
/-- The S(WTX) of a write that waits `wait` µs for the sequencer: one for the wait and the 8.0 ms of a write without
rewrite, then those that the steps up to a collapse need (R419, R420). -/
def writeAsks (wait step mism : Nat) : List Nat :=
  let m := wtxm (wait + 8000)
  m :: wtxAsks (m * 4833) wait ((caSteps mism).filter fun x => step = 0 ∨ x.1 ≤ step)

-- Marked: DEDUCED, log entry 115.
def Dev.askWtx (d : Dev) (l : List Nat) : Dev := d.setClp { d.clp with wtx := d.clp.wtx ++ l }

-- Marked: DESIGN CHOICE, log entry 72; PRESUMED, log entry 73.
/-- WRITE. `lowField`: the harvested supply is below the write threshold. A collapse during a step is the field's loss. -/
def Dev.clpWrite (d : Dev) (msg : List Byte) (lowField : Bool) (step mism : Nat) : Dev :=
  let o := leNat (msg.take 2)
  let n := leNat ((msg.drop 2).take 2)
  let l := msg.drop 4
  if l.length ≠ n || !caOnePage o n then d.tagReply 2 []
  else if d.clp.wp.testBit (o / 256) then d.tagReply 1 []
  else
    let d := d.caFirst false
    if lowField && step != 1 then d.tagReply 3 [] else
    if 1 ≤ step ∧ step ≤ 5 then
      let d := if step = 1 then d else d.askWtx (writeAsks ((d.caFree - d.clk) / us) step mism)
      let d := (d.caWrite (o / 256) (d.caPage o l) step mism).1
      (d.setClp { d.clp with firstDone := false }).fieldGone
    else
      let d := d.askWtx (writeAsks ((d.caFree - d.clk) / us) 0 mism)
      let (d, r) := d.caTurn true (o / 256) (d.caPage o l) mism
      if r ≠ 0 then d.tagReply r []
      else
        let d := if d.rimRuns then
            (d.setClp { d.clp with tagIrq := true }).bumpF R.CLP_TAGLOG 16 16 1 else d
        d.tagReply 0 (natBytes 4 d.caGen)

-- Marked: PRESUMED, log entry 73.
def Dev.clpGeneration (d : Dev) (msg : List Byte) : Dev :=
  if !msg.isEmpty then d.tagReply 2 [] else let d := d.caFirst false; d.tagReply 0 (natBytes 4 d.caNow.caGen)

-- Marked: DEDUCED, log entry 74.
/-- The octets of a command: as they came before authentication; after it the message opens under the session key, the
nonce of direction 0 and the message counter, or fails its MIC (R413). -/
def Dev.tagOpen (d : Dev) (l : List Byte) : Option (List Byte) :=
  let c := d.clp
  if c.authed ≠ 2 then some l
  else
    let (m, ok) := ccmOpen c.key (0x00#8 :: (natBytes 4 c.counter ++ c.rndT.take 8)) 5 8 [] l
    if ok && !c.key.isEmpty && decide (8 ≤ l.length) then some m else none

-- Marked: DEDUCED, log entry 74.
/-- A command by its code (R412); a message whose MIC fails ends the session (R413). -/
def Dev.tagCmd (d : Dev) (lowField : Bool) (step mism : Nat) (l : List Byte) : Dev :=
  match d.tagOpen l with
  | none =>
    let d := d.authFail
    d.setClp { d.clp.endSession 4 with lockout := d.clp.lockout }
  | some [] => d.tagReply 0xFF []
  | some (code :: m) =>
    if code = 0x10#8 then d.clpGetInfo m
    else if code = 0x20#8 then d.clpAuth1 m
    else if code = 0x21#8 then d.clpAuth2 m
    else if !([0x30#8, 0x40#8, 0x50#8, 0x60#8].contains code) then d.tagReply 0xFF []
    else if d.clp.authed ≠ 2 then d.tagReply 1 []
    else if code = 0x30#8 then d.clpIdent m
    else if code = 0x40#8 then d.clpRead m
    else if code = 0x50#8 then d.clpWrite m lowField step mism
    else d.clpGeneration m

/-- The payload of an I-block: before authentication the first block of a command begins with the command's code, and
`msg` follows it; a protected message comes as it is. -/
def Dev.blockOctets (d : Dev) (code : Byte) (msg : List Byte) : List Byte :=
  if d.clp.part.isEmpty && d.clp.authed != 2 then code :: msg else msg

-- Marked: PRESUMED, log entry 75.
/-- An I-block from the reader: a frame longer than 64 octets is not taken; one that chains is gathered and answered
R(ACK); the last makes the command (R409, R412). -/
def Dev.tagBlock (d : Dev) (code : Byte) (msg : List Byte) (more lowField : Bool) (step mism : Nat) : Dev :=
  let c := d.clp
  let l := d.blockOctets code msg
  if !c.hears || c.st ≠ 5 || decide (61 < l.length) then d
  else if more then d.setClp { c with part := c.part ++ l, lastReply := [0xA2#8] }
  else (d.setClp { c with part := [] }).tagCmd lowField step mism (c.part ++ l)

-- Marked: DEDUCED, log entry 74.
/-- CLP_TAGSTAT. -/
def Dev.tagStat (d : Dev) : Word :=
  let c := d.clp
  let busy := c.wrs.filter fun w => w.step d.clk != 0
  let step := ((busy.find? fun w => decide (w.start ≤ d.clk)).map (·.step d.clk)).getD 0
  pack [(31, b2n c.field), (30, b2n (c.st == 5)), (29, b2n (c.authed == 2)), (28, b2n c.lockout),
    (27, b2n (!busy.isEmpty)), (24, step), (16, c.slot % 256), (8, c.lastst)]

/-! ## The reader (R421 to R424) -/

def Dev.showRd (d : Dev) : Dev := d.setF R.CLP_RDSTAT 8 8 (min 255 d.clp.rdRecs.length)

def Dev.rdRecord (d : Dev) (kind tag : Nat) (l : List Byte) : Dev :=
  (d.setClp { d.clp with rdRecs := d.clp.rdRecs ++ [⟨kind, tag, l⟩] }).showRd

def Dev.rdEnabled (d : Dev) : Bool := d.pdRun 15 && d.b R.CLP_RDCTRL 31

/-- The reader turns its field on, or defers while an external field is present; true when the field is on. While it is
on the tag front end is inactive (R424). -/
def Dev.rdOn (d : Dev) : Dev × Bool :=
  if d.rdField then (d, true)
  else if d.clp.field then (d.setB R.CLP_RDSTAT 30 true, false)
  else if d.b R.CLP_RDSTAT 30 then (d, false)
  else ((d.setClp { d.clp with rdOnAt := d.clk }).setB R.CLP_RDSTAT 31 true, true)

/-- The field goes off; every tag in it loses its state. -/
def Dev.rdOff (d : Dev) : Dev :=
  (d.setClp { d.clp with rdRats := [], rdActive := none, rdWait := none }).setB R.CLP_RDSTAT 31 false

-- Marked: DESIGN CHOICE, log entry 76.
/-- After a poll and after the last exchange the field goes off and measurement resumes (R421): the last where capacitive
wake is on and no command block waits. -/
def Dev.rdRest (d : Dev) : Dev :=
  if d.b R.CLP_RDCTRL 30 && d.clp.rdCmds.isEmpty && d.clp.rdActive.isNone then d.rdOff else d

-- Marked: DESIGN CHOICE, log entry 77.
/-- A capacitance measurement (R421). -/
def Dev.wakeMeasure (d : Dev) (count : Nat) : Dev :=
  if !d.rdEnabled || !d.b R.CLP_RDCTRL 30 || d.rdField || d.clk < d.clp.nextMeas then d else
  let d := d.setClp { d.clp with nextMeas := d.clk + max 1 (d.f R.CLP_RDCTRL 8 8) * ms }
  let base := d.f R.CLP_RDCAP 0 16
  let diff : Int := (count : Int) - base
  let d := d.setF R.CLP_RDCAP 16 16 count
  if d.f R.CLP_RDWAKE 16 16 < diff.natAbs then
    (d.setClp { d.clp with rdWake := true }).rdOn.1
  else d.setF R.CLP_RDCAP 0 16 ((base : Int) + diff.tdiv 64).toNat

/-- The bits of a UID over its cascade levels, with the cascade tag before each level but the last. -/
def cascadeBits (u : List Byte) : List Bool :=
  airBits (if u.length ≤ 4 then u
    else if u.length ≤ 7 then 0x88#8 :: u
    else 0x88#8 :: u.take 3 ++ 0x88#8 :: u.drop 3)

/-- A tag is found before another when the walk takes its branch first: bit 0 before bit 1. -/
def bitsBefore : List Bool → List Bool → Bool
  | a :: r, b :: s => if a = b then bitsBefore r s else b
  | _, _ => true

-- Marked: DESIGN CHOICE, log entry 76.
/-- Puts a tag among those found, in the walk's order; one tag is found once. -/
def walkInsert (u : List Byte) : List (List Byte) → List (List Byte)
  | [] => [u]
  | v :: r => if u = v then v :: r else
    if bitsBefore (cascadeBits u) (cascadeBits v) then u :: v :: r else v :: walkInsert u r

-- Marked: DESIGN CHOICE, log entry 76.
/-- The command block at the front is of operation `op`: its tag index and data. -/
def Dev.rdFront (d : Dev) (op : Nat) : Option (Nat × List Byte) :=
  match d.clp.rdCmds with
  | (o :: t :: l) :: _ => if o.toNat = op then some (t.toNat, l) else none
  | _ => none

def Dev.rdPopCmd (d : Dev) : Dev := d.setClp { d.clp with rdCmds := d.clp.rdCmds.drop 1 }

-- Marked: DESIGN CHOICE, log entry 76.
/-- A poll: every tag in the field, RDMAX at most, with a record of kind 1 each and one of kind 4 at the limit. A poll
that a measurement started comes 5 ms after the field (R421). -/
def Dev.rdPoll (d : Dev) (tags : List (List Byte)) : Dev :=
  let wake := d.clp.rdWake
  if !d.rdEnabled || d.clp.rdActive.isSome || (!wake && (d.rdFront 1).isNone) then d else
  let (d, on_) := d.rdOn
  if !on_ || (wake && decide (d.clk < d.clp.rdOnAt + 5 * ms)) then d else
  let d := if wake then d.setClp { d.clp with rdWake := false } else d.rdPopCmd
  let most := max 1 (d.f R.CLP_RDCTRL 0 8)
  let found := (tags.foldl (fun l u => walkInsert u l) []).take most
  let d := d.setClp { d.clp with rdTags := found, rdRats := [] }
  let d := d.forEach (List.range found.length) fun d i => d.rdRecord 1 i (found.getD i [])
  let d := if found.length = most then d.rdRecord 4 0 [] else d
  (d.setF R.CLP_RDSTAT 0 8 (min 255 found.length)).rdRest

-- Marked: PRESUMED, log entry 75.
/-- FWT of a tag in clock periods: 256 × 16 ÷ fc × 2^FWI. -/
def fwt (fwi : Nat) : Nat := cdiv (4096 * 16000 * 2 ^ fwi) 1356

-- Marked: PRESUMED, log entry 75; DESIGN CHOICE, log entry 76.
/-- The wait for an ISO/IEC 14443-3 answer in clock periods: the frame delay time 1236 ÷ fc, and ANSTMO (R423). -/
def Dev.ansWait (d : Dev) : Nat := cdiv (1236 * 16000) 1356 + d.f R.CLP_RDTMO 0 8 * 10 * us

/-- The exchange at the front begins: a tag that has had no RATS is activated first, then RATS and the I-block; `fwi` is
what the tag's ATS says. -/
def Dev.exchangeBlock (d : Dev) (fwi : Nat) : Dev :=
  match d.rdFront 2 with
  | none => d
  | some (t, _) =>
    if !d.rdEnabled || d.clp.rdActive.isSome then d else
    let (d, on_) := d.rdOn
    if !on_ then d else
    let d := d.rdPopCmd
    if d.clp.rdTags.length ≤ t then (d.rdRecord 5 t []).rdRest else
    let c := d.clp
    let known := c.rdRats.contains t
    d.setClp { c with
      rdRats := if known then c.rdRats else t :: c.rdRats
      rdActive := some t, rdFwt := fwt fwi
      rdWait := some (d.clk + (if known then 0 else d.ansWait) + fwt fwi), rdNaks := 0, rdWtx := 0, rdWaitFrom := d.clk }

-- Marked: DESIGN CHOICE, log entry 76.
/-- S(DESELECT) and HLTA to tag `t`. -/
def Dev.rdRelease (d : Dev) (t : Nat) : Dev :=
  d.setClp { d.clp with rdRats := d.clp.rdRats.filter (· ≠ t), rdActive := none, rdWait := none }

-- Marked: DESIGN CHOICE, log entry 10.
/-- What comes from the tag: its reply, an S(WTX) with its multiplier in the data, or a protocol error. -/
def Dev.readerReply (d : Dev) (kind : Nat) (data : List Byte) : Dev :=
  let c := d.clp
  match c.rdActive with
  | none => d
  | some t =>
    if kind = 0 then ({ d with clp := { c with rdActive := none, rdWait := none } } : Dev).rdRecord 2 t data |>.rdRest
    else if kind = 1 then
      let wait := c.rdFwt * (data.headD 1#8).toNat
      if c.rdWtx < d.f R.CLP_RDTMO 8 8 ∧ d.clk + wait ≤ c.rdWaitFrom + d.f R.CLP_RDTMO 16 16 * ms then
        d.setClp { c with rdWtx := c.rdWtx + 1, rdWait := some (d.clk + wait) }
      else d
    else ((d.rdRelease t).rdRecord 5 t []).rdRest

/-- A wait expires: an R(NAK) once, then the exchange ends (R423). -/
def Dev.readerExpiry (d : Dev) : Dev :=
  let c := d.clp
  match c.rdActive, c.rdWait with
  | some t, some w =>
    if d.clk < w then d
    else if c.rdNaks = 0 then d.setClp { c with rdNaks := 1, rdWait := some (d.clk + c.rdFwt) }
    else ((d.rdRecord 3 t []).rdRelease t).rdRest
  | _, _ => d

def Dev.readerRelease (d : Dev) : Dev :=
  match d.rdFront 3 with
  | some (t, _) => if d.rdEnabled then (d.rdPopCmd.rdRelease t).rdRest else d
  | none => d

def Dev.readerFieldOff (d : Dev) : Dev :=
  if (d.rdFront 4).isSome && d.pdRun 15 then d.rdPopCmd.rdOff else d

/-- The external field has been absent for 5 ms: a deferred reader turns its field on (R424). -/
def Dev.deferralEnd (d : Dev) : Dev :=
  if d.b R.CLP_RDSTAT 30 && !d.clp.field && decide (d.clp.fieldLost + 5 * ms ≤ d.clk) && d.rdEnabled
  then ((d.setB R.CLP_RDSTAT 30 false).rdOn).1 else d

/-! ## Rim calls (R425) -/

def RdRec.octets (r : RdRec) : List Byte := natBytes 4 (r.kind * 2 ^ 24 + r.tag * 2 ^ 16 + r.data.length) ++ r.data

/-- Whole records that fit, oldest first, and the rest. -/
def takeRecs : Nat → List RdRec → List Byte × List RdRec
  | _, [] => ([], [])
  | n, r :: l =>
    if r.octets.length ≤ n then
      let (a, b) := takeRecs (n - r.octets.length) l
      (r.octets ++ a, b)
    else ([], r :: l)

def Dev.rimCaRead (d : Dev) (s : Nat) : Dev := d.serve s 0x22 [1, 2, 3] fun d =>
  let g1 := d.callArg s 1
  let a := (d.callArg s 2).toNat
  let n := (d.callArg s 3).toNat
  if bitOf g1 31 then
    let (l, r) := takeRecs n d.clp.rdRecs
    if !msOk a l.length then (d, [rsBADARG])
    else ((d.msWrite (storeBase + a) l).setClp { d.clp with rdRecs := r } |>.showRd, [rsOK, wd l.length])
  else
    let o := fld g1 0 12
    if 4096 < o + n || !msOk a n then (d, [rsBADARG])
    else
      let d := d.caFirst false
      (d.msWrite (storeBase + a) (d.caNow.caRead o n), [rsOK, wd n, wd d.caNow.caGen])

-- Marked: DESIGN CHOICE, log entries 72 and 76.
/-- CA_WRITE; `mism` tells how many times the shadow page read back wrong. What the call answers to a write that failed
is open. -/
def Dev.rimCaWrite (d : Dev) (s mism : Nat) : Dev := d.serve s 0x23 [1, 2, 3, 4] fun d =>
  let g1 := d.callArg s 1
  let a := (d.callArg s 2).toNat
  let n := (d.callArg s 3).toNat
  if !msOk a n then (d, [rsBADARG])
  else if bitOf g1 31 then
    let l := d.rdBytes (storeBase + a) n
    let op := (l.headD 0#8).toNat
    if n < 2 ∨ op < 1 ∨ 4 < op then (d, [rsBADARG])
    else ((if d.pdRun 15 then d.setClp { d.clp with rdCmds := d.clp.rdCmds ++ [l] } else d), [rsOK])
  else
    let o := fld g1 0 12
    let want := d.callArg s 4
    if !caOnePage o n then (d, [rsBADARG])
    else
      let d := d.caFirst false
      if want ≠ 0xFFFFFFFF#32 ∧ want ≠ wd d.caGen then (d, [rsDENIED]) else
      if d.clk + 50 * ms < d.caFree then (d, [rsBUSY]) else
      let (d, r) := d.caTurn false (o / 256) (d.caPage o (d.rdBytes (storeBase + a) n)) mism
      if r = 0 then (d, [rsOK, wd d.caGen]) else let (v, d) := d.fresh; (d, [v])

end Sys2Proof.Machine
end

