-- ==== Sys2Proof/Machine/Engines.lean ====
section
/-!
DEFINITION. Wale engines: windows of the Control Space, LOAD, START, STOP and CLEAR, handovers and their drain markers,
watchdogs, and transmit plans (R120 to R137, R272, R453, R454).
-/

namespace Sys2Proof.Machine

/-! ## Windows (R453, R454) -/

/-- What a window offset is for a requester of half `h`: a flat address and its domain; none where unassigned. -/
def winPlace (h off : Nat) : Option (Nat × Nat) :=
  if decide (0x1000000 ≤ off ∧ off < 0x1100000) then some (ntBase h + (off - 0x1000000), 40 + h)
  else if decide (0x1100000 ≤ off ∧ off < 0x1140000) then some (ledBase h + (off - 0x1100000), 40 + h)
  else if decide (0x1400000 ≤ off ∧ off < 0x2000000) then
    let x := off - 0x1400000
    some (storeBase + x, 32 + x / 0x180000)
  else none

/-- The half whose mirrors a processor sees: its own; for Custody that of the device lead, or Half A before one. -/
def Dev.winHalf (d : Dev) (p : Proc) : Nat := (p.half.orElse fun _ => d.devLead).getD 0

/-- Corrects and counts the single-bit errors of a range (R64). -/
def Dev.eccScrub (d : Dev) (a n : Nat) : Dev :=
  d.forEach (d.ecc1.filter fun x => decide (a ≤ x ∧ x < a + n)) fun d x => d.eccCorrect x

/-- A double-bit error lies in a range. -/
def Dev.eccBad (d : Dev) (a n : Nat) : Bool := d.ecc2.any fun x => decide (a / 4 * 4 ≤ x ∧ x < a + n)

/-! ## Engine memories and votes -/

/-- An engine votes to keep its cluster in Run while it is not EMPTY (R136). -/
def Dev.engVote (d : Dev) (n : Nat) : Dev := d.vote (42 + n / 8) (n % 8) (d.engState n != 0)

/-- Sets an engine's state and its vote. -/
def Dev.engTo (d : Dev) (n s : Nat) : Dev := (d.setEngState n s).engVote n

-- Marked: DESIGN CHOICE, log entry 62.
/-- CLEAR: the role is unbound, both memories read 0, and the fault record goes; EMPTY (R121, R127). -/
def Dev.engClear (d : Dev) (n : Nat) : Dev :=
  let d := (d.clearMem (engBase n) 0x8000).setCpu n {}
  let d := ((d.setReg (R.WEN_ROLE n) 0#32).setReg (R.WEN_FLTCODE n) 0#32).setReg (R.WEN_FLTPC n) 0#32
  ((d.setReg (R.WEN_FLTADDR n) 0#32).setF (R.WEN_STATUS n) 24 4 0).engTo n 0

/-! ## Roles (R10, R116, R119) -/

/-- Engine `n` may hold role (kind, res). -/
def roleFits (n kind res : Nat) : Bool :=
  match kind with
  | 0 => res == 0
  | 1 => decide (res < 16) && laneQuad res == n / 16
  | 2 => decide (res < 9)
  | 3 => decide (res < 2)
  | 4 => res == 0
  | _ => false

-- Marked: DESIGN CHOICE, log entry 62.
/-- Another engine of the half is bound to the role in RUN, PARKED or LOADING, or is the named target of a handover
for it (R123). -/
def Dev.roleTaken (d : Dev) (n : Nat) : Bool :=
  d.roleKind n != 0 && (List.range 32).any fun i =>
    let m := 32 * engHalf n + i
    m != n && d.roleKind m == d.roleKind n && d.roleRes m == d.roleRes n &&
      (d.engState m == 3 || d.engState m == 4 || d.engState m == 1 || d.b (R.WEN_STATUS m) 18)

/-- Some engine of the half other than these two runs the role of `src`: R116 permits the role no further engine. -/
def Dev.roleRuns (d : Dev) (src tgt : Nat) : Bool :=
  d.roleKind src != 0 && (List.range 32).any fun i =>
    let m := 32 * engHalf src + i
    m != src && m != tgt && d.roleKind m == d.roleKind src && d.roleRes m == d.roleRes src &&
      (d.engState m == 3 || d.engState m == 4)

-- Marked: DESIGN CHOICE, log entry 62.
/-- A new placement of the engine's role starts: the generation increases by one, modulo 16 (R119). -/
def Dev.newGen (d : Dev) (n : Nat) : Dev × Nat :=
  let h := engHalf n
  let w := d.wen h
  let k := 32 * d.roleKind n + d.roleRes n
  let g := (tget zeroDflt w.gen k + 1) % 16
  ((d.setWen h { w with gen := tput zeroDflt w.gen k g }).setF (R.WEN_STATUS n) 24 4 g, g)

def Dev.engAvail (d : Dev) (n : Nat) : Bool := decide (d.f (R.WEN_BUDGET n) 16 16 ≤ d.f (R.WEN_BUDGET n) 0 16)

/-! ## Commands (R121 to R123) -/

/-- A command ends: CMDDONE and its result. -/
def Dev.engDone (d : Dev) (n res : Nat) : Dev := (d.setB (R.WEN_STATUS n) 31 true).setF (R.WEN_STATUS n) 28 3 res

-- Marked: DESIGN CHOICE, log entry 61.
/-- LOAD is accepted or refused with BAD_RANGE (R122). -/
def Dev.engLoad (d : Dev) (n : Nat) : Dev :=
  let src := d.reg (R.WEN_LOADSRC n)
  let dst := d.reg (R.WEN_LOADDST n)
  let len := d.f (R.WEN_LOADLEN n) 0 15
  if src.toNat % 4 ≠ 0 || !decide (0x41000000 ≤ src.toNat ∧ src.toNat ≤ 0x41FFFFFF) || len = 0 || len % 4 ≠ 0 ||
      decide (16384 < fld dst 0 14 + len)
  then d.engDone n 2
  else
    let h := engHalf n
    let w := d.wen h
    (d.setWen h { w with loads := w.loads.filter (fun l => l.1 != n) ++ [(n, src.toNat, dst, len)] }).engTo n 1

-- Marked: DESIGN CHOICE, log entry 61.
/-- One octet of LOAD's source: memory, all ones where its domain is in Stop, and open where no window lies. -/
def Dev.loadOctet (d : Dev) (h off : Nat) : Dev × Byte :=
  match winPlace h off with
  | some (f, pd) => (d, if d.pdRun pd then d.rd8 f else 0xFF#8)
  | none => let (v, d) := d.fresh; (d, byteOf v 0)

/-- LOAD's source octets. -/
def loadOctets (h : Nat) : Nat → Nat → Dev → Dev × List Byte
  | 0, _, d => (d, [])
  | n + 1, off, d =>
    let (d, x) := d.loadOctet h off
    let (d, l) := loadOctets h n (off + 1) d
    (d, x :: l)

-- Marked: DESIGN CHOICE, log entry 61.
/-- A double-bit error lies in LOAD's source, in a domain that runs. -/
def Dev.loadBad (d : Dev) (h off len : Nat) : Bool :=
  d.ecc2.any fun e => (List.range (len / 4)).any fun i =>
    match winPlace h (off + 4 * i) with
    | some (f, pd) => d.pdRun pd && f == e
    | none => false

-- Marked: DESIGN CHOICE, log entry 61.
/-- The copy of LOAD ends (R122). -/
def Dev.engLoadDone (d : Dev) (n : Nat) : Dev :=
  let h := engHalf n
  let w := d.wen h
  match w.loads.find? (·.1 == n) with
  | none => d
  | some (_, src, dst, len) =>
    if d.engState n ≠ 1 then d else
    let d := d.setWen h { w with loads := w.loads.filter fun l => l.1 != n }
    let off := src - 0x40000000
    if d.loadBad h off len then (d.engClear n).engDone n 5
    else
      let (d, l) := loadOctets h len off d
      let d := match winPlace h off with
        | some (f, _) => (d.eccScrub f len).msTraffic f len 2
        | none => d
      let d := d.wrBytes (engBase n + (if bitOf dst 16 then 0x4000 else 0) + fld dst 0 14) l
      ((d.setReg (R.WEN_LOADCRC n) (crc32 l)).engTo n 2).engDone n 0

/-- Processor `n` starts at `pc` with registers `g` of a fresh placement. -/
def Dev.engRun (d : Dev) (n : Nat) (c : Cpu) : Dev := (d.setCpu n c).engTo n 3

-- Marked: DESIGN CHOICE, log entry 7.
/-- START (R123). -/
def Dev.engStart (d : Dev) (n : Nat) : Dev :=
  let e := (d.reg (R.WEN_ENTRY n)).toNat
  let sp := (d.reg (R.WEN_SP n)).toNat
  if e % 4 ≠ 0 || !decide (e < 0x4000) || sp % 4 ≠ 0 ||
      !decide ((d.reg (R.WEN_STKLO n)).toNat ≤ sp ∧ sp ≤ (d.reg (R.WEN_STKHI n)).toNat) then d.engDone n 2
  else if !roleFits n (d.roleKind n) (d.roleRes n) || d.roleTaken n then d.engDone n 3
  else if !d.engAvail n then d.engDone n 4
  else
    let c : Cpu := {}
    let (d, _) := d.newGen n
    (d.engRun n { c.put 31 (wd sp) with pc := wd e }).engDone n 0

/-- A write of WENn_CMD (R121); any code in a state that does not accept it reports BAD_STATE. -/
def Dev.wenCmd (d : Dev) (n code : Nat) : Dev :=
  let d := d.setB (R.WEN_STATUS n) 31 false
  let s := d.engState n
  if code = 1 ∧ (s = 0 ∨ s = 2) then d.engLoad n
  else if code = 2 ∧ s = 2 then d.engStart n
  else if code = 3 ∧ s = 3 then
    (((d.placeMarker n).onCpu n fun c => { c with wait := .none }).engTo n 6).engDone n 0
  else if code = 4 ∧ (s = 2 ∨ s = 5 ∨ s = 6) then (d.engClear n).engDone n 0
  else d.engDone n 1

/-! ## Handovers (R128 to R135) -/

abbrev hoOK : Nat := 0
abbrev hoPENDING : Nat := 1
abbrev hoTIMEOUT : Nat := 2
abbrev hoNOTPERM : Nat := 3
abbrev hoNOTREADY : Nat := 4
abbrev hoBUSY : Nat := 5
abbrev hoCOPY : Nat := 6
abbrev hoBUDGET : Nat := 7

-- Marked: DEDUCED, log entry 95.
/-- A request ends with a result; `done` is false while it is pending. -/
def Dev.hoStat (d : Dev) (h : Nat) (done : Bool) (res src tgt gen : Nat) : Dev :=
  d.setReg (R.WENH_HOSTAT h) (pack [(31, b2n done), (24, res), (20, gen), (8, tgt), (0, src)])

/-- The pending request of a half ends. -/
def Dev.hoEnd (d : Dev) (h : Nat) (x : Handover) (res gen : Nat) : Dev :=
  let d := d.setWen h { d.wen h with ho := none }
  let d := (d.setB (R.WEN_STATUS x.src) 19 false).setB (R.WEN_STATUS x.tgt) 18 false
  d.hoStat h true res x.src x.tgt gen

/-- The octets of a memory range that are not 0, by offset. -/
def Dev.memPart (d : Dev) (a n : Nat) : Table Byte :=
  (d.mem.filter fun e => decide (a ≤ e.1 ∧ e.1 < a + n)).map fun e => (e.1 - a, e.2)

-- Marked: DESIGN CHOICE, log entry 62.
/-- Slots named in DISARM: each armed one is disarmed if 320 ticks remain, otherwise it fires (R131): freed and late. -/
def Dev.hoDisarm (d : Dev) (u mask : Nat) : Dev × Nat × Nat :=
  ((List.range 16).filter fun k => mask.testBit k).foldl (fun (d, freed, late) k =>
    if (d.armOf u k).isNone then (d, freed, late) else
    let (d, r) := d.disarmSlot u k
    if r = gOK then (d, freed + 2 ^ k, late) else (d, freed, late + 2 ^ k)) (d.settle u, 0, 0)

/-- The source returns to RUN at its resume address, its `SWP` complete (R89, R126), and the request ends; a forced request leaves the source as it is. -/
def Dev.hoBack (d : Dev) (h : Nat) (x : Handover) (force : Bool) (res : Nat) : Dev :=
  let d := if force then d else
    (d.onCpu x.src fun c => { c with pc := d.reg (R.WEN_SWPPC x.src), wait := .none, units := 4 }).engTo x.src 3
  d.hoEnd h x res 0

-- Marked: DESIGN CHOICE, log entry 62.
/-- Steps 3 to 5 of R129, with the report of R134. `carried` says whether the carry region was copied. -/
def Dev.hoMove (d : Dev) (h : Nat) (x : Handover) (force carried : Bool) : Dev :=
  let S := x.src
  let T := x.tgt
  let (d, freed, late) :=
    if x.exchange && d.roleKind S == 1 then d.hoDisarm (d.roleRes S) (d.f (R.WEN_SWAPCFG T) 16 16) else (d, 0, 0)
  let ecc := d.f (R.WEN_FLTCODE S) 0 8 == 8
  let resume := d.reg (R.WEN_SWPPC S)
  let old := (d.roleKind S, d.roleRes S, d.f (R.WEN_STATUS S) 24 4)
  let (d, g) := (d.setReg (R.WEN_ROLE T) (d.reg (R.WEN_ROLE S))).newGen T
  let d := if force then d else d.placeMarker S
  let c : Cpu := {}
  let cpu : Cpu :=
    if !x.exchange && !force then { d.cpu S with pc := resume, wait := .none, units := 4 }
    else
      let c := ((c.put 1 (pack [(16, late), (0, freed)])).put 2 (if force then 0#32 else resume)).put 3
        (pack [(2, b2n ecc), (1, b2n carried), (0, b2n force)])
      { c.put 31 (d.reg (R.WEN_SP T)) with pc := d.reg (R.WEN_ENTRY T) }
  let d := ((d.engRun T cpu).engClear S).hoEnd h x hoOK g
  (d.setWen h { d.wen h with ended := old }).setB (R.WENH_HOSTAT h) 19 (!(d.wen h).markers.contains old)

-- Marked: DESIGN CHOICE, log entry 62.
/-- Steps 1 and 2 of R129, then the rest. The copy is made only into a target that is still READY. -/
def Dev.hoRun (d : Dev) (h : Nat) (x : Handover) (force : Bool) : Dev :=
  let mig := !x.exchange && !force
  let n := if mig then 0x4000 else min 16384 (d.f (R.WEN_SWAPCFG x.tgt) 0 16)
  let a := engBase x.src + 0x4000
  let bad := d.eccBad a n
  if bad && !force then d.hoBack h x force hoCOPY else
  let ready := d.engState x.tgt == 2
  let d := if bad || !ready then d else (d.eccScrub a n).copyMem a (engBase x.tgt + 0x4000) n
  if !ready then d.hoBack h x force hoNOTREADY
  else if !d.engAvail x.tgt then d.hoBack h x force hoBUDGET
  else d.hoMove h x force (!bad && n != 0)

-- Marked: DESIGN CHOICE, log entry 62.
/-- A write of WENHh_HOCMD (R128). -/
def Dev.hoCmd (d : Dev) (h : Nat) (w : Word) : Dev :=
  let src := fld w 0 6
  let tgt := fld w 8 6
  let kind := fld w 29 2
  let force := bitOf w 31
  let refuse (d : Dev) (r : Nat) : Dev := d.hoStat h true r src tgt 0
  if (d.wen h).ho.isSome then refuse d hoBUSY
  else if engHalf src ≠ h || engHalf tgt ≠ h || src = tgt || decide (1 < kind) ||
      !roleFits tgt (d.roleKind src) (d.roleRes src) || d.roleRuns src tgt then refuse d hoNOTPERM
  else if d.engState tgt ≠ 2 || d.roleKind tgt ≠ d.roleKind src || d.roleRes tgt ≠ d.roleRes src ||
      (kind = 0 && d.memPart (engBase src) 0x4000 != d.memPart (engBase tgt) 0x4000) then refuse d hoNOTREADY
  else if (if force then d.engState src != 5 && d.engState src != 6 else d.engState src != 3) then refuse d hoNOTPERM
  else
    let x : Handover := ⟨src, tgt, kind == 1, d.count + d.f (R.WENH_HOTMO h) 0 24 * us⟩
    let d := d.setWen h { d.wen h with ho := some x }
    let d := (d.setB (R.WEN_STATUS src) 19 true).setB (R.WEN_STATUS tgt) 18 true
    let d := d.hoStat h false hoPENDING src tgt 0
    if force then d.hoRun h x true else d

-- Marked: DESIGN CHOICE, log entry 9.
/-- The deadline has passed with the source not parked: TIMEOUT (R129). -/
def Dev.hoTimeout (d : Dev) (h : Nat) : Dev :=
  match (d.wen h).ho with
  | some x => if x.deadline < d.count then d.hoEnd h x hoTIMEOUT 0 else d
  | none => d

/-- The handover that parks engine `n` at a `SWP` accepted now, if one is pending (R109, R129). -/
def Dev.hoPending (d : Dev) (n : Nat) : Option Handover :=
  (d.wen (engHalf n)).ho.bind fun x => if x.src = n ∧ d.count ≤ x.deadline then some x else none

/-- The engine parks with its resume address, and the handover runs. -/
def Dev.park (d : Dev) (n : Nat) (x : Handover) (resume : Word) : Dev :=
  ((d.setReg (R.WEN_SWPPC n) resume).engTo n 4).hoRun (engHalf n) x false

/-! ## Transmit plans and drain markers (R132, R133, R272) -/

-- Marked: DEDUCED, log entry 63.
/-- A plan goes to the receive queues of the named lane's sequencer and of its partner's; in Capacity mode to the named
lane alone. A plan of the trailing half's role is discarded and counted. -/
def Dev.planDeliver (d : Dev) (h : Nat) (l : List Word) : Dev :=
  if !d.capacity && d.leader != h then d.bump R.MSG_CNT_STALE else
  let w0 := l.headD 0#32
  let n := fld w0 28 4
  let rec_ := pack [(29, 4), (0, fld w0 0 16)] :: l.drop 1
  let put (d : Dev) (n : Nat) : Dev := d.onRadio n fun r => { r with rxq := r.rxq ++ rec_ }
  if d.capacity then put d n else put (put d n) (lanePartner n)

/-- A drain marker of role (kind, res) has not passed in half `h`. -/
def Dev.markerOf (d : Dev) (h kind res : Nat) : Bool := (d.wen h).markers.any fun m => m.1 == kind && m.2.1 == res

def Dev.showHoldcnt (d : Dev) (h : Nat) : Dev := d.setF (R.WENH_HOLDCNT h) 0 9 (d.wen h).hold.length

/-- A result of a role whose older placement has a marker to pass waits in the hold queue (R132). -/
def Dev.holdResult (d : Dev) (h : Nat) (x : Held) : Dev :=
  let w := d.wen h
  (d.setWen h { w with hold := w.hold ++ [x] }).showHoldcnt h

/-- The generation whose marker passes next for a role (R132). -/
def Wen.oldest (w : Wen) (kind res : Nat) : Option Nat :=
  (w.markers.find? fun m => m.1 == kind && m.2.1 == res).map fun m => m.2.2

-- Marked: DEDUCED, log entry 63.
/-- A record waits in the hold queue, or is not written while it is full (R133). -/
def Dev.holdRecord (d : Dev) (h : Nat) (r : ResultRec) : Dev :=
  if (d.wen h).hold.length < 256 then d.holdResult h ⟨r.kind, r.res, r.gen, .record r⟩ else d

-- Marked: DEDUCED, log entry 63.
/-- RESULT_RECORD: a record of the generation whose marker passes next is admitted as it arrives; one of a later
generation is held while an older marker has not passed, and is not written while the hold queue is full (R133); one of a
placement whose marker has passed is discarded and counted (R132, R257). -/
def Dev.resultRecord (d : Dev) (h : Nat) (r : ResultRec) : Dev :=
  let w := d.wen h
  if !d.pdRun 5 then d
  else if w.oldest r.kind r.res = some r.gen then d.admitRecord h r
  else if w.markers.contains (r.kind, r.res, r.gen) then d.holdRecord h r
  else if r.gen ≠ tget zeroDflt w.gen (32 * r.kind + r.res) then d.bump R.MSG_CNT_STALE
  else if !d.markerOf h r.kind r.res then d.admitRecord h r
  else d.holdRecord h r

-- Marked: DEDUCED, log entry 63.
/-- A plan word may be written: where the plan would be held, the hold queue has room, and fewer than 64 plans of the half
wait (R133, R222). -/
def Dev.planRoom (d : Dev) (h res : Nat) : Bool :=
  !d.markerOf h 3 res || decide ((d.wen h).hold.length < 256 ∧ ((d.wen h).hold.filter (·.kind == 3)).length < 64)

-- Marked: DEDUCED, log entry 63.
/-- A word of PLANQ: the fourth completes a record, which is held while an older placement's marker has not passed. -/
def Dev.planWord (d : Dev) (h res gen : Nat) (v : Word) : Dev :=
  let l := tget nilDflt d.planq (2 * h + res) ++ [v]
  if l.length < 4 then { d with planq := tput nilDflt d.planq (2 * h + res) l }
  else
    let d := { d with planq := tput nilDflt d.planq (2 * h + res) [] }
    if d.markerOf h 3 res then d.holdResult h ⟨3, res, gen, .plan l⟩ else d.planDeliver h l

/-- The half's trail queue can take the records of `l`: with the transactions still undecided they do not pass 4,096
(R273). A leading half, and one in Capacity mode, keeps no trail. -/
def Dev.trailTakes (d : Dev) (h : Nat) (l : List Held) : Bool :=
  let open_ (r : ResultRec) : Bool := (d.undecided r.lsn).isSome
  !d.pdRun 5 || d.capacity || decide (d.leader = h) ||
    decide (((d.trail h).filter open_).length +
      (l.filter fun x => match x.what with | .record r => open_ r | .plan _ => false).length ≤ 4096)

-- Marked: DESIGN CHOICE, log entry 62; DEDUCED, log entry 63.
/-- The oldest drain marker of a half passes: the role's results of the generation whose marker comes next, or all of them
after the last marker, are admitted in the order they were written; DRAINED sets with the marker of the placement the last
handover ended (R132). While the half's trail queue has no room for them they stay held, and the marker with them (R111, R273). -/
def Dev.drainMarker (d : Dev) (h : Nat) : Dev :=
  let w := d.wen h
  match w.markers with
  | [] => d
  | m :: r =>
    let d := d.setWen h { w with markers := r }
    let next := (d.wen h).oldest m.1 m.2.1
    let mine (x : Held) : Bool := x.kind == m.1 && x.res == m.2.1 && (next.isNone || next == some x.gen)
    let go := w.hold.filter mine
    if !d.trailTakes h go then d.setWen h w else
    let d := d.setWen h { d.wen h with hold := w.hold.filter fun x => !mine x }
    let d := (d.forEach go fun d x => match x.what with
      | .plan l => d.planDeliver h l
      | .record r => d.admitRecord h r).showHoldcnt h
    if d.b (R.WENH_HOSTAT h) 31 && d.f (R.WENH_HOSTAT h) 24 3 == 0 && (d.wen h).ended == m
    then d.setB (R.WENH_HOSTAT h) 19 true else d

/-! ## Watchdogs (R126) -/

-- Marked: DESIGN CHOICE, log entry 64.
/-- The run watchdog: code 32. -/
def Dev.runWatchdog (d : Dev) (n : Nat) : Dev :=
  let k := d.f (R.WEN_WDOG n) 0 16
  if d.executing n && k != 0 && decide (k * 1024 < (d.cpu n).units) then (d.engineFault n 32 0#32).engVote n else d

-- Marked: DESIGN CHOICE, log entry 64.
/-- The wait watchdog: code 33, at the waiting instruction. -/
def Dev.waitWatchdog (d : Dev) (n : Nat) : Dev :=
  let k := d.f (R.WEN_WDOG n) 16 16
  if d.executing n && (d.cpu n).wait != .none && k != 0 && decide ((d.cpu n).waitAt + k * ms < d.clk)
  then (d.engineFault n 33 0#32).engVote n else d

end Sys2Proof.Machine
end

