-- ==== Sys2Proof/Machine/Events.lean ====
section
/-!
DEFINITION. Event steps of the Skein, its configuration, splint cells, and performance counters (R391 to R405).
-/

namespace Sys2Proof.Machine

/-! ## Splint cells (R397 to R399) -/

/-- The mode of input `i` of cell `c`. -/
def Dev.scMode (d : Dev) (c i : Nat) : Nat := d.f (R.EVR_SC_CFG c) (2 * i) 2

/-- The value of input `i` of cell `c` in an evaluation that a delivery to input `by_` causes. -/
def Dev.scInput (d : Dev) (c by_ i : Nat) : Bool :=
  match d.scMode c i with
  | 1 => i == by_
  | 2 => d.b (R.EVR_SC_STATE c) i
  | 3 => d.b (R.EVR_SC_STATE c) 4
  | _ => false

-- Marked: DESIGN CHOICE, log entry 65.
/-- A change of Q in a direction QEDGE selects posts, at once or once it has held for FILT × 16 ticks. -/
def Dev.scChange (d : Dev) (c : Nat) (q : Bool) : Dev :=
  let cfg := d.reg (R.EVR_SC_CFG c)
  let chosen := bitOf cfg (if q then 28 else 29)
  let filt := fld cfg 24 4
  let set (d : Dev) (v : Nat) : Dev := { d with skein := { d.skein with filt := tput zeroDflt d.skein.filt c v } }
  let d := set d 0
  if !chosen then d else if filt = 0 then d.post (fld cfg 16 8) else set d (d.clk + filt * 16)

/-- One evaluation of cell `c`, caused by a delivery to input `i`; a FEEDBACK input takes no deliveries. -/
def Dev.scDeliver (d : Dev) (c i : Nat) : Dev :=
  if d.scMode c i = 3 then d else
  let d := if d.scMode c i = 2 then d.setB (R.EVR_SC_STATE c) i (!d.b (R.EVR_SC_STATE c) i) else d
  let idx := 8 * b2n (d.scInput c i 3) + 4 * b2n (d.scInput c i 2) + 2 * b2n (d.scInput c i 1) + b2n (d.scInput c i 0)
  let r := d.b (R.EVR_SC_LUT c) idx
  if d.b (R.EVR_SC_CFG c) 30 then
    if r == d.b (R.EVR_SC_STATE c) 4 then d else (d.setB (R.EVR_SC_STATE c) 4 r).scChange c r
  else if r then d.post (d.f (R.EVR_SC_CFG c) 16 8) else d

-- Marked: DESIGN CHOICE, log entry 65.
/-- Q has held its new value long enough. -/
def Dev.filterExpiry (d : Dev) (c : Nat) : Dev :=
  let t := tget zeroDflt d.skein.filt c
  if t ≠ 0 ∧ t ≤ d.clk then
    let d := { d with skein := { d.skein with filt := tput zeroDflt d.skein.filt c 0 } }
    d.post (d.f (R.EVR_SC_CFG c) 16 8)
  else d

/-! ## Event steps (R391 to R394) -/

-- Marked: DEDUCED, log entry 66.
/-- Phase 1 for slot `j`: a processor latches the delivery, or has its overrun flag set where it is busy. -/
def Dev.latchSlot (d : Dev) (ch j : Nat) : Dev :=
  let p := d.consumer ch j
  if p < 67 then
    if d.latched p ch then ((d.setFurther p ch).setB (R.EVR_CH_STAT ch) j true).pmcEvent 0x0C else d.setLatch p ch true
  else d

/-- A counter listed as a consumer counts its deliveries (R402, selection 0). -/
def Dev.pmcDeliver (d : Dev) (n : Nat) : Dev := d.onFab fun f =>
  let c := f.reg (R.PMC_CFG n)
  if !f.frozen && fld c 0 3 == 1 && fld c 3 10 == 0 then pmcAdd fabPost f n 1 else f

/-- Phase 2 for slot `j`: a waiting processor, a timer's capture, a splint input or a counter acts on the delivery. -/
def Dev.actSlot (d : Dev) (ch j : Nat) : Dev :=
  let p := d.consumer ch j
  if p < 67 then d.wakeEvent p ch
  else if 0x80 ≤ p ∧ p < 0xA0 then d.tmrEvent (p - 0x80) ch
  else if 0x100 ≤ p ∧ p < 0x180 then d.scDeliver ((p - 0x100) / 4) (p % 4)
  else if 0x200 ≤ p ∧ p < 0x240 then d.pmcDeliver (p - 0x200)
  else d

/-- One event step of channel `ch`: every consumer latches before any acts. -/
def Dev.eventStep (d : Dev) (ch : Nat) : Dev :=
  if !tget falseDflt d.skein.held ch || !d.pdRun 3 then d else
  let d := { d with skein := { d.skein with held := tput falseDflt d.skein.held ch false } }
  (d.forEach (List.range 8) fun d j => d.latchSlot ch j).forEach (List.range 8) fun d j => d.actSlot ch j

/-- EVR_LATCHCLR: the writer's own latch. -/
def Dev.latchClear (d : Dev) (r : Nat) (w : Word) : Dev := d.setLatch r (fld w 0 8) false

/-! ## Configuration (R393, R396, R400) -/

abbrev evNone : Nat := 0x3FF

/-- Identifiers a channel may list. -/
def evKnown (i : Nat) : Bool :=
  decide (i < 0x43 ∨ (0x80 ≤ i ∧ i < 0xA0) ∨ (0x100 ≤ i ∧ i < 0x180) ∨ (0x200 ≤ i ∧ i < 0x240) ∨ i = evNone)

/-- Identifiers that one channel alone may list: all but the processors. -/
def evSingle (i : Nat) : Bool := decide (0x80 ≤ i) && i != evNone

/-- Channels that have listed anything. -/
def Dev.evChans (d : Dev) : List Nat := d.listed (R.EVR_CH_CFG 0) 0x20 256 ++
  ((List.range 4).map fun m => d.listed (R.EVR_CH_CONS 0 m) 0x20 256).flatten

/-- Some other channel lists the identifier. -/
def Dev.evElsewhere (d : Dev) (k i : Nat) : Bool :=
  d.evChans.any fun c => c != k && (List.range 8).any fun j => d.consumer c j == i

/-- A cell's own output channel would list one of its inputs. -/
def Dev.evLoop (d : Dev) (k i : Nat) : Bool :=
  decide (0x100 ≤ i ∧ i < 0x180) && d.f (R.EVR_SC_CFG ((i - 0x100) / 4)) 16 8 == k

/-- CFGERR: the write is discarded. -/
def Dev.cfgErr (d : Dev) : Dev := d.setB R.EVR_STATUS 0 true

/-- A write of consumer slots 2m and 2m + 1 of channel `k`. -/
def Dev.evrCons (d : Dev) (k m : Nat) (w : Word) : Dev :=
  let new := [fld w 0 10, fld w 16 10]
  let others := ((List.range 8).filter fun j => j / 2 != m).map fun j => d.consumer k j
  let bad (i : Nat) : Bool := i != evNone && (others.contains i || (evSingle i && d.evElsewhere k i) || d.evLoop k i)
  if new.any (fun i => !evKnown i || bad i) || (new.headD 0 == fld w 16 10 && fld w 16 10 != evNone) then d.cfgErr
  else d.setReg (R.EVR_CH_CONS k m) (w &&& 0x03FF03FF#32)

-- Marked: DESIGN CHOICE, log entry 65.
/-- A write of a cell's configuration. -/
def Dev.evrScCfg (d : Dev) (c : Nat) (w : Word) : Dev :=
  let k := fld w 16 8
  if (List.range 8).any fun j => let i := d.consumer k j; decide (0x100 + 4 * c ≤ i ∧ i < 0x104 + 4 * c) then d.cfgErr
  else d.setReg (R.EVR_SC_CFG c) (w &&& 0xFFFF00FF#32)

/-- A write of a channel's configuration. -/
def Dev.evrChCfg (d : Dev) (k : Nat) (w : Word) : Dev := d.setReg (R.EVR_CH_CFG k) (w &&& 0xC01F01FF#32)

/-! ## Counters (R401, R403, R405) -/

/-- A write of PMCn_CFG clears the count. -/
def Dev.pmcCfg (d : Dev) (n : Nat) (w : Word) : Dev :=
  let d := (d.setReg (R.PMC_CFG n) (w &&& 0xFFFF9FFF#32)).setPair (R.PMC_CNT_LO n) (R.PMC_CNT_HI n) 0
  { d with skein := { d.skein with due := tput zeroDflt d.skein.due n 0, after := tput zeroDflt d.skein.after n 0 } }

/-- A read of PMCn_CNT_LO latches the reader's PMCn_CNT_HI. -/
def Dev.pmcCntRead (d : Dev) (n r : Nat) : Dev × Word :=
  (d.setReg (bankKey r (R.PMC_CNT_HI n)) (d.reg (R.PMC_CNT_HI n)), d.reg (R.PMC_CNT_LO n))

/-- The window exponent of a counter. -/
def Dev.pmcK (d : Dev) (n : Nat) : Nat := max 10 (min 32 (d.f (R.PMC_CFG n) 15 6))

-- Marked: DESIGN CHOICE, log entry 91.
/-- A bandwidth window ends at a count that is a multiple of 2^K, once. -/
def Dev.pmcWindowEnd (d : Dev) (n : Nat) : Dev :=
  if d.f (R.PMC_CFG n) 0 3 = 2 ∧ d.count % 2 ^ d.pmcK n = 0 ∧ !d.b R.PMC_CTRL 0 ∧
      tget zeroDflt d.skein.wins n ≠ d.count + 1 then
    let d := (d.setReg (R.PMC_LAST_LO n) (d.reg (R.PMC_CNT_LO n))).setReg (R.PMC_LAST_HI n) (d.reg (R.PMC_CNT_HI n))
    let d := d.setPair (R.PMC_CNT_LO n) (R.PMC_CNT_HI n) 0
    { d with skein := { d.skein with wins := tput zeroDflt d.skein.wins n (d.count + 1) } }
  else d

/-- A counter that has reached its period records its trigger and raises source 56. -/
def Dev.pmcSample (d : Dev) (n : Nat) : Dev :=
  let t := tget zeroDflt d.skein.due n
  if t = 0 then d else
  let d := { d with skein := { d.skein with due := tput zeroDflt d.skein.due n 0 } }
  let d := if d.b (R.PMC_SAMP n) 31 then d.setB (R.PMC_SAMP n) 30 true else d
  (d.setB (R.PMC_SAMP n) 31 true).setReg (R.PMC_SADDR n) (wd (t - 1))

/-- Source 56 of Main Processor `h` could be taken (R85). -/
def Dev.sampleOpen (d : Dev) (h : Nat) : Bool :=
  let c := d.cpu (64 + h)
  c.ie && !c.exl && c.enabled 56 && decide (c.ipl < c.prio 56)

-- Marked: DEDUCED, log entry 66.
/-- A trigger whose source is not eligible throughout loses its bound on SKID (R405). -/
def Dev.sampleWatch (d : Dev) : Dev := d.forEach [0, 1] fun d h =>
  if d.sampleOpen h then d else
  d.forEach (d.skein.triggered h) fun d k =>
    if d.b (R.PMC_SAMP k) 31 || tget zeroDflt d.skein.due k != 0
    then { d with skein := { d.skein with late := tput falseDflt d.skein.late k true } } else d

end Sys2Proof.Machine
end

