-- ==== Sys2Proof/Machine/RegAccess.lean ====
section
/-!
DEFINITION. Reads and writes of Control Space registers by any requester: where an access falls, who may write, what each
read returns and what each write does (R453 to R463 and the register tables of every chapter).
-/

namespace Sys2Proof.Machine

/-! ## Where an access falls (R459, R460) -/

/-- What becomes of an access. -/
inductive Gate where
  /-- no register can be there: a fault, an Unsupported Request or ERR -/
  | unassigned
  /-- reads 0, ignores writes -/
  | undefined
  /-- the domain is in Stop -/
  | stopped
  /-- the domain is in Prepare -/
  | waits
  /-- a write the register's rules do not permit -/
  | denied
  | go (row : RegRow)
  deriving DecidableEq, Repr

/-- Index `i < n` of the instance at `off` of a register at `base + stride * i`. -/
def idx (base stride n off : Nat) : Option Nat :=
  if base ≤ off && (off - base) % stride == 0 && decide ((off - base) / stride < n) then some ((off - base) / stride)
  else none

/-- Pages that only Custody may access: to any other requester they are unassigned (R308, R426). -/
def custodyOnly (off : Nat) : Bool := decide (0x10000 ≤ off ∧ off < 0x11000) || decide (0x900000 ≤ off ∧ off < 0x901000)

/-- The half of a processor number; 2 for a requester of neither half. -/
def reqHalf (r : Nat) : Nat := if r < 64 then r / 32 else if r < 66 then r - 64 else 2

/-- The half that a Main Processor's or half's register page belongs to (R137, R159, R230, R288). -/
def pageHalf (off inst : Nat) : Nat :=
  if decide (0x100000 ≤ off ∧ off < 0x140000) then inst / 32
  else if decide (0x200000 ≤ off ∧ off < 0x300000) then laneHalf inst
  else inst

-- Marked: DEDUCED, log entry 78.
/-- Whether a register's chapter opens it to requester `r` for writing. -/
def Dev.opens (d : Dev) (r off : Nat) (row : RegRow) : Bool :=
  let inst := rowInst row off
  match row.who with
  | .procs => decide (r ≤ 66)
  | .mps => r == 64 || r == 65
  | .mpsCust => decide (64 ≤ r ∧ r ≤ 66)
  | .cust => r == 66
  | .mpHalf => r == 64 + pageHalf off inst
  | .half => reqHalf r == pageHalf off inst
  | .devLead => d.devLead == some (reqHalf r)
  | .devLeadHost => r == 67 || d.devLead == some (reqHalf r)
  | .fwu => r == 66 || (decide (r = 64 ∨ r = 65) && d.b R.FWU_WRWIN 31) || (decide (66 < r) && d.fw.recov != 0)
  | .tmr => d.tmrOwned (rowInst row off) r

/-- The test access port may write TST, PIO and, in recovery, FWU (R449). -/
def Dev.tapOpens (d : Dev) (off : Nat) (row : RegRow) : Bool :=
  decide (0xB00000 ≤ off ∧ off < 0xC00000) || (decide (0xC00000 ≤ off) && d.opens 68 off row) ||
    (decide (0xA00000 ≤ off ∧ off < 0xB00000) && d.fw.recov != 0)

/-- The lock of an RWL register is set (R396, R451). -/
def Dev.lockedAt (d : Dev) (off : Nat) : Bool :=
  if decide (0xB0400 ≤ off ∧ off < 0xB0600) then d.b (R.EVR_SC_CFG ((off - 0xB0400) / 0x10)) 31
  else if decide (0xB2000 ≤ off ∧ off < 0xB4000) then d.b (R.EVR_CH_CFG ((off - 0xB2000) / 0x20)) 30
  else if off = R.TST_DBGCTL then d.b R.TST_DBGCTL 31 else false

/-- TBG_LEADc, whose floor Custody may write (R39, R365). -/
def leadIdx (off : Nat) : Option Nat := idx (R.TBG_LEAD 0) 4 7 off

-- Marked: DEDUCED, log entry 78.
/-- Requester `r` may write the register at `off`. -/
def Dev.mayWrite (d : Dev) (r off : Nat) (row : RegRow) : Bool :=
  if (leadIdx off).isSome then r == 66 else
  (match row.acc with
    | .ro => false
    | .rc => false
    | .rwl => !d.lockedAt off
    | _ => true) &&
  if r = 68 then d.tapOpens off row else d.opens r off row

/-- The Gate Unit whose GUn_ARMCMD or GUn_DISARM stands at `off`. -/
def gateCmdUnit (off : Nat) : Option Nat :=
  match idx (R.GU_ARMCMD 0) 0x100 18 off with
  | some u => some u
  | none => idx (R.GU_DISARM 0) 0x100 18 off

-- Marked: DESIGN CHOICE, log entry 102.
/-- A write that waits for the next tick: a Gate Unit request that a later requester's has overtaken (R105), and a floor
that would move a lead a request of this tick has been judged by (R40). -/
def Dev.outOfTurn (d : Dev) (r off : Nat) : Bool :=
  match gateCmdUnit off with
  | some u => (r == 64 || r == 65) && d.overtaken (.mp (halfOf (r - 64))) u
  | none =>
    match leadIdx off with
    | some c => d.leadKnown c
    | none => false

-- Marked: DEDUCED, log entries 81 and 82; DESIGN CHOICE, log entry 102.
/-- Where an access of requester `r` falls. EVR_IMAP2_w exists for w = 0 to 15 only (R407). An engine reaches a register
only where a grant window of its role covers it with the permission (R57, R118). -/
def Dev.gate (d : Dev) (r off : Nat) (write : Bool) : Gate :=
  if custodyOnly off && r != 66 then .unassigned
  else if r < 64 && !d.granted r (0x40000000 + off) (0x40000003 + off) (if write then 2 else 1) then .unassigned
  else if decide (0xB0240 ≤ off ∧ off < 0xB0260) then .undefined
  else match placeOf off with
    | .unassigned => .unassigned
    | .undefined => .undefined
    | .reg row =>
      if !d.pdRun (pdOf off) then .stopped
      else if d.pdPrep (pdOf off) then .waits
      else if write && !d.mayWrite r off row then .denied
      else if write && d.outOfTurn r off then .waits
      else .go row

/-- An access error: the first since the last read of DEV_ACCERR is recorded, and COUNT counts every one (R461, R463). -/
def Dev.accErr (d : Dev) (r off reason : Nat) (write : Bool) : Dev :=
  let d := if d.b R.DEV_ACCERR 31 then d else
    (d.setReg R.DEV_ACCERR (pack [(31, 1), (28, reason), (27, b2n write), (8, r)])).setReg R.DEV_ACCADDR (wd off)
  d.bumpF R.DEV_ACCERR 0 8 1

/-! ## Reading (R455, R456, R458) -/

-- Marked: DESIGN CHOICE, log entry 79.
/-- PIO_GPn_CFG.IN: the level the device drives, and otherwise the level outside, which is open (R445, R452). -/
def Dev.gpIn (d : Dev) (n : Nat) : Dev × Bool :=
  let c := d.reg (R.PIO_GP_CFG n)
  let cell (i : Nat) : Bool := d.tap.boundary.getD i false
  let out := if d.pinControl then (cell (22 + 3 * n), cell (21 + 3 * n)) else (bitOf c 15 && fld c 0 4 != 1, bitOf c 16)
  if out.1 then (d, out.2) else let (w, d) := d.fresh; (d, bitOf w 0)

/-- LAN_DUTY: the limit and the used airtime of a sub-band, in units of 100 ms. -/
def Dev.dutyWord (d : Dev) (n s : Nat) : Word :=
  match (d.sealOf n).bind fun x => x.subs[s]? with
  | some b => pack [(16, b.limit), (0, min 65535 (cdiv (d.used n s) 16000000))]
  | none => 0#32

/-- Free node-domain records of half `h`'s mirror. -/
def Dev.recFree (d : Dev) (h : Nat) : Nat :=
  16128 - (d.mem.filter fun e => decide (ledBase h + 4096 ≤ e.1 ∧ e.1 < ledBase h + 0x40000) && e.1 % 16 == 3 &&
    e.2.msb).length

/-- The word at a byte offset of the Margin Ledger (R369). -/
def Dev.ledgerWord (d : Dev) (a : Nat) : Word := if a ≤ 0xFFFFC then d.rd32 (mramBase + 0x300000 + a / 4 * 4) else 0#32

-- Marked: DESIGN CHOICE, log entry 107.
/-- Registers whose value follows from other state. -/
def Dev.computed (d : Dev) (r off : Nat) : Option Word :=
  if off < 0x10000 then
    if off = R.DEV_EUILO then some (Config.eui64.setWidth 32)
    else if off = R.DEV_EUIHI then some ((Config.eui64 >>> 32).setWidth 32)
    else if off = R.DEV_LOCKSTAT then
      let cells := ((List.range 32).filter fun c => d.b (R.EVR_SC_CFG c) 31).length
      let chans := ((d.listed (R.EVR_CH_CFG 0) 0x20 256).filter fun k => d.b (R.EVR_CH_CFG k) 30).length
      some (pack [(31, b2n (d.b R.TST_DBGCTL 31)), (30, b2n (d.b R.FWU_STATUS 26)), (16, cells), (0, chans)])
    else none
  else if off < 0x40000 then
    if off = R.SUP_STATUS then some (setBit (d.reg off) 31 (d.evnote r)) else none
  else if off < 0x50000 then
    if off = R.MGN_STATUS then some d.mgnStatus
    else if off = R.MGN_HOURS then some (wd d.hours)
    else if off = R.MGN_LRDDATA then some (if d.mgn.ledBeyond then 0#32 else d.ledgerWord (d.reg R.MGN_LRDADDR).toNat)
    else match idx (R.MGN_SN_ENV 0) 0x20 96 off, idx (R.MGN_SN_REF 0) 0x20 96 off, idx (R.MGN_SN_SENS 0) 0x20 96 off with
      | some k, _, _ => some (setBit (d.reg off) 30 (!d.pdRun (ringPd k)))
      | _, some k, _ => some (pack [(16, ringRate k), (0, ringT0 k)])
      | _, _, some k => some ((Config.ringKv k) ++ (Config.ringKt k))
      | _, _, _ => none
  else if decide (0x200000 ≤ off ∧ off < 0x210000) then
    (idx (R.LAN_DUTY ((off - 0x200000) / 0x1000) 0) 4 8 off).map fun s => d.dutyWord ((off - 0x200000) / 0x1000) s
  else if decide (0x300000 ≤ off ∧ off < 0x400000) then
    let a := (off - 0x300000) / 0x40000
    let k := (off - R.ACRK_CFG a 0) / 0x200
    let on_ (n : Nat) : Word := if d.acrState a = 0 then 0#32 else wd n
    if off < R.ACRK_CFG a 0 then none
    else if off = R.ACRK_GD0 a k then some (on_ (d.acrGd a k 0))
    else if off = R.ACRK_GD1 a k then some (on_ (d.acrGd a k 1))
    else if off = R.ACRK_SETTLE a k then some (on_ (d.acrSettle a k))
    else if off = R.ACRK_CFG a k && a == 1 then some (setFld (d.reg off) 28 2 3)
    else none
  else if decide (0x400000 ≤ off ∧ off < 0x500000) then
    if off = R.TRK_EUILO then some (Config.eui64.setWidth 32)
    else if off = R.TRK_EUIHI then some ((Config.eui64 >>> 32).setWidth 32)
    else if off = R.TRK_STATUS then some (setFld (d.reg off) 16 8 d.station)
    else none
  else if decide (0x500000 ≤ off ∧ off < 0x600000) then
    if off = R.MAC_STATUS then some (setFld (d.reg off) 12 10 d.mac.rat.length) else none
  else if decide (0x600000 ≤ off ∧ off < 0x700000) then
    let k := d.f R.SEC_SLOTQ 0 15
    if off = R.SEC_STATUS then some (setFld (d.reg off) 0 15 (d.slotsIn 1).length)
    else if 16640 ≤ k then none
    else if off = R.SEC_SLOTINFO then
      some (pack [(24, d.slotState k % 4), (16, (d.rd8 (slotAddr k + 1)).toNat % 2), (0, d.slotUsage k % 32)])
    else if off = R.SEC_SLOTFC then some (wd (tget zeroDflt d.sec.fc k))
    else if off = R.SEC_SLOTLIM then some (wd (d.fcLimit k))
    else none
  else if decide (0x700000 ≤ off ∧ off < 0x800000) then
    if off = R.MSG_STATUS then
      let h := if r = 64 ∨ r = 65 then r - 64 else d.ntHalf
      some (setFld (setFld (d.reg off) 16 15 (min 32767 d.tcbUse)) 0 14 (if d.b R.MSG_CTRL 0 then d.recFree h else 0))
    else if off = R.MSG_REASM then some (setFld (d.reg off) 16 11 d.contexts.length)
    else (idx (R.MSG_POOL_FREE 0) 0x10 16 off).map fun p => if d.poolEn p then pack [(16, d.carved p), (0, d.poolFree p)] else 0#32
  else if decide (0x900000 ≤ off ∧ off < 0xA00000) then
    if off = R.CLP_TAGSTAT then some d.tagStat
    else if off = R.CLP_CAGEN then some (wd d.caNow.caGen)
    else if off = R.CLP_CASTATE then some d.caNow.caStateWord
    else if off = R.CLP_TAGCFG then some d.tagCfgWord
    else none
  else if off = R.ASB_STATUS then some (setBit (d.reg off) 31 d.asbIdle)
  else if off = R.FWU_VERSION then some (wd d.runVersion)
  else if off = R.TST_STATUS then
    some (setFld (d.reg off) 0 3 (((List.range 3).map fun i => if (d.cpu (64 + i)).run = .halted then 2 ^ i else 0).sum))
  else none

/-- Reads that latch a pair or clear a condition: the new state and the value. -/
def Dev.latchingRead (d : Dev) (r off : Nat) : Option (Dev × Word) :=
  if off = R.TBG_COUNT_LO then some (d.countRead r)
  else if off = R.RTC_FRAC then some (d.rtcFracRead r)
  else if off = R.RIMX_TOKEN && (r == 64 || r == 65) then
    some (d.tokenRead (r - 64))
  else if off = R.RIMX_FLTLAST && r == 66 then some ({ d with tok := { d.tok with noticeC := false } }, d.reg off)
  else if off = R.ETH_RAWRX_CTL && (r == 64 || r == 65) then
    some ({ d with host := { d.host with ethReady := false } }, d.reg off)
  else if off = R.MGN_NOTICE then
    some ({ d with mgn := { d.mgn with keyNotice := false } }.setReg off 0#32, d.reg off)
  else if off = R.CLP_TAGLOG then some ({ d with clp := { d.clp with tagIrq := false } }.setReg off 0#32, d.reg off)
  else match idx (R.TMR_CAP_LO 0) 0x20 32 off, idx (R.PMC_CNT_LO 0) 0x20 64 off, idx (R.PIO_GP_CFG 0) 4 24 off with
    | some n, _, _ => some (d.tmrCapRead n r)
    | _, some n, _ => some (d.pmcCntRead n r)
    | _, _, some n => let (d', i) := d.gpIn n; some (d', setBit (d.reg off) 31 i)
    | _, _, _ => none

/-- A read that reaches its register: its value, and an RC field cleared in the same step. -/
def Dev.readReg (d : Dev) (r off : Nat) (row : RegRow) : Dev × Word :=
  match d.latchingRead r off with
  | some x => x
  | none =>
    match d.computed r off with
    | some v => (d, v)
    | none =>
      if row.acc = .wo then (d, 0#32)
      else
        let k := if row.banked then bankKey r off else off
        let v := d.reg k
        (if row.rc = 0 then d else d.setReg k (v &&& ~~~ wd row.rc), v)

/-- What an access of one word comes to. -/
inductive Acc1 where
  | done (d : Dev) (v : Word)
  | wait
  | fail (d : Dev)

/-- A read by requester `r` of register offset `off`. -/
def Dev.regRead (d : Dev) (r off : Nat) : Acc1 :=
  match d.gate r off false with
  | .unassigned => .fail d
  | .undefined => .done d 0#32
  | .stopped => .done (d.accErr r off 1 false) 0xFFFFFFFF#32
  | .waits => .wait
  | .denied => .done d 0#32
  | .go row => let (d, v) := d.readReg r off row; .done d v

/-! ## Writing (R455, R459) -/

-- Marked: DEDUCED, log entry 78.
/-- The plain effect of a write by the access codes of the register's fields. -/
def Dev.storeReg (d : Dev) (r off : Nat) (row : RegRow) (w : Word) : Dev :=
  let k := if row.banked then bankKey r off else off
  let old := d.reg k
  let v := (old &&& ~~~ wd row.rw) ||| (w &&& wd row.rw)
  d.setReg k ((v &&& ~~~ (w &&& wd row.w1c)) ||| (w &&& wd row.w1s))

/-- DONE of the RIMX mailbox: the reply Custody has written is ready (R308). -/
def Dev.mbDone (d : Dev) (s : Nat) : Dev :=
  if d.posted s then d.mbReply s ((List.range 6).map fun i => d.reg (R.RIMX_MB_RES s i)) else d

-- Marked: DEDUCED, log entry 46.
/-- A write of RIMX_TKCMD (R284, R288). -/
def Dev.tkCmd (d : Dev) (w : Word) : Dev :=
  let h := fld w 4 1
  match fld w 0 4 with
  | 1 => d.rimGrant h
  | 2 => d.tkSwitch
  | 3 => d.tkRevoke h
  | 4 => d.tkEligibleRim h (bitOf w 8)
  | 5 => d.tkResync h
  | 6 => d.tkCancel
  | 7 => d.tkResume
  | _ => d.tkRes 1

/-- A write of RIMX_HBh (R275). -/
def Dev.hbWrite (d : Dev) (h : Nat) (w : Word) : Dev := if bitOf w 0 then d.yieldHalf h else d.heartbeat h

/-- Transactions of frames disarmed on lane `n` end as WITHDRAWN in their ordered place (R158). -/
def Dev.withdraw (d : Dev) (n : Nat) (l : List Offer) : Dev :=
  d.forEach l fun d x => d.admitRecord (laneHalf n) ⟨1, n, 0, x.lsn, .failed 7, 0#32, 0#32⟩

-- Marked: DESIGN CHOICE, log entry 105.
/-- A write of LANn_CMD: the frames a DISABLE with MOVE = 0 disarms end as WITHDRAWN, and those of MOVE = 1 are offered
for another lane (R157 to R159, log entry 105). -/
def Dev.laneDisable (d : Dev) (n : Nat) (move : Bool) : Dev :=
  if (d.radio n).st = sOFF then d.cmdRes n 1
  else
    let d := d.cmdRes n 0
    if move then d.drainOffer n else let (d, l) := d.drain n; d.withdraw n l

/-- Lane `m` holds the frame `x` complete, with its frame counter (R48). -/
def Dev.holds (d : Dev) (m : Nat) (x : Offer) : Bool :=
  (List.range 64).any fun k => (d.txent m k).fill == 2 && (d.txent m k).lsn == x.lsn && (d.txent m k).fc == x.fc

-- Marked: DESIGN CHOICE, log entry 105.
/-- The frame `x` has been placed on another lane that R158 allows: of the same band, whose Seal permits the frame's
channel, and, in Duplex-Protected mode, of the leading half and with its twin on the partner's lane. -/
def Dev.placedOn (d : Dev) (n : Nat) (x : Offer) : Bool :=
  (List.range 16).any fun m =>
    m != n && decide (m < 12) == decide (n < 12) &&
    (d.capacity || (d.leader == laneHalf m && d.holds (lanePartner m) x)) &&
    ((d.sealOf m).any fun s => covered s.ranges (chFreq x.ch - chHalf x.ch) (chFreq x.ch + chHalf x.ch)) && d.holds m x

-- Marked: DESIGN CHOICE, log entry 105.
/-- LANE_OFF: the shutdown ends, and every frame offered and placed nowhere ends as WITHDRAWN (R157, R158). -/
def Dev.laneShutdown (d : Dev) (n : Nat) : Dev :=
  let d := d.laneOff n
  let l := (d.radio n).offers
  if (d.radio n).st = sOFF && !l.isEmpty
  then (d.onRadio n fun r => { r with offers := [] }).withdraw n (l.filter fun x => !d.placedOn n x) else d

def Dev.lanCmd (d : Dev) (n : Nat) (w : Word) : Dev :=
  match fld w 0 4 with
  | 1 => d.laneEnable n (fld w 8 4)
  | 2 => d.laneDisable n (bitOf w 4)
  | 3 => d.laneCalibrate n (fld w 8 4)
  | _ => d.cmdRes n 1

/-- A write of ACRS_CMD or ACRW_CMD (R162). -/
def Dev.acrCmd (d : Dev) (a : Nat) (w : Word) : Dev :=
  match fld w 0 4 with
  | 1 => d.acrEnable a
  | 2 => d.acrStart a
  | 3 => d.acrStop a
  | 4 => d.acrCalibrate a
  | 5 => d.acrDisable a
  | _ => d.acrRefuse a 1

/-- A write of TRK_CMD (R208). -/
def Dev.trkCmd (d : Dev) (w : Word) : Dev :=
  match fld w 0 4 with
  | 1 => d.trkEnable
  | 2 => d.trkDisable
  | 3 => d.trkClaim
  | 4 => d.trkResign
  | _ => d.trkRes 1 true

/-- ACRS_CFG, ACRS_ROUND, the halfband and the prototype tables: only in OFF and STOPPED, otherwise WERR (R174). -/
def Dev.acrStopped (d : Dev) (a : Nat) (plain : Dev) : Dev :=
  if d.acrState a < 2 then plain else d.setB (R.ACR_STATUS a) 27 true

/-- While a cross-fade runs the pending bank is closed: PWERR (R172). -/
def Dev.acrPend (d : Dev) (a k : Nat) (plain : Dev) : Dev :=
  if d.fading a k then d.setB (R.ACRK_STATUS a k) 21 true else plain

/-- Writes in the ACRS and ACRW blocks. -/
def Dev.writeAcr (d : Dev) (a off : Nat) (w : Word) (plain : Dev) : Dev :=
  let o := off - R.ACR_CMD a
  if o < 0x10000 then
    if o = 0 then d.acrCmd a w
    else if o = 8 then d.overGone a fun d => d.acrStopped a plain
    else if o = 0xC then (if a = 0 then d.acrCentre w else d)
    else if o = 0x14 then d.acrStopped a plain
    else if o = 0x20 then d.acrAgcWrite a 0 w
    else if o = 0x24 then d.acrAgcWrite a 1 w
    else if o = 0x28 then d.acrOvrWrite a w
    else if 0x100 ≤ o then d.acrStopped a plain
    else plain
  else
    let k := (o - 0x10000) / 0x200
    let p := o % 0x200
    if p = 0 then d.acrChanCfg a k w
    else if p = 4 then d.acrRank a k w
    else if p = 8 then d.acrPend a k plain
    else if p = 0x10 then (if bitOf w 31 then d.acrSwap a k (fld w 0 8) else d)
    else if p = 0x18 then d.acrPdly a k w
    else if 0x100 ≤ p then d.acrPend a k plain
    else plain

/-- Writes in the TRK block. -/
def Dev.writeTrk (d : Dev) (off : Nat) (w : Word) (plain : Dev) : Dev :=
  if off = R.TRK_CMD then d.trkCmd w
  else if off = R.TRK_CHAN then (if decide (12 ≤ fld w 0 7 ∧ fld w 0 7 ≤ 72) then plain else d)
  else if off < R.TRK_PEER_EUILO 0 then plain
  else
    let p := (off - R.TRK_PEER_EUILO 0) / 0x40
    let o := off % 0x40
    if o < 8 then d.peerEui p off w else if o = 8 then d.peerCtrl p w else plain

/-- Writes in the EVR block. -/
def Dev.writeEvr (d : Dev) (r off : Nat) (w : Word) (plain : Dev) : Dev :=
  if off = R.EVR_LATCHCLR then d.latchClear r w
  else if decide (0xB0100 ≤ off ∧ off < 0xB0400) then
    plain
  else if decide (0xB0400 ≤ off ∧ off < 0xB0600) then
    (if off % 0x10 = 0 then d.evrScCfg ((off - 0xB0400) / 0x10) w else plain)
  else if 0xB2000 ≤ off then
    let k := (off - 0xB2000) / 0x20
    let o := off % 0x20
    if o = 0 then d.evrChCfg k w else if 8 ≤ o then d.evrCons k ((o - 8) / 4) w else plain
  else plain

/-- Writes in the WEN block (R137). -/
def Dev.writeWen (d : Dev) (off : Nat) (w : Word) (plain : Dev) : Dev :=
  if off < 0x140000 then
    let n := (off - 0x100000) / 0x1000
    let o := off % 0x1000
    if o = 0 then d.wenCmd n (fld w 0 4)
    else if o = 8 then (if d.engState n = 0 ∨ d.engState n = 2 then plain else d)
    else plain
  else
    let h := (off - 0x140000) / 0x1000
    if off % 0x1000 = 0 then d.hoCmd h w else plain

/-- Writes in the TMR and RTC blocks. -/
def Dev.writeTime (d : Dev) (r off : Nat) (w : Word) (plain : Dev) : Dev :=
  if off < 0xA0000 then
    if off = R.RTC_SETSEC_HI then d.rtcSet w
    else if off = R.RTC_TRIM then (if d.b R.RTC_CTRL 0 then d else plain)
    else if off = R.RTC_SHIFT then d.rtcShift w
    else if off = R.RTC_CTRL then (if bitOf w 0 && !d.b R.RTC_CTRL 0 then plain.discRestart else plain)
    else plain
  else if off = R.TMR_SNAPCMD then d.tmrSnap r
  else
    let n := (off - 0xA0100) / 0x20
    match off % 0x20 with
    | 0 => d.tmrCtl n w
    | 4 => d.tmrCmpWrite n off w
    | 8 => d.tmrCmpWrite n off (w &&& 0xFFFF#32)
    | _ => plain

/-- Writes in the TBG block; a requester's half for the Gate Unit commands. -/
def Dev.writeTbg (d : Dev) (r off : Nat) (w : Word) (plain : Dev) : Dev :=
  if off = R.TBG_CTRL then d.tbgCtrl w
  else if off = R.TBG_PPSOUT_OFS then plain.ppsOutArm
  else if off = R.TBG_LATE_POP then d.latePop
  else if off < 0x81000 then
    match leadIdx off with
    | some c => d.leadFloor c (fld w 16 16)
    | none => plain
  else
    let u := (off - 0x81000) / 0x100
    match off % 0x100 with
    | 0x08 => d.gunArm (halfOf (r - 64)) u w
    | 0x14 => d.gunDisarm (halfOf (r - 64)) u w
    | _ => plain

/-- Writes in the MSG block (R266). -/
def Dev.writeMsg (d : Dev) (r off : Nat) (w : Word) (plain : Dev) : Dev :=
  let en := d.b R.MSG_CTRL 0
  if off = R.MSG_CTRL then (if bitOf w 0 && !d.poolEn 0 then plain.setB R.MSG_CTRL 0 false else plain)
  else if off = R.MSG_TCBBASE ∨ off = R.MSG_TCBCNT ∨ off = R.MSG_UPTBASE then (if en then d else plain)
  else if off = R.MSG_CMD then d.msgCmd r w
  else if off < R.MSG_POOL_BASE 0 then plain
  else
    let p := (off - R.MSG_POOL_BASE 0) / 0x10
    match off % 0x10 with
    | 0 => if en && d.poolEn p then d else plain
    | 4 => if en && d.poolEn p then d else plain
    | 8 => d.poolCfg p w
    | _ => plain

-- Marked: DESIGN CHOICE, log entry 42.
/-- Writes in the HPC, ETH and ASB blocks. -/
def Dev.writeLinks (d : Dev) (off : Nat) (w : Word) (plain : Dev) : Dev :=
  if off < 0x810000 then
    if off = R.HPC_QCMD then (if fld w 8 2 = 1 then d.discard (fld w 0 6) else d)
    else if off < R.HPC_QP_BASES 0 0 then plain
    else
      let q := (off - R.HPC_QP_BASES 0 0) / 0x20
      if off % 0x20 = 0x18 then d.qpCfg q w
      else if d.b (R.HPC_QP_CFG q) 31 then d else plain
  else if off < 0x820000 then
    (if off = R.ETH_PTPPOP then d.ptpPop else if off = R.ETH_RAWTX_CTL then d.rawSend w else plain)
  else if off = R.ASB_CFG then d.asbCfg w
  else if off = R.ASB_TXCMD then d.asbTxcmd w
  else if off = R.ASB_RXPOP then d.asbPop
  else plain

-- Marked: DEDUCED, log entry 78.
/-- Writes in the PD0 blocks below MGN's end. -/
def Dev.writeAon (d : Dev) (r off : Nat) (w : Word) (plain : Dev) : Dev :=
  if off < 0x18000 then
    match idx (R.RIMX_MB_DONE 0) 0x40 16 off with
    | some s => d.mbDone s
    | none => plain
  else if off < 0x20000 then
    if off = R.RIMX_TKCMD then d.tkCmd w
    else match idx (R.RIMX_HB 0) 4 2 off with
      | some h => d.hbWrite h w
      | none => plain
  else if off < 0x30000 then
    match idx (R.PWR_PD_SWV 0) 0x10 64 off with
    | some n => d.swvWrite r n w
    | none => plain
  else if off < 0x40000 then
    if off = R.SUP_STATUS then (if bitOf w 31 then d.setB (bankKey r off) 31 false else d)
    else if off = R.SUP_EVPOP then d.supPop else plain
  else if off = R.MGN_LRDADDR then { plain with mgn := { d.mgn with ledBeyond := decide (0x100000 ≤ w.toNat) } }
  else if off = R.MGN_FLOOR then d.floorWrite off (w &&& 0xFFC0FF01#32)
  else if off = R.MGN_MPMIN then
    (if r = 66 then d.floorWrite off (setFld (d.reg off) 16 16 (fld w 16 16))
     else d.setReg off (setFld (d.reg off) 0 16 (fld w 0 16)))
  else plain

/-- The effect of a permitted write. -/
def Dev.writeEffect (d : Dev) (r off : Nat) (row : RegRow) (w : Word) : Dev :=
  let plain := d.storeReg r off row w
  if off < 0x80000 then d.writeAon r off w plain
  else if off < 0x90000 then d.writeTbg r off w plain
  else if off < 0xB0000 then d.writeTime r off w plain
  else if off < 0xC0000 then d.writeEvr r off w plain
  else if off < 0x100000 then
    match idx (R.PMC_CFG 0) 0x20 64 off with
    | some n => d.pmcCfg n w
    | none => plain
  else if off < 0x200000 then d.writeWen off w plain
  else if off < 0x300000 then (if off % 0x1000 = 0 then d.lanCmd ((off - 0x200000) / 0x1000) w else plain)
  else if off < 0x340000 then d.writeAcr 0 off w plain
  else if off < 0x400000 then d.writeAcr 1 off w plain
  else if off < 0x500000 then d.writeTrk off w plain
  else if off < 0x600000 then (if off = R.MAC_NTCMD then d.ntCommand r (reqHalf r) (fld w 0 4) else plain)
  else if off < 0x700000 then
    if off = R.SEC_ALARM then (match fld w 0 2 with | 1 => d.alarm1 0 | 2 => d.alarm2 0 | _ => d)
    else match idx (R.SEC_RING_TAIL 0) 0x10 2 off with
      | some h => d.ringTailWrite r h w
      | none => plain
  else if off < 0x800000 then d.writeMsg r off w plain
  else if off < 0x900000 then d.writeLinks off w plain
  else if off < 0xA00000 then (if off = R.CLP_TAGCFG then d.setTagCfg w else plain)
  else if off < 0xB00000 then (if off = R.FWU_CMD then d.fwuCmd r w else plain)
  else plain

-- Marked: DESIGN CHOICE, log entry 118.
/-- A write to a domain in Stop is recorded as an access error. GUn_ARMCMD and GUn_DISARM of a Main Processor that the
unit is not closed to are answered NOT_PERMITTED instead (R41, R106, R460). -/
def Dev.writeStopped (d : Dev) (r off : Nat) : Dev :=
  match gateCmdUnit off with
  | some u => if r = 64 ∨ r = 65 then d.armResult (r - 64) u 0 gNOTPERM else d.accErr r off 1 true
  | none => d.accErr r off 1 true

/-- A write by requester `r`, whose effect where it is permitted is `act`. -/
def Dev.writeWith (d : Dev) (r off : Nat) (act : RegRow → Dev) : Acc1 :=
  match d.gate r off true with
  | .unassigned => .fail d
  | .undefined => .done d 0#32
  | .stopped => .done (d.writeStopped r off) 0#32
  | .waits => .wait
  | .denied =>
    let d := if decide (0xB0000 ≤ off ∧ off < 0xC0000) && d.lockedAt off then d.setB R.EVR_STATUS 1 true else d
    .done (d.accErr r off 2 true) 0#32
  | .go row => .done (act row) 0#32

/-- A write by requester `r` of register offset `off`. -/
def Dev.regWrite (d : Dev) (r off : Nat) (w : Word) : Acc1 := d.writeWith r off fun row => d.writeEffect r off row w

-- Marked: DEDUCED, log entry 81.
/-- The state an access leaves; a waiting one leaves everything as it is. -/
def Acc1.dev (x : Acc1) (d : Dev) : Dev :=
  match x with
  | .done d' _ => d'
  | .wait => d
  | .fail d' => d'

end Sys2Proof.Machine
end

