-- ==== Sys2Proof/Machine/Ports.lean ====
section
/-!
DEFINITION. The ports of an engine's role: what each LIN reads, what each LOUT does, and which wait (R110, R111, R116,
R117, R151, R184, R207, R222).
-/

namespace Sys2Proof.Machine

/-- What an access to a port comes to. -/
inductive PortRes where
  /-- the fault IOPORT -/
  | ioport
  /-- an empty read queue or a full write queue -/
  | wait
  | ok (d : Dev) (v : Word)

/-- A port that may not be reached yet makes the access wait. -/
def PortRes.unless (x : PortRes) (held : Bool) : PortRes :=
  match x with
  | .ok d v => if held then .wait else .ok d v
  | .wait => .wait
  | .ioport => .ioport

-- Marked: DESIGN CHOICE, log entry 118.
/-- A queue of the trunk link serves the leading half's role, and the partner's waits; a control or status word never
waits (R11, R111, R276). -/
def PortRes.led (x : PortRes) (lead word : Bool) : PortRes := x.unless (!lead && !word)

/-- Pops a word of a queue of words. -/
def popWord (l : List Word) (back : List Word → Dev) : PortRes :=
  match l with
  | [] => .wait
  | v :: r => .ok (back r) v

/-- Pops a word of a queue of records: a record goes when its last word has been read. -/
def popRec (l : List (List Word)) (back : List (List Word) → Dev) : PortRes :=
  match l with
  | [] => .wait
  | [] :: r => .ok (back r) 0#32
  | [v] :: r => .ok (back r) v
  | (v :: u) :: r => .ok (back (u :: r)) v

/-- Words in a queue of records. -/
def recWords (l : List (List Word)) : Nat := l.foldl (fun n x => n + x.length) 0

/-- A count word. -/
def cnt16 (n : Nat) : Word := wd (min 0xFFFFFFFF n)

/-! ## Lane sequencer ports (R151) -/

/-- A read of a register through a port, cleared by the read where `clear`. -/
def Dev.portReg (d : Dev) (k : Nat) (clear : Bool) : PortRes := .ok (if clear then d.setReg k 0#32 else d) (d.reg k)

-- Marked: DESIGN CHOICE, log entry 79; DEDUCED, log entry 96.
def Dev.laneIn (d : Dev) (n g i : Nat) : PortRes :=
  let r := d.radio n
  match g, i with
  | 0, 0 => d.portReg (R.LAN_STATUS n) false
  | 0, 1 => d.portReg (portCopy (R.LAN_REFUSE n)) true
  | 0, 2 => d.portReg (portCopy (R.LAN_DENY n)) true
  | 0, 3 => let (v, d) := d.fresh; .ok d (v &&& 0xFFFF#32)
  | 1, 0 => popWord r.rxq fun l => d.setRadio n { r with rxq := l }
  | 1, 1 => .ok d (cnt16 r.rxq.length)
  | 2, 0 => popWord r.filled fun l => d.setRadio n { r with filled := l }
  | 2, 2 => .ok d (wd ((List.range 64).filter fun h => (d.txent n h).fill == 0).length)
  | 2, 3 => .ok d (cnt16 r.filled.length)
  | 2, 4 => .ok d (wd (d.txFreeBlocks n))
  | 3, 0 => popRec r.capq fun l => d.setRadio n { r with capq := l }
  | 3, 1 => .ok d (wd r.capq.length)
  | 4, 0 => .ok d (wd (d.laneTimer n))
  | 4, 1 => .ok d r.lt0
  | 4, 2 => .ok d (wd (d.laneTimer n))
  | 4, 3 => .ok d r.lt1
  | 4, 4 => .ok d (wd r.ltctl)
  | _, _ => .ioport

def Dev.laneOut (d : Dev) (n g i : Nat) (v : Word) : PortRes :=
  let r := d.radio n
  match g, i with
  | 2, 1 => .ok (d.releaseEntry n (fld v 0 16)) 0#32
  | 4, 1 => .ok (d.setRadio n { r with lt0 := v, lt0At := d.clk, lt0Old := if r.lt0At = d.clk then r.lt0Old else r.lt0 }) 0#32
  | 4, 3 => .ok (d.setRadio n { r with lt1 := v, lt1At := d.clk, lt1Old := if r.lt1At = d.clk then r.lt1Old else r.lt1 }) 0#32
  | 4, 4 => .ok (d.setRadio n { r with ltctl := fld v 0 2 }) 0#32
  | _, _ => .ioport

/-! ## ACR post-processing ports (R184) -/

/-- Receiver and channel of member `i` of a group. -/
def groupChan (g i : Nat) : Nat × Nat := if g < 8 then (0, 16 * g + i) else (1, i)

def Dev.acrIn (d : Dev) (h grp g i : Nat) : PortRes :=
  let key := 16 * h + grp
  let a := (groupChan grp 0).1
  let bits (p : Nat) : Nat := (List.range 16).foldl (fun s i =>
    let (a, k) := groupChan grp i
    s + (if (d.acrPath a k p).settled then 2 ^ i else 0)) 0
  match g, i with
  | 8, 0 => popWord (d.acrQueue h grp) fun l => { d with acrq := tput nilDflt d.acrq key l }
  | 8, 1 => .ok d (wd (d.acrQueue h grp).length)
  | 8, 2 => .ok { d with acrDrops := tput zeroDflt d.acrDrops key 0 } (wd (tget zeroDflt d.acrDrops key))
  | 9, 0x10 => .ok d (pack [(16, bits 1), (0, bits 0)])
  | 9, 0x11 => .ok d (d.reg (R.ACR_CLEANAFTER a))
  | 9, i => if i < 16 then let (a, k) := groupChan grp i; .ok d (d.reg (R.ACRK_STATUS a k)) else .ioport
  | _, _ => .ioport

/-! ## Trunk ports (R207) -/

/-- The words of a TXD or RXB record not yet complete, kept beside the MAC timing roles' (keys 8 and 9). -/
def Dev.partWords (d : Dev) (k : Nat) : List Word := tget nilDflt d.planq k
def Dev.setPart (d : Dev) (k : Nat) (l : List Word) : Dev := { d with planq := tput nilDflt d.planq k l }

def Dev.trunkIn (d : Dev) (i : Nat) : PortRes :=
  let t := d.trunk
  match i with
  | 1 => popWord t.txc fun l => { d with trunk := { t with txc := l } }
  | 3 => popRec t.rxr fun l => { d with trunk := { t with rxr := l } }
  | 4 => .ok d (setFld (d.reg R.TRK_STATUS) 16 8 d.station)
  | 5 => .ok d (pack [(24, 32 - t.txd.length), (16, min 255 t.txc.length), (8, 32 - t.rxb.length), (0, min 255 t.rxr.length)])
  | _ => .ioport

def Dev.trunkOut (d : Dev) (i : Nat) (v : Word) : PortRes :=
  let t := d.trunk
  match i with
  | 0 =>
    if 32 ≤ t.txd.length then .wait else
    let l := d.partWords 8 ++ [v]
    if l.length < 4 then .ok (d.setPart 8 l) 0#32
    else .ok { d.setPart 8 [] with trunk := { t with txd := t.txd ++ [l] } } 0#32
  | 2 =>
    if 32 ≤ t.rxb.length then .wait else
    match d.partWords 9 with
    | [] => .ok (d.setPart 9 [v]) 0#32
    | a :: _ => .ok { d.setPart 9 [] with trunk := { t with rxb := t.rxb ++ [(a, v)] } } 0#32
  | _ => .ioport

/-! ## MAC timing ports (R222, R272) -/

def Dev.evq (d : Dev) (h : Nat) : List (List Word) := if h = 0 then d.mac.evqA else d.mac.evqB
def Dev.setEvq (d : Dev) (h : Nat) (l : List (List Word)) : Dev :=
  { d with mac := if h = 0 then { d.mac with evqA := l } else { d.mac with evqB := l } }

def Dev.macIn (d : Dev) (h res i : Nat) : PortRes :=
  let b := roleBank h res
  let key := b - 70
  if i = 0 then popRec (d.evq h) (d.setEvq h)
  else if i = 1 then .ok d (wd (recWords (d.evq h)))
  else if 4 ≤ i ∧ i < 8 then .ok d (d.reg (bankKey b (R.MAC_NTARG (i - 4))))
  else if i = 8 then popWord (tget nilDflt d.mac.ntrq key) fun l =>
    { d with mac := { d.mac with ntrq := tput nilDflt d.mac.ntrq key l } }
  else if 0xC ≤ i ∧ i < 0x12 then .ok d (d.reg (bankKey b (R.MAC_NTOUT (i - 0xC))))
  else .ioport

def Dev.macOut (d : Dev) (h res gen i : Nat) (v : Word) : PortRes :=
  let b := roleBank h res
  if i = 2 then .ok (d.ntCommand b h (fld v 0 4)) 0#32
  else if i = 3 then if d.planRoom h res then .ok (d.planWord h res gen v) 0#32 else .wait
  else if 4 ≤ i ∧ i < 8 then .ok (d.setReg (bankKey b (R.MAC_NTARG (i - 4))) v) 0#32
  else .ioport

/-! ## LIN and LOUT (R110) -/

/-- The power domain behind the ports of a role: its lane's, its receivers', the node table's or the trunk's (R348). -/
def portPd (kind res : Nat) : Nat :=
  if kind = 1 then 16 + res % 16 else if kind = 2 then (if res % 16 < 8 then 9 else 11) else if kind = 4 then 12 else 4

-- Marked: DEDUCED, log entry 87; DESIGN CHOICE, log entry 118.
/-- A read of port `p` by engine `n`; where the domain behind the port is in Prepare, it waits (R350, R460). -/
def Dev.portIn (d : Dev) (n p : Nat) : PortRes :=
  let h := engHalf n
  let res := d.roleRes n
  let g := p / 4096 % 16
  let i := p % 4096
  PortRes.unless (match d.roleKind n with
  | 1 => d.laneIn res g i
  | 2 => d.acrIn h res g i
  | 3 => if g = 0xC then d.macIn h res i else .ioport
  | 4 => if g = 0xA then (d.trunkIn i).led (d.leader == h) (4 ≤ i) else .ioport
  | _ => .ioport) (d.pdPrep (portPd (d.roleKind n) res))

-- Marked: DEDUCED, log entry 87; DESIGN CHOICE, log entry 118.
/-- A write of `v` to port `p` by engine `n`; where the domain behind the port is in Prepare, it waits (R350, R460). -/
def Dev.portOut (d : Dev) (n p : Nat) (v : Word) : PortRes :=
  let h := engHalf n
  let res := d.roleRes n
  let g := p / 4096 % 16
  let i := p % 4096
  PortRes.unless (match d.roleKind n with
  | 1 => d.laneOut res g i v
  | 3 => if g = 0xC then d.macOut h res (d.f (R.WEN_STATUS n) 24 4) i v else .ioport
  | 4 => if g = 0xA then (d.trunkOut i v).led (d.leader == h) false else .ioport
  | _ => .ioport) (d.pdPrep (portPd (d.roleKind n) res))

end Sys2Proof.Machine
end

