-- ==== Sys2Proof/Machine/Access.lean ====
section
/-!
DEFINITION. Taking an exception and an interrupt, a processor's data accesses, and issuing one instruction (R57 to R64,
R77 to R87, R99, R118, R453, R454).
-/

namespace Sys2Proof.Machine

/-! ## Taking an exception (R79, R83, R84) -/

-- Marked: DEDUCED, log entries 69 and 90.
/-- A double fault: the processor stops, and the lockup is reported, a Main Processor's as a class H fault, Custody's to
its own restart. -/
def Dev.doubleFault (d : Dev) (n : Nat) : Dev :=
  let d := d.onCpu n fun c => { c with run := .lockup, wait := .none }
  if n = 66 then d.custodyRestart 0 else d.declareH (n - 64) 0

-- Marked: DEDUCED, log entry 69.
/-- Enters an exception of a Main Processor or Custody; a stack pointer outside its bounds is a double fault (R83). -/
def Dev.enterExc (d : Dev) (n : Nat) (epc cause badaddr : Word) (ipl : Option Nat) : Dev :=
  let c := (d.cpu n).enter epc cause badaddr ipl
  let d := d.setCpu n c
  if c.spOk then d else d.doubleFault n

/-- A fault is taken: an engine halts (R79); a Main Processor or Custody enters its handler (R83), or takes a double
fault while EXL = 1 (R84). -/
def Dev.takeFault (d : Dev) (p : Proc) (f : Flt) : Dev :=
  match p with
  | .eng n => (d.engineFault n.val f.code f.addr).engVote n.val
  | _ =>
    let n := p.num
    let c := d.cpu n
    if c.exl then d.doubleFault n
    else
      (d.enterExc n (if f.code = 11 then c.pc + 4#32 else c.pc) (pack [(30, b2n f.fetch), (0, f.code)]) f.addr
        none).stepEnd n

-- Marked: DEDUCED, log entry 89.
/-- Interrupt source `s` is taken before the next instruction (R83, R85, R405). -/
def Dev.takeInterrupt (d : Dev) (n s : Nat) : Dev :=
  let d := if s = 56 ∧ n < 66 then d.writeSkid (n - 64) else d
  let c := d.cpu n
  (d.enterExc n c.pc (pack [(31, 1), (0, s)]) 0#32 (some (c.prio s))).stepEnd n

/-! ## Data accesses -/

/-- Where a permitted access goes: memory, a register, or a window's flat address and domain. -/
inductive Target where
  | mem (f : Nat)
  | reg (off : Nat)
  | win (f pd off : Nat)
  deriving DecidableEq, Repr

/-- What an access comes to: done, with the value loaded; it waits for a domain in Prepare; or a fault. -/
inductive Got where
  | ok (d : Dev) (v : Word)
  | wait
  | fault (f : Flt)

/-- Permissions of an access: 1 load, 2 store, 3 compare and swap. -/
abbrev kLoad : Nat := 1
abbrev kStore : Nat := 2
abbrev kCas : Nat := 3

/-- The regions of a Main Processor or Custody allow the access (R81). -/
def Cpu.regionsAllow (c : Cpu) (sup : Bool) (a n kind : Nat) : Bool :=
  (kind == kStore || rangeAllowed c.ctl sup c.sbg 1 a n) && (kind == kLoad || rangeAllowed c.ctl sup c.sbg 2 a n)

/-- Judges an access of `n` octets at `a`: alignment, regions, then the kind of access the place permits (R57 to R60,
R78, R81, R118). -/
def Dev.place (d : Dev) (p : Proc) (sup : Bool) (a : Word) (n kind : Nat) : Except Flt Target :=
  let x := a.toNat
  let eng := match p with | .eng _ => true | _ => false
  if x % n ≠ 0 then .error (ALIGN a)
  else if !eng && !(d.cpu p.num).regionsAllow sup x n kind then .error (ACCESS a)
  else match dataWhere p x with
  | .none => .error (ACCESS a)
  | .mem f =>
    if (kind = kStore && !storable p x) || (kind = kCas && !casable p x) then .error (ACCESS a) else .ok (.mem f)
  | .reg off =>
    if n ≠ 4 || kind = kCas || (eng && !d.granted p.num x (x + 3) kind) then .error (ACCESS a) else .ok (.reg off)
  | .win off =>
    if eng && (n != 4 || !d.granted p.num x (x + 3) kind) then .error (ACCESS a)
    else match winPlace (d.winHalf p) off with
      | some (f, pd) => .ok (.win f pd off)
      | none => .error (ACCESS a)

-- Marked: DESIGN CHOICE, log entry 91.
/-- What a load of `n` octets does beside giving them: the word is repaired, and the traffic counted (R281, R403). -/
def Dev.loaded (d : Dev) (f n : Nat) : Dev := (d.eccScrub (f / 4 * 4) 4).msTraffic f n 2

/-- Reads `n` octets of memory at a flat address, correcting a single-bit error; a double-bit error faults (R64). -/
def Dev.memLoad (d : Dev) (a : Word) (f n : Nat) : Got :=
  if d.eccBad f n then .fault (ECC a)
  else .ok (d.loaded f n) (wd (leNat (d.rdBytes f n)))

/-- A window offset lies in the node-table or ledger mirrors. -/
def mirrored (off : Nat) : Bool := decide (off < 0x1140000)

/-- Loads `n` octets, zero-extended, from a place. -/
def Dev.loadAt (d : Dev) (p : Proc) (a : Word) (n : Nat) (x : Target) : Got :=
  match x with
  | .mem f => d.memLoad a f n
  | .reg off =>
    match d.regRead p.num off with
    | .done d v => .ok d v
    | .wait => .wait
    | .fail _ => .fault (ACCESS a)
  | .win f pd off =>
    if !d.pdRun pd then .ok (d.accErr p.num off 1 false) (wd (2 ^ (8 * n) - 1))
    else if d.pdPrep pd then .wait
    else (if mirrored off then d.mirrorRepair f else d).memLoad a f n

-- Marked: DESIGN CHOICE, log entry 103.
/-- A store of `n` octets at `f` is about to be made: one to MRAM is not durable until a FENCE follows it (R62). -/
def Dev.noteUnfenced (d : Dev) (f n : Nat) : Dev :=
  if mramBase ≤ f ∧ f < mramBase + 0x400000
  then { d with unfenced := ((List.range n).map fun i => (f + i, d.rd8 (f + i))) ++ d.unfenced } else d

-- Marked: DESIGN CHOICE, log entry 91.
/-- What a store to memory does: Custody's to MRAM are noted until its FENCE, and the traffic is counted (R62, R403). -/
def Dev.stored (d : Dev) (f : Nat) (l : List Byte) : Dev := (d.noteUnfenced f l.length).msWrite f l

-- Marked: DEDUCED, log entry 82.
/-- Stores the low `n` octets of `v` at a place. The ledger window only reads (R259). -/
def Dev.storeAt (d : Dev) (p : Proc) (a : Word) (n : Nat) (v : Word) (x : Target) : Got :=
  match x with
  | .mem f => .ok (d.stored f (natBytes n v.toNat)) 0#32
  | .reg off =>
    match d.regWrite p.num off v with
    | .done d _ => .ok d 0#32
    | .wait => .wait
    | .fail _ => .fault (ACCESS a)
  | .win f pd off =>
    if !d.pdRun pd then .ok (d.accErr p.num off 1 true) 0#32
    else if d.pdPrep pd then .wait
    else if off < 0x1100000 then .ok (d.ntWrite (d.winHalf p) (off - 0x1000000) n (v.toNat % 2 ^ (8 * n))) 0#32
    else if off < 0x1140000 then .ok (d.accErr p.num off 2 true) 0#32
    else .ok (d.wrBytes f (natBytes n v.toNat)) 0#32

/-- Every address of a list is judged; the first that fails gives its fault. -/
def Dev.placeAll (d : Dev) (p : Proc) (kind : Nat) : List Word → Except Flt (List (Word × Target))
  | [] => .ok []
  | a :: r =>
    match d.place p (d.cpu p.num).sup a 4 kind with
    | .error f => .error f
    | .ok x =>
      match Dev.placeAll d p kind r with
      | .error f => .error f
      | .ok l => .ok ((a, x) :: l)

/-- What several word loads come to. -/
inductive Gots where
  | ok (d : Dev) (vs : List Word)
  | wait
  | fault (f : Flt)

/-- Word loads in order. -/
def loadAll (p : Proc) : List (Word × Target) → Dev → Gots
  | [], d => .ok d []
  | (a, x) :: r, d =>
    match d.loadAt p a 4 x with
    | .wait => .wait
    | .fault f => .fault f
    | .ok d v =>
      match loadAll p r d with
      | .ok d vs => .ok d (v :: vs)
      | .wait => .wait
      | .fault f => .fault f

/-- Word stores in order. -/
def storeAll (p : Proc) : List (Word × Target) → List Word → Dev → Got
  | (a, x) :: r, v :: vs, d =>
    match d.storeAt p a 4 v x with
    | .ok d _ => storeAll p r vs d
    | .wait => .wait
    | .fault f => .fault f
  | _, _, d => .ok d 0#32

/-- The words at several addresses: all are judged before any is accessed (R92, R99). -/
def Dev.loadWords (d : Dev) (p : Proc) (l : List Word) : Gots :=
  match d.placeAll p kLoad l with
  | .error f => .fault f
  | .ok ps => loadAll p ps d

/-- Stores words at several addresses: all are judged before any is accessed. -/
def Dev.storeWords (d : Dev) (p : Proc) (l : List (Word × Word)) : Got :=
  match d.placeAll p kStore (l.map (·.1)) with
  | .error f => .fault f
  | .ok ps => storeAll p ps (l.map (·.2)) d

/-- Budget units of an access of `k` words (R89). -/
def Target.cost (x : Target) (k : Nat) : Nat :=
  match x with
  | .mem _ => k
  | .reg _ => 24
  | .win _ _ _ => 12 * k

/-- A processor's stack bounds (R76). -/
def Dev.stackLow (d : Dev) (p : Proc) : Nat :=
  match p with
  | .eng n => (d.reg (R.WEN_STKLO n.val)).toNat
  | _ => ((d.cpu p.num).creg 7).toNat

def Dev.stackHigh (d : Dev) (p : Proc) : Nat :=
  match p with
  | .eng n => (d.reg (R.WEN_STKHI n.val)).toNat
  | _ => ((d.cpu p.num).creg 8).toNat

/-! ## Issuing an instruction (R78, R92) -/

-- Marked: DEDUCED, log entry 81.
/-- What the body of an instruction came to is applied. -/
def Dev.finish (d : Dev) (p : Proc) (x : Ex) : Dev :=
  match x with
  | .ok d c => (d.retire p.num c ((d.cpu p.num).pc + 4#32)).stepEnd p.num
  | .jump d t c => (d.retire p.num c t).stepEnd p.num
  | .fault f => d.takeFault p f
  | .stay d => d

-- Marked: DESIGN CHOICE, log entry 7; DEDUCED, log entry 80.
/-- Processor `p` issues an instruction whose meaning is `body`: nothing while the processor does not execute or waits;
an eligible interrupt is taken instead (R85); fetch faults come before the instruction's own (R78). -/
def Dev.issue (d : Dev) (p : Proc) (body : Dev → Ex) : Dev :=
  if !d.executing p.num then d
  else match d.eligible p.num with
    | some s => d.takeInterrupt p.num s
    | none =>
      if (d.cpu p.num).wait ≠ .none then d
      else match d.fetchFault p with
        | some f => d.takeFault p f
        | none =>
          match fetchWhere p (d.cpu p.num).pc.toNat with
          | some a => (d.eccCorrect a).finish p (body (d.eccCorrect a))
          | none => d

end Sys2Proof.Machine
end

