-- ==== Sys2Proof/Machine/Isa.lean ====
section
/-!
DEFINITION. What each instruction of the Wale ISA does once it has issued, over the shared operations of `Access`
(R53 to R116).
-/

namespace Sys2Proof.Machine

/-! ## Register results -/

/-- Processor `p` of kind engine. -/
def isEng : Proc → Bool
  | .eng _ => true
  | _ => false

/-- Writes g`rd` of processor `p`. -/
def Dev.putG (d : Dev) (p : Proc) (rd : Nat) (w : Word) : Dev := d.onCpu p.num fun c => c.put rd w

/-- The program counter of processor `p`. -/
def Dev.pcOf (d : Dev) (p : Proc) : Word := (d.cpu p.num).pc

/-- The ALU group (R69, R93, R94). -/
def aluBody (p : Proc) (fn rd ra rb : Nat) (s : Bool) (d : Dev) : Ex :=
  let c := d.cpu p.num
  let a := c.get ra
  let b := c.get rb
  match aluResult fn a b c.flags with
  | none => .fault ILLEGAL
  | some r =>
    let f := aluFlags fn a b r c.flags
    if (s && f.isNone) || (aluUnary fn && rb != 0) then .fault ILLEGAL
    else if aluDivides fn && b == 0#32 then .fault DIVZ
    else
      let c := match s, f with
        | true, some x => c.setFlags x
        | _, _ => c
      .ok (d.setCpu p.num (c.put rd r)) (aluCost fn)

/-- The immediate forms that write rd (R96). -/
def immBody (p : Proc) (rd ra : Nat) (f : Word → Word) (d : Dev) : Ex := .ok (d.putG p rd (f ((d.cpu p.num).get ra))) 1

/-- `SHI`: bits [15:7] of the immediate are reserved (R68, R93). -/
def shiBody (p : Proc) (kind rd ra amt res : Nat) (d : Dev) : Ex :=
  if res ≠ 0 then .fault ILLEGAL else immBody p rd ra (fun a => shiResult kind a amt) d

/-- `LUI` (R67). -/
def luiBody (p : Proc) (rd ra : Nat) (imm : BitVec 16) (d : Dev) : Ex :=
  if ra ≠ 0 then .fault ILLEGAL else .ok (d.putG p rd (imm ++ 0#16)) 1

/-- `CMPI` (R96). -/
def cmpiBody (p : Proc) (rd ra : Nat) (imm : BitVec 16) (d : Dev) : Ex :=
  if rd ≠ 0 then .fault ILLEGAL
  else .ok (d.onCpu p.num fun c => c.setFlags (flagsSub (c.get ra) (sext16 imm) 0)) 1

/-- `BITF` (R97). -/
def bitfBody (p : Proc) (fn rd ra pos wm1 : Nat) (d : Dev) : Ex :=
  if 31 < pos + wm1 then .fault ILLEGAL
  else
    let c := d.cpu p.num
    .ok (d.putG p rd (bitfResult fn (c.get rd) (c.get ra) pos wm1)) 1

/-! ## Memory (R98 to R101) -/

/-- The address of a load or store in Format I. -/
def Dev.ea (d : Dev) (p : Proc) (ra : Nat) (imm : BitVec 16) : Word := (d.cpu p.num).get ra + sext16 imm

/-- A load of `n` octets; `ext` extends the octets read. -/
def loadBody (p : Proc) (n rd ra : Nat) (imm : BitVec 16) (ext : Word → Word) (d : Dev) : Ex :=
  let a := d.ea p ra imm
  match d.place p (d.cpu p.num).sup a n kLoad with
  | .error f => .fault f
  | .ok x =>
    match d.loadAt p a n x with
    | .ok d' v => .ok (d'.putG p rd (ext v)) (x.cost 1)
    | .wait => .stay d
    | .fault f => .fault f

/-- A store of `n` octets. -/
def storeBody (p : Proc) (n rd ra : Nat) (imm : BitVec 16) (d : Dev) : Ex :=
  let a := d.ea p ra imm
  match d.place p (d.cpu p.num).sup a n kStore with
  | .error f => .fault f
  | .ok x =>
    match d.storeAt p a n ((d.cpu p.num).get rd) x with
    | .ok d' _ => .ok d' (x.cost 1)
    | .wait => .stay d
    | .fault f => .fault f

/-- The places of a pair: a register takes none (R99). -/
def Dev.pairPlaces (d : Dev) (p : Proc) (kind : Nat) (a : Word) : Except Flt (List (Word × Target)) :=
  match d.placeAll p kind [a, a + 4#32] with
  | .error f => .error f
  | .ok l => if l.any (fun x => match x.2 with | .reg _ => true | _ => false) then .error (ACCESS a) else .ok l

-- Marked: DEDUCED, log entry 81.
/-- Budget units of a pair. -/
def pairCost (l : List (Word × Target)) : Nat := (l.map fun x => x.2.cost 1).sum

/-- `LDP`. -/
def ldpBody (p : Proc) (rd ra : Nat) (imm : BitVec 16) (d : Dev) : Ex :=
  if rd % 2 = 1 then .fault ILLEGAL else
  match d.pairPlaces p kLoad (d.ea p ra imm) with
  | .error f => .fault f
  | .ok l =>
    match loadAll p l d with
    | .ok d' vs => .ok ((d'.putG p rd (vs.getD 0 0#32)).putG p (rd + 1) (vs.getD 1 0#32)) (pairCost l)
    | .wait => .stay d
    | .fault f => .fault f

/-- `STP`. -/
def stpBody (p : Proc) (rd ra : Nat) (imm : BitVec 16) (d : Dev) : Ex :=
  if rd % 2 = 1 then .fault ILLEGAL else
  match d.pairPlaces p kStore (d.ea p ra imm) with
  | .error f => .fault f
  | .ok l =>
    let c := d.cpu p.num
    match storeAll p l [c.get rd, c.get (rd + 1)] d with
    | .ok d' _ => .ok d' (pairCost l)
    | .wait => .stay d
    | .fault f => .fault f

/-- `CAS` (R100): with S = 1 only Z is set. -/
def casBody (p : Proc) (rd ra rb : Nat) (s : Bool) (fn : Nat) (d : Dev) : Ex :=
  if fn ≠ 0 then .fault ILLEGAL else
  let c := d.cpu p.num
  let a := c.get ra
  match d.place p c.sup a 4 kCas with
  | .error f => .fault f
  | .ok x =>
    match d.loadAt p a 4 x with
    | .wait => .stay d
    | .fault f => .fault f
    | .ok d' old =>
      let eq := old == c.get rd
      match (if eq then d'.storeAt p a 4 (c.get rb) x else .ok d' 0#32) with
      | .wait => .stay d
      | .fault f => .fault f
      | .ok d' _ =>
        let d' := d'.onCpu p.num fun c => (if s then c.setFlags { c.flags with z := eq } else c).put rd old
        .ok d' (match x with | .win _ _ _ => 16 | _ => 4)

-- Marked: DESIGN CHOICE, log entry 103.
/-- `FENCE`: every earlier access of this model has completed, and Custody's MRAM stores become durable (R62, R101). -/
def fenceBody (p : Proc) (rest : Nat) (d : Dev) : Ex :=
  if rest ≠ 0 then .fault ILLEGAL else .ok (if p = .custody then { d with unfenced := [] } else d) 24

/-- `SYNCI`: instruction fetch sees the region registers as written; on an engine nothing (R82, R101). -/
def synciBody (p : Proc) (rest : Nat) (d : Dev) : Ex :=
  if rest ≠ 0 then .fault ILLEGAL
  else if isEng p then .ok d 1
  else .ok (d.onCpu p.num fun c => { c with fetchRegions := c.ctl.filter fun e => decide (32 ≤ e.1) }) 1

/-! ## Control transfer (R71 to R75, R102, R103) -/

/-- A word offset from the instruction. -/
def target (pc : Word) (off : BitVec 32) : Word := pc + off * 4#32

/-- `BC`. -/
def bcBody (p : Proc) (cond : Nat) (off : BitVec 22) (d : Dev) : Ex :=
  match condHolds (d.cpu p.num).flags cond with
  | none => .fault ILLEGAL
  | some true => .jump d (target (d.pcOf p) (off.signExtend 32)) 1
  | some false => .ok d 1

/-- `JMP`. -/
def jmpBody (p : Proc) (off : BitVec 26) (d : Dev) : Ex := .jump d (target (d.pcOf p) (off.signExtend 32)) 1

/-- A jump target that is not a multiple of 4 faults at the jump (R102). -/
def badTarget (t : Word) : Bool := t.toNat % 4 != 0

-- Marked: DEDUCED, log entry 117.
/-- `JMPR`. -/
def jmprBody (p : Proc) (rd ra rest : Nat) (d : Dev) : Ex :=
  let t := (d.cpu p.num).get ra
  if rest ≠ 0 then .fault ILLEGAL
  else if badTarget t then .fault { ALIGN t with fetch := true }
  else .jump (d.putG p rd (d.pcOf p + 4#32)) t 1

/-- The registers a mask selects, highest first (R73). -/
def maskRegs (mask : BitVec 16) : List Nat :=
  ((List.range 16).reverse.filter fun i => mask.getLsbD i).map (· + 14)

-- Marked: DEDUCED, log entry 82.
/-- The words `CALLM` stores, each with its address (R73, R74). -/
def callFrame (c : Cpu) (pc sp : Word) (mask : BitVec 16) : List (Word × Word) :=
  [(sp - 4#32, pc + 4#32), (sp - 8#32, 0xA500#16 ++ mask), (sp - 12#32, c.get 30)] ++
    (maskRegs mask).mapIdx fun i r => (sp - 16#32 - wd (4 * i), c.get r)

-- Marked: DEDUCED, log entry 82.
/-- The mask call to `t` (R73). -/
def callBody (p : Proc) (t : Word) (mask : BitVec 16) (d : Dev) : Ex :=
  let c := d.cpu p.num
  let sp := c.get 31
  let n := (maskRegs mask).length
  if sp.toNat % 4 ≠ 0 ∨ sp.toNat < d.stackLow p + (12 + 4 * n) then .fault STACK else
  match d.storeWords p (callFrame c c.pc sp mask) with
  | .wait => .stay d
  | .fault f => .fault f
  | .ok d' _ => .jump (d'.onCpu p.num fun c => (c.put 30 (sp - 12#32)).put 31 (sp - wd (12 + 4 * n))) t (3 + n)

-- Marked: DEDUCED, log entry 82.
/-- `CALLM`. -/
def callmBody (p : Proc) (disp : BitVec 10) (mask : BitVec 16) (d : Dev) : Ex :=
  callBody p ((d.pcOf p &&& 0xFFFFFFF0#32) + disp.signExtend 32 * 16#32) mask d

-- Marked: DEDUCED, log entry 117.
/-- `CALLMR`. -/
def callmrBody (p : Proc) (ra res : Nat) (mask : BitVec 16) (d : Dev) : Ex :=
  let t := (d.cpu p.num).get ra
  if res ≠ 0 then .fault ILLEGAL
  else if badTarget t then .fault { ALIGN t with fetch := true }
  else callBody p t mask d

-- Marked: DEDUCED, log entry 82.
/-- `RETM` (R75). -/
def retmBody (p : Proc) (rest : Nat) (d : Dev) : Ex :=
  let base := (d.cpu p.num).get 30
  if rest ≠ 0 then .fault ILLEGAL
  else if base.toNat % 4 ≠ 0 ∨ d.stackHigh p < base.toNat + 12 then .fault STACK else
  match d.loadWords p [base + 4#32] with
  | .wait => .stay d
  | .fault f => .fault f
  | .ok d1 hs =>
    let hdr := hs.getD 0 0#32
    if fld hdr 16 16 ≠ 0xA500 then .fault FRAME else
    let regs := maskRegs (hdr.setWidth 16)
    match d1.loadWords p ((regs.mapIdx fun i _ => base - 4#32 - wd (4 * i)) ++ [base + 8#32, base]) with
    | .wait => .stay d
    | .fault f => .fault f
    | .ok d2 vs =>
      let n := regs.length
      let d3 := d2.onCpu p.num fun c =>
        (((regs.zip vs).foldl (fun c x => c.put x.1 x.2) c).put 30 (vs.getD (n + 1) 0#32)).put 31 (base + 12#32)
      .jump d3 (vs.getD n 0#32) (3 + n)

/-- `BRK`. -/
def brkBody (code : BitVec 26) (_ : Dev) : Ex := .fault { code := 9, addr := code.setWidth 32 }

/-! ## Gates and time (R104 to R109) -/

/-- The result word of `ARMG` and `DISG`. -/
def gateWord (slot code : Nat) : Word := pack [(4, slot), (0, code)]

-- Marked: DEDUCED, log entry 95; DESIGN CHOICE, log entry 102.
/-- `ARMG`; one that a later requester's has overtaken in this tick is taken at the next (R105, log entry 102). -/
def armgBody (p : Proc) (rd ra rb cls unit res : Nat) (d : Dev) : Ex :=
  if !isEng p || res ≠ 0 || ra % 2 = 1 then .fault ILLEGAL else
  let c := d.cpu p.num
  let w := c.get rb
  let fire := (c.get ra).toNat + 2 ^ 32 * (c.get (ra + 1)).toNat
  if d.notYet p unit then .stay d else
  let (d, k, r) := d.arm p unit cls fire (fld w 0 16) (if bitOf w 27 then some (fld w 28 4) else none)
  .ok (d.putG p rd (gateWord k r)) 4

-- Marked: DESIGN CHOICE, log entry 102.
/-- `DISG`; one that a later requester's has overtaken in this tick is taken at the next (R105, log entry 102). -/
def disgBody (p : Proc) (rd ra rb cls unit res : Nat) (d : Dev) : Ex :=
  if !isEng p || ra ≠ 0 || cls ≠ 0 || res ≠ 0 then .fault ILLEGAL else
  let k := fld ((d.cpu p.num).get rb) 4 4
  if d.notYet p unit then .stay d else
  let (d, r) := d.disarm p unit k
  .ok (d.putG p rd (gateWord k r)) 4

/-- A completed `WAITG`, `EVWAIT` or `SWP` restarts the run watchdog's count with its own `cost` (R89, R126). -/
def doneAt (d : Dev) (p : Proc) (rd : Nat) (w : Word) (cost : Nat) : Ex :=
  .ok (d.onCpu p.num fun c => { c.put rd w with units := 0 }) cost

-- Marked: DESIGN CHOICE, log entry 118.
/-- `WAITG` (R107). -/
def waitgBody (p : Proc) (rd : Reg) (ra : Nat) (imm : BitVec 16) (d : Dev) : Ex :=
  let u := imm.toNat
  if !isEng p || decide (32 ≤ u) then .fault ILLEGAL else
  let k := fld ((d.cpu p.num).get ra) 4 4
  let d := d.settle u
  if decide (u < 18) && d.pdPrep (guPd u) then .stay d
  else if !decide (u < 18) || !d.unitOpen p u || !d.pdRun (guPd u) then doneAt d p rd 7#32 0
  else match d.armOf u k with
    | none => doneAt d p rd (wd (d.slot u k).last) 0
    | some a => .stay (d.beginWait p.num (.gate rd a.id))

/-- The outcome of the arming a `WAITG` has bound becomes visible (R107). -/
def Dev.waitgOutcome (d : Dev) (n : Nat) : Dev :=
  match (d.cpu n).wait with
  | .gate rd id =>
    let d := d.forEach (List.range 18) fun d u => d.settle u
    match d.outcome id with
    | some o => d.finishWait n 0 fun c => c.put rd.val (wd o)
    | none => d
  | _ => d

/-- `RDTS` (R108). -/
def rdtsBody (p : Proc) (rd rest : Nat) (d : Dev) : Ex :=
  if rest ≠ 0 ∨ rd % 2 = 1 then .fault ILLEGAL
  else .ok ((d.putG p rd (wd d.count)).putG p (rd + 1) (wd (d.count / 2 ^ 32))) 4

/-- `SWP` (R109). -/
def swpBody (p : Proc) (rd ra : Nat) (imm : BitVec 16) (d : Dev) : Ex :=
  if !isEng p || rd ≠ 0 || ra ≠ 0 then .fault ILLEGAL else
  match d.hoPending p.num with
  | none => doneAt d p 0 0#32 4
  | some x =>
    let resume := target (d.pcOf p) (sext16 imm)
    if 0x4000 ≤ resume.toNat then .fault (ACCESS resume) else .stay (d.park p.num x resume)

/-! ## Ports and events (R110 to R113) -/

/-- The port that `LIN` and `LOUT` address. -/
def Dev.portNo (d : Dev) (p : Proc) (ra : Nat) (imm : BitVec 16) : Nat := (d.ea p ra imm).toNat % 65536

/-- `LIN`. -/
def linBody (p : Proc) (rd : Reg) (ra : Nat) (imm : BitVec 16) (d : Dev) : Ex :=
  if !isEng p then .fault ILLEGAL else
  match d.portIn p.num (d.portNo p ra imm) with
  | .ioport => .fault IOPORT
  | .wait => .stay (d.beginWait p.num (.portIn rd (d.portNo p ra imm)))
  | .ok d v => .ok (d.putG p rd v) 4

/-- `LOUT`. -/
def loutBody (p : Proc) (rd ra : Nat) (imm : BitVec 16) (d : Dev) : Ex :=
  if !isEng p then .fault ILLEGAL else
  let v := (d.cpu p.num).get rd
  match d.portOut p.num (d.portNo p ra imm) v with
  | .ioport => .fault IOPORT
  | .wait => .stay (d.beginWait p.num (.portOut (d.portNo p ra imm) v))
  | .ok d _ => .ok d 4

/-- A waiting `LIN` or `LOUT` completes once its queue has a word, or space (R111). -/
def Dev.queueWaitEnd (d : Dev) (n : Nat) : Dev :=
  match (d.cpu n).wait with
  | .portIn rd q =>
    match d.portIn n q with
    | .ok d v => d.finishWait n 4 fun c => c.put rd.val v
    | _ => d
  | .portOut q v =>
    match d.portOut n q v with
    | .ok d _ => d.finishWait n 4 id
    | _ => d
  | _ => d

/-- Event instructions: ra and imm16[15:8] are reserved (R93). -/
def badEvent (ra : Nat) (imm : BitVec 16) : Bool := ra != 0 || decide (256 ≤ imm.toNat)

/-- `EVPOST`. -/
def evpostBody (p : Proc) (rd ra : Nat) (imm : BitVec 16) (d : Dev) : Ex :=
  if badEvent ra imm then .fault ILLEGAL
  else if d.mayPost p.num imm.toNat then .ok ((d.post imm.toNat).putG p rd 0#32) 4
  else .ok (d.putG p rd 1#32) 4

/-- `EVWAIT`. -/
def evwaitBody (p : Proc) (rd : Reg) (ra : Nat) (imm : BitVec 16) (d : Dev) : Ex :=
  let ch := imm.toNat
  if badEvent ra imm then .fault ILLEGAL
  else if (d.consSlot ch p.num).isNone then doneAt d p rd 2#32 0
  else if d.latched p.num ch then
    let (d, r) := d.takeLatch p.num ch
    doneAt d p rd r 0
  else .stay (d.beginWait p.num (.event rd ch))

/-! ## The privileged group (R72, R80, R114) -/

/-- The value of a control register; none for one that does not exist. -/
def Dev.mfcValue (d : Dev) (p : Proc) (k : Nat) : Option Word :=
  let c := d.cpu p.num
  let pend (lo : Nat) : Word := (List.range 32).foldl (fun w i => if d.srcPending p.num (lo + i) then setBit w i true else w) 0#32
  if k = 9 then some (pend 0)
  else if k = 10 then some (pend 32)
  else if k = 17 then some (wd c.retired)
  else if k = 19 then some (wd (p.num - 64))
  else if decide (20 ≤ k ∧ k < 32) then none
  else some (c.creg k)

/-- Reading RETIRED_LO latches RETIRED_HI. -/
def Cpu.latchRetired (c : Cpu) (k : Nat) : Cpu := if k = 17 then c.setCreg 18 (wd (c.retired / 2 ^ 32)) else c

/-- The bits of a control register that `MTC` writes; none for a register that is read-only or does not exist (R80). -/
def mtcMask (k : Nat) : Option Word :=
  if k < 2 then some 0x77F#32
  else if k = 3 ∨ k = 4 ∨ k = 9 ∨ k = 10 ∨ (17 ≤ k ∧ k < 32) then none
  else if k = 5 then some 0xFFFFFF00#32
  else if k < 32 then some 0xFFFFFFFF#32
  else if k % 2 = 0 then some 0xFFFFFF00#32 else some 0xFFFFFF7F#32

/-- The privilege check of the group: ILLEGAL on an engine, PRIV in user mode (R53, R72, R78). -/
def privFault (p : Proc) (d : Dev) (bad : Bool) : Option Flt :=
  if isEng p || bad then some ILLEGAL else if (d.cpu p.num).sup then none else some PRIV

/-- `MFC`. -/
def mfcBody (p : Proc) (rd ra cnum : Nat) (d : Dev) : Ex :=
  match privFault p d (ra != 0 || (d.mfcValue p cnum).isNone), d.mfcValue p cnum with
  | none, some v => .ok (d.onCpu p.num fun c => (c.latchRetired cnum).put rd v) 1
  | some f, _ => .fault f
  | none, none => .fault ILLEGAL

/-- `MTC`. -/
def mtcBody (p : Proc) (rd ra cnum : Nat) (d : Dev) : Ex :=
  match privFault p d (rd != 0 || (mtcMask cnum).isNone), mtcMask cnum with
  | none, some m => .ok (d.onCpu p.num fun c => c.setCreg cnum (c.get ra &&& m)) 1
  | some f, _ => .fault f
  | none, none => .fault ILLEGAL

/-- The fields that `ERET`, `WFI` and `SYSC` leave reserved (R93). -/
def sysRes (rd ra cnum : Nat) : Bool := rd != 0 || ra != 0 || cnum != 0

/-- `ERET` restores STATUS, exchanges g31 and KSP when it restores user mode, and continues at EPC (R84, R114). -/
def Cpu.eret (c : Cpu) : Cpu :=
  let c := c.setCreg 0 (c.creg 1)
  if c.sup then c else c.swapSp

def eretBody (p : Proc) (rd ra cnum : Nat) (d : Dev) : Ex :=
  match privFault p d (sysRes rd ra cnum) with
  | some f => .fault f
  | none => .jump (d.onCpu p.num Cpu.eret) ((d.cpu p.num).creg 2) 1

-- Marked: DEDUCED, log entry 89.
/-- `WFI`. -/
def wfiBody (p : Proc) (rd ra cnum : Nat) (d : Dev) : Ex :=
  match privFault p d (sysRes rd ra cnum) with
  | some f => .fault f
  | none => if d.anyEnabled p.num then .ok d 1 else .stay (d.beginWait p.num .wfi)

/-- `SYSC`. -/
def syscBody (p : Proc) (rd ra cnum : Nat) (_ : Dev) : Ex :=
  if isEng p || sysRes rd ra cnum then .fault ILLEGAL else .fault { code := 11 }

/-! ## Rim calls (R88, R115) -/

/-- Rim calls are a Main Processor's, in supervisor mode. -/
def rimFault (p : Proc) (d : Dev) (bad : Bool) : Option Flt :=
  match p with
  | .mp _ => privFault p d bad
  | _ => some ILLEGAL

/-- The free mailbox slots of half `h`, by tag: neither posted nor with a reply not yet taken. -/
def Dev.freeTags (d : Dev) (h : Nat) : List Nat :=
  (List.range 8).filter fun t => !d.b R.RIMX_MBPEND (8 * h + t) && !d.b R.RIMX_MBPEND (16 + 8 * h + t)

-- Marked: DESIGN CHOICE, log entry 93.
/-- Posts a call with the function and arguments in slot `s`. -/
def Dev.postCall (d : Dev) (s fn : Nat) (args : List Word) : Dev :=
  let d := d.setReg (R.RIMX_MB_FN s) (wd fn)
  let d := (List.range 6).foldl (fun d i => d.setReg (R.RIMX_MB_ARG s i) (args.getD i 0#32)) d
  { d.setB R.RIMX_MBPEND s true with
    fw := { d.fw with calls := d.fw.calls + 1, mbox := tput mboxDflt d.fw.mbox s { order := d.fw.calls, at_ := d.clk } } }

-- Marked: DEDUCED, log entry 68.
/-- Which of several free slots a call takes is open (R88). -/
def Dev.pickTag (d : Dev) (h : Nat) : Option (Dev × Nat) :=
  match d.freeTags h with
  | [] => none
  | [t] => some (d, t)
  | t :: l =>
    let (v, d) := d.fresh
    some (d, (t :: l).getD (v.toNat % (l.length + 1)) t)

-- Marked: DEDUCED, log entry 68.
/-- `RCALL`. -/
def rcallBody (p : Proc) (rd ra : Nat) (imm : BitVec 16) (d : Dev) : Ex :=
  match rimFault p d (ra != 0) with
  | some f => .fault f
  | none =>
    let c := d.cpu p.num
    let h := p.num - 64
    let done (d : Dev) (z : Bool) (v : Word) : Ex :=
      .ok (d.onCpu p.num fun c => (c.setFlags { c.flags with z := z }).put rd v) 1
    match d.pickTag h with
    | some (d, t) => done (d.postCall (8 * h + t) imm.toNat ((List.range 6).map fun i => c.get (1 + i))) true (wd t)
    | none => done d false 0#32

/-- `RWAIT`. -/
def rwaitBody (p : Proc) (rd ra : Nat) (imm : BitVec 16) (d : Dev) : Ex :=
  match rimFault p d (rd != 0 || ra != 0 || decide (8 ≤ imm.toNat)) with
  | some f => .fault f
  | none =>
    let s := 8 * (p.num - 64) + imm.toNat
    if d.b R.RIMX_MBPEND (16 + s) then .ok (d.takeReply p.num imm.toNat) 1
    else if d.b R.RIMX_MBPEND s then .stay (d.beginWait p.num (.rim imm.toNat))
    else .ok (d.onCpu p.num fun c =>
      (List.range 6).foldl (fun c i => c.put (1 + i) (if i = 0 then 0xFFFFFFFF#32 else 0#32)) c) 1

/-! ## Words that are no instruction (R65, R68 to R72) -/

/-- Reserved opcodes and the two that are always illegal. -/
def reservedOp (op : Nat) : Bool :=
  op == 0 || decide (0x0A ≤ op ∧ op ≤ 0x0F) || decide (0x1C ≤ op ∧ op ≤ 0x1F) || op == 0x26 || op == 0x27 ||
    decide (0x2D ≤ op ∧ op ≤ 0x2F) || decide (0x34 ≤ op ∧ op ≤ 0x37) || decide (0x3B ≤ op ∧ op ≤ 0x3D) || op == 0x3F

/-- Words with a reserved opcode, function code or condition code. -/
def reservedWord (w : Word) : Bool :=
  let op := fld w 26 6
  let fn := fld w 0 10
  reservedOp op || (op == 0x01 && (aluResult fn 0#32 1#32 ⟨false, false, false, false⟩).isNone) ||
    (op == 0x09 && decide (3 < fld w 0 6)) || (op == 0x1B && decide (1 < fn)) || (op == 0x20 && fld w 22 4 == 15) ||
    (op == 0x38 && decide (4 < fn))

/-- A reserved or always-illegal word. -/
def illegalBody (_ : Dev) : Ex := .fault ILLEGAL

/-- An eligible interrupt is taken before the next instruction; a waiting one issues again after `ERET` (R85, R87). -/
def Dev.interruptEntry (d : Dev) (p : Proc) : Dev :=
  if d.executing p.num then
    match d.eligible p.num with
    | some s => d.takeInterrupt p.num s
    | none => d
  else d

end Sys2Proof.Machine
end

