-- ==== Sys2Proof/Machine/Tap.lean ====
section
/-!
DEFINITION. The test access port: pin control, Control Space access and debug access (R432, R433, R439, R444 to R451).
-/

namespace Sys2Proof.Machine

/-- The TAP operates: out of reset with PD7 in Run (R439). -/
def Dev.tapOn (d : Dev) : Bool := !d.power.inReset && d.pdRun 7

/-- Instructions that give the boundary register control of the pins (R445). -/
def pinOpcode (ir : Nat) : Bool := ir == 0 || decide (3 ≤ ir ∧ ir ≤ 6)

-- Marked: DESIGN CHOICE, log entry 83.
/-- The instruction `ir` is in force, or Test-Logic-Reset: TST_STATUS follows, and under pin control the PCIe and
Ethernet links are down (R433, R451). -/
def Dev.setIr (d : Dev) (ir : Nat) (tlr : Bool) : Dev :=
  let pin := pinOpcode ir && !tlr
  let d := { d with tap := { d.tap with ir := ir, tlr := tlr } }.setReg R.TST_STATUS
    (pack [(31, b2n pin), (30, b2n tlr), (16, ir)])
  if !pin then d else
  let d := if d.pdRun 13 then d.linkDown true else d
  if d.pdRun 14 && d.b R.ETH_STATUS 31 then (d.setB R.ETH_STATUS 31 false).linkEvent else d

-- Marked: DESIGN CHOICE, log entries 83 and 88.
/-- Update-IR; `cells` are the boundary register's contents then. -/
def Dev.updateIr (d : Dev) (ir : Nat) (cells : List Bool) : Dev :=
  if !d.tapOn then d else { d with tap := { d.tap with boundary := cells } }.setIr ir false

/-- TRST_N low: Test-Logic-Reset, with IDCODE selected (R439, R444). -/
def Dev.trst (d : Dev) : Dev := if !d.tapOn then d else d.setIr 2 true

/-- Run-Test/Idle, for `edges` falling TCK edges: EXTEST_PULSE drives a transition at entry and returns at exit,
EXTEST_TRAIN toggles at every edge (R448). -/
def Dev.runTestIdle (d : Dev) (edges : Nat) : Dev :=
  if !d.tapOn || d.tap.tlr then d else
  let n := if d.tap.ir = 5 then 2 else if d.tap.ir = 6 then edges else 0
  { d with tap := { d.tap with pulses := d.tap.pulses + n } }

/-- The result of a Control Space access. -/
def Dev.csEnd (d : Dev) (err : Bool) (data : Word) : Dev :=
  { d with tap := { d.tap with csDone := true, csErr := err, csData := data } }

-- Marked: DESIGN CHOICE, log entry 83.
/-- One access of CSACC (R449); one to a domain in Prepare has not ended. -/
def Dev.csAccess (d : Dev) (write : Bool) (off : Nat) (data : Word) : Dev :=
  if !d.tapOn || d.tap.ir != 0x20 then d
  else if !d.b R.TST_DBGCTL 0 || off % 4 != 0 || decide (0x1000000 ≤ off) then d.csEnd true 0#32
  else
    let denied := decide (d.gate 68 off write = .denied)
    match (if write then d.regWrite 68 off data else d.regRead 68 off) with
    | .done d v => d.csEnd denied v
    | .wait => d
    | .fail d => d.csEnd true 0#32

/-! ## Debug access (R450) -/

/-- The processor of a DBGACC code: 0 MP-A, 1 MP-B, 2 Custody. -/
def dbgProc (p : Fin 3) : Proc := match p with | 0 => .mp .a | 1 => .mp .b | 2 => .custody

/-- The result of a debug operation. -/
def Dev.dbgEnd (d : Dev) (p : Fin 3) (err : Bool) (data : Word) : Dev :=
  { d with tap := { d.tap with
      dbgDone := true, dbgErr := err, dbgData := data, dbgHalted := (d.cpu (64 + p.val)).run == .halted } }

-- Marked: DESIGN CHOICE, log entry 83.
/-- A debug operation on processor `p`: ERR while its enable bit is 0, or where it must be halted and is not. -/
def Dev.dbgOp (d : Dev) (p : Fin 3) (halt : Bool) (op : Dev → Option (Dev × Word)) : Dev :=
  if !d.tapOn || d.tap.ir != 0x21 then d
  else if !d.b R.TST_DBGCTL (if p = 2 then 2 else 1) || (halt && (d.cpu (64 + p.val)).run != .halted)
  then d.dbgEnd p true 0#32
  else match op d with
    | some (d, v) => d.dbgEnd p false v
    | none => d.dbgEnd p true 0#32

-- Marked: DESIGN CHOICE, log entry 83.
/-- HALT: the processor stops before its next instruction; a wait is abandoned, and its instruction issues again. -/
def Dev.dbgHalt (d : Dev) (p : Fin 3) : Dev := d.dbgOp p false fun d =>
  some (if (d.cpu (64 + p.val)).run = .running then d.onCpu (64 + p.val) fun c => { c with run := .halted, wait := .none }
    else d, 0#32)

def Dev.dbgResume (d : Dev) (p : Fin 3) : Dev := d.dbgOp p true fun d =>
  some (d.onCpu (64 + p.val) fun c => { c with run := .running }, 0#32)

/-- STEP: the processor issues one instruction and is halted again. -/
def Dev.dbgStep (d : Dev) (p : Fin 3) : Dev := d.dbgOp p true fun d =>
  some (d.onCpu (64 + p.val) fun c => { c with run := .stepping }, 0#32)

-- Marked: DESIGN CHOICE, log entry 83.
def Dev.dbgReadReg (d : Dev) (p : Fin 3) (arg : Nat) : Dev := d.dbgOp p true fun d =>
  if arg < 32 then some (d, (d.cpu (64 + p.val)).get arg)
  else if arg < 96 then
    (d.mfcValue (dbgProc p) (arg - 32)).map fun v => (d.onCpu (64 + p.val) fun c => c.latchRetired (arg - 32), v)
  else none

-- Marked: DESIGN CHOICE, log entry 83.
def Dev.dbgWriteReg (d : Dev) (p : Fin 3) (arg : Nat) (data : Word) : Dev := d.dbgOp p true fun d =>
  if arg < 32 then some (d.onCpu (64 + p.val) fun c => c.put arg data, 0#32)
  else if arg < 96 then
    (mtcMask (arg - 32)).map fun m => (d.onCpu (64 + p.val) fun c => c.setCreg (arg - 32) (data &&& m), 0#32)
  else none

/-- A memory word, judged as a supervisor access. -/
def Dev.dbgReadWord (d : Dev) (p : Fin 3) (a : Word) : Dev := d.dbgOp p true fun d =>
  match d.place (dbgProc p) true a 4 kLoad with
  | .error _ => none
  | .ok x =>
    match d.loadAt (dbgProc p) a 4 x with
    | .ok d v => some (d, v)
    | _ => none

def Dev.dbgWriteWord (d : Dev) (p : Fin 3) (a data : Word) : Dev := d.dbgOp p true fun d =>
  match d.place (dbgProc p) true a 4 kStore with
  | .error _ => none
  | .ok x =>
    match d.storeAt (dbgProc p) a 4 data x with
    | .ok d _ => some (d, 0#32)
    | _ => none

def Dev.dbgReadPc (d : Dev) (p : Fin 3) : Dev := d.dbgOp p false fun d => some (d, (d.cpu (64 + p.val)).pc)

end Sys2Proof.Machine
end

