-- ==== Sys2Proof/Machine/Tick.lean ====
section
/-!
DEFINITION. One tick of the Timebase clock: what time alone does (R23, R32, R44, R360, R404), and what every command is
followed by (R85, R88, R405).
-/

namespace Sys2Proof.Machine

/-- Occupancy of the queue a counter in mode 3 selects (R404). -/
def Dev.occupancy (d : Dev) (sel : Nat) : Nat :=
  if sel = 0 then d.tcbUse
  else if sel < 3 then (d.wen (sel - 1)).hold.length
  else if sel = 3 then d.tok.trailA.length
  else if sel = 4 then d.tok.trailB.length
  else if sel = 5 then d.holdUsed
  else if sel = 6 then d.contexts.length
  else if sel = 7 then d.mac.rat.length
  else if decide (0x10 ≤ sel ∧ sel < 0x20) then d.poolUsed (sel - 0x10)
  else if decide (0x20 ≤ sel ∧ sel < 0x30) then (d.radio (sel - 0x20)).rxq.length
  else 0

-- Marked: DESIGN CHOICE, log entry 114.
/-- The hardware comes upon the double-bit errors of the mirrors and repairs each from the partner's, or escalates it; one
in a half's own structures outside the entries and records is a class H fault (R275, R281). -/
def Dev.scrub (d : Dev) : Dev :=
  if d.ecc2.isEmpty && d.spoilt.isEmpty then d else
  let d := d.forEach (d.ecc2.filter inMirror) Dev.mirrorRepair
  { d with spoilt := [] }.forEach d.spoilt fun d h => d.declareH h 2

-- Marked: DESIGN CHOICE, log entries 1, 8 and 85.
/-- One clock period, in which the count advances by `by_` while it runs: cancellations of gates come due,
a radio whose last kept slot is gone shuts down (R157), counters in mode 3 count, mirror errors are met, power-on time passes, and Rim writes a queued ledger record. -/
def Dev.tick (d : Dev) (by_ : Nat) : Dev :=
  let d := { d with clk := d.clk + 1 }
  if d.power.inReset then d else
  let d := if d.tbState = 0 || !d.pdRun 2 then d else { d with tb := { d.tb with count := (d.count + by_) % 2 ^ 64 } }
  let d := if d.tb.leadDue then { d with tb := { d.tb with leadDue := false } }.putLeads else d
  let d := (d.forEach (List.range 18) fun d u => d.settle u).forEach (List.range 17) fun d n => d.mayShut n
  let d := (d.forEach [0, 1] fun d a => d.acrCalStep a).mapSlot
  let d := if d.pdRun 3 then d.onFab fun f => f.pmcQueue d.occupancy else d
  let d := { d.scrub with mgn := { d.mgn with onTicks := d.mgn.onTicks + 1 } }
  if d.rimRuns then d.mgnDrain else d

-- Marked: DESIGN CHOICE, log entry 8.
/-- A slew step: the tick at which the count advances by 2 or by 0 instead of by 1 (R32). -/
def Dev.slewStep (d : Dev) : Dev :=
  let e := d.tb.err
  if e = 0 || decide (d.clk < d.tb.slewAt) || !d.pdRun 2 || d.tbState = 0 then d else
  let left := if e < 0 then e + 1 else e - 1
  let d := { d with tb := { d.tb with err := left, slewAt := d.clk + d.slewGap } }
  (d.setB R.TBG_STATUS 3 (decide (left ≠ 0))).tick (if e < 0 then 2 else 0)

/-- What follows every command: waits of the Main Processors and Custody that have come to their end complete, a radio
whose last kept slot is gone shuts down (R157), space that a whole datagram no longer needs and fetching that need no longer wait are freed (R247,
R254), Rim takes up what Ride-Through asks of it (R344, R346), and sampling counters note whether their source stays eligible. -/
def Dev.after (d : Dev) : Dev :=
  if d.power.inReset then d else
    ((d.forEach [64, 65, 66] fun d p => d.wake p).forEach (List.range 17) fun d n => d.mayShut n).sweepWhole.unstall.rideServe.sampleWatch

end Sys2Proof.Machine
end

