-- ==== Sys2Proof/Machine/Commands.lean ====
section
/-!
DEFINITION. Commands that reach the device through a register or window, and commands whose effect joins several blocks.
-/

namespace Sys2Proof.Machine

/-! ## Registers and windows as commands -/

/-- A command that is a requester's write of register `off`, permitted as any write is; `act` is its effect. -/
def Dev.byWrite (d : Dev) (r : Req) (off : Nat) (act : Dev → Dev) : Dev := (d.writeWith r.num off fun _ => act d).dev d

/-- A write of any register as its access code, permissions and domain give it (R455, R459, R460). The host and the TAP
reach no window (R454), and a misaligned request is discarded (R459). -/
def Dev.anyWrite (d : Dev) (r : Req) (off : Nat) (w : Word) : Dev :=
  let d := if r.num = 67 && d.pdRun 13 then d.pmcOctets 0 1 4 else d
  if r.num = 67 ∧ 0x2000000 ≤ off then (if d.pdRun 13 then d.bar2Write (off - 0x2000000) w else d)
  else if off % 4 ≠ 0 ∨ 0x1000000 ≤ off then d else (d.regWrite r.num off w).dev d

-- Marked: DESIGN CHOICE, log entry 86.
/-- A read of a register; the answer goes out on the fabric. -/
def Dev.byRead (d : Dev) (r : Req) (off : Nat) : Dev :=
  match d.regRead r.num off with
  | .done d v => { d with bus := some (r.num, off, some v) }
  | .wait => d
  | .fail d => { d with bus := some (r.num, off, none) }

-- Marked: DESIGN CHOICE, log entry 86.
/-- A BAR0 read: one that is not a single DW with all byte enables, or lies at 0x100_0000 or above, completes as an
Unsupported Request (R454, R459). -/
def Dev.hostRead (d : Dev) (off : Nat) (whole : Bool) : Dev :=
  let d := if d.pdRun 13 then d.pmcOctets 0 2 4 else d
  if d.pdRun 13 && whole && off % 4 == 0 && decide (0x2000000 ≤ off ∧ off < 0x2002000)
  then { d with bus := some (67, off, some (d.bar2Word (off - 0x2000000))) }
  else if !whole || off % 4 != 0 || decide (0x1000000 ≤ off) then { d with bus := some (67, off, none) }
  else d.byRead .host off

/-- A store of `size` octets by processor `p` through the node-table window (R118, R210). -/
def Dev.windowWrite (d : Dev) (p : Proc) (off size : Nat) (v : Word) : Dev :=
  let a := wd (0x41000000 + off)
  match d.place p (d.cpu p.num).sup a size kStore with
  | .error _ => d
  | .ok x =>
    match d.storeAt p a size v x with
    | .ok d _ => d
    | _ => d

/-- The register whose LOCK is written. -/
def lockOff : LockReg → Nat
  | .channel k => R.EVR_CH_CFG k.val
  | .cell c => R.EVR_SC_CFG c.val
  | .dbgctl => R.TST_DBGCTL

/-- Writes LOCK beside what the register holds (R396, R451). -/
def Dev.lockReg (d : Dev) (r : Req) (x : LockReg) : Dev :=
  let bit := match x with | .channel _ => 30 | _ => 31
  (d.regWrite r.num (lockOff x) (setBit (d.reg (lockOff x)) bit true)).dev d

/-- A handover request word (R128). -/
def hoWord (src tgt kind : Nat) (force : Bool) : Word := pack [(31, b2n force), (29, kind), (8, tgt), (0, src)]

/-- A node-table command from half `h`: its Main Processor's write of MAC_NTCMD, or a MAC timing role's port write. -/
def Dev.ntFrom (d : Dev) (h : Half) (role : Option (Fin 2)) (cmd : Nat) : Dev :=
  match role with
  | none => d.byWrite (.mp h) R.MAC_NTCMD fun d => d.ntCommand (mpBank h.toNat) h.toNat cmd
  | some r => d.ntCommand (roleBank h.toNat r.val) h.toNat cmd

/-! ## Effects that join blocks -/

/-- A gate of class TXS: on a lane, or on GU16 for the trunk. -/
def Dev.fireTxs (d : Dev) (u k : Nat) : Dev := if u < 16 then d.fireLaneTxs u k else d.fireTrkTxs k

/-- The frame-complete check of a TXS (R47). -/
def Dev.txsCheck (d : Dev) (u k : Nat) : Dev :=
  let d := d.settle u
  if u < 16 then d.txsCheckLane u k else d.trkTxsCheck k

-- Marked: DEDUCED, log entry 84.
/-- A radio's calibration ends; a complete one restarts its ageing account (R366), and the trunk takes ROLE SEEKING. -/
def Dev.radioCalEnd (d : Dev) (n fail : Nat) (temp : Int) (trims : List Word) : Dev :=
  let r := d.radio n
  if r.st = sCAL && decide (r.until_ ≤ d.clk) then
    let whole := r.calRun == 15 && fail % 16 == 0
    let d := d.calEnd n fail temp trims
    let d := if whole then d.calComplete (if n < 16 then 70 + n else 95) else d
    if n = 16 then d.trkReady else d
  else d

-- Marked: DEDUCED, log entry 84.
/-- An ACR's calibration ends; a complete one restarts its ageing account (R366). -/
def Dev.acrCalDone (d : Dev) (a fail : Nat) (skew : Int) : Dev :=
  if d.acrState a = 2 && decide ((d.acr a).until_ ≤ d.clk) then
    let d := d.acrCalEnd a fail skew
    if fail = 0 then d.calComplete (86 + 2 * a) else d
  else d

/-- A submission as its link delivers it, its OPC being that of the command (R245). -/
def Dev.send (d : Dev) (lq opc : Nat) (entry : List Word) (payload : List Byte) : Dev :=
  d.submit lq ⟨setFld (entry.getD 0 0#32) 28 4 opc :: entry.drop 1⟩ payload

/-- A fill of an acknowledgement, or of a ring's front descriptor (R152, R213). -/
def Dev.fillCmd (d : Dev) (h : Nat) : Dev := (d.secFill h).retryAcks

-- Marked: DESIGN CHOICE, log entry 9.
/-- Fills that have waited 1 ms end (R152, R213). -/
def Dev.fillExpiry (d : Dev) (h : Nat) : Dev := (d.fillTimeout h).expireAcks false

/-- Waits for a limit of 1 ms end (R233, R213). -/
def Dev.limitExpiry (d : Dev) (h : Nat) : Dev := (d.reservationTimeout h).expireAcks true

/-- A limit reaches the engine: what waits for it proceeds (R233). -/
def Dev.limitArrives (d : Dev) (k : Nat) (gcm : Bool) : Dev :=
  if d.restarting then d else (d.reservation k gcm).retryAcks

/-- Hold blocks are free: received copies that wait for them go first, then the ring's decryption (R235). -/
def Dev.holdFreedAll (d : Dev) (h : Nat) : Dev := d.holdCopies.holdFreed h

/-- A planned switch; in a half-at-a-time activation the half that has lost the lead restarts next (R283, R302). -/
def Dev.switchAt (d : Dev) : Dev :=
  let was := d.leader
  let d := d.plannedSwitch
  if d.leader = was then d else d.halfwiseSwitched

/-- One week of power-on time, in ticks. -/
abbrev weekTicks : Nat := 96768000000000

/-- The weekly record, once the week of power-on time is full (R359, R360). -/
def Dev.weekEnd (d : Dev) : Dev := if (d.mgn.week + 1) * weekTicks ≤ d.mgn.onTicks then d.weekly else d

/-- A rail leaves its range, or RST_N has been low for 1 µs (R334, R461). -/
def Dev.resetAssert (d : Dev) (rail : Bool) : Dev := d.enterReset (if rail then 2 else 4) 0

/-- VDD_CORE below 0.57 V for 200 ns (R337). -/
def Dev.brownout (d : Dev) : Dev := d.enterReset 3 0

/-- The device outside reset does `f`, and then what follows every command; in reset nothing (R334). -/
def Dev.act (d : Dev) (f : Dev → Dev) : Dev := if d.power.inReset then d else (f d).after

end Sys2Proof.Machine
end

