-- ==== Sys2Proof/Machine/State.lean ====
section
/-!
DEFINITION. The machine's state: the device and the commands that wait, first in, first out.
-/

namespace Sys2Proof.Machine

/-- No command stops the block: every fault of the spec is an effect on the state (R71, R461). -/
inductive Fault where
  deriving DecidableEq, Repr

/-- Why a command is turned away. -/
inductive Refusal where
  /-- raised by an arm of `exec` without a meaning; no arm is left so (safe) -/
  | notModelled (mnemonic : String)
  deriving DecidableEq, Repr

/-- The device and its waiting commands. -/
structure State where
  dev : Dev := {}
  pending : List Instr := []
  deriving DecidableEq, Repr

-- Marked: DESIGN CHOICE, log entry 4.
/-- The machine right after device reset is released (R334, R348, R461): every register at the value of the register
tables, no memory written, every domain in Run, no command waiting. -/
def State.reset : State := {}

end Sys2Proof.Machine
end

