-- ==== Sys2Proof/Machine/Run.lean ====
section
/-!
DEFINITION. How a command's effect on the device becomes its outcome.
-/

namespace Sys2Proof.Machine

-- Marked: DESIGN CHOICE, log entry 8.
/-- A command of the device outside reset; in reset it has no effect (R334). -/
def acted (s : State) (f : Dev → Dev) : Host.Outcome State Fault Refusal := .next { s with dev := s.dev.act f }

/-- A command of reset itself, of the RTC or of the contactless tag, which work in reset too (R334, R371, R410). -/
def always (s : State) (f : Dev → Dev) : Host.Outcome State Fault Refusal := .next { s with dev := (f s.dev).after }

end Sys2Proof.Machine
end

