-- ==== Sys2Proof/Machine/AcrCommands.lean ====
section
/-!
DEFINITION. All-channel receiver commands (chapter 7).
-/

namespace Sys2Proof.Machine

/-- ACR_ENABLE (R162). -/
def execAcrEnable (r : Req) (a : Acr) (s : State) : Host.Outcome State Fault Refusal :=
  acted s fun d => d.byWrite r (R.ACR_CMD a.num) fun d => d.acrEnable a.num

/-- ACR_ENABLE_DONE (R162). -/
def execAcrEnableDone (a : Acr) (s : State) : Host.Outcome State Fault Refusal :=
  acted s fun d => d.acrEnableDone a.num

/-- ACR_START (R164). -/
def execAcrStart (r : Req) (a : Acr) (s : State) : Host.Outcome State Fault Refusal :=
  acted s fun d => d.byWrite r (R.ACR_CMD a.num) fun d => d.acrStart a.num

/-- ACR_STOP (R177). -/
def execAcrStop (r : Req) (a : Acr) (s : State) : Host.Outcome State Fault Refusal :=
  acted s fun d => d.byWrite r (R.ACR_CMD a.num) fun d => d.acrStop a.num

/-- ACR_CALIBRATE (R165). -/
def execAcrCalibrate (r : Req) (a : Acr) (s : State) : Host.Outcome State Fault Refusal :=
  acted s fun d => d.byWrite r (R.ACR_CMD a.num) fun d => d.acrCalibrate a.num

/-- ACR_DISABLE (R162). -/
def execAcrDisable (r : Req) (a : Acr) (s : State) : Host.Outcome State Fault Refusal :=
  acted s fun d => d.byWrite r (R.ACR_CMD a.num) fun d => d.acrDisable a.num

/-- ACR_CAL_END (R165). -/
def execAcrCalEnd (a : Acr) (fail : Fin 8) (skew : Int) (s : State) : Host.Outcome State Fault Refusal :=
  acted s fun d => d.acrCalDone a.num fail skew

/-- ACRS_CENTRE (R177). -/
def execAcrsCentre (r : Req) (w : Word) (s : State) : Host.Outcome State Fault Refusal :=
  acted s fun d => d.byWrite r (R.ACR_CENTRE 0) fun d => d.acrCentre w

/-- ACR_RETUNE_END (R177). -/
def execAcrRetuneEnd (s : State) : Host.Outcome State Fault Refusal :=
  acted s Dev.acrRetuneEnd

/-- ACRSK_CFG (R168). -/
def execAcrskCfg (r : Req) (a : Acr) (k : Fin 128) (w : Word) (s : State) : Host.Outcome State Fault Refusal :=
  acted s fun d => d.byWrite r (R.ACRK_CFG a.num k) fun d => d.acrChanCfg a.num k w

/-- SWAP (R172). -/
def execSwap (r : Req) (a : Acr) (k : Fin 128) (x : Fin 256) (s : State) : Host.Outcome State Fault Refusal :=
  acted s fun d => d.byWrite r (R.ACRK_FIRCMD a.num k) fun d => d.acrSwap a.num k x

/-- CROSS_FADE_END (R172). -/
def execCrossFadeEnd (a : Acr) (k : Fin 128) (s : State) : Host.Outcome State Fault Refusal :=
  acted s fun d => d.acrFadeEnd a.num k

/-- ACRSK_PDLY (R173). -/
def execAcrskPdly (r : Req) (a : Acr) (k : Fin 128) (w : Word) (s : State) : Host.Outcome State Fault Refusal :=
  acted s fun d => d.byWrite r (R.ACRK_PDLY a.num k) fun d => d.acrPdly a.num k w

/-- PATH_SETTLED (R176). -/
def execPathSettled (a : Acr) (k : Fin 128) (dig : Fin 2) (s : State) : Host.Outcome State Fault Refusal :=
  acted s fun d => d.pathSettled a.num k dig

/-- OVERRANGED_SAMPLE (R179). -/
def execOverrangedSample (a : Acr) (dig : Fin 2) (x : Sample) (s : State) : Host.Outcome State Fault Refusal :=
  acted s fun d => d.overranged a.num dig x

/-- AGC_STEP_DOWN (R179). -/
def execAgcStepDown (a : Acr) (dig : Fin 2) (s : State) : Host.Outcome State Fault Refusal :=
  acted s fun d => d.agcDown a.num dig

/-- AGC_STEP_UP (R180). -/
def execAgcStepUp (a : Acr) (dig : Fin 2) (s : State) : Host.Outcome State Fault Refusal :=
  acted s fun d => d.agcUp a.num dig

end Sys2Proof.Machine
end

