-- ==== Sys2Proof/Machine/AluInstructions.lean ====
section
/-!
DEFINITION. ALU, immediate and bit-field instructions (R67 to R70, R93 to R97).
-/

namespace Sys2Proof.Machine

/-- ADD (R69). -/
def execAdd (p : Proc) (rd ra rb : Reg) (sf : Bool) (s : State) : Host.Outcome State Fault Refusal :=
  acted s fun d => d.issue p (aluBody p 0 rd ra rb sf)

/-- SUB (R69). -/
def execSub (p : Proc) (rd ra rb : Reg) (sf : Bool) (s : State) : Host.Outcome State Fault Refusal :=
  acted s fun d => d.issue p (aluBody p 1 rd ra rb sf)

/-- ADC (R69). -/
def execAdc (p : Proc) (rd ra rb : Reg) (sf : Bool) (s : State) : Host.Outcome State Fault Refusal :=
  acted s fun d => d.issue p (aluBody p 2 rd ra rb sf)

/-- SBC (R69). -/
def execSbc (p : Proc) (rd ra rb : Reg) (sf : Bool) (s : State) : Host.Outcome State Fault Refusal :=
  acted s fun d => d.issue p (aluBody p 3 rd ra rb sf)

/-- AND (R69). -/
def execAnd_ (p : Proc) (rd ra rb : Reg) (sf : Bool) (s : State) : Host.Outcome State Fault Refusal :=
  acted s fun d => d.issue p (aluBody p 4 rd ra rb sf)

/-- OR (R69). -/
def execOr_ (p : Proc) (rd ra rb : Reg) (sf : Bool) (s : State) : Host.Outcome State Fault Refusal :=
  acted s fun d => d.issue p (aluBody p 5 rd ra rb sf)

/-- XOR (R69). -/
def execXor_ (p : Proc) (rd ra rb : Reg) (sf : Bool) (s : State) : Host.Outcome State Fault Refusal :=
  acted s fun d => d.issue p (aluBody p 6 rd ra rb sf)

/-- ANDN (R69). -/
def execAndn (p : Proc) (rd ra rb : Reg) (sf : Bool) (s : State) : Host.Outcome State Fault Refusal :=
  acted s fun d => d.issue p (aluBody p 7 rd ra rb sf)

/-- SHL (R94). -/
def execShl (p : Proc) (rd ra rb : Reg) (sf : Bool) (s : State) : Host.Outcome State Fault Refusal :=
  acted s fun d => d.issue p (aluBody p 8 rd ra rb sf)

/-- SHR (R94). -/
def execShr (p : Proc) (rd ra rb : Reg) (sf : Bool) (s : State) : Host.Outcome State Fault Refusal :=
  acted s fun d => d.issue p (aluBody p 9 rd ra rb sf)

/-- SAR (R94). -/
def execSar (p : Proc) (rd ra rb : Reg) (sf : Bool) (s : State) : Host.Outcome State Fault Refusal :=
  acted s fun d => d.issue p (aluBody p 10 rd ra rb sf)

/-- ROR (R94). -/
def execRor (p : Proc) (rd ra rb : Reg) (sf : Bool) (s : State) : Host.Outcome State Fault Refusal :=
  acted s fun d => d.issue p (aluBody p 11 rd ra rb sf)

/-- SLT (R69). -/
def execSlt (p : Proc) (rd ra rb : Reg) (sf : Bool) (s : State) : Host.Outcome State Fault Refusal :=
  acted s fun d => d.issue p (aluBody p 12 rd ra rb sf)

/-- SLTU (R69). -/
def execSltu (p : Proc) (rd ra rb : Reg) (sf : Bool) (s : State) : Host.Outcome State Fault Refusal :=
  acted s fun d => d.issue p (aluBody p 13 rd ra rb sf)

/-- MIN (R69). -/
def execMin (p : Proc) (rd ra rb : Reg) (sf : Bool) (s : State) : Host.Outcome State Fault Refusal :=
  acted s fun d => d.issue p (aluBody p 14 rd ra rb sf)

/-- MAX (R69). -/
def execMax (p : Proc) (rd ra rb : Reg) (sf : Bool) (s : State) : Host.Outcome State Fault Refusal :=
  acted s fun d => d.issue p (aluBody p 15 rd ra rb sf)

/-- MUL (R69). -/
def execMul (p : Proc) (rd ra rb : Reg) (sf : Bool) (s : State) : Host.Outcome State Fault Refusal :=
  acted s fun d => d.issue p (aluBody p 16 rd ra rb sf)

/-- MULHU (R94). -/
def execMulhu (p : Proc) (rd ra rb : Reg) (sf : Bool) (s : State) : Host.Outcome State Fault Refusal :=
  acted s fun d => d.issue p (aluBody p 17 rd ra rb sf)

/-- MULHS (R94). -/
def execMulhs (p : Proc) (rd ra rb : Reg) (sf : Bool) (s : State) : Host.Outcome State Fault Refusal :=
  acted s fun d => d.issue p (aluBody p 18 rd ra rb sf)

/-- DIVU (R69). -/
def execDivu (p : Proc) (rd ra rb : Reg) (sf : Bool) (s : State) : Host.Outcome State Fault Refusal :=
  acted s fun d => d.issue p (aluBody p 20 rd ra rb sf)

/-- DIVS (R69). -/
def execDivs (p : Proc) (rd ra rb : Reg) (sf : Bool) (s : State) : Host.Outcome State Fault Refusal :=
  acted s fun d => d.issue p (aluBody p 21 rd ra rb sf)

/-- REMU (R69). -/
def execRemu (p : Proc) (rd ra rb : Reg) (sf : Bool) (s : State) : Host.Outcome State Fault Refusal :=
  acted s fun d => d.issue p (aluBody p 22 rd ra rb sf)

/-- REMS (R69). -/
def execRems (p : Proc) (rd ra rb : Reg) (sf : Bool) (s : State) : Host.Outcome State Fault Refusal :=
  acted s fun d => d.issue p (aluBody p 23 rd ra rb sf)

/-- CLZ (R69). -/
def execClz (p : Proc) (rd ra rb : Reg) (sf : Bool) (s : State) : Host.Outcome State Fault Refusal :=
  acted s fun d => d.issue p (aluBody p 24 rd ra rb sf)

/-- CTZ (R69). -/
def execCtz (p : Proc) (rd ra rb : Reg) (sf : Bool) (s : State) : Host.Outcome State Fault Refusal :=
  acted s fun d => d.issue p (aluBody p 25 rd ra rb sf)

/-- POPC (R69). -/
def execPopc (p : Proc) (rd ra rb : Reg) (sf : Bool) (s : State) : Host.Outcome State Fault Refusal :=
  acted s fun d => d.issue p (aluBody p 26 rd ra rb sf)

/-- BPERM (R95). -/
def execBperm (p : Proc) (rd ra rb : Reg) (sf : Bool) (s : State) : Host.Outcome State Fault Refusal :=
  acted s fun d => d.issue p (aluBody p 27 rd ra rb sf)

/-- MINU (R69). -/
def execMinu (p : Proc) (rd ra rb : Reg) (sf : Bool) (s : State) : Host.Outcome State Fault Refusal :=
  acted s fun d => d.issue p (aluBody p 28 rd ra rb sf)

/-- MAXU (R69). -/
def execMaxu (p : Proc) (rd ra rb : Reg) (sf : Bool) (s : State) : Host.Outcome State Fault Refusal :=
  acted s fun d => d.issue p (aluBody p 29 rd ra rb sf)

/-- ADDI (R96). -/
def execAddi (p : Proc) (rd ra : Reg) (imm : BitVec 16) (s : State) : Host.Outcome State Fault Refusal :=
  acted s fun d => d.issue p (immBody p rd ra fun a => a + sext16 imm)

/-- ANDI (R96). -/
def execAndi (p : Proc) (rd ra : Reg) (imm : BitVec 16) (s : State) : Host.Outcome State Fault Refusal :=
  acted s fun d => d.issue p (immBody p rd ra fun a => a &&& imm.setWidth 32)

/-- ORI (R96). -/
def execOri (p : Proc) (rd ra : Reg) (imm : BitVec 16) (s : State) : Host.Outcome State Fault Refusal :=
  acted s fun d => d.issue p (immBody p rd ra fun a => a ||| imm.setWidth 32)

/-- XORI (R96). -/
def execXori (p : Proc) (rd ra : Reg) (imm : BitVec 16) (s : State) : Host.Outcome State Fault Refusal :=
  acted s fun d => d.issue p (immBody p rd ra fun a => a ^^^ imm.setWidth 32)

/-- SHI_SHL (R96). -/
def execShiShl (p : Proc) (rd ra : Reg) (amt : Fin 32) (res : Fin 512) (s : State) : Host.Outcome State Fault Refusal :=
  acted s fun d => d.issue p (shiBody p 0 rd ra amt res)

/-- SHI_SHR (R96). -/
def execShiShr (p : Proc) (rd ra : Reg) (amt : Fin 32) (res : Fin 512) (s : State) : Host.Outcome State Fault Refusal :=
  acted s fun d => d.issue p (shiBody p 1 rd ra amt res)

/-- SHI_SAR (R96). -/
def execShiSar (p : Proc) (rd ra : Reg) (amt : Fin 32) (res : Fin 512) (s : State) : Host.Outcome State Fault Refusal :=
  acted s fun d => d.issue p (shiBody p 2 rd ra amt res)

/-- SHI_ROR (R96). -/
def execShiRor (p : Proc) (rd ra : Reg) (amt : Fin 32) (res : Fin 512) (s : State) : Host.Outcome State Fault Refusal :=
  acted s fun d => d.issue p (shiBody p 3 rd ra amt res)

/-- LUI (R96). -/
def execLui (p : Proc) (rd ra : Reg) (imm : BitVec 16) (s : State) : Host.Outcome State Fault Refusal :=
  acted s fun d => d.issue p (luiBody p rd ra imm)

/-- CMPI (R96). -/
def execCmpi (p : Proc) (rd ra : Reg) (imm : BitVec 16) (s : State) : Host.Outcome State Fault Refusal :=
  acted s fun d => d.issue p (cmpiBody p rd ra imm)

/-- EXTU (R97). -/
def execExtu (p : Proc) (rd ra : Reg) (pos wm1 : Fin 32) (s : State) : Host.Outcome State Fault Refusal :=
  acted s fun d => d.issue p (bitfBody p 0 rd ra pos wm1)

/-- EXTS (R97). -/
def execExts (p : Proc) (rd ra : Reg) (pos wm1 : Fin 32) (s : State) : Host.Outcome State Fault Refusal :=
  acted s fun d => d.issue p (bitfBody p 1 rd ra pos wm1)

/-- INS (R97). -/
def execIns (p : Proc) (rd ra : Reg) (pos wm1 : Fin 32) (s : State) : Host.Outcome State Fault Refusal :=
  acted s fun d => d.issue p (bitfBody p 2 rd ra pos wm1)

/-- CLRF (R97). -/
def execClrf (p : Proc) (rd ra : Reg) (pos wm1 : Fin 32) (s : State) : Host.Outcome State Fault Refusal :=
  acted s fun d => d.issue p (bitfBody p 3 rd ra pos wm1)

end Sys2Proof.Machine
end

