-- ==== Sys2Proof/Machine/ClockCommands.lean ====
section
/-!
DEFINITION. RTC and timers (chapter 17).
-/

namespace Sys2Proof.Machine

/-- RTC_FRAC_READ (R372). -/
def execRtcFracRead (r : Req) (s : State) : Host.Outcome State Fault Refusal :=
  always s fun d => d.byRead r R.RTC_FRAC

/-- RTC_SETSEC_HI (R374). -/
def execRtcSetsecHi (r : Req) (w : Word) (s : State) : Host.Outcome State Fault Refusal :=
  always s fun d => d.byWrite r R.RTC_SETSEC_HI fun d => d.rtcSet w

/-- RTC_SHIFT (R376). -/
def execRtcShift (r : Req) (w : Word) (s : State) : Host.Outcome State Fault Refusal :=
  always s fun d => d.byWrite r R.RTC_SHIFT fun d => d.rtcShift w

/-- SHIFT_HOLD_END (R375). -/
def execShiftHoldEnd (s : State) : Host.Outcome State Fault Refusal :=
  always s Dev.shiftHoldEnd

/-- TRIM_WINDOW (R373). -/
def execTrimWindow (s : State) : Host.Outcome State Fault Refusal :=
  always s Dev.trimWindow

/-- XTAL_FAIL (R378). -/
def execXtalFail (s : State) : Host.Outcome State Fault Refusal :=
  always s Dev.xtalFails

/-- TMRN_CTL (R380). -/
def execTmrnCtl (r : Req) (n : Fin 32) (w : Word) (s : State) : Host.Outcome State Fault Refusal :=
  acted s fun d => d.byWrite r (R.TMR_CTL n) fun d => d.tmrCtl n w

/-- TIMER_MATCH (R382). -/
def execTimerMatch (n : Fin 32) (s : State) : Host.Outcome State Fault Refusal :=
  acted s fun d => d.tmrMatch n

/-- TIMER_CAPTURE (R384). -/
def execTimerCapture (n : Fin 32) (rising : Bool) (s : State) : Host.Outcome State Fault Refusal :=
  acted s fun d => d.tmrPinEdge n rising

/-- TMR_SNAPCMD (R385). -/
def execTmrSnapcmd (r : Req) (s : State) : Host.Outcome State Fault Refusal :=
  acted s fun d => d.byWrite r R.TMR_SNAPCMD fun d => d.tmrSnap r.num

/-- TMRN_CAP_LO_READ (R384). -/
def execTmrnCapLoRead (r : Req) (n : Fin 32) (s : State) : Host.Outcome State Fault Refusal :=
  acted s fun d => d.byRead r (R.TMR_CAP_LO n)

end Sys2Proof.Machine
end

