-- ==== Sys2Proof/Machine/ContactlessCommands.lean ====
section
/-!
DEFINITION. Contactless tag and reader (chapter 19).
-/

namespace Sys2Proof.Machine

/-- FIELD_ACTIVATION (R410). -/
def execFieldActivation (s : State) : Host.Outcome State Fault Refusal :=
  always s Dev.fieldActivation

/-- FIELD_LOST (R411). -/
def execFieldLost (s : State) : Host.Outcome State Fault Refusal :=
  always s Dev.fieldGone

/-- REQA (R409). -/
def execReqa (wupa : Bool) (s : State) : Host.Outcome State Fault Refusal :=
  always s fun d => d.clpReqa wupa

/-- ANTICOLLISION (R409). -/
def execAnticollision (known : List Bool) (s : State) : Host.Outcome State Fault Refusal :=
  always s fun d => d.clpAnticoll known

/-- SELECT (R409). -/
def execSelect (uid : List Byte) (s : State) : Host.Outcome State Fault Refusal :=
  always s fun d => d.clpSelect uid

/-- HLTA (R411). -/
def execHlta (s : State) : Host.Outcome State Fault Refusal :=
  always s Dev.clpHlta

/-- DESELECT (R411). -/
def execDeselect (s : State) : Host.Outcome State Fault Refusal :=
  always s Dev.clpDeselect

/-- GET_INFO (R412). -/
def execGetInfo (msg : List Byte) (more : Bool) (s : State) : Host.Outcome State Fault Refusal :=
  always s fun d => d.tagBlock 0x10#8 msg more false 0 0

/-- AUTH1 (R413). -/
def execAuth1 (msg : List Byte) (more : Bool) (s : State) : Host.Outcome State Fault Refusal :=
  always s fun d => d.tagBlock 0x20#8 msg more false 0 0

/-- AUTH2 (R413). -/
def execAuth2 (msg : List Byte) (more : Bool) (s : State) : Host.Outcome State Fault Refusal :=
  always s fun d => d.tagBlock 0x21#8 msg more false 0 0

/-- IDENT (R412). -/
def execIdent (msg : List Byte) (more : Bool) (s : State) : Host.Outcome State Fault Refusal :=
  always s fun d => d.tagBlock 0x30#8 msg more false 0 0

/-- READ (R412). -/
def execTagRead (msg : List Byte) (more : Bool) (s : State) : Host.Outcome State Fault Refusal :=
  always s fun d => d.tagBlock 0x40#8 msg more false 0 0

/-- WRITE (R417). -/
def execTagWrite (msg : List Byte) (more lowField : Bool) (step : Fin 6) (mism : Nat)
    (s : State) : Host.Outcome State Fault Refusal :=
  always s fun d => d.tagBlock 0x50#8 msg more lowField step mism

/-- GENERATION (R412). -/
def execGeneration (msg : List Byte) (more : Bool) (s : State) : Host.Outcome State Fault Refusal :=
  always s fun d => d.tagBlock 0x60#8 msg more false 0 0

/-- LOCKOUT_END (R414). -/
def execLockoutEnd (s : State) : Host.Outcome State Fault Refusal :=
  always s Dev.lockoutEnd

/-- CA_FIRST_ACCESS (R418). -/
def execCaFirstAccess (cut : Bool) (s : State) : Host.Outcome State Fault Refusal :=
  always s fun d => d.caFirst cut

/-- READER_WAKE_MEASURE (R421). -/
def execReaderWakeMeasure (count : Fin 65536) (s : State) : Host.Outcome State Fault Refusal :=
  acted s fun d => d.wakeMeasure count

/-- POLL (R422). -/
def execPoll (tags : List (List Byte)) (s : State) : Host.Outcome State Fault Refusal :=
  acted s fun d => d.rdPoll tags

/-- EXCHANGE_BLOCK (R425). -/
def execExchangeBlock (fwi : Fin 15) (s : State) : Host.Outcome State Fault Refusal :=
  acted s fun d => d.exchangeBlock fwi

/-- READER_RELEASE (R425). -/
def execReaderRelease (s : State) : Host.Outcome State Fault Refusal :=
  acted s Dev.readerRelease

/-- FIELD_OFF (R425). -/
def execFieldOff (s : State) : Host.Outcome State Fault Refusal :=
  acted s Dev.readerFieldOff

/-- READER_WAIT_EXPIRY (R423). -/
def execReaderWaitExpiry (s : State) : Host.Outcome State Fault Refusal :=
  acted s Dev.readerExpiry

/-- CLP_TAGCFG (R426). -/
def execClpTagcfg (r : Req) (w : Word) (s : State) : Host.Outcome State Fault Refusal :=
  acted s fun d => d.byWrite r R.CLP_TAGCFG fun d => d.setTagCfg w

/-- RATS (R409). -/
def execRats (fsdi : Fin 16) (s : State) : Host.Outcome State Fault Refusal :=
  always s fun d => d.clpRats fsdi

/-- TAG_R_BLOCK (R409). -/
def execTagRBlock (kind : Fin 3) (s : State) : Host.Outcome State Fault Refusal :=
  always s fun d => d.clpRBlock kind

/-- READER_REPLY (R425). -/
def execReaderReply (kind : Fin 3) (data : List Byte) (s : State) : Host.Outcome State Fault Refusal :=
  acted s fun d => d.readerReply kind data

/-- READER_DEFERRAL_END (R424). -/
def execReaderDeferralEnd (s : State) : Host.Outcome State Fault Refusal :=
  acted s Dev.deferralEnd

end Sys2Proof.Machine
end

