-- ==== Sys2Proof/Machine/ControlInstructions.lean ====
section
/-!
DEFINITION. Control flow, gates, ports, events, control registers and Rim calls (R73 to R115).
-/

namespace Sys2Proof.Machine

/-- BC (R102). -/
def execBc (p : Proc) (cond : Fin 16) (off : BitVec 22) (s : State) : Host.Outcome State Fault Refusal :=
  acted s fun d => d.issue p (bcBody p cond off)

/-- JMP (R102). -/
def execJmp (p : Proc) (off : BitVec 26) (s : State) : Host.Outcome State Fault Refusal :=
  acted s fun d => d.issue p (jmpBody p off)

/-- JMPR (R102). -/
def execJmpr (p : Proc) (rd ra : Reg) (rest : BitVec 16) (s : State) : Host.Outcome State Fault Refusal :=
  acted s fun d => d.issue p (jmprBody p rd ra rest.toNat)

/-- CALLM (R73). -/
def execCallm (p : Proc) (disp : BitVec 10) (mask : BitVec 16) (s : State) : Host.Outcome State Fault Refusal :=
  acted s fun d => d.issue p (callmBody p disp mask)

/-- CALLMR (R73). -/
def execCallmr (p : Proc) (ra : Reg) (res : Fin 32) (mask : BitVec 16) (s : State) : Host.Outcome State Fault Refusal :=
  acted s fun d => d.issue p (callmrBody p ra res mask)

/-- RETM (R75). -/
def execRetm (p : Proc) (rest : BitVec 26) (s : State) : Host.Outcome State Fault Refusal :=
  acted s fun d => d.issue p (retmBody p rest.toNat)

/-- ARMG (R104). -/
def execArmg (p : Proc) (rd ra rb : Reg) (cls : Fin 8) (unit : Fin 32) (res : Fin 8)
    (s : State) : Host.Outcome State Fault Refusal :=
  acted s fun d => d.issue p (armgBody p rd ra rb cls unit res)

/-- DISG (R106). -/
def execDisg (p : Proc) (rd ra rb : Reg) (cls : Fin 8) (unit : Fin 32) (res : Fin 8)
    (s : State) : Host.Outcome State Fault Refusal :=
  acted s fun d => d.issue p (disgBody p rd ra rb cls unit res)

/-- WAITG (R107). -/
def execWaitg (p : Proc) (rd ra : Reg) (imm : BitVec 16) (s : State) : Host.Outcome State Fault Refusal :=
  acted s fun d => d.issue p (waitgBody p rd ra imm)

/-- WAITG_OUTCOME (R107). -/
def execWaitgOutcome (e : Fin 64) (s : State) : Host.Outcome State Fault Refusal :=
  acted s fun d => d.waitgOutcome e

/-- RDTS (R108). -/
def execRdts (p : Proc) (rd : Reg) (rest : BitVec 21) (s : State) : Host.Outcome State Fault Refusal :=
  acted s fun d => d.issue p (rdtsBody p rd rest.toNat)

/-- SWP (R109). -/
def execSwp (p : Proc) (rd ra : Reg) (imm : BitVec 16) (s : State) : Host.Outcome State Fault Refusal :=
  acted s fun d => d.issue p (swpBody p rd ra imm)

/-- LIN (R110). -/
def execLin (p : Proc) (rd ra : Reg) (imm : BitVec 16) (s : State) : Host.Outcome State Fault Refusal :=
  acted s fun d => d.issue p (linBody p rd ra imm)

/-- LOUT (R110). -/
def execLout (p : Proc) (rd ra : Reg) (imm : BitVec 16) (s : State) : Host.Outcome State Fault Refusal :=
  acted s fun d => d.issue p (loutBody p rd ra imm)

/-- QUEUE_WAIT_END (R111). -/
def execQueueWaitEnd (e : Fin 64) (s : State) : Host.Outcome State Fault Refusal :=
  acted s fun d => d.queueWaitEnd e

/-- EVPOST (R112). -/
def execEvpost (p : Proc) (rd ra : Reg) (imm : BitVec 16) (s : State) : Host.Outcome State Fault Refusal :=
  acted s fun d => d.issue p (evpostBody p rd ra imm)

/-- EVWAIT (R113). -/
def execEvwait (p : Proc) (rd ra : Reg) (imm : BitVec 16) (s : State) : Host.Outcome State Fault Refusal :=
  acted s fun d => d.issue p (evwaitBody p rd ra imm)

/-- MFC (R114). -/
def execMfc (p : Proc) (rd ra : Reg) (cnum : Fin 64) (s : State) : Host.Outcome State Fault Refusal :=
  acted s fun d => d.issue p (mfcBody p rd ra cnum)

/-- MTC (R114). -/
def execMtc (p : Proc) (rd ra : Reg) (cnum : Fin 64) (s : State) : Host.Outcome State Fault Refusal :=
  acted s fun d => d.issue p (mtcBody p rd ra cnum)

/-- ERET (R114). -/
def execEret (p : Proc) (rd ra : Reg) (cnum : Fin 64) (s : State) : Host.Outcome State Fault Refusal :=
  acted s fun d => d.issue p (eretBody p rd ra cnum)

/-- WFI (R114). -/
def execWfi (p : Proc) (rd ra : Reg) (cnum : Fin 64) (s : State) : Host.Outcome State Fault Refusal :=
  acted s fun d => d.issue p (wfiBody p rd ra cnum)

/-- SYSC (R114). -/
def execSysc (p : Proc) (rd ra : Reg) (cnum : Fin 64) (s : State) : Host.Outcome State Fault Refusal :=
  acted s fun d => d.issue p (syscBody p rd ra cnum)

/-- BRK (R103). -/
def execBrk (p : Proc) (code : BitVec 26) (s : State) : Host.Outcome State Fault Refusal :=
  acted s fun d => d.issue p (brkBody code)

/-- RCALL (R88). -/
def execRcall (p : Proc) (rd ra : Reg) (imm : BitVec 16) (s : State) : Host.Outcome State Fault Refusal :=
  acted s fun d => d.issue p (rcallBody p rd ra imm)

/-- RWAIT (R88). -/
def execRwait (p : Proc) (rd ra : Reg) (imm : BitVec 16) (s : State) : Host.Outcome State Fault Refusal :=
  acted s fun d => d.issue p (rwaitBody p rd ra imm)

/-- INTERRUPT_ENTRY (R85). -/
def execInterruptEntry (p : Proc) (s : State) : Host.Outcome State Fault Refusal :=
  acted s fun d => d.interruptEntry p

/-- ILLEGAL (R65). -/
def execIllegal (p : Proc) (w : Word) (s : State) : Host.Outcome State Fault Refusal :=
  acted s fun d => if reservedWord w then d.issue p illegalBody else d

end Sys2Proof.Machine
end

