-- ==== Sys2Proof/Machine/EngineCommands.lean ====
section
/-!
DEFINITION. Engine control, handover and watchdogs (chapter 5).
-/

namespace Sys2Proof.Machine

/-- LOAD (R122). -/
def execWenLoad (r : Req) (e : Fin 64) (s : State) : Host.Outcome State Fault Refusal :=
  acted s fun d => d.byWrite r (R.WEN_CMD e) fun d => d.wenCmd e 1

/-- LOAD_DONE (R122). -/
def execLoadDone (e : Fin 64) (s : State) : Host.Outcome State Fault Refusal :=
  acted s fun d => d.engLoadDone e

/-- START (R123). -/
def execWenStart (r : Req) (e : Fin 64) (s : State) : Host.Outcome State Fault Refusal :=
  acted s fun d => d.byWrite r (R.WEN_CMD e) fun d => d.wenCmd e 2

/-- STOP (R121). -/
def execWenStop (r : Req) (e : Fin 64) (s : State) : Host.Outcome State Fault Refusal :=
  acted s fun d => d.byWrite r (R.WEN_CMD e) fun d => d.wenCmd e 3

/-- CLEAR (R121). -/
def execWenClear (r : Req) (e : Fin 64) (s : State) : Host.Outcome State Fault Refusal :=
  acted s fun d => d.byWrite r (R.WEN_CMD e) fun d => d.wenCmd e 4

/-- MIGRATION (R128). -/
def execMigration (r : Req) (h : Half) (src tgt : Fin 64) (s : State) : Host.Outcome State Fault Refusal :=
  acted s fun d => d.byWrite r (R.WENH_HOCMD h.toNat) fun d => d.hoCmd h.toNat (hoWord src tgt 0 false)

/-- EXCHANGE (R128). -/
def execExchange (r : Req) (h : Half) (src tgt : Fin 64) (s : State) : Host.Outcome State Fault Refusal :=
  acted s fun d => d.byWrite r (R.WENH_HOCMD h.toNat) fun d => d.hoCmd h.toNat (hoWord src tgt 1 false)

/-- FORCED_HANDOVER (R135). -/
def execForcedHandover (r : Req) (h : Half) (src tgt : Fin 64) (exch : Bool)
    (s : State) : Host.Outcome State Fault Refusal :=
  acted s fun d => d.byWrite r (R.WENH_HOCMD h.toNat) fun d => d.hoCmd h.toNat (hoWord src tgt (b2n exch) true)

/-- HANDOVER_TIMEOUT (R129). -/
def execHandoverTimeout (h : Half) (s : State) : Host.Outcome State Fault Refusal :=
  acted s fun d => d.hoTimeout h.toNat

/-- DRAIN_MARKER (R132). -/
def execDrainMarker (h : Half) (s : State) : Host.Outcome State Fault Refusal :=
  acted s fun d => d.drainMarker h.toNat

/-- RUN_WATCHDOG (R126). -/
def execRunWatchdog (e : Fin 64) (s : State) : Host.Outcome State Fault Refusal :=
  acted s fun d => d.runWatchdog e

/-- WAIT_WATCHDOG (R126). -/
def execWaitWatchdog (e : Fin 64) (s : State) : Host.Outcome State Fault Refusal :=
  acted s fun d => d.waitWatchdog e

end Sys2Proof.Machine
end

