-- ==== Sys2Proof/Machine/EventCommands.lean ====
section
/-!
DEFINITION. Event router, Splint and performance counters (chapter 18).
-/

namespace Sys2Proof.Machine

/-- EVENT_STEP (R392). -/
def execEventStep (ch : Fin 256) (s : State) : Host.Outcome State Fault Refusal :=
  acted s fun d => d.eventStep ch

/-- SPLINT_FILTER_EXPIRY (R399). -/
def execSplintFilterExpiry (c : Fin 32) (s : State) : Host.Outcome State Fault Refusal :=
  acted s fun d => d.filterExpiry c

/-- EVR_LATCHCLR (R394). -/
def execEvrLatchclr (r : Req) (w : Word) (s : State) : Host.Outcome State Fault Refusal :=
  acted s fun d => d.byWrite r R.EVR_LATCHCLR fun d => d.latchClear r.num w

/-- PMC_WINDOW_END (R403). -/
def execPmcWindowEnd (n : Fin 64) (s : State) : Host.Outcome State Fault Refusal :=
  acted s fun d => d.pmcWindowEnd n

/-- PMC_SAMPLE_TRIGGER (R405). -/
def execPmcSampleTrigger (n : Fin 64) (s : State) : Host.Outcome State Fault Refusal :=
  acted s fun d => d.pmcSample n

/-- PMCN_CFG (R401). -/
def execPmcnCfg (r : Req) (n : Fin 64) (w : Word) (s : State) : Host.Outcome State Fault Refusal :=
  acted s fun d => d.byWrite r (R.PMC_CFG n) fun d => d.pmcCfg n w

/-- PMCN_CNT_LO_READ (R401). -/
def execPmcnCntLoRead (r : Req) (n : Fin 64) (s : State) : Host.Outcome State Fault Refusal :=
  acted s fun d => d.byRead r (R.PMC_CNT_LO n)

end Sys2Proof.Machine
end

