-- ==== Sys2Proof/Machine/GateCommands.lean ====
section
/-!
DEFINITION. The gate classes as they fire, and what a gate starts (R38, R141, R143).
-/

namespace Sys2Proof.Machine

/-- RXC (R143). -/
def execRxc (u : Fin 17) (k : Fin 16) (peak : Int) (s : State) : Host.Outcome State Fault Refusal :=
  acted s fun d => d.fireRxc u k peak

/-- AER (R143). -/
def execAer (u : Fin 17) (k : Fin 16) (s : State) : Host.Outcome State Fault Refusal :=
  acted s fun d => d.fireAer u k

/-- RTN (R143). -/
def execRtn (u : Fin 17) (k : Fin 16) (s : State) : Host.Outcome State Fault Refusal :=
  acted s fun d => d.fireRtn u k

/-- TRN (R145). -/
def execTrn (u : Fin 17) (k : Fin 16) (peak : Int) (s : State) : Host.Outcome State Fault Refusal :=
  acted s fun d => d.fireTrn u k peak

/-- RXO (R143). -/
def execRxo (u : Fin 17) (k : Fin 16) (s : State) : Host.Outcome State Fault Refusal :=
  acted s fun d => d.fireRxo u k

/-- TXS (R430). -/
def execTxs (u : Fin 17) (k : Fin 16) (s : State) : Host.Outcome State Fault Refusal :=
  acted s fun d => d.fireTxs u k

/-- EVT (R38). -/
def execEvt (u : Fin 18) (k : Fin 16) (s : State) : Host.Outcome State Fault Refusal :=
  acted s fun d => d.fireEvt u k

/-- TXS_CHECK (R47). -/
def execTxsCheck (u : Fin 17) (k : Fin 16) (s : State) : Host.Outcome State Fault Refusal :=
  acted s fun d => d.txsCheck u k

/-- TURN_ROUND_END (R51). -/
def execTurnRoundEnd (n : Fin 17) (s : State) : Host.Outcome State Fault Refusal :=
  acted s fun d => d.endTurn n sTURN

/-- RETUNE_END (R141). -/
def execRetuneEnd (n : Fin 17) (s : State) : Host.Outcome State Fault Refusal :=
  acted s fun d => d.endTurn n sRETUNE

end Sys2Proof.Machine
end

