-- ==== Sys2Proof/Machine/LaneCommands.lean ====
section
/-!
DEFINITION. Lane control and reception (chapters 6 and 8).
-/

namespace Sys2Proof.Machine

/-- LANE_ENABLE (R141). -/
def execLaneEnable (r : Req) (n mask : Fin 16) (s : State) : Host.Outcome State Fault Refusal :=
  acted s fun d => d.byWrite r (R.LAN_CMD n) fun d => d.laneEnable n mask

/-- LANE_DISABLE (R157). -/
def execLaneDisable (r : Req) (n : Fin 16) (move : Bool) (s : State) : Host.Outcome State Fault Refusal :=
  acted s fun d => d.byWrite r (R.LAN_CMD n) fun d => d.laneDisable n move

/-- CALIBRATE (R149). -/
def execCalibrate (r : Req) (n mask : Fin 16) (s : State) : Host.Outcome State Fault Refusal :=
  acted s fun d => d.byWrite r (R.LAN_CMD n) fun d => d.laneCalibrate n mask

/-- WARM_DONE (R141). -/
def execWarmDone (n : Fin 17) (s : State) : Host.Outcome State Fault Refusal :=
  acted s fun d => d.warmDone n

/-- CALIBRATION_START (R149). -/
def execCalibrationStart (n : Fin 17) (s : State) : Host.Outcome State Fault Refusal :=
  acted s fun d => d.calStart n

/-- CALIBRATION_END (R150). -/
def execCalibrationEnd (n : Fin 17) (fail : Fin 16) (temp : Int) (trims : List Word)
    (s : State) : Host.Outcome State Fault Refusal :=
  acted s fun d => d.radioCalEnd n fail temp trims

/-- LANE_OFF (R157). -/
def execLaneOff (n : Fin 17) (s : State) : Host.Outcome State Fault Refusal :=
  acted s fun d => d.laneShutdown n

/-- TX_END (R141). -/
def execTxEnd (n : Fin 17) (s : State) : Host.Outcome State Fault Refusal :=
  acted s fun d => d.txEnd n

/-- DIVERSITY_DWELL (R146). -/
def execDiversityDwell (n : Fin 16) (energy : Nat) (s : State) : Host.Outcome State Fault Refusal :=
  acted s fun d => d.dwell n energy

/-- PREAMBLE_DETECTED (R190). -/
def execPreambleDetected (x : Path) (r1 r2 : Fin 257) (s : State) : Host.Outcome State Fault Refusal :=
  acted s fun d => d.preamble x r1 r2

/-- DETECTION_GIVEN_UP (R190). -/
def execDetectionGivenUp (x : Path) (rho : List Nat) (s : State) : Host.Outcome State Fault Refusal :=
  acted s fun d => d.giveUp x rho

/-- SFD_FOUND (R191). -/
def execSfdFound (x : Path) (seen : SfdSeen) (back : Nat) (s : State) : Host.Outcome State Fault Refusal :=
  acted s fun d => d.sfdFound x seen back

/-- RECEIVED_FRAME_END (R188). -/
def execReceivedFrameEnd (x : Path) (e : RxEnd) (peak : Int) (s : State) : Host.Outcome State Fault Refusal :=
  acted s fun d => d.frameEnd x e peak

/-- LANE_TIMER_COMPARE (R153). -/
def execLaneTimerCompare (n : Fin 16) (x : Fin 2) (s : State) : Host.Outcome State Fault Refusal :=
  acted s fun d => d.laneCompare n x

end Sys2Proof.Machine
end

