-- ==== Sys2Proof/Machine/LinkCommands.lean ====
section
/-!
DEFINITION. PCI Express, AMP, PTP and raw Ethernet (chapter 14).
-/

namespace Sys2Proof.Machine

/-- SQ_TAIL_DOORBELL (R310). -/
def execSqTailDoorbell (q : Fin 64) (v : Fin 65536) (s : State) : Host.Outcome State Fault Refusal :=
  acted s fun d => d.sqDoorbell q v

/-- CQ_HEAD_DOORBELL (R314). -/
def execCqHeadDoorbell (q : Fin 64) (v : Fin 65536) (s : State) : Host.Outcome State Fault Refusal :=
  acted s fun d => d.cqDoorbell q v

/-- SUBMISSION_FETCH (R312). -/
def execSubmissionFetch (words : List Word) (s : State) : Host.Outcome State Fault Refusal :=
  acted s fun d => d.fetch words

/-- HOST_READ_COMPLETE (R312). -/
def execHostReadComplete (lsn : Nat) (ok : Bool) (data : List Byte) (s : State) : Host.Outcome State Fault Refusal :=
  acted s fun d => d.readDone lsn ok data

/-- COALESCE_TIMEOUT (R315). -/
def execCoalesceTimeout (q : Fin 64) (s : State) : Host.Outcome State Fault Refusal :=
  acted s fun d => d.coalesce q

/-- HPC_QPQ_CFG (R311). -/
def execHpcQpqCfg (r : Req) (q : Fin 64) (w : Word) (s : State) : Host.Outcome State Fault Refusal :=
  acted s fun d => d.byWrite r (R.HPC_QP_CFG q) fun d => d.qpCfg q w

/-- LINK_DOWN (R316). -/
def execLinkDown (down : Bool) (s : State) : Host.Outcome State Fault Refusal :=
  acted s fun d => d.linkDown down

/-- DISCARD (R316). -/
def execDiscard (r : Req) (q : Fin 64) (s : State) : Host.Outcome State Fault Refusal :=
  acted s fun d => d.byWrite r R.HPC_QCMD fun d => d.discard q

/-- OPEN (R321). -/
def execAmpOpen (x : AmpIn) (s : State) : Host.Outcome State Fault Refusal :=
  acted s fun d => d.ampOpenIn x

/-- OPEN_ACK (R319). -/
def execAmpOpenAck (x : AmpIn) (s : State) : Host.Outcome State Fault Refusal :=
  acted s fun d => d.ampHeader x

/-- SUBMIT (R320). -/
def execAmpSubmit (x : AmpIn) (s : State) : Host.Outcome State Fault Refusal :=
  acted s fun d => d.ampSubmit x

/-- COMPLETE (R320). -/
def execAmpComplete (x : AmpIn) (s : State) : Host.Outcome State Fault Refusal :=
  acted s fun d => d.ampComplete x

/-- ACK (R320). -/
def execAmpAck (x : AmpIn) (s : State) : Host.Outcome State Fault Refusal :=
  acted s fun d => d.ampHeader x

/-- CLOSE (R321). -/
def execAmpClose (x : AmpIn) (s : State) : Host.Outcome State Fault Refusal :=
  acted s fun d => d.ampClose x

/-- AMP_RTO (R320). -/
def execAmpRto (x : Fin 64) (s : State) : Host.Outcome State Fault Refusal :=
  acted s fun d => d.ampRto x

/-- AMP_ACK_TIMER (R320). -/
def execAmpAckTimer (x : Fin 64) (s : State) : Host.Outcome State Fault Refusal :=
  acted s fun d => d.ampAckTimer x

/-- PTP_EVENT_MESSAGE (R322). -/
def execPtpEventMessage (tx : Bool) (type : Fin 16) (seq : Fin 65536) (back : Nat)
    (s : State) : Host.Outcome State Fault Refusal :=
  acted s fun d => d.ptpEvent tx type seq back

/-- ETH_PTPPOP (R331). -/
def execEthPtppop (r : Req) (s : State) : Host.Outcome State Fault Refusal :=
  acted s fun d => d.byWrite r R.ETH_PTPPOP Dev.ptpPop

/-- PCIE_LINK_UP (R330). -/
def execPcieLinkUp (rate : Fin 4) (width : Fin 8) (s : State) : Host.Outcome State Fault Refusal :=
  acted s fun d => d.linkUp rate width

/-- ETH_LINK_CHANGE (R331). -/
def execEthLinkChange (up : Bool) (speed : Fin 4) (an : Bool) (s : State) : Host.Outcome State Fault Refusal :=
  acted s fun d => d.ethLink up speed an

/-- ETH_RAW_RECEIVE (R317). -/
def execEthRawReceive (frame : List Byte) (s : State) : Host.Outcome State Fault Refusal :=
  acted s fun d => d.rawReceive frame

end Sys2Proof.Machine
end

