-- ==== Sys2Proof/Machine/MacCommands.lean ====
section
/-!
DEFINITION. Node table and received copies (chapter 9).
-/

namespace Sys2Proof.Machine

/-- NODE_TABLE_WRITE (R210). -/
def execNodeTableWrite (p : Proc) (off size : Nat) (v : Word) (s : State) : Host.Outcome State Fault Refusal :=
  acted s fun d => d.windowWrite p off size v

/-- INSERT (R211). -/
def execNtInsert (h : Half) (role : Option (Fin 2)) (s : State) : Host.Outcome State Fault Refusal :=
  acted s fun d => d.ntFrom h role 1

/-- INVALIDATE (R211). -/
def execNtInvalidate (h : Half) (role : Option (Fin 2)) (s : State) : Host.Outcome State Fault Refusal :=
  acted s fun d => d.ntFrom h role 2

/-- SETFC (R211). -/
def execNtSetfc (h : Half) (role : Option (Fin 2)) (s : State) : Host.Outcome State Fault Refusal :=
  acted s fun d => d.ntFrom h role 3

/-- SYNC (R211). -/
def execNtSync (h : Half) (role : Option (Fin 2)) (s : State) : Host.Outcome State Fault Refusal :=
  acted s fun d => d.ntFrom h role 4

/-- PLAN (R218). -/
def execNtPlan (h : Half) (role : Option (Fin 2)) (s : State) : Host.Outcome State Fault Refusal :=
  acted s fun d => d.ntFrom h role 5

/-- LOOKUP (R211). -/
def execNtLookup (h : Half) (role : Option (Fin 2)) (s : State) : Host.Outcome State Fault Refusal :=
  acted s fun d => d.ntFrom h role 6

/-- FRAME_COPY (R16). -/
def execFrameCopy (x : FrameIn) (s : State) : Host.Outcome State Fault Refusal :=
  acted s fun d => d.frameCopy x

/-- DECRYPT_DONE (R236). -/
def execDecryptDone (id : Nat) (datagram : Bool) (s : State) : Host.Outcome State Fault Refusal :=
  acted s fun d => d.decryptDone id datagram

/-- DUPLICATE_FILTER (R215). -/
def execDuplicateFilter (id : Nat) (s : State) : Host.Outcome State Fault Refusal :=
  acted s fun d => d.duplicateFilter id

/-- DUPWIN_EXPIRY (R215). -/
def execDupwinExpiry (node : Fin 16384) (fc : Word) (s : State) : Host.Outcome State Fault Refusal :=
  acted s fun d => d.dupExpiry node fc.toNat

end Sys2Proof.Machine
end

