-- ==== Sys2Proof/Machine/MarginCommands.lean ====
section
/-!
DEFINITION. Sentinel rings and margin planner (chapter 16).
-/

namespace Sys2Proof.Machine

/-- SENTINEL_BURST (R358). -/
def execSentinelBurst (k : Fin 96) (burst mv : Nat) (temp : Int) (s : State) : Host.Outcome State Fault Refusal :=
  acted s fun d => d.sentinelBurst k burst mv temp

/-- BURST_TIMEOUT (R358). -/
def execBurstTimeout (k : Fin 96) (s : State) : Host.Outcome State Fault Refusal :=
  acted s fun d => d.burstTimeout k

/-- MINUTE_NORMALISATION (R359). -/
def execMinuteNormalisation (s : State) : Host.Outcome State Fault Refusal :=
  acted s Dev.minute

/-- WEEKLY_RECORD (R360). -/
def execWeeklyRecord (s : State) : Host.Outcome State Fault Refusal :=
  acted s Dev.weekEnd

/-- SETPOINT_LOWER (R363). -/
def execSetpointLower (s : State) : Host.Outcome State Fault Refusal :=
  acted s Dev.setpointLower

end Sys2Proof.Machine
end

