-- ==== Sys2Proof/Machine/MemoryInstructions.lean ====
section
/-!
DEFINITION. Loads, stores and fences (R62, R98 to R101).
-/

namespace Sys2Proof.Machine

/-- LDW (R98). -/
def execLdw (p : Proc) (rd ra : Reg) (imm : BitVec 16) (s : State) : Host.Outcome State Fault Refusal :=
  acted s fun d => d.issue p (loadBody p 4 rd ra imm fun v => v)

/-- LDH (R98). -/
def execLdh (p : Proc) (rd ra : Reg) (imm : BitVec 16) (s : State) : Host.Outcome State Fault Refusal :=
  acted s fun d => d.issue p (loadBody p 2 rd ra imm fun v => (v.setWidth 16).signExtend 32)

/-- LDHU (R98). -/
def execLdhu (p : Proc) (rd ra : Reg) (imm : BitVec 16) (s : State) : Host.Outcome State Fault Refusal :=
  acted s fun d => d.issue p (loadBody p 2 rd ra imm fun v => (v.setWidth 16).setWidth 32)

/-- LDB (R98). -/
def execLdb (p : Proc) (rd ra : Reg) (imm : BitVec 16) (s : State) : Host.Outcome State Fault Refusal :=
  acted s fun d => d.issue p (loadBody p 1 rd ra imm fun v => (v.setWidth 8).signExtend 32)

/-- LDBU (R98). -/
def execLdbu (p : Proc) (rd ra : Reg) (imm : BitVec 16) (s : State) : Host.Outcome State Fault Refusal :=
  acted s fun d => d.issue p (loadBody p 1 rd ra imm fun v => (v.setWidth 8).setWidth 32)

/-- STW (R98). -/
def execStw (p : Proc) (rd ra : Reg) (imm : BitVec 16) (s : State) : Host.Outcome State Fault Refusal :=
  acted s fun d => d.issue p (storeBody p 4 rd ra imm)

/-- STH (R98). -/
def execSth (p : Proc) (rd ra : Reg) (imm : BitVec 16) (s : State) : Host.Outcome State Fault Refusal :=
  acted s fun d => d.issue p (storeBody p 2 rd ra imm)

/-- STB (R98). -/
def execStb (p : Proc) (rd ra : Reg) (imm : BitVec 16) (s : State) : Host.Outcome State Fault Refusal :=
  acted s fun d => d.issue p (storeBody p 1 rd ra imm)

/-- LDP (R99). -/
def execLdp (p : Proc) (rd ra : Reg) (imm : BitVec 16) (s : State) : Host.Outcome State Fault Refusal :=
  acted s fun d => d.issue p (ldpBody p rd ra imm)

/-- STP (R99). -/
def execStp (p : Proc) (rd ra : Reg) (imm : BitVec 16) (s : State) : Host.Outcome State Fault Refusal :=
  acted s fun d => d.issue p (stpBody p rd ra imm)

/-- CAS (R100). -/
def execCas (p : Proc) (rd ra rb : Reg) (sf : Bool) (fn : Fin 1024) (s : State) : Host.Outcome State Fault Refusal :=
  acted s fun d => d.issue p (casBody p rd ra rb sf fn)

/-- FENCE (R62). -/
def execFence (p : Proc) (rest : BitVec 26) (s : State) : Host.Outcome State Fault Refusal :=
  acted s fun d => d.issue p (fenceBody p rest.toNat)

/-- SYNCI (R101). -/
def execSynci (p : Proc) (rest : BitVec 26) (s : State) : Host.Outcome State Fault Refusal :=
  acted s fun d => d.issue p (synciBody p rest.toNat)

end Sys2Proof.Machine
end

