-- ==== Sys2Proof/Machine/MessageCommands.lean ====
section
/-!
DEFINITION. Message engine commands (chapter 11).
-/

namespace Sys2Proof.Machine

/-- SEND_NODE (R247). -/
def execSendNode (lq : Fin 127) (entry : List Word) (payload : List Byte)
    (s : State) : Host.Outcome State Fault Refusal :=
  acted s fun d => d.send lq 1 entry payload

/-- SEND_GROUP (R253). -/
def execSendGroup (lq : Fin 127) (entry : List Word) (payload : List Byte)
    (s : State) : Host.Outcome State Fault Refusal :=
  acted s fun d => d.send lq 2 entry payload

/-- LIFT_FENCE (R261). -/
def execLiftFence (lq : Fin 127) (entry : List Word) (payload : List Byte)
    (s : State) : Host.Outcome State Fault Refusal :=
  acted s fun d => d.send lq 3 entry payload

/-- POOL_RESERVE (R250). -/
def execPoolReserve (x : Fin 16) (s : State) : Host.Outcome State Fault Refusal :=
  acted s fun d => d.poolReserve x

/-- POOL_WAIT_TIMEOUT (R250). -/
def execPoolWaitTimeout (x : Fin 16) (s : State) : Host.Outcome State Fault Refusal :=
  acted s fun d => d.poolTimeout x

/-- DEADLINE (R258). -/
def execDeadline (lsn : Nat) (s : State) : Host.Outcome State Fault Refusal :=
  acted s fun d => d.deadline lsn

/-- RESULT_RECORD (R257). -/
def execResultRecord (h : Half) (rec : ResultRec) (s : State) : Host.Outcome State Fault Refusal :=
  acted s fun d => d.resultRecord h.toNat rec

/-- REASSEMBLY_TIMEOUT (R254). -/
def execReassemblyTimeout (node : Fin 16384) (tag : Fin 65536) (s : State) : Host.Outcome State Fault Refusal :=
  acted s fun d => d.reasmTimeout node tag

/-- LIFT (R261). -/
def execMsgLift (r : Req) (s : State) : Host.Outcome State Fault Refusal :=
  acted s fun d => d.byWrite r R.MSG_CMD fun d => d.msgLift r.num

/-- CARVE (R249). -/
def execMsgCarve (r : Req) (s : State) : Host.Outcome State Fault Refusal :=
  acted s fun d => d.byWrite r R.MSG_CMD fun d => d.msgCarve r.num

/-- UNCARVE (R266). -/
def execMsgUncarve (r : Req) (s : State) : Host.Outcome State Fault Refusal :=
  acted s fun d => d.byWrite r R.MSG_CMD fun d => d.msgUncarve r.num

/-- QUERY (R266). -/
def execMsgQuery (r : Req) (s : State) : Host.Outcome State Fault Refusal :=
  acted s fun d => d.byWrite r R.MSG_CMD fun d => d.msgQuery r.num

/-- POOL_ENABLE (R249). -/
def execPoolEnable (r : Req) (x : Fin 16) (w : Word) (s : State) : Host.Outcome State Fault Refusal :=
  acted s fun d => d.byWrite r (R.MSG_POOL_CFG x) fun d => d.poolCfg x w

end Sys2Proof.Machine
end

