-- ==== Sys2Proof/Machine/PowerCommands.lean ====
section
/-!
DEFINITION. Reset, supply and power domains (chapter 15).
-/

namespace Sys2Proof.Machine

/-- RESET_ASSERT (R334). -/
def execResetAssert (rail : Bool) (s : State) : Host.Outcome State Fault Refusal :=
  always s fun d => d.resetAssert rail

/-- RESET_RELEASE (R334). -/
def execResetRelease (s : State) : Host.Outcome State Fault Refusal :=
  always s Dev.leaveReset

/-- CORE_UV (R337). -/
def execCoreUv (s : State) : Host.Outcome State Fault Refusal :=
  acted s Dev.coreUv

/-- BROWNOUT (R337). -/
def execBrownout (s : State) : Host.Outcome State Fault Refusal :=
  acted s Dev.brownout

/-- HALF_CYCLE (R339). -/
def execHalfCycle (code freq : Fin 65536) (s : State) : Host.Outcome State Fault Refusal :=
  acted s fun d => d.halfCycle code freq

/-- LINE_LOSS (R339). -/
def execLineLoss (s : State) : Host.Outcome State Fault Refusal :=
  acted s Dev.lineLoss

/-- FREQERR (R338). -/
def execFreqerr (s : State) : Host.Outcome State Fault Refusal :=
  acted s Dev.freqErr

/-- PFW_N (R341). -/
def execPfwN (s : State) : Host.Outcome State Fault Refusal :=
  acted s Dev.pfwLow

/-- EXIT_READY (R346). -/
def execExitReady (s : State) : Host.Outcome State Fault Refusal :=
  acted s Dev.exitReady

/-- SUP_EVPOP (R356). -/
def execSupEvpop (r : Req) (s : State) : Host.Outcome State Fault Refusal :=
  acted s fun d => d.byWrite r R.SUP_EVPOP Dev.supPop

/-- AVS_TIMEOUT (R336). -/
def execAvsTimeout (s : State) : Host.Outcome State Fault Refusal :=
  acted s Dev.avsTimeout

/-- PWR_PDN_SWV (R350). -/
def execPwrPdnSwv (r : Req) (n : Fin 64) (w : Word) (s : State) : Host.Outcome State Fault Refusal :=
  acted s fun d => d.byWrite r (R.PWR_PD_SWV n) fun d => d.swvWrite r.num n w

/-- PREPARE_ANSWER (R350). -/
def execPrepareAnswer (n : Fin 64) (s : State) : Host.Outcome State Fault Refusal :=
  acted s fun d => d.prepareAnswer n

/-- PREPARE_TIMEOUT (R350). -/
def execPrepareTimeout (n : Fin 64) (s : State) : Host.Outcome State Fault Refusal :=
  acted s fun d => d.prepareTimeout n

/-- STOP_RETRY (R351). -/
def execStopRetry (n : Fin 64) (s : State) : Host.Outcome State Fault Refusal :=
  acted s fun d => d.stopRetry n

/-- RUN_ENTRY_DONE (R348). -/
def execRunEntryDone (n : Fin 64) (tcxo : Bool) (s : State) : Host.Outcome State Fault Refusal :=
  acted s fun d => d.runEntryDone n tcxo

/-- AVS_RESPONSE (R336). -/
def execAvsResponse (s : State) : Host.Outcome State Fault Refusal :=
  acted s Dev.avsResponse

/-- VDD_AON_ENTERS_RANGE (R371). -/
def execVddAonEntersRange (s : State) : Host.Outcome State Fault Refusal :=
  always s Dev.aonReset

/-- PFW_N_RELEASE (R341). -/
def execPfwNRelease (s : State) : Host.Outcome State Fault Refusal :=
  acted s Dev.pfwHigh

end Sys2Proof.Machine
end

