-- ==== Sys2Proof/Machine/RimCommands.lean ====
section
/-!
DEFINITION. Rim calls and the FWU block (R304, R307).
-/

namespace Sys2Proof.Machine

/-- INFO (R304). -/
def execRimInfo (s0 : Fin 16) (s : State) : Host.Outcome State Fault Refusal :=
  acted s fun d => d.rimInfo s0

/-- ROLES_RUNNING (R304). -/
def execRimRolesRunning (s0 : Fin 16) (s : State) : Host.Outcome State Fault Refusal :=
  acted s fun d => d.rimRolesRunning s0

/-- SETTINGS_READ (R304). -/
def execRimSettingsRead (s0 : Fin 16) (s : State) : Host.Outcome State Fault Refusal :=
  acted s fun d => d.rimSettingsRead s0

/-- SETTINGS_WRITE (R301). -/
def execRimSettingsWrite (s0 : Fin 16) (s : State) : Host.Outcome State Fault Refusal :=
  acted s fun d => d.rimSettingsWrite s0

/-- FW_WINDOW (R304). -/
def execRimFwWindow (s0 : Fin 16) (s : State) : Host.Outcome State Fault Refusal :=
  acted s fun d => d.rimFwWindow s0

/-- FW_STAGE (R293). -/
def execRimFwStage (s0 : Fin 16) (readErr : Bool) (s : State) : Host.Outcome State Fault Refusal :=
  acted s fun d => d.rimFwStage s0 readErr

/-- FW_ACTIVATE (R302). -/
def execRimFwActivate (s0 : Fin 16) (s : State) : Host.Outcome State Fault Refusal :=
  acted s fun d => d.rimFwActivate s0

/-- CONFIRM (R298). -/
def execRimConfirm (s0 : Fin 16) (s : State) : Host.Outcome State Fault Refusal :=
  acted s fun d => d.rimConfirm s0

/-- RIM_STAGE (R304). -/
def execRimStage (s0 : Fin 16) (s : State) : Host.Outcome State Fault Refusal :=
  acted s fun d => d.rimRimStage s0

/-- SIGNER_REVOKE (R304). -/
def execRimSignerRevoke (s0 : Fin 16) (s : State) : Host.Outcome State Fault Refusal :=
  acted s fun d => d.rimSignerRevoke s0

/-- KEY_UNWRAP (R226). -/
def execRimKeyUnwrap (s0 : Fin 16) (s : State) : Host.Outcome State Fault Refusal :=
  acted s fun d => d.rimKeyUnwrap s0

/-- KEY_GENERATE (R226). -/
def execRimKeyGenerate (s0 : Fin 16) (s : State) : Host.Outcome State Fault Refusal :=
  acted s fun d => d.rimKeyGenerate s0

/-- KEY_ERASE (R237). -/
def execRimKeyErase (s0 : Fin 16) (s : State) : Host.Outcome State Fault Refusal :=
  acted s fun d => d.rimKeyErase s0

/-- KEY_USAGE (R225). -/
def execRimKeyUsage (s0 : Fin 16) (s : State) : Host.Outcome State Fault Refusal :=
  acted s fun d => d.rimKeyUsage s0

/-- SEAL_INSTALL (R305). -/
def execRimSealInstall (s0 : Fin 16) (profile : Seal) (s : State) : Host.Outcome State Fault Refusal :=
  acted s fun d => d.rimSealInstall s0 profile

/-- SEAL_QUERY (R304). -/
def execRimSealQuery (s0 : Fin 16) (s : State) : Host.Outcome State Fault Refusal :=
  acted s fun d => d.rimSealQuery s0

/-- PD_SWITCH (R353). -/
def execRimPdSwitch (s0 : Fin 16) (s : State) : Host.Outcome State Fault Refusal :=
  acted s fun d => d.rimPdSwitch s0

/-- NT_SNAPSHOT (R304). -/
def execRimNtSnapshot (s0 : Fin 16) (s : State) : Host.Outcome State Fault Refusal :=
  acted s fun d => d.rimNtSnapshot s0

/-- CA_READ (R425). -/
def execRimCaRead (s0 : Fin 16) (s : State) : Host.Outcome State Fault Refusal :=
  acted s fun d => d.rimCaRead s0

/-- CA_WRITE (R425). -/
def execRimCaWrite (s0 : Fin 16) (mism : Fin 3) (s : State) : Host.Outcome State Fault Refusal :=
  acted s fun d => d.rimCaWrite s0 mism

/-- ALARM (R304). -/
def execRimAlarm (s0 : Fin 16) (s : State) : Host.Outcome State Fault Refusal :=
  acted s fun d => d.rimAlarm s0

/-- RESET (R304). -/
def execRimReset (s0 : Fin 16) (s : State) : Host.Outcome State Fault Refusal :=
  acted s fun d => d.rimReset s0

/-- RIMX_MBS_DONE (R308). -/
def execRimxMbsDone (r : Req) (s0 : Fin 16) (s : State) : Host.Outcome State Fault Refusal :=
  acted s fun d => d.byWrite r (R.RIMX_MB_DONE s0) fun d => d.mbDone s0

/-- COPY (R307). -/
def execFwuCopy (r : Req) (w : Word) (s : State) : Host.Outcome State Fault Refusal :=
  acted s fun d => d.byWrite r R.FWU_CMD fun d => d.fwuCmd r.num (setFld w 0 4 1)

/-- DIGEST (R307). -/
def execFwuDigest (r : Req) (w : Word) (s : State) : Host.Outcome State Fault Refusal :=
  acted s fun d => d.byWrite r R.FWU_CMD fun d => d.fwuCmd r.num (setFld w 0 4 2)

/-- ERASE (R307). -/
def execFwuErase (r : Req) (w : Word) (s : State) : Host.Outcome State Fault Refusal :=
  acted s fun d => d.byWrite r R.FWU_CMD fun d => d.fwuCmd r.num (setFld w 0 4 3)

/-- PROGRAM (R307). -/
def execFwuProgram (r : Req) (w : Word) (s : State) : Host.Outcome State Fault Refusal :=
  acted s fun d => d.byWrite r R.FWU_CMD fun d => d.fwuCmd r.num (setFld w 0 4 4)

/-- FWU_DONE (R307). -/
def execFwuDone (ok : Bool) (s : State) : Host.Outcome State Fault Refusal :=
  acted s fun d => d.fwuDone ok

end Sys2Proof.Machine
end

