-- ==== Sys2Proof/Machine/SecCommands.lean ====
section
/-!
DEFINITION. Security engine, fills and alarms (chapter 10).
-/

namespace Sys2Proof.Machine

/-- CCM_ENC (R228). -/
def execCcmEnc (h : Half) (s : State) : Host.Outcome State Fault Refusal :=
  acted s fun d => d.secEncrypt h.toNat 1

/-- CCM_DEC (R227). -/
def execCcmDec (h : Half) (s : State) : Host.Outcome State Fault Refusal :=
  acted s fun d => d.secDecrypt h.toNat 2

/-- GCM_ENC (R229). -/
def execGcmEnc (h : Half) (s : State) : Host.Outcome State Fault Refusal :=
  acted s fun d => d.secEncrypt h.toNat 3

/-- GCM_DEC (R229). -/
def execGcmDec (h : Half) (s : State) : Host.Outcome State Fault Refusal :=
  acted s fun d => d.secDecrypt h.toNat 4

/-- CCM_FILL (R152). -/
def execCcmFill (h : Half) (s : State) : Host.Outcome State Fault Refusal :=
  acted s fun d => d.fillCmd h.toNat

/-- SEC_RINGH_TAIL (R230). -/
def execSecRinghTail (r : Req) (h : Half) (w : Word) (s : State) : Host.Outcome State Fault Refusal :=
  acted s fun d => d.byWrite r (R.SEC_RING_TAIL h.toNat) fun d => d.ringTailWrite r.num h.toNat w

/-- RESERVATION_GRANT (R233). -/
def execReservationGrant (k : Fin 16640) (gcm : Bool) (s : State) : Host.Outcome State Fault Refusal :=
  acted s fun d => d.limitArrives k gcm

/-- RESERVATION_TIMEOUT (R233). -/
def execReservationTimeout (h : Half) (s : State) : Host.Outcome State Fault Refusal :=
  acted s fun d => d.limitExpiry h.toNat

/-- FILL_TIMEOUT (R152). -/
def execFillTimeout (h : Half) (s : State) : Host.Outcome State Fault Refusal :=
  acted s fun d => d.fillExpiry h.toNat

/-- HOLD_BLOCKS_FREED (R235). -/
def execHoldBlocksFreed (h : Half) (s : State) : Host.Outcome State Fault Refusal :=
  acted s fun d => d.holdFreedAll h.toNat

/-- BINDING_EXPIRY (R232). -/
def execBindingExpiry (node : Fin 16384) (dir : Fin 3) (mtr : BitVec 96) (s : State) : Host.Outcome State Fault Refusal :=
  acted s fun d => d.bindingExpiry node dir mtr.toNat

/-- A1 (R238). -/
def execA1 (r : Req) (s : State) : Host.Outcome State Fault Refusal :=
  acted s fun d => d.byWrite r R.SEC_ALARM fun d => d.alarm1 0

/-- A2 (R239). -/
def execA2 (r : Req) (s : State) : Host.Outcome State Fault Refusal :=
  acted s fun d => d.byWrite r R.SEC_ALARM fun d => d.alarm2 0

/-- KEY_BUS_ERROR (R238). -/
def execKeyBusError (s : State) : Host.Outcome State Fault Refusal :=
  acted s fun d => d.alarm1 1

/-- SLOT_BAD (R237). -/
def execSlotBad (k : Fin 16640) (s : State) : Host.Outcome State Fault Refusal :=
  acted s fun d => d.slotBad k

/-- A2_ZEROISATION_DONE (R239). -/
def execA2ZeroisationDone (s : State) : Host.Outcome State Fault Refusal :=
  acted s Dev.a2Done

end Sys2Proof.Machine
end

