-- ==== Sys2Proof/Machine/TestCommands.lean ====
section
/-!
DEFINITION. TAP, debug, LOCK, and any register write or host read (chapters 20 to 22).
-/

namespace Sys2Proof.Machine

/-- UPDATE_IR (R445). -/
def execUpdateIr (ir : Fin 256) (cells : List Bool) (s : State) : Host.Outcome State Fault Refusal :=
  acted s fun d => d.updateIr ir cells

/-- TRST_N (R439). -/
def execTrstN (s : State) : Host.Outcome State Fault Refusal :=
  acted s Dev.trst

/-- CSACC (R449). -/
def execCsacc (write : Bool) (off : BitVec 24) (data : Word) (s : State) : Host.Outcome State Fault Refusal :=
  acted s fun d => d.csAccess write off.toNat data

/-- HALT (R450). -/
def execDbgHalt (x : Fin 3) (s : State) : Host.Outcome State Fault Refusal :=
  acted s fun d => d.dbgHalt x

/-- DBG_RESUME (R450). -/
def execDbgResume (x : Fin 3) (s : State) : Host.Outcome State Fault Refusal :=
  acted s fun d => d.dbgResume x

/-- STEP (R450). -/
def execDbgStep (x : Fin 3) (s : State) : Host.Outcome State Fault Refusal :=
  acted s fun d => d.dbgStep x

/-- DBG_READ_REGISTER (R450). -/
def execDbgReadRegister (x : Fin 3) (arg : Fin 128) (s : State) : Host.Outcome State Fault Refusal :=
  acted s fun d => d.dbgReadReg x arg

/-- DBG_WRITE_REGISTER (R450). -/
def execDbgWriteRegister (x : Fin 3) (arg : Fin 128) (data : Word) (s : State) : Host.Outcome State Fault Refusal :=
  acted s fun d => d.dbgWriteReg x arg data

/-- DBG_READ_WORD (R450). -/
def execDbgReadWord (x : Fin 3) (a : Word) (s : State) : Host.Outcome State Fault Refusal :=
  acted s fun d => d.dbgReadWord x a

/-- DBG_WRITE_WORD (R450). -/
def execDbgWriteWord (x : Fin 3) (a data : Word) (s : State) : Host.Outcome State Fault Refusal :=
  acted s fun d => d.dbgWriteWord x a data

/-- DBG_READ_PC (R450). -/
def execDbgReadPc (x : Fin 3) (s : State) : Host.Outcome State Fault Refusal :=
  acted s fun d => d.dbgReadPc x

/-- LOCK (R396). -/
def execLockReg (r : Req) (x : LockReg) (s : State) : Host.Outcome State Fault Refusal :=
  acted s fun d => d.lockReg r x

/-- REGISTER_WRITE (R455). -/
def execRegisterWrite (r : Req) (off : BitVec 26) (v : Word) (s : State) : Host.Outcome State Fault Refusal :=
  acted s fun d => d.anyWrite r off.toNat v

/-- HOST_REGISTER_READ (R455). -/
def execHostRegisterRead (off : Nat) (whole : Bool) (s : State) : Host.Outcome State Fault Refusal :=
  acted s fun d => d.hostRead off whole

/-- TAP_RUN_TEST_IDLE (R448). -/
def execTapRunTestIdle (edges : Nat) (s : State) : Host.Outcome State Fault Refusal :=
  acted s fun d => d.runTestIdle edges

end Sys2Proof.Machine
end

