-- ==== Sys2Proof/Machine/TimeCommands.lean ====
section
/-!
DEFINITION. Timebase, PPS and Gate Unit commands (chapter 2).
-/

namespace Sys2Proof.Machine

/-- REF_IN_QUALIFIED (R24). -/
def execRefInQualified (s : State) : Host.Outcome State Fault Refusal :=
  acted s Dev.refQualified

/-- SYNTH_LOCK (R25). -/
def execSynthLock (s : State) : Host.Outcome State Fault Refusal :=
  acted s Dev.synthLock

/-- REF_IN_LOST (R26). -/
def execRefInLost (s : State) : Host.Outcome State Fault Refusal :=
  acted s Dev.refLost

/-- TCXO_PRESENT (R24). -/
def execTcxoPresent (s : State) : Host.Outcome State Fault Refusal :=
  acted s Dev.tcxoPresent

/-- TCXO_LOST (R26). -/
def execTcxoLost (s : State) : Host.Outcome State Fault Refusal :=
  acted s Dev.tcxoLost

/-- PPS_IN_EDGE (R30). -/
def execPpsInEdge (rising : Bool) (s : State) : Host.Outcome State Fault Refusal :=
  acted s fun d => d.ppsEdge rising

/-- PPS_SECOND_JUDGEMENT (R30). -/
def execPpsSecondJudgement (s : State) : Host.Outcome State Fault Refusal :=
  acted s Dev.ppsJudge

/-- SLEW_STEP (R32). -/
def execSlewStep (s : State) : Host.Outcome State Fault Refusal :=
  acted s Dev.slewStep

/-- PPS_OUT_RISE (R34). -/
def execPpsOutRise (s : State) : Host.Outcome State Fault Refusal :=
  acted s Dev.ppsRise

/-- PPS_OUT_FALL (R34). -/
def execPpsOutFall (s : State) : Host.Outcome State Fault Refusal :=
  acted s Dev.ppsFalls

/-- TBG_COUNT_LO_READ (R35). -/
def execTbgCountLoRead (r : Req) (s : State) : Host.Outcome State Fault Refusal :=
  acted s fun d => d.byRead r R.TBG_COUNT_LO

/-- GUN_ARMCMD (R41). -/
def execGunArmcmd (h : Half) (u : Fin 18) (w : Word) (s : State) : Host.Outcome State Fault Refusal :=
  acted s fun d => d.byWrite (.mp h) (R.GU_ARMCMD u) fun d => d.gunArm h u w

/-- GUN_DISARM (R49). -/
def execGunDisarm (h : Half) (u : Fin 18) (w : Word) (s : State) : Host.Outcome State Fault Refusal :=
  acted s fun d => d.byWrite (.mp h) (R.GU_DISARM u) fun d => d.gunDisarm h u w

/-- TBG_LATE_POP (R52). -/
def execTbgLatePop (r : Req) (s : State) : Host.Outcome State Fault Refusal :=
  acted s fun d => d.byWrite r R.TBG_LATE_POP Dev.latePop

end Sys2Proof.Machine
end

