-- ==== Sys2Proof/Machine/TokenCommands.lean ====
section
/-!
DEFINITION. Ledger token, heartbeats, start and trial (chapters 12 and 13).
-/

namespace Sys2Proof.Machine

/-- GRANT (R284). -/
def execTkGrant (r : Req) (h : Half) (s : State) : Host.Outcome State Fault Refusal :=
  acted s fun d => d.byWrite r R.RIMX_TKCMD fun d => d.rimGrant h.toNat

/-- SWITCH (R283). -/
def execTkSwitch (r : Req) (s : State) : Host.Outcome State Fault Refusal :=
  acted s fun d => d.byWrite r R.RIMX_TKCMD Dev.tkSwitch

/-- REVOKE (R284). -/
def execTkRevoke (r : Req) (h : Half) (s : State) : Host.Outcome State Fault Refusal :=
  acted s fun d => d.byWrite r R.RIMX_TKCMD fun d => d.tkRevoke h.toNat

/-- ELIGIBLE (R284). -/
def execTkEligible (r : Req) (h : Half) (set : Bool) (s : State) : Host.Outcome State Fault Refusal :=
  acted s fun d => d.byWrite r R.RIMX_TKCMD fun d => d.tkEligibleRim h.toNat set

/-- RESYNC (R274). -/
def execTkResync (r : Req) (h : Half) (s : State) : Host.Outcome State Fault Refusal :=
  acted s fun d => d.byWrite r R.RIMX_TKCMD fun d => d.tkResync h.toNat

/-- RESYNC_DONE (R284). -/
def execResyncDone (s : State) : Host.Outcome State Fault Refusal :=
  acted s Dev.resyncDone

/-- CANCEL (R283). -/
def execTkCancel (r : Req) (s : State) : Host.Outcome State Fault Refusal :=
  acted s fun d => d.byWrite r R.RIMX_TKCMD Dev.tkCancel

/-- RESUME (R285). -/
def execTkResume (r : Req) (s : State) : Host.Outcome State Fault Refusal :=
  acted s fun d => d.byWrite r R.RIMX_TKCMD Dev.tkResume

/-- PLANNED_SWITCH (R283). -/
def execPlannedSwitch (s : State) : Host.Outcome State Fault Refusal :=
  acted s Dev.switchAt

/-- HEARTBEAT (R275). -/
def execHeartbeat (r : Req) (h : Half) (s : State) : Host.Outcome State Fault Refusal :=
  acted s fun d => d.byWrite r (R.RIMX_HB h.toNat) fun d => d.heartbeat h.toNat

/-- YIELD (R275). -/
def execYield (r : Req) (h : Half) (s : State) : Host.Outcome State Fault Refusal :=
  acted s fun d => d.byWrite r (R.RIMX_HB h.toNat) fun d => d.yieldHalf h.toNat

/-- HEARTBEAT_LAPSE (R275). -/
def execHeartbeatLapse (h : Half) (s : State) : Host.Outcome State Fault Refusal :=
  acted s fun d => d.hbLapse h.toNat

/-- LOCKSTEP_DISAGREEMENT (R285). -/
def execLockstepDisagreement (s : State) : Host.Outcome State Fault Refusal :=
  acted s Dev.lockstep

/-- NO_LEADER_TIMEOUT (R287). -/
def execNoLeaderTimeout (s : State) : Host.Outcome State Fault Refusal :=
  acted s Dev.noLeader

/-- UPSETT (R294). -/
def execUpsett (errA errB octal : Bool) (s : State) : Host.Outcome State Fault Refusal :=
  acted s fun d => d.upsett (fun k => if k = 0 then errA else errB) octal

/-- TRIAL_TIMEOUT (R298). -/
def execTrialTimeout (s : State) : Host.Outcome State Fault Refusal :=
  acted s Dev.trialTimeout

end Sys2Proof.Machine
end

