-- ==== Sys2Proof/Machine/TrunkCommands.lean ====
section
/-!
DEFINITION. Trunk and Anchor Sync Bus commands (chapters 8 and 14).
-/

namespace Sys2Proof.Machine

/-- TRUNK_ENABLE (R208). -/
def execTrunkEnable (r : Req) (s : State) : Host.Outcome State Fault Refusal :=
  acted s fun d => d.byWrite r R.TRK_CMD Dev.trkEnable

/-- TRUNK_DISABLE (R208). -/
def execTrunkDisable (r : Req) (s : State) : Host.Outcome State Fault Refusal :=
  acted s fun d => d.byWrite r R.TRK_CMD Dev.trkDisable

/-- CLAIM (R204). -/
def execClaim (r : Req) (s : State) : Host.Outcome State Fault Refusal :=
  acted s fun d => d.byWrite r R.TRK_CMD Dev.trkClaim

/-- RESIGN (R204). -/
def execResign (r : Req) (s : State) : Host.Outcome State Fault Refusal :=
  acted s fun d => d.byWrite r R.TRK_CMD Dev.trkResign

/-- CLAIM_WINDOW_END (R204). -/
def execClaimWindowEnd (s : State) : Host.Outcome State Fault Refusal :=
  acted s Dev.claimEnd

/-- SUPERFRAME_START (R202). -/
def execSuperframeStart (heard : Bool) (s : State) : Host.Outcome State Fault Refusal :=
  acted s fun d => d.superframe heard

/-- TRUNK_FRAME_END (R207). -/
def execTrunkFrameEnd (x : TrunkRx) (peak : Int) (s : State) : Host.Outcome State Fault Refusal :=
  acted s fun d => d.trunkFrame x peak

/-- MAP_FRAME_QUEUE (R199). -/
def execMapFrameQueue (x : Fin 6) (s : State) : Host.Outcome State Fault Refusal :=
  acted s fun d => d.mapQueue x

/-- TRK_PEERP_CTRL (R200). -/
def execTrkPeerpCtrl (r : Req) (x : Fin 6) (w : Word) (s : State) : Host.Outcome State Fault Refusal :=
  acted s fun d => d.byWrite r (R.TRK_PEER_CTRL x) fun d => d.peerCtrl x w

/-- ASB_TXCMD (R326). -/
def execAsbTxcmd (r : Req) (w : Word) (s : State) : Host.Outcome State Fault Refusal :=
  acted s fun d => d.byWrite r R.ASB_TXCMD fun d => d.asbTxcmd w

/-- ASB_TX_START (R326). -/
def execAsbTxStart (rivals : List BusFrame) (s : State) : Host.Outcome State Fault Refusal :=
  acted s fun d => d.asbStart rivals

/-- ASB_FRAME_COMPLETE (R327). -/
def execAsbFrameComplete (x : BusEnd) (s : State) : Host.Outcome State Fault Refusal :=
  acted s fun d => d.asbComplete x

/-- SYNC_INTERVAL (R329). -/
def execSyncInterval (s : State) : Host.Outcome State Fault Refusal :=
  acted s Dev.syncInterval

/-- ASB_RXPOP (R332). -/
def execAsbRxpop (r : Req) (s : State) : Host.Outcome State Fault Refusal :=
  acted s fun d => d.byWrite r R.ASB_RXPOP Dev.asbPop

end Sys2Proof.Machine
end

