-- ==== Sys2Proof/Machine/Dispatch.lean ====
section
/-!
DEFINITION. The meaning of every command: one arm per constructor of `Instr`.
-/

namespace Sys2Proof.Machine

/-- The effect of a command on everything but the queue. -/
def exec (i : Instr) (s : State) : Host.Outcome State Fault Refusal :=
  match i with
  | .refInQualified => Sys2Proof.Machine.execRefInQualified s
  | .synthLock => Sys2Proof.Machine.execSynthLock s
  | .refInLost => Sys2Proof.Machine.execRefInLost s
  | .tcxoPresent => Sys2Proof.Machine.execTcxoPresent s
  | .tcxoLost => Sys2Proof.Machine.execTcxoLost s
  | .ppsInEdge rising => Sys2Proof.Machine.execPpsInEdge rising s
  | .ppsSecondJudgement => Sys2Proof.Machine.execPpsSecondJudgement s
  | .slewStep => Sys2Proof.Machine.execSlewStep s
  | .ppsOutRise => Sys2Proof.Machine.execPpsOutRise s
  | .ppsOutFall => Sys2Proof.Machine.execPpsOutFall s
  | .tbgCountLoRead r => Sys2Proof.Machine.execTbgCountLoRead r s
  | .gunArmcmd h u w => Sys2Proof.Machine.execGunArmcmd h u w s
  | .gunDisarm h u w => Sys2Proof.Machine.execGunDisarm h u w s
  | .tbgLatePop r => Sys2Proof.Machine.execTbgLatePop r s
  | .rxc u k peak => Sys2Proof.Machine.execRxc u k peak s
  | .aer u k => Sys2Proof.Machine.execAer u k s
  | .rtn u k => Sys2Proof.Machine.execRtn u k s
  | .trn u k peak => Sys2Proof.Machine.execTrn u k peak s
  | .rxo u k => Sys2Proof.Machine.execRxo u k s
  | .txs u k => Sys2Proof.Machine.execTxs u k s
  | .evt u k => Sys2Proof.Machine.execEvt u k s
  | .txsCheck u k => Sys2Proof.Machine.execTxsCheck u k s
  | .turnRoundEnd n => Sys2Proof.Machine.execTurnRoundEnd n s
  | .retuneEnd n => Sys2Proof.Machine.execRetuneEnd n s
  | .add p rd ra rb sf => Sys2Proof.Machine.execAdd p rd ra rb sf s
  | .sub p rd ra rb sf => Sys2Proof.Machine.execSub p rd ra rb sf s
  | .adc p rd ra rb sf => Sys2Proof.Machine.execAdc p rd ra rb sf s
  | .sbc p rd ra rb sf => Sys2Proof.Machine.execSbc p rd ra rb sf s
  | .and_ p rd ra rb sf => Sys2Proof.Machine.execAnd_ p rd ra rb sf s
  | .or_ p rd ra rb sf => Sys2Proof.Machine.execOr_ p rd ra rb sf s
  | .xor_ p rd ra rb sf => Sys2Proof.Machine.execXor_ p rd ra rb sf s
  | .andn p rd ra rb sf => Sys2Proof.Machine.execAndn p rd ra rb sf s
  | .shl p rd ra rb sf => Sys2Proof.Machine.execShl p rd ra rb sf s
  | .shr p rd ra rb sf => Sys2Proof.Machine.execShr p rd ra rb sf s
  | .sar p rd ra rb sf => Sys2Proof.Machine.execSar p rd ra rb sf s
  | .ror p rd ra rb sf => Sys2Proof.Machine.execRor p rd ra rb sf s
  | .slt p rd ra rb sf => Sys2Proof.Machine.execSlt p rd ra rb sf s
  | .sltu p rd ra rb sf => Sys2Proof.Machine.execSltu p rd ra rb sf s
  | .min p rd ra rb sf => Sys2Proof.Machine.execMin p rd ra rb sf s
  | .max p rd ra rb sf => Sys2Proof.Machine.execMax p rd ra rb sf s
  | .mul p rd ra rb sf => Sys2Proof.Machine.execMul p rd ra rb sf s
  | .mulhu p rd ra rb sf => Sys2Proof.Machine.execMulhu p rd ra rb sf s
  | .mulhs p rd ra rb sf => Sys2Proof.Machine.execMulhs p rd ra rb sf s
  | .divu p rd ra rb sf => Sys2Proof.Machine.execDivu p rd ra rb sf s
  | .divs p rd ra rb sf => Sys2Proof.Machine.execDivs p rd ra rb sf s
  | .remu p rd ra rb sf => Sys2Proof.Machine.execRemu p rd ra rb sf s
  | .rems p rd ra rb sf => Sys2Proof.Machine.execRems p rd ra rb sf s
  | .clz p rd ra rb sf => Sys2Proof.Machine.execClz p rd ra rb sf s
  | .ctz p rd ra rb sf => Sys2Proof.Machine.execCtz p rd ra rb sf s
  | .popc p rd ra rb sf => Sys2Proof.Machine.execPopc p rd ra rb sf s
  | .bperm p rd ra rb sf => Sys2Proof.Machine.execBperm p rd ra rb sf s
  | .minu p rd ra rb sf => Sys2Proof.Machine.execMinu p rd ra rb sf s
  | .maxu p rd ra rb sf => Sys2Proof.Machine.execMaxu p rd ra rb sf s
  | .addi p rd ra imm => Sys2Proof.Machine.execAddi p rd ra imm s
  | .andi p rd ra imm => Sys2Proof.Machine.execAndi p rd ra imm s
  | .ori p rd ra imm => Sys2Proof.Machine.execOri p rd ra imm s
  | .xori p rd ra imm => Sys2Proof.Machine.execXori p rd ra imm s
  | .shiShl p rd ra amt res => Sys2Proof.Machine.execShiShl p rd ra amt res s
  | .shiShr p rd ra amt res => Sys2Proof.Machine.execShiShr p rd ra amt res s
  | .shiSar p rd ra amt res => Sys2Proof.Machine.execShiSar p rd ra amt res s
  | .shiRor p rd ra amt res => Sys2Proof.Machine.execShiRor p rd ra amt res s
  | .lui p rd ra imm => Sys2Proof.Machine.execLui p rd ra imm s
  | .cmpi p rd ra imm => Sys2Proof.Machine.execCmpi p rd ra imm s
  | .extu p rd ra pos wm1 => Sys2Proof.Machine.execExtu p rd ra pos wm1 s
  | .exts p rd ra pos wm1 => Sys2Proof.Machine.execExts p rd ra pos wm1 s
  | .ins p rd ra pos wm1 => Sys2Proof.Machine.execIns p rd ra pos wm1 s
  | .clrf p rd ra pos wm1 => Sys2Proof.Machine.execClrf p rd ra pos wm1 s
  | .ldw p rd ra imm => Sys2Proof.Machine.execLdw p rd ra imm s
  | .ldh p rd ra imm => Sys2Proof.Machine.execLdh p rd ra imm s
  | .ldhu p rd ra imm => Sys2Proof.Machine.execLdhu p rd ra imm s
  | .ldb p rd ra imm => Sys2Proof.Machine.execLdb p rd ra imm s
  | .ldbu p rd ra imm => Sys2Proof.Machine.execLdbu p rd ra imm s
  | .stw p rd ra imm => Sys2Proof.Machine.execStw p rd ra imm s
  | .sth p rd ra imm => Sys2Proof.Machine.execSth p rd ra imm s
  | .stb p rd ra imm => Sys2Proof.Machine.execStb p rd ra imm s
  | .ldp p rd ra imm => Sys2Proof.Machine.execLdp p rd ra imm s
  | .stp p rd ra imm => Sys2Proof.Machine.execStp p rd ra imm s
  | .cas p rd ra rb sf fn => Sys2Proof.Machine.execCas p rd ra rb sf fn s
  | .fence p rest => Sys2Proof.Machine.execFence p rest s
  | .synci p rest => Sys2Proof.Machine.execSynci p rest s
  | .bc p cond off => Sys2Proof.Machine.execBc p cond off s
  | .jmp p off => Sys2Proof.Machine.execJmp p off s
  | .jmpr p rd ra rest => Sys2Proof.Machine.execJmpr p rd ra rest s
  | .callm p disp mask => Sys2Proof.Machine.execCallm p disp mask s
  | .callmr p ra res mask => Sys2Proof.Machine.execCallmr p ra res mask s
  | .retm p rest => Sys2Proof.Machine.execRetm p rest s
  | .armg p rd ra rb cls unit res => Sys2Proof.Machine.execArmg p rd ra rb cls unit res s
  | .disg p rd ra rb cls unit res => Sys2Proof.Machine.execDisg p rd ra rb cls unit res s
  | .waitg p rd ra imm => Sys2Proof.Machine.execWaitg p rd ra imm s
  | .waitgOutcome e => Sys2Proof.Machine.execWaitgOutcome e s
  | .rdts p rd rest => Sys2Proof.Machine.execRdts p rd rest s
  | .swp p rd ra imm => Sys2Proof.Machine.execSwp p rd ra imm s
  | .lin p rd ra imm => Sys2Proof.Machine.execLin p rd ra imm s
  | .lout p rd ra imm => Sys2Proof.Machine.execLout p rd ra imm s
  | .queueWaitEnd e => Sys2Proof.Machine.execQueueWaitEnd e s
  | .evpost p rd ra imm => Sys2Proof.Machine.execEvpost p rd ra imm s
  | .evwait p rd ra imm => Sys2Proof.Machine.execEvwait p rd ra imm s
  | .mfc p rd ra cnum => Sys2Proof.Machine.execMfc p rd ra cnum s
  | .mtc p rd ra cnum => Sys2Proof.Machine.execMtc p rd ra cnum s
  | .eret p rd ra cnum => Sys2Proof.Machine.execEret p rd ra cnum s
  | .wfi p rd ra cnum => Sys2Proof.Machine.execWfi p rd ra cnum s
  | .sysc p rd ra cnum => Sys2Proof.Machine.execSysc p rd ra cnum s
  | .brk p code => Sys2Proof.Machine.execBrk p code s
  | .rcall p rd ra imm => Sys2Proof.Machine.execRcall p rd ra imm s
  | .rwait p rd ra imm => Sys2Proof.Machine.execRwait p rd ra imm s
  | .interruptEntry p => Sys2Proof.Machine.execInterruptEntry p s
  | .wenLoad r e => Sys2Proof.Machine.execWenLoad r e s
  | .loadDone e => Sys2Proof.Machine.execLoadDone e s
  | .wenStart r e => Sys2Proof.Machine.execWenStart r e s
  | .wenStop r e => Sys2Proof.Machine.execWenStop r e s
  | .wenClear r e => Sys2Proof.Machine.execWenClear r e s
  | .migration r h src tgt => Sys2Proof.Machine.execMigration r h src tgt s
  | .exchange r h src tgt => Sys2Proof.Machine.execExchange r h src tgt s
  | .forcedHandover r h src tgt exch => Sys2Proof.Machine.execForcedHandover r h src tgt exch s
  | .handoverTimeout h => Sys2Proof.Machine.execHandoverTimeout h s
  | .drainMarker h => Sys2Proof.Machine.execDrainMarker h s
  | .runWatchdog e => Sys2Proof.Machine.execRunWatchdog e s
  | .waitWatchdog e => Sys2Proof.Machine.execWaitWatchdog e s
  | .laneEnable r n mask => Sys2Proof.Machine.execLaneEnable r n mask s
  | .laneDisable r n move => Sys2Proof.Machine.execLaneDisable r n move s
  | .calibrate r n mask => Sys2Proof.Machine.execCalibrate r n mask s
  | .warmDone n => Sys2Proof.Machine.execWarmDone n s
  | .calibrationStart n => Sys2Proof.Machine.execCalibrationStart n s
  | .calibrationEnd n fail temp trims => Sys2Proof.Machine.execCalibrationEnd n fail temp trims s
  | .laneOff n => Sys2Proof.Machine.execLaneOff n s
  | .txEnd n => Sys2Proof.Machine.execTxEnd n s
  | .diversityDwell n energy => Sys2Proof.Machine.execDiversityDwell n energy s
  | .preambleDetected x r1 r2 => Sys2Proof.Machine.execPreambleDetected x r1 r2 s
  | .detectionGivenUp x rho => Sys2Proof.Machine.execDetectionGivenUp x rho s
  | .sfdFound x seen back => Sys2Proof.Machine.execSfdFound x seen back s
  | .receivedFrameEnd x e peak => Sys2Proof.Machine.execReceivedFrameEnd x e peak s
  | .laneTimerCompare n x => Sys2Proof.Machine.execLaneTimerCompare n x s
  | .acrEnable r a => Sys2Proof.Machine.execAcrEnable r a s
  | .acrEnableDone a => Sys2Proof.Machine.execAcrEnableDone a s
  | .acrStart r a => Sys2Proof.Machine.execAcrStart r a s
  | .acrStop r a => Sys2Proof.Machine.execAcrStop r a s
  | .acrCalibrate r a => Sys2Proof.Machine.execAcrCalibrate r a s
  | .acrDisable r a => Sys2Proof.Machine.execAcrDisable r a s
  | .acrCalEnd a fail skew => Sys2Proof.Machine.execAcrCalEnd a fail skew s
  | .acrsCentre r w => Sys2Proof.Machine.execAcrsCentre r w s
  | .acrRetuneEnd => Sys2Proof.Machine.execAcrRetuneEnd s
  | .acrskCfg r a k w => Sys2Proof.Machine.execAcrskCfg r a k w s
  | .swap r a k x => Sys2Proof.Machine.execSwap r a k x s
  | .crossFadeEnd a k => Sys2Proof.Machine.execCrossFadeEnd a k s
  | .acrskPdly r a k w => Sys2Proof.Machine.execAcrskPdly r a k w s
  | .pathSettled a k dig => Sys2Proof.Machine.execPathSettled a k dig s
  | .overrangedSample a dig x => Sys2Proof.Machine.execOverrangedSample a dig x s
  | .agcStepDown a dig => Sys2Proof.Machine.execAgcStepDown a dig s
  | .agcStepUp a dig => Sys2Proof.Machine.execAgcStepUp a dig s
  | .trunkEnable r => Sys2Proof.Machine.execTrunkEnable r s
  | .trunkDisable r => Sys2Proof.Machine.execTrunkDisable r s
  | .claim r => Sys2Proof.Machine.execClaim r s
  | .resign r => Sys2Proof.Machine.execResign r s
  | .claimWindowEnd => Sys2Proof.Machine.execClaimWindowEnd s
  | .superframeStart heard => Sys2Proof.Machine.execSuperframeStart heard s
  | .trunkFrameEnd x peak => Sys2Proof.Machine.execTrunkFrameEnd x peak s
  | .mapFrameQueue x => Sys2Proof.Machine.execMapFrameQueue x s
  | .trkPeerpCtrl r x w => Sys2Proof.Machine.execTrkPeerpCtrl r x w s
  | .asbTxcmd r w => Sys2Proof.Machine.execAsbTxcmd r w s
  | .asbTxStart rivals => Sys2Proof.Machine.execAsbTxStart rivals s
  | .asbFrameComplete x => Sys2Proof.Machine.execAsbFrameComplete x s
  | .syncInterval => Sys2Proof.Machine.execSyncInterval s
  | .asbRxpop r => Sys2Proof.Machine.execAsbRxpop r s
  | .nodeTableWrite p off size v => Sys2Proof.Machine.execNodeTableWrite p off size v s
  | .ntInsert h role => Sys2Proof.Machine.execNtInsert h role s
  | .ntInvalidate h role => Sys2Proof.Machine.execNtInvalidate h role s
  | .ntSetfc h role => Sys2Proof.Machine.execNtSetfc h role s
  | .ntSync h role => Sys2Proof.Machine.execNtSync h role s
  | .ntPlan h role => Sys2Proof.Machine.execNtPlan h role s
  | .ntLookup h role => Sys2Proof.Machine.execNtLookup h role s
  | .frameCopy x => Sys2Proof.Machine.execFrameCopy x s
  | .decryptDone id datagram => Sys2Proof.Machine.execDecryptDone id datagram s
  | .duplicateFilter id => Sys2Proof.Machine.execDuplicateFilter id s
  | .dupwinExpiry node fc => Sys2Proof.Machine.execDupwinExpiry node fc s
  | .ccmEnc h => Sys2Proof.Machine.execCcmEnc h s
  | .ccmDec h => Sys2Proof.Machine.execCcmDec h s
  | .gcmEnc h => Sys2Proof.Machine.execGcmEnc h s
  | .gcmDec h => Sys2Proof.Machine.execGcmDec h s
  | .ccmFill h => Sys2Proof.Machine.execCcmFill h s
  | .secRinghTail r h w => Sys2Proof.Machine.execSecRinghTail r h w s
  | .reservationGrant k gcm => Sys2Proof.Machine.execReservationGrant k gcm s
  | .reservationTimeout h => Sys2Proof.Machine.execReservationTimeout h s
  | .fillTimeout h => Sys2Proof.Machine.execFillTimeout h s
  | .holdBlocksFreed h => Sys2Proof.Machine.execHoldBlocksFreed h s
  | .bindingExpiry node dir mtr => Sys2Proof.Machine.execBindingExpiry node dir mtr s
  | .a1 r => Sys2Proof.Machine.execA1 r s
  | .a2 r => Sys2Proof.Machine.execA2 r s
  | .keyBusError => Sys2Proof.Machine.execKeyBusError s
  | .slotBad k => Sys2Proof.Machine.execSlotBad k s
  | .a2ZeroisationDone => Sys2Proof.Machine.execA2ZeroisationDone s
  | .sendNode lq entry payload => Sys2Proof.Machine.execSendNode lq entry payload s
  | .sendGroup lq entry payload => Sys2Proof.Machine.execSendGroup lq entry payload s
  | .liftFence lq entry payload => Sys2Proof.Machine.execLiftFence lq entry payload s
  | .poolReserve x => Sys2Proof.Machine.execPoolReserve x s
  | .poolWaitTimeout x => Sys2Proof.Machine.execPoolWaitTimeout x s
  | .deadline lsn => Sys2Proof.Machine.execDeadline lsn s
  | .resultRecord h rec => Sys2Proof.Machine.execResultRecord h rec s
  | .reassemblyTimeout node tag => Sys2Proof.Machine.execReassemblyTimeout node tag s
  | .msgLift r => Sys2Proof.Machine.execMsgLift r s
  | .msgCarve r => Sys2Proof.Machine.execMsgCarve r s
  | .msgUncarve r => Sys2Proof.Machine.execMsgUncarve r s
  | .msgQuery r => Sys2Proof.Machine.execMsgQuery r s
  | .poolEnable r x w => Sys2Proof.Machine.execPoolEnable r x w s
  | .tkGrant r h => Sys2Proof.Machine.execTkGrant r h s
  | .tkSwitch r => Sys2Proof.Machine.execTkSwitch r s
  | .tkRevoke r h => Sys2Proof.Machine.execTkRevoke r h s
  | .tkEligible r h set => Sys2Proof.Machine.execTkEligible r h set s
  | .tkResync r h => Sys2Proof.Machine.execTkResync r h s
  | .resyncDone => Sys2Proof.Machine.execResyncDone s
  | .tkCancel r => Sys2Proof.Machine.execTkCancel r s
  | .tkResume r => Sys2Proof.Machine.execTkResume r s
  | .plannedSwitch => Sys2Proof.Machine.execPlannedSwitch s
  | .heartbeat r h => Sys2Proof.Machine.execHeartbeat r h s
  | .yield r h => Sys2Proof.Machine.execYield r h s
  | .heartbeatLapse h => Sys2Proof.Machine.execHeartbeatLapse h s
  | .lockstepDisagreement => Sys2Proof.Machine.execLockstepDisagreement s
  | .noLeaderTimeout => Sys2Proof.Machine.execNoLeaderTimeout s
  | .upsett errA errB octal => Sys2Proof.Machine.execUpsett errA errB octal s
  | .trialTimeout => Sys2Proof.Machine.execTrialTimeout s
  | .rimInfo s0 => Sys2Proof.Machine.execRimInfo s0 s
  | .rimRolesRunning s0 => Sys2Proof.Machine.execRimRolesRunning s0 s
  | .rimSettingsRead s0 => Sys2Proof.Machine.execRimSettingsRead s0 s
  | .rimSettingsWrite s0 => Sys2Proof.Machine.execRimSettingsWrite s0 s
  | .rimFwWindow s0 => Sys2Proof.Machine.execRimFwWindow s0 s
  | .rimFwStage s0 readErr => Sys2Proof.Machine.execRimFwStage s0 readErr s
  | .rimFwActivate s0 => Sys2Proof.Machine.execRimFwActivate s0 s
  | .rimConfirm s0 => Sys2Proof.Machine.execRimConfirm s0 s
  | .rimStage s0 => Sys2Proof.Machine.execRimStage s0 s
  | .rimSignerRevoke s0 => Sys2Proof.Machine.execRimSignerRevoke s0 s
  | .rimKeyUnwrap s0 => Sys2Proof.Machine.execRimKeyUnwrap s0 s
  | .rimKeyGenerate s0 => Sys2Proof.Machine.execRimKeyGenerate s0 s
  | .rimKeyErase s0 => Sys2Proof.Machine.execRimKeyErase s0 s
  | .rimKeyUsage s0 => Sys2Proof.Machine.execRimKeyUsage s0 s
  | .rimSealInstall s0 profile => Sys2Proof.Machine.execRimSealInstall s0 profile s
  | .rimSealQuery s0 => Sys2Proof.Machine.execRimSealQuery s0 s
  | .rimPdSwitch s0 => Sys2Proof.Machine.execRimPdSwitch s0 s
  | .rimNtSnapshot s0 => Sys2Proof.Machine.execRimNtSnapshot s0 s
  | .rimCaRead s0 => Sys2Proof.Machine.execRimCaRead s0 s
  | .rimCaWrite s0 mism => Sys2Proof.Machine.execRimCaWrite s0 mism s
  | .rimAlarm s0 => Sys2Proof.Machine.execRimAlarm s0 s
  | .rimReset s0 => Sys2Proof.Machine.execRimReset s0 s
  | .rimxMbsDone r s0 => Sys2Proof.Machine.execRimxMbsDone r s0 s
  | .fwuCopy r w => Sys2Proof.Machine.execFwuCopy r w s
  | .fwuDigest r w => Sys2Proof.Machine.execFwuDigest r w s
  | .fwuErase r w => Sys2Proof.Machine.execFwuErase r w s
  | .fwuProgram r w => Sys2Proof.Machine.execFwuProgram r w s
  | .fwuDone ok => Sys2Proof.Machine.execFwuDone ok s
  | .sqTailDoorbell q v => Sys2Proof.Machine.execSqTailDoorbell q v s
  | .cqHeadDoorbell q v => Sys2Proof.Machine.execCqHeadDoorbell q v s
  | .submissionFetch words => Sys2Proof.Machine.execSubmissionFetch words s
  | .hostReadComplete lsn ok data => Sys2Proof.Machine.execHostReadComplete lsn ok data s
  | .coalesceTimeout q => Sys2Proof.Machine.execCoalesceTimeout q s
  | .hpcQpqCfg r q w => Sys2Proof.Machine.execHpcQpqCfg r q w s
  | .linkDown down => Sys2Proof.Machine.execLinkDown down s
  | .discard r q => Sys2Proof.Machine.execDiscard r q s
  | .ampOpen x => Sys2Proof.Machine.execAmpOpen x s
  | .ampOpenAck x => Sys2Proof.Machine.execAmpOpenAck x s
  | .ampSubmit x => Sys2Proof.Machine.execAmpSubmit x s
  | .ampComplete x => Sys2Proof.Machine.execAmpComplete x s
  | .ampAck x => Sys2Proof.Machine.execAmpAck x s
  | .ampClose x => Sys2Proof.Machine.execAmpClose x s
  | .ampRto x => Sys2Proof.Machine.execAmpRto x s
  | .ampAckTimer x => Sys2Proof.Machine.execAmpAckTimer x s
  | .ptpEventMessage tx type seq back => Sys2Proof.Machine.execPtpEventMessage tx type seq back s
  | .ethPtppop r => Sys2Proof.Machine.execEthPtppop r s
  | .resetAssert rail => Sys2Proof.Machine.execResetAssert rail s
  | .resetRelease => Sys2Proof.Machine.execResetRelease s
  | .coreUv => Sys2Proof.Machine.execCoreUv s
  | .brownout => Sys2Proof.Machine.execBrownout s
  | .halfCycle code freq => Sys2Proof.Machine.execHalfCycle code freq s
  | .lineLoss => Sys2Proof.Machine.execLineLoss s
  | .freqerr => Sys2Proof.Machine.execFreqerr s
  | .pfwN => Sys2Proof.Machine.execPfwN s
  | .exitReady => Sys2Proof.Machine.execExitReady s
  | .supEvpop r => Sys2Proof.Machine.execSupEvpop r s
  | .avsTimeout => Sys2Proof.Machine.execAvsTimeout s
  | .pwrPdnSwv r n w => Sys2Proof.Machine.execPwrPdnSwv r n w s
  | .prepareAnswer n => Sys2Proof.Machine.execPrepareAnswer n s
  | .prepareTimeout n => Sys2Proof.Machine.execPrepareTimeout n s
  | .stopRetry n => Sys2Proof.Machine.execStopRetry n s
  | .runEntryDone n tcxo => Sys2Proof.Machine.execRunEntryDone n tcxo s
  | .sentinelBurst k burst mv temp => Sys2Proof.Machine.execSentinelBurst k burst mv temp s
  | .burstTimeout k => Sys2Proof.Machine.execBurstTimeout k s
  | .minuteNormalisation => Sys2Proof.Machine.execMinuteNormalisation s
  | .weeklyRecord => Sys2Proof.Machine.execWeeklyRecord s
  | .setpointLower => Sys2Proof.Machine.execSetpointLower s
  | .rtcFracRead r => Sys2Proof.Machine.execRtcFracRead r s
  | .rtcSetsecHi r w => Sys2Proof.Machine.execRtcSetsecHi r w s
  | .rtcShift r w => Sys2Proof.Machine.execRtcShift r w s
  | .shiftHoldEnd => Sys2Proof.Machine.execShiftHoldEnd s
  | .trimWindow => Sys2Proof.Machine.execTrimWindow s
  | .xtalFail => Sys2Proof.Machine.execXtalFail s
  | .tmrnCtl r n w => Sys2Proof.Machine.execTmrnCtl r n w s
  | .timerMatch n => Sys2Proof.Machine.execTimerMatch n s
  | .timerCapture n rising => Sys2Proof.Machine.execTimerCapture n rising s
  | .tmrSnapcmd r => Sys2Proof.Machine.execTmrSnapcmd r s
  | .tmrnCapLoRead r n => Sys2Proof.Machine.execTmrnCapLoRead r n s
  | .eventStep ch => Sys2Proof.Machine.execEventStep ch s
  | .splintFilterExpiry c => Sys2Proof.Machine.execSplintFilterExpiry c s
  | .evrLatchclr r w => Sys2Proof.Machine.execEvrLatchclr r w s
  | .pmcWindowEnd n => Sys2Proof.Machine.execPmcWindowEnd n s
  | .pmcSampleTrigger n => Sys2Proof.Machine.execPmcSampleTrigger n s
  | .pmcnCfg r n w => Sys2Proof.Machine.execPmcnCfg r n w s
  | .pmcnCntLoRead r n => Sys2Proof.Machine.execPmcnCntLoRead r n s
  | .fieldActivation => Sys2Proof.Machine.execFieldActivation s
  | .fieldLost => Sys2Proof.Machine.execFieldLost s
  | .reqa wupa => Sys2Proof.Machine.execReqa wupa s
  | .anticollision known => Sys2Proof.Machine.execAnticollision known s
  | .select uid => Sys2Proof.Machine.execSelect uid s
  | .hlta => Sys2Proof.Machine.execHlta s
  | .deselect => Sys2Proof.Machine.execDeselect s
  | .getInfo msg more => Sys2Proof.Machine.execGetInfo msg more s
  | .auth1 msg more => Sys2Proof.Machine.execAuth1 msg more s
  | .auth2 msg more => Sys2Proof.Machine.execAuth2 msg more s
  | .ident msg more => Sys2Proof.Machine.execIdent msg more s
  | .tagRead msg more => Sys2Proof.Machine.execTagRead msg more s
  | .tagWrite msg more lowField step mism => Sys2Proof.Machine.execTagWrite msg more lowField step mism s
  | .generation msg more => Sys2Proof.Machine.execGeneration msg more s
  | .lockoutEnd => Sys2Proof.Machine.execLockoutEnd s
  | .caFirstAccess cut => Sys2Proof.Machine.execCaFirstAccess cut s
  | .readerWakeMeasure count => Sys2Proof.Machine.execReaderWakeMeasure count s
  | .poll tags => Sys2Proof.Machine.execPoll tags s
  | .exchangeBlock fwi => Sys2Proof.Machine.execExchangeBlock fwi s
  | .readerRelease => Sys2Proof.Machine.execReaderRelease s
  | .fieldOff => Sys2Proof.Machine.execFieldOff s
  | .readerWaitExpiry => Sys2Proof.Machine.execReaderWaitExpiry s
  | .clpTagcfg r w => Sys2Proof.Machine.execClpTagcfg r w s
  | .updateIr ir cells => Sys2Proof.Machine.execUpdateIr ir cells s
  | .trstN => Sys2Proof.Machine.execTrstN s
  | .csacc write off data => Sys2Proof.Machine.execCsacc write off data s
  | .dbgHalt x => Sys2Proof.Machine.execDbgHalt x s
  | .dbgResume x => Sys2Proof.Machine.execDbgResume x s
  | .dbgStep x => Sys2Proof.Machine.execDbgStep x s
  | .dbgReadRegister x arg => Sys2Proof.Machine.execDbgReadRegister x arg s
  | .dbgWriteRegister x arg data => Sys2Proof.Machine.execDbgWriteRegister x arg data s
  | .dbgReadWord x a => Sys2Proof.Machine.execDbgReadWord x a s
  | .dbgWriteWord x a data => Sys2Proof.Machine.execDbgWriteWord x a data s
  | .dbgReadPc x => Sys2Proof.Machine.execDbgReadPc x s
  | .lockReg r x => Sys2Proof.Machine.execLockReg r x s
  | .registerWrite r off v => Sys2Proof.Machine.execRegisterWrite r off v s
  | .illegal p w => Sys2Proof.Machine.execIllegal p w s
  | .pcieLinkUp rate width => Sys2Proof.Machine.execPcieLinkUp rate width s
  | .ethLinkChange up speed an => Sys2Proof.Machine.execEthLinkChange up speed an s
  | .ethRawReceive frame => Sys2Proof.Machine.execEthRawReceive frame s
  | .avsResponse => Sys2Proof.Machine.execAvsResponse s
  | .vddAonEntersRange => Sys2Proof.Machine.execVddAonEntersRange s
  | .hostRegisterRead off whole => Sys2Proof.Machine.execHostRegisterRead off whole s
  | .rats fsdi => Sys2Proof.Machine.execRats fsdi s
  | .tagRBlock kind => Sys2Proof.Machine.execTagRBlock kind s
  | .readerReply kind data => Sys2Proof.Machine.execReaderReply kind data s
  | .readerDeferralEnd => Sys2Proof.Machine.execReaderDeferralEnd s
  | .pfwNRelease => Sys2Proof.Machine.execPfwNRelease s
  | .tapRunTestIdle edges => Sys2Proof.Machine.execTapRunTestIdle edges s

end Sys2Proof.Machine
end

