-- ==== Sys2Proof/Machine/Step.lean ====
section
/-!
DEFINITION. One step: the command at the front of the queue, or, where none waits, one tick of the Timebase clock.
-/

namespace Sys2Proof.Machine

-- Marked: DESIGN CHOICE, log entry 1.
/-- Takes the command at the front and runs it with the queue's rest. On an empty queue a clock period passes
(DESIGN CHOICE, log 1). -/
def step (s : State) : Host.Outcome State Fault Refusal :=
  match s.pending with
  | [] => .next { s with dev := s.dev.tick 1 }
  | c :: rest => exec c { s with pending := rest }

-- Marked: DESIGN CHOICE, log entries 1 and 7.
/-- The command a word of the table spells, put at the front of the queue. -/
def State.withFetchWord (s : State) (nbits w : Nat) : State :=
  match decodeTableWord nbits w with
  | some c => { s with pending := c :: s.pending }
  | none => s

end Sys2Proof.Machine
end

