-- ==== Sys2Proof/WellFormed.lean ====
section
/-!
DEFINITION. What a command's operands must satisfy: the ranges the spec gives the quantities that come from outside.
-/

namespace Sys2Proof

/-- Both components lie within ± 2^n. -/
def Sample.fits (n : Nat) (x : Sample) : Bool := decide (x.i.natAbs ≤ 2 ^ n ∧ x.q.natAbs ≤ 2 ^ n)

/-- The PSDU has the length its PHR declares, and channel samples have 16 bits (R169, R186, R187). -/
def RxEnd.ok (e : RxEnd) : Bool :=
  decide (e.onAir.length = e.phr.toNat % 2048 ∨ e.onAir.length = e.phr.toNat % 128) && e.chain.all (Sample.fits 15)

/-- Frame lengths of R324. -/
def BusFrame.ok (f : BusFrame) : Bool := decide (f.data.length ≤ 16 ∧ f.type < 16 ∧ f.addr < 256)

/-- A captured frame and its station. -/
def BusEnd.ok : BusEnd → Bool
  | .other src f sofAgo => decide (src < 256 ∧ sofAgo < 2 ^ 32) && f.ok
  | .own _ _ => true
  | .crcError => true
  | .stuffError => true

/-- The payload has the length of the header's LEN; NSND soundings of 48 sub-carriers (R195, R196). -/
def TrunkRx.ok (x : TrunkRx) : Bool :=
  decide (x.soundings.length = x.header.toNat % 4 ∧ x.scrambled.length = x.header.toNat / 256 % 16384 + 5) &&
    x.soundings.all (fun l => l.length == 48)

/-- Widths of a parsed copy (R16, R212). -/
def FrameIn.ok (x : FrameIn) : Bool :=
  decide (x.fc < 2 ^ 32 ∧ x.rxCount < 2 ^ 64) &&
    match x.source with
    | .short a => decide (a < 2 ^ 16)
    | .ext a => decide (a < 2 ^ 64)

/-- Header fields of R319. -/
def AmpIn.ok (x : AmpIn) : Bool :=
  decide (x.ver < 256 ∧ x.src < 2 ^ 128 ∧ x.port < 65536 ∧ x.seq < 2 ^ 32 ∧ x.ack < 2 ^ 32 ∧ x.flags < 256 ∧ x.window < 256 ∧ x.dport < 65536)

/-- One part per lane, and one for the trunk, each of at most 8 ranges and 8 sub-bands (R305). -/
def Seal.ok (x : Seal) : Bool :=
  x.lanes.length == 17 && x.lanes.all fun l => decide (l.ranges.length ≤ 8 ∧ l.subs.length ≤ 8)

/-- ACR-S has 128 channels, ACR-W 16 (R160). -/
def acrHas : Acr → Fin 128 → Bool
  | .s, _ => true
  | .w, k => decide (k.val < 16)


/-- The operands lie in the ranges the spec gives them. -/
def Instr.wellFormed : Instr → Bool
  | .refInQualified => true
  | .synthLock => true
  | .refInLost => true
  | .tcxoPresent => true
  | .tcxoLost => true
  | .ppsInEdge _ => true
  | .ppsSecondJudgement => true
  | .slewStep => true
  | .ppsOutRise => true
  | .ppsOutFall => true
  | .tbgCountLoRead _ => true
  | .gunArmcmd _ _ _ => true
  | .gunDisarm _ _ _ => true
  | .tbgLatePop _ => true
  | .rxc _ _ peak => decide (-32768 ≤ peak ∧ peak ≤ 32767)
  | .aer _ _ => true
  | .rtn _ _ => true
  | .trn _ _ peak => decide (-32768 ≤ peak ∧ peak ≤ 32767)
  | .rxo _ _ => true
  | .txs _ _ => true
  | .evt _ _ => true
  | .txsCheck _ _ => true
  | .turnRoundEnd _ => true
  | .retuneEnd _ => true
  | .add _ _ _ _ _ => true
  | .sub _ _ _ _ _ => true
  | .adc _ _ _ _ _ => true
  | .sbc _ _ _ _ _ => true
  | .and_ _ _ _ _ _ => true
  | .or_ _ _ _ _ _ => true
  | .xor_ _ _ _ _ _ => true
  | .andn _ _ _ _ _ => true
  | .shl _ _ _ _ _ => true
  | .shr _ _ _ _ _ => true
  | .sar _ _ _ _ _ => true
  | .ror _ _ _ _ _ => true
  | .slt _ _ _ _ _ => true
  | .sltu _ _ _ _ _ => true
  | .min _ _ _ _ _ => true
  | .max _ _ _ _ _ => true
  | .mul _ _ _ _ _ => true
  | .mulhu _ _ _ _ _ => true
  | .mulhs _ _ _ _ _ => true
  | .divu _ _ _ _ _ => true
  | .divs _ _ _ _ _ => true
  | .remu _ _ _ _ _ => true
  | .rems _ _ _ _ _ => true
  | .clz _ _ _ _ _ => true
  | .ctz _ _ _ _ _ => true
  | .popc _ _ _ _ _ => true
  | .bperm _ _ _ _ _ => true
  | .minu _ _ _ _ _ => true
  | .maxu _ _ _ _ _ => true
  | .addi _ _ _ _ => true
  | .andi _ _ _ _ => true
  | .ori _ _ _ _ => true
  | .xori _ _ _ _ => true
  | .shiShl _ _ _ _ _ => true
  | .shiShr _ _ _ _ _ => true
  | .shiSar _ _ _ _ _ => true
  | .shiRor _ _ _ _ _ => true
  | .lui _ _ _ _ => true
  | .cmpi _ _ _ _ => true
  | .extu _ _ _ _ _ => true
  | .exts _ _ _ _ _ => true
  | .ins _ _ _ _ _ => true
  | .clrf _ _ _ _ _ => true
  | .ldw _ _ _ _ => true
  | .ldh _ _ _ _ => true
  | .ldhu _ _ _ _ => true
  | .ldb _ _ _ _ => true
  | .ldbu _ _ _ _ => true
  | .stw _ _ _ _ => true
  | .sth _ _ _ _ => true
  | .stb _ _ _ _ => true
  | .ldp _ _ _ _ => true
  | .stp _ _ _ _ => true
  | .cas _ _ _ _ _ _ => true
  | .fence _ _ => true
  | .synci _ _ => true
  | .bc _ _ _ => true
  | .jmp _ _ => true
  | .jmpr _ _ _ _ => true
  | .callm _ _ _ => true
  | .callmr _ _ _ _ => true
  | .retm _ _ => true
  | .armg _ _ _ _ _ _ _ => true
  | .disg _ _ _ _ _ _ _ => true
  | .waitg _ _ _ _ => true
  | .waitgOutcome _ => true
  | .rdts _ _ _ => true
  | .swp _ _ _ _ => true
  | .lin _ _ _ _ => true
  | .lout _ _ _ _ => true
  | .queueWaitEnd _ => true
  | .evpost _ _ _ _ => true
  | .evwait _ _ _ _ => true
  | .mfc _ _ _ _ => true
  | .mtc _ _ _ _ => true
  | .eret _ _ _ _ => true
  | .wfi _ _ _ _ => true
  | .sysc _ _ _ _ => true
  | .brk _ _ => true
  | .rcall _ _ _ _ => true
  | .rwait _ _ _ _ => true
  | .interruptEntry _ => true
  | .wenLoad _ _ => true
  | .loadDone _ => true
  | .wenStart _ _ => true
  | .wenStop _ _ => true
  | .wenClear _ _ => true
  | .migration _ _ _ _ => true
  | .exchange _ _ _ _ => true
  | .forcedHandover _ _ _ _ _ => true
  | .handoverTimeout _ => true
  | .drainMarker _ => true
  | .runWatchdog _ => true
  | .waitWatchdog _ => true
  | .laneEnable _ _ _ => true
  | .laneDisable _ _ _ => true
  | .calibrate _ _ _ => true
  | .warmDone _ => true
  | .calibrationStart _ => true
  | .calibrationEnd _ _ temp trims => decide (-128 ≤ temp ∧ temp ≤ 127) && trims.length == 4
  | .laneOff _ => true
  | .txEnd _ => true
  | .diversityDwell _ _ => true
  | .preambleDetected _ _ _ => true
  | .detectionGivenUp _ rho => rho.length == 8 && rho.all (· ≤ 256)
  | .sfdFound _ _ back => decide (back < 2 ^ 32)
  | .receivedFrameEnd _ e peak => e.ok && decide (-32768 ≤ peak ∧ peak ≤ 32767)
  | .laneTimerCompare _ _ => true
  | .acrEnable _ _ => true
  | .acrEnableDone _ => true
  | .acrStart _ _ => true
  | .acrStop _ _ => true
  | .acrCalibrate _ _ => true
  | .acrDisable _ _ => true
  | .acrCalEnd _ _ skew => decide (-32768 ≤ skew ∧ skew ≤ 32767)
  | .acrsCentre _ _ => true
  | .acrRetuneEnd => true
  | .acrskCfg _ a k _ => acrHas a k
  | .swap _ a k _ => acrHas a k
  | .crossFadeEnd a k => acrHas a k
  | .acrskPdly _ a k _ => acrHas a k
  | .pathSettled a k _ => acrHas a k
  | .overrangedSample _ _ x => x.fits 13
  | .agcStepDown _ _ => true
  | .agcStepUp _ _ => true
  | .trunkEnable _ => true
  | .trunkDisable _ => true
  | .claim _ => true
  | .resign _ => true
  | .claimWindowEnd => true
  | .superframeStart _ => true
  | .trunkFrameEnd x peak => x.ok && decide (-32768 ≤ peak ∧ peak ≤ 32767)
  | .mapFrameQueue _ => true
  | .trkPeerpCtrl _ _ _ => true
  | .asbTxcmd _ _ => true
  | .asbTxStart rivals => rivals.all BusFrame.ok
  | .asbFrameComplete x => x.ok
  | .syncInterval => true
  | .asbRxpop _ => true
  | .nodeTableWrite _ off size _ => (size == 1 || size == 2 || size == 4) && off % size == 0 && decide (off < 0x200000)
  | .ntInsert _ _ => true
  | .ntInvalidate _ _ => true
  | .ntSetfc _ _ => true
  | .ntSync _ _ => true
  | .ntPlan _ _ => true
  | .ntLookup _ _ => true
  | .frameCopy x => x.ok
  | .decryptDone _ _ => true
  | .duplicateFilter _ => true
  | .dupwinExpiry _ _ => true
  | .ccmEnc _ => true
  | .ccmDec _ => true
  | .gcmEnc _ => true
  | .gcmDec _ => true
  | .ccmFill _ => true
  | .secRinghTail _ _ _ => true
  | .reservationGrant _ _ => true
  | .reservationTimeout _ => true
  | .fillTimeout _ => true
  | .holdBlocksFreed _ => true
  | .bindingExpiry _ _ _ => true
  | .a1 _ => true
  | .a2 _ => true
  | .keyBusError => true
  | .slotBad _ => true
  | .a2ZeroisationDone => true
  | .sendNode _ entry _ => entry.length == 16
  | .sendGroup _ entry _ => entry.length == 16
  | .liftFence _ entry _ => entry.length == 16
  | .poolReserve _ => true
  | .poolWaitTimeout _ => true
  | .deadline _ => true
  | .resultRecord _ r => ((r.kind == 1 && decide (r.res < 16)) || (r.kind == 3 && decide (r.res < 2))) && decide (r.gen < 16)
  | .reassemblyTimeout _ _ => true
  | .msgLift _ => true
  | .msgCarve _ => true
  | .msgUncarve _ => true
  | .msgQuery _ => true
  | .poolEnable _ _ _ => true
  | .tkGrant _ _ => true
  | .tkSwitch _ => true
  | .tkRevoke _ _ => true
  | .tkEligible _ _ _ => true
  | .tkResync _ _ => true
  | .resyncDone => true
  | .tkCancel _ => true
  | .tkResume _ => true
  | .plannedSwitch => true
  | .heartbeat _ _ => true
  | .yield _ _ => true
  | .heartbeatLapse _ => true
  | .lockstepDisagreement => true
  | .noLeaderTimeout => true
  | .upsett _ _ _ => true
  | .trialTimeout => true
  | .rimInfo _ => true
  | .rimRolesRunning _ => true
  | .rimSettingsRead _ => true
  | .rimSettingsWrite _ => true
  | .rimFwWindow _ => true
  | .rimFwStage _ _ => true
  | .rimFwActivate _ => true
  | .rimConfirm _ => true
  | .rimStage _ => true
  | .rimSignerRevoke _ => true
  | .rimKeyUnwrap _ => true
  | .rimKeyGenerate _ => true
  | .rimKeyErase _ => true
  | .rimKeyUsage _ => true
  | .rimSealInstall _ profile => profile.ok
  | .rimSealQuery _ => true
  | .rimPdSwitch _ => true
  | .rimNtSnapshot _ => true
  | .rimCaRead _ => true
  | .rimCaWrite _ _ => true
  | .rimAlarm _ => true
  | .rimReset _ => true
  | .rimxMbsDone _ _ => true
  | .fwuCopy _ _ => true
  | .fwuDigest _ _ => true
  | .fwuErase _ _ => true
  | .fwuProgram _ _ => true
  | .fwuDone _ => true
  | .sqTailDoorbell _ _ => true
  | .cqHeadDoorbell _ _ => true
  | .submissionFetch words => words.length == 16
  | .hostReadComplete _ _ _ => true
  | .coalesceTimeout _ => true
  | .hpcQpqCfg _ _ _ => true
  | .linkDown _ => true
  | .discard _ _ => true
  | .ampOpen x => x.ok
  | .ampOpenAck x => x.ok
  | .ampSubmit x => x.ok
  | .ampComplete x => x.ok
  | .ampAck x => x.ok
  | .ampClose x => x.ok
  | .ampRto _ => true
  | .ampAckTimer _ => true
  | .ptpEventMessage _ _ _ back => decide (back < 2 ^ 32)
  | .ethPtppop _ => true
  | .resetAssert _ => true
  | .resetRelease => true
  | .coreUv => true
  | .brownout => true
  | .halfCycle _ _ => true
  | .lineLoss => true
  | .freqerr => true
  | .pfwN => true
  | .exitReady => true
  | .supEvpop _ => true
  | .avsTimeout => true
  | .pwrPdnSwv _ _ _ => true
  | .prepareAnswer _ => true
  | .prepareTimeout _ => true
  | .stopRetry _ => true
  | .runEntryDone _ _ => true
  | .sentinelBurst _ burst mv temp => decide (1 ≤ burst ∧ burst ≤ 65535 ∧ mv < 1024 ∧ -128 ≤ temp ∧ temp ≤ 127)
  | .burstTimeout _ => true
  | .minuteNormalisation => true
  | .weeklyRecord => true
  | .setpointLower => true
  | .rtcFracRead _ => true
  | .rtcSetsecHi _ _ => true
  | .rtcShift _ _ => true
  | .shiftHoldEnd => true
  | .trimWindow => true
  | .xtalFail => true
  | .tmrnCtl _ _ _ => true
  | .timerMatch _ => true
  | .timerCapture _ _ => true
  | .tmrSnapcmd _ => true
  | .tmrnCapLoRead _ _ => true
  | .eventStep _ => true
  | .splintFilterExpiry _ => true
  | .evrLatchclr _ _ => true
  | .pmcWindowEnd _ => true
  | .pmcSampleTrigger _ => true
  | .pmcnCfg _ _ _ => true
  | .pmcnCntLoRead _ _ => true
  | .fieldActivation => true
  | .fieldLost => true
  | .reqa _ => true
  | .anticollision known => decide (known.length ≤ 40)
  | .select uid => uid.length == 5
  | .hlta => true
  | .deselect => true
  | .getInfo _ _ => true
  | .auth1 _ _ => true
  | .auth2 _ _ => true
  | .ident _ _ => true
  | .tagRead _ _ => true
  | .tagWrite _ _ _ _ _ => true
  | .generation _ _ => true
  | .lockoutEnd => true
  | .caFirstAccess _ => true
  | .readerWakeMeasure _ => true
  | .poll tags => tags.all fun t => t.length == 4 || t.length == 7 || t.length == 10
  | .exchangeBlock _ => true
  | .readerRelease => true
  | .fieldOff => true
  | .readerWaitExpiry => true
  | .clpTagcfg _ _ => true
  | .updateIr _ cells => cells.length == 140
  | .trstN => true
  | .csacc _ _ _ => true
  | .dbgHalt _ => true
  | .dbgResume _ => true
  | .dbgStep _ => true
  | .dbgReadRegister _ _ => true
  | .dbgWriteRegister _ _ _ => true
  | .dbgReadWord _ _ => true
  | .dbgWriteWord _ _ _ => true
  | .dbgReadPc _ => true
  | .lockReg _ _ => true
  | .registerWrite _ _ _ => true
  | .illegal _ _ => true
  | .pcieLinkUp rate width => decide (1 ≤ rate.val) && [1, 2, 4].contains width.val
  | .ethLinkChange _ _ _ => true
  | .ethRawReceive _ => true
  | .avsResponse => true
  | .vddAonEntersRange => true
  | .hostRegisterRead _ _ => true
  | .rats _ => true
  | .tagRBlock _ => true
  | .readerReply _ _ => true
  | .readerDeferralEnd => true
  | .pfwNRelease => true
  | .tapRunTestIdle _ => true

end Sys2Proof
end

