-- ==== Sys2Proof/Safety.lean ====
section
/-!
DEFINITION. What a sound state is: its tables keep their canonical form, and its waiting commands are well-formed.
-/

namespace Sys2Proof.Machine

/-- The tables that hold registers and memory are in canonical form: numbers rising, and no entry equal to what an
unlisted number reads as. -/
def Dev.canonical (d : Dev) : Bool := twf resetOf d.regs && Memory.wf d.mem

/-- Every waiting command has its operands in range. -/
def State.queueOk (s : State) : Bool := s.pending.all Instr.wellFormed

/-- A sound state. -/
def State.sound (s : State) : Bool := s.dev.canonical && s.queueOk

/-! ## When a command has its own effect -/

/-- The device is not held in reset. -/
def State.live (s : State) : Prop := s.dev.power.inReset = false

/-- The state in which the device has become `d` and what follows every command has followed. -/
def State.goes (s : State) (d : Dev) : State := { s with dev := d.after }

/-- The access reaches its register. -/
def Gate.isGo : Gate → Bool
  | .go _ => true
  | _ => false

/-- Requester `r` may write the register at `off` now. -/
def Dev.lets (d : Dev) (r : Req) (off : Nat) : Prop := (d.gate r.num off true).isGo = true

/-- Requester `r` may read the register at `off` now. -/
def Dev.answers (d : Dev) (r : Req) (off : Nat) : Prop := (d.gate r.num off false).isGo = true

/-- Nothing is left of what the device does of itself once a command has acted (`Dev.after`): no context of a whole datagram waits
to be dropped (R254), no held submission can go on (R266), and no ride-through waits for Rim (R344, R346). -/
def Dev.served (d : Dev) : Bool :=
  (d.msg.reasm.all fun c => decide (c.tag < 65536) || !c.parts.isEmpty ||
    d.mac.copies.any fun x => x.node == c.node && x.verified.isSome && wholeTag x.inn.fc == c.tag) &&
  (d.msg.stalled.isEmpty || !d.tcbFree || (d.ledFree d.ntHalf).isNone) &&
  (!d.b R.SUP_RTSTAT 31 || !d.b R.SUP_RTSTAT 29 && d.b R.SUP_RTSTAT 30)

/-- Processor `p` issues its next instruction now: it executes, does not wait, no interrupt is eligible, and the fetch
meets no fault and no error to correct. -/
def Dev.ready (d : Dev) (p : Proc) : Prop :=
  d.executing p.num = true ∧ d.eligible p.num = none ∧ (d.cpu p.num).wait = .none ∧ d.fetchFault p = none ∧
    ((fetchWhere p (d.cpu p.num).pc.toNat).all fun a => !d.ecc1.contains (a / 4 * 4)) = true

/-- Processor `p`'s registers become `c`, and its instruction retires at `next` for `cost` budget units. -/
def Dev.completes (d : Dev) (p : Proc) (c : Cpu) (cost : Nat) (next : Word) : Dev :=
  ((d.setCpu p.num c).retire p.num cost next).stepEnd p.num

/-- Rim serves the call in slot `k` now: it is the oldest outstanding, of function `fn`, and every argument beside `args`
is 0. -/
def Dev.calls (d : Dev) (k fn : Nat) (args : List Nat) : Prop :=
  d.rimRuns = true ∧ d.fw.recov = 0 ∧ d.headCall = some k ∧ d.callFn k = fn ∧
    ∀ i ∈ [1, 2, 3, 4, 5, 6], i ∈ args ∨ d.callArg k i = 0#32

/-- The call in slot `k` is answered, unless it has reset the device. -/
def Dev.replies (d : Dev) (k : Nat) (res : List Word) : Dev := if d.power.inReset then d else d.mbReply k res

/-- Commands that act while the device is in reset: reset itself, the RTC, and the contactless tag, which the field or
VDD_AON powers (R334, R371, R372, R411). -/
def actsInReset : Instr → Bool
  | .resetAssert _ => true
  | .resetRelease => true
  | .vddAonEntersRange => true
  | .rtcFracRead _ => true
  | .rtcSetsecHi _ _ => true
  | .rtcShift _ _ => true
  | .shiftHoldEnd => true
  | .trimWindow => true
  | .xtalFail => true
  | .fieldActivation => true
  | .fieldLost => true
  | .reqa _ => true
  | .anticollision _ => true
  | .select _ => true
  | .rats _ => true
  | .hlta => true
  | .deselect => true
  | .tagRBlock _ => true
  | .getInfo _ _ => true
  | .auth1 _ _ => true
  | .auth2 _ _ => true
  | .ident _ _ => true
  | .tagRead _ _ => true
  | .tagWrite _ _ _ _ _ => true
  | .generation _ _ => true
  | .lockoutEnd => true
  | .caFirstAccess _ => true
  | _ => false

end Sys2Proof.Machine
end

