-- ==== Sys2Proof/Certificates/Slice0/Obligations.lean ====
section
/-!
DEFINITION. The statements for the provers. `s.goes d` is the state in which the device has become `d` and what follows
every command (waiting processors whose condition holds proceed, R85, R88) has followed.
-/

section

open Sys2Proof Sys2Proof.Machine

/-- The queue of commands (DESIGN CHOICE, log 1): a step runs the command at the front with the queue's rest; on an empty queue a
clock period passes. -/
def Obligations.StepRunsFront : Prop :=
  (∀ (c : Instr) (s : State) (rest : List Instr),
    step { s with pending := c :: rest } = exec c { s with pending := rest }) ∧
  (∀ s : State, s.pending = [] → step s = .next { s with dev := s.dev.tick 1 })

/-- The machine after reset: a sound state with no command waiting; the Timebase not started and its count 0 (R24), every engine
EMPTY (R121), flags and general registers 0 (R55), every domain of Rim's vote in Run (R348), no half leading, and no line
half-cycle measured (SUP_STATUS.LINECLASS 4). -/
def Obligations.ResetState : Prop :=
  State.reset.sound = true ∧ State.reset.pending = [] ∧ State.reset.live ∧ State.reset.dev.mem = [] ∧
  State.reset.dev.count = 0 ∧ State.reset.dev.tbState = 0 ∧
  (∀ e : Fin 64, State.reset.dev.engState e = 0) ∧
  (∀ (n : Fin 67) (r : Reg), (State.reset.dev.cpu n).get r = 0#32 ∧ (State.reset.dev.cpu n).flags = ⟨false, false, false, false⟩) ∧
  (∀ n : Fin 54, State.reset.dev.pdRun n = true ∧ State.reset.dev.pdPrep n = false) ∧
  State.reset.dev.devLead = none ∧ State.reset.dev.f R.SUP_STATUS 28 3 = 4 ∧
  State.reset.dev.reg R.DEV_ID = 0x640000B1#32 ∧ State.reset.dev.reg R.TST_IDCODE = 0x26400A8B#32

/-- Every step keeps the canonical form of the registers and of memory (numbers strictly rising, no entry equal to what an
unlisted number reads as), and keeps the waiting commands well-formed. -/
def Obligations.SoundKept : Prop := ∀ s t : State, s.sound = true → step s = .next t → t.sound = true

/-- On R334, R372, R411: only RESET_RELEASE ends reset. A step of a device in reset leaves it in reset unless that command is at the
front, and every command but those of reset itself, of the RTC and of the contactless tag leaves it exactly as it is. -/
def Obligations.ResetHolds : Prop :=
  (∀ s t : State, s.dev.power.inReset = true → s.pending.head? ≠ some .resetRelease → step s = .next t →
    t.dev.power.inReset = true) ∧
  (∀ (s : State) (i : Instr), s.dev.power.inReset = true → actsInReset i = false → exec i s = .next s)

/-- What an instruction that completes in registers leaves unchanged: memory and everything of the device but the processors, the
event fabric's registers and counters, and the issuing engine's WEN_STATUS; of the processors, every other engine; of its own
processor, what the result `c` says and no more. So it is of the instruction's own effect `e`, and of the next state where the
device then has nothing of its own left to do (`Dev.served`), but that a radio that was draining with no gate kept may start its
10 us to OFF. -/
def Obligations.InstructionFrame : Prop :=
  ∀ (s t : State) (i : Instr) (p : Proc) (c : Cpu) (cost : Nat) (next : Word) (e d : Dev), s.live →
  exec i s = .next t → e = s.dev.completes p c cost next → t = s.goes e → d = e ∨ d = t.dev ∧ e.served = true →
  t.pending = s.pending ∧
  { d with regs := s.dev.regs, cpus := s.dev.cpus, skein := s.dev.skein, radios := s.dev.radios } = s.dev ∧
  (∀ n : Nat, d.radio n = s.dev.radio n ∨ (s.dev.radio n).draining = true ∧ (s.dev.radio n).offAt = none ∧
    s.dev.noneKept n = true ∧ d.radio n = { s.dev.radio n with offAt := some (s.dev.clk + 1600) }) ∧
  (∀ a : Nat, d.rd8 a = s.dev.rd8 a) ∧
  (∀ k : Nat, ¬ (0xB2000 ≤ k ∧ k < 0xB4000) → ¬ (0xC0100 ≤ k ∧ k < 0xC0900) → k ≠ R.RIMX_MBPEND →
    (∀ e : Fin 64, p = .eng e → k ≠ R.WEN_STATUS e) → d.reg k = s.dev.reg k) ∧
  (∀ e : Fin 64, p ≠ .eng e → d.cpu e = s.dev.cpu e) ∧
  (d.cpu p.num).g = c.g ∧ (d.cpu p.num).ctl = c.ctl ∧ (d.cpu p.num).pc = next ∧
  (d.cpu p.num).retired = c.retired + 1 ∧ (d.cpu p.num).units = c.units + cost

/-- What a store to memory leaves unchanged: every octet outside those stored, at the place the processor's view gives g[ra] +
imm, a store to MRAM counting as one that no FENCE has followed yet (R62); the octets stored are the low octets of g[rd],
little-endian; the processor's registers, and every other engine, stay. So it is of the store's own effect `e`, and of the next
state where the device then has nothing of its own left to do (`Dev.served`), but that a radio that was draining with no gate
kept may start its 10 us to OFF. -/
def Obligations.StoreFrame : Prop :=
  ∀ (s t : State) (i : Instr) (p : Proc) (rd ra : Reg) (imm : BitVec 16) (c : Cpu) (ea : Word) (f n : Nat),
  s.live → s.dev.ready p → c = s.dev.cpu p.num → ea = c.get ra + imm.signExtend 32 →
  (i = .stw p rd ra imm ∧ n = 4 ∨ i = .sth p rd ra imm ∧ n = 2 ∨ i = .stb p rd ra imm ∧ n = 1) →
  s.dev.place p c.sup ea n kStore = .ok (.mem f) → exec i s = .next t →
  ∃ e : Dev, t = s.goes e ∧ ∀ d : Dev, d = e ∨ d = t.dev ∧ e.served = true →
  (∀ a : Nat, a < f ∨ f + n ≤ a → d.rd8 a = s.dev.rd8 a) ∧
  (∀ k : Fin 4, k.val < n → d.rd8 (f + k) = byteOf (c.get rd) k) ∧
  { d with regs := s.dev.regs, cpus := s.dev.cpus, skein := s.dev.skein, mem := s.dev.mem
           ecc1 := s.dev.ecc1, ecc2 := s.dev.ecc2, unfenced := s.dev.unfenced, radios := s.dev.radios } = s.dev ∧
  (∀ n : Nat, d.radio n = s.dev.radio n ∨ (s.dev.radio n).draining = true ∧ (s.dev.radio n).offAt = none ∧
    s.dev.noneKept n = true ∧ d.radio n = { s.dev.radio n with offAt := some (s.dev.clk + 1600) }) ∧
  d.unfenced = (s.dev.noteUnfenced f n).unfenced ∧
  (d.cpu p.num).g = c.g ∧ (d.cpu p.num).ctl = c.ctl ∧ (d.cpu p.num).pc = c.pc + 4#32 ∧
  (∀ e : Fin 64, p ≠ .eng e → d.cpu e = s.dev.cpu e)

/-- On R83, R84: entering an exception on a Main Processor or Custody. ESTATUS, EPC, CAUSE, BADADDR and STATUS are written, g31 and
KSP exchanged from user mode only, and the pc goes to VBASE, or 0x080 above it for an interrupt; a stack pointer outside its
bounds, or a fault while EXL = 1, is a double fault, which for a Main Processor is reported to Custody and for Custody to its own
restart. No interrupt is taken while EXL = 1. ERET restores STATUS, exchanges g31 and KSP where the restored mode is user, and
continues at EPC. -/
def Obligations.ExceptionEntry : Prop :=
  (∀ (c e : Cpu) (epc cause bad : Word) (ipl : Option (Fin 4)), e = c.enter epc cause bad (ipl.map Fin.val) →
    e.creg 1 = c.creg 0 ∧ e.creg 2 = epc ∧ e.creg 3 = cause ∧ e.creg 4 = bad ∧
    (bitOf (c.creg 0) 4 = false → e.get 31 = c.creg 6 ∧ e.creg 6 = c.get 31) ∧
    (bitOf (c.creg 0) 4 = true → e.get 31 = c.get 31 ∧ e.creg 6 = c.creg 6) ∧
    (∀ r : Reg, r.val < 31 → e.get r = c.get r) ∧
    bitOf (e.creg 0) 4 = true ∧ bitOf (e.creg 0) 5 = false ∧ bitOf (e.creg 0) 6 = true ∧
    (∀ l, ipl = some l → fld (e.creg 0) 8 2 = l.val ∧ e.pc = (c.creg 5 &&& 0xFFFFFF00#32) + 0x80#32) ∧
    (ipl = none → fld (e.creg 0) 8 2 = fld (c.creg 0) 8 2 ∧ e.pc = c.creg 5 &&& 0xFFFFFF00#32) ∧
    (∀ i : Fin 32, i.val ≠ 4 → i.val ≠ 5 → i.val ≠ 6 → i.val ≠ 8 → i.val ≠ 9 →
      bitOf (e.creg 0) i = bitOf (c.creg 0) i) ∧
    (∀ k : Nat, k = 5 ∨ 6 < k → e.creg k = c.creg k)) ∧
  (∀ (d : Dev) (p : Proc) (c : Cpu) (n : Nat), isEng p = false → n = p.num → c = d.cpu n →
    (∀ (f : Flt) (e : Cpu), c.exl = false →
      e = c.enter (if f.code = 11 then c.pc + 4#32 else c.pc) (pack [(30, b2n f.fetch), (0, f.code)]) f.addr none →
      (e.spOk = true → d.takeFault p f = (d.setCpu n e).stepEnd n) ∧
      (e.spOk = false → d.takeFault p f = ((d.setCpu n e).doubleFault n).stepEnd n)) ∧
    (∀ f : Flt, c.exl = true → d.takeFault p f = d.doubleFault n ∧ d.eligible n = none) ∧
    (∀ (src : Nat) (d1 : Dev) (e : Cpu), d1 = (if src = 56 ∧ n < 66 then d.writeSkid (n - 64) else d) →
      e = c.enter c.pc (pack [(31, 1), (0, src)]) 0#32 (some (c.prio src)) →
      (e.spOk = true → d.takeInterrupt n src = (d1.setCpu n e).stepEnd n) ∧
      (e.spOk = false → d.takeInterrupt n src = ((d1.setCpu n e).doubleFault n).stepEnd n)) ∧
    (∀ h : Half, p = .mp h →
      d.doubleFault n = (d.onCpu n fun c => { c with run := .lockup, wait := .none }).declareH h.toNat 0) ∧
    (p = .custody →
      d.doubleFault n = (d.onCpu n fun c => { c with run := .lockup, wait := .none }).custodyRestart 0)) ∧
  (∀ e : Cpu, e.spOk = true ↔ (e.get 31).toNat % 4 = 0 ∧ (e.creg 7).toNat ≤ (e.get 31).toNat ∧
    (e.get 31).toNat ≤ (e.creg 8).toNat) ∧
  (∀ (s : State) (p : Proc) (c r : Cpu), s.live → s.dev.ready p → c = s.dev.cpu p.num → isEng p = false → c.sup = true →
    r = c.setCreg 0 (c.creg 1) →
    (bitOf (c.creg 1) 4 = true → exec (.eret p 0 0 0) s = .next (s.goes (s.dev.completes p r 1 (c.creg 2)))) ∧
    (bitOf (c.creg 1) 4 = false → exec (.eret p 0 0 0) s = .next (s.goes
      (s.dev.completes p ((r.put 31 (c.creg 6)).setCreg 6 (c.get 31)) 1 (c.creg 2)))))

/-- On R54: each processor's general registers. g0 reads 0 and a write to it changes nothing; a write of another register changes it
alone; a register pair is the even register and the next, low word first. -/
def Obligations.GeneralRegisters : Prop :=
  ∀ (c : Cpu) (r q : Reg) (w : Word),
  c.get 0 = 0#32 ∧ c.put 0 w = c ∧ (r ≠ 0 → (c.put r w).get r = w) ∧ (q ≠ r → (c.put r w).get q = c.get q) ∧
  (c.put r w).ctl = c.ctl ∧ (c.put r w).pc = c.pc ∧
  (∀ (s : State) (p : Proc) (v : Nat), s.live → s.dev.ready p → v = s.dev.count → v < 2 ^ 64 →
    (r.val % 2 = 1 → exec (.rdts p r 0#21) s = .next (s.goes (s.dev.takeFault p ILLEGAL))) ∧
    (r.val % 2 = 0 → c = ((s.dev.cpu p.num).put r (wd v)).put (r.val + 1) (wd (v / 2 ^ 32)) →
      (c.get r).toNat + 2 ^ 32 * (c.get (r.val + 1)).toNat = (if r = 0 then v / 2 ^ 32 * 2 ^ 32 else v) ∧
      exec (.rdts p r 0#21) s = .next (s.goes (s.dev.completes p c 4 ((s.dev.cpu p.num).pc + 4#32)))))

/-- On R24 to R26, R34: the reference events, in the normal state of PD2.
R30, R52: an edge of PPS_IN in the direction PPSIN_POL selects (0 rising) is captured and its alignment error e reported,
to the nearest second; with PPS_VALID set, an edge that lies further than PPSWIN from its second changes nothing more, and any
other is accepted: PPS_MISS clears, the judgement restarts, the event posts and e is acted on (R31). At Ca + k × 160,000,000 +
PPSWIN a missing edge is counted, and the third miss clears PPS_VALID. An edge in the other direction has no effect. R32: a
slew step that leaves e = 0 ends the slew, and e = 1 is removed by a tick that does not count. -/
def Obligations.TimebaseEvents : Prop :=
  (∀ s : State, s.live → s.dev.pdRun 2 = true →
   -- REF_IN qualified: TBG_STATUS [5] sets; from a holdover entered in state 2 the synthesizer is locked again
   (∀ d : Dev, d = s.dev.setB R.TBG_STATUS TBG_REF true →
    (d.tbState ≠ 3 → exec .refInQualified s = .next (s.goes d)) ∧
    (d.tbState = 3 → d.tb.holdFrom = 2 → d.srcXo = false →
      exec .refInQualified s = .next (s.goes ({ d with tb := { d.tb with locked := true } }.setTb 2)))) ∧
   -- the synthesizer locks to a qualified REF_IN: state 2
   (s.dev.b R.TBG_STATUS TBG_REF = true → s.dev.srcXo = false → s.dev.tb.locked = false →
     exec .synthLock s =
       .next (s.goes ({ s.dev with tb := { s.dev.tb with locked := true, everLocked := true } }.setTb 2))) ∧
   -- REF_IN lost: TBG_STATUS [5] clears; from state 2, holdover, on the TCXO where it is present
   (∀ d : Dev, d = s.dev.setB R.TBG_STATUS TBG_REF false →
    (d.tbState = 2 → exec .refInLost s = .next (s.goes
      ({ d with tb := { d.tb with holdFrom := 2, holdTcxo := d.b R.TBG_STATUS TBG_XO, locked := false } }.setTb 3))) ∧
    (d.tbState ≠ 2 → exec .refInLost s = .next (s.goes { d with tb := { d.tb with locked := false } }))) ∧
   -- the TCXO is present: TBG_STATUS [6] sets; in state 0 the device that has never locked enters state 1
   (∀ d : Dev, d = s.dev.setB R.TBG_STATUS TBG_XO true → d.tbState = 0 → d.tb.everLocked = false →
     exec .tcxoPresent s = .next (s.goes (d.setTb 1))) ∧
   -- the TCXO is lost: TBG_STATUS [6] clears; state 1 holds over on the oscillator's held control word
   (∀ d : Dev, d = s.dev.setB R.TBG_STATUS TBG_XO false → d.tbState = 1 → exec .tcxoLost s = .next (s.goes
     ({ d with tb := { d.tb with holdFrom := 1, holdTcxo := false, locked := false } }.setTb 3))) ∧
   -- PPS_OUT rises at a second boundary, for TBG_PPSOUT_W clock periods, and falls at their end
   (s.dev.b R.TBG_CTRL 5 = true → s.dev.tbState ≠ 0 → s.dev.tb.ppsDone < s.dev.boundaries s.dev.count →
     exec .ppsOutRise s = .next (s.goes { s.dev with tb := { s.dev.tb with
       ppsOut := true, ppsFall := s.dev.clk + s.dev.f R.TBG_PPSOUT_W 0 27, ppsDone := s.dev.boundaries s.dev.count } })) ∧
   (s.dev.tb.ppsOut = true → s.dev.tb.ppsFall ≤ s.dev.clk →
     exec .ppsOutFall s = .next (s.goes { s.dev with tb := { s.dev.tb with ppsOut := false } }))) ∧
  (∀ s : State, s.live → s.dev.pdRun 2 = true →
   (∀ r : Bool, r = s.dev.b R.TBG_CTRL 4 → exec (.ppsInEdge r) s = .next (s.goes s.dev)) ∧
   (∀ (r : Bool) (e : Int) (d d1 : Dev), r = !s.dev.b R.TBG_CTRL 4 → e = wrapSec (s.dev.count + sfld (s.dev.reg R.TBG_PPSIN_DLY) 0 16) →
     d = (s.dev.setPair R.TBG_PPSCAP_LO R.TBG_PPSCAP_HI s.dev.count).setReg R.TBG_PPSERR (wd (patt 32 e)) →
     d1 = (d.setB R.TBG_STATUS 7 true).setF R.TBG_STATUS 8 4 0 → d.b R.TBG_STATUS 7 = true →
     (d.f R.TBG_PPSWIN 0 24 < e.natAbs → exec (.ppsInEdge r) s = .next (s.goes d)) ∧
     (e.natAbs ≤ d.f R.TBG_PPSWIN 0 24 → exec (.ppsInEdge r) s = .next (s.goes
       ((({ d1 with tb := { d1.tb with ppsAnchor := s.dev.count, ppsK := 1 } }.hwEvent srcPps).ppsAlign false
         e).discEdge)))) ∧
   (∀ (m : Nat) (d : Dev), m = min 15 (s.dev.f R.TBG_STATUS 8 4 + 1) →
     d = { s.dev.setF R.TBG_STATUS 8 4 m with tb := { s.dev.tb with ppsK := s.dev.tb.ppsK + 1 } } →
     s.dev.b R.TBG_STATUS 7 = true →
     s.dev.tb.ppsAnchor + s.dev.tb.ppsK * 160000000 + s.dev.f R.TBG_PPSWIN 0 24 ≤ s.dev.count →
     exec .ppsSecondJudgement s = .next (s.goes (if 3 ≤ m then d.setB R.TBG_STATUS 7 false else d).discMiss)) ∧
   (s.dev.tbState ≠ 0 → s.dev.tb.slewAt ≤ s.dev.clk → s.dev.tb.err = 1 →
     exec .slewStep s = .next (s.goes
       (({ s.dev with tb := { s.dev.tb with err := 0, slewAt := s.dev.clk + s.dev.slewGap } }.setB R.TBG_STATUS 3
         false).tick 0))))

/-- On R41, R49, R52: a Main Processor's arm and disarm requests answer in GUn_ARMRES, its own copy; TBG_LATE_POP discards the
oldest LATE record. The unit notes that it has judged a request of this requester and class in this tick (R40, R105: log 102).
R35: a read of TBG_COUNT_LO answers the low word of the count and latches the high word of that same
count for the reader. -/
def Obligations.GateRequests : Prop := ∀ s : State, s.live →
  (∀ (r : Req), s.dev.answers r R.TBG_COUNT_LO → exec (.tbgCountLoRead r) s = .next (s.goes
    { s.dev.setReg (bankKey r.num R.TBG_COUNT_HI) (wd (s.dev.count / 2 ^ 32)) with
      bus := some (r.num, R.TBG_COUNT_LO, some (wd s.dev.count)) })) ∧
  -- a request of class c for a free slot, without a predecessor, that no check of R41 turns away: OK and the slot
  (∀ (h : Half) (u : Fin 18) (w : Word) (fire k : Nat),
    s.dev.lets (.mp h) (R.GU_ARMCMD u) → s.dev.unsettled u = false → s.dev.tbState ≠ 0 →
    s.dev.unitOpen (.mp h) u = true → s.dev.classOpen u (fld w 16 3) = true → s.dev.pdRun (guPd u) = true →
    bitOf w 27 = false →
    fire = s.dev.pair (bankKey (64 + h.toNat) (R.GU_FIRE_LO u)) (bankKey (64 + h.toNat) (R.GU_FIRE_HI u)) →
    (s.dev.armed u).any (fun ka => ka.2.cls == fld w 16 3 && ka.2.fire == fire) = false →
    s.dev.count + s.dev.leadOf (fld w 16 3) ≤ fire → s.dev.count < fire →
    (List.range 16).find? (fun k => (s.dev.armOf u k).isNone) = some k →
    exec (.gunArmcmd h u w) s = .next (s.goes
      ((({ s.dev.judge (.mp h) u (fld w 16 3) with armSeq := s.dev.armSeq + 1 }.setSlot u k { s.dev.slot u k with
          arm := some { id := s.dev.armSeq, cls := fld w 16 3, fire := fire, param := fld w 0 16 } }).setB
        (R.GU_ARMED u) k true).setReg (bankKey (64 + h.toNat) (R.GU_ARMRES u)) (pack [(31, 1), (4, k), (0, 0)])))) ∧
  -- the same request with too short a lead: LATE, with a record (R52 calls SLOT valid only when RESULT is 0)
  (∀ (h : Half) (u : Fin 18) (w : Word) (fire : Nat),
    s.dev.lets (.mp h) (R.GU_ARMCMD u) → s.dev.unsettled u = false → s.dev.tbState ≠ 0 →
    s.dev.unitOpen (.mp h) u = true → s.dev.classOpen u (fld w 16 3) = true → s.dev.pdRun (guPd u) = true →
    bitOf w 27 = false →
    fire = s.dev.pair (bankKey (64 + h.toNat) (R.GU_FIRE_LO u)) (bankKey (64 + h.toNat) (R.GU_FIRE_HI u)) →
    (s.dev.armed u).any (fun ka => ka.2.cls == fld w 16 3 && ka.2.fire == fire) = false →
    fire < s.dev.count + s.dev.leadOf (fld w 16 3) →
    ∃ k < 16, exec (.gunArmcmd h u w) s = .next (s.goes
      (((s.dev.judge (.mp h) u (fld w 16 3)).lateRecord
          { kind := 0, unit := u, slot := 0, cls := fld w 16 3, fire := fire, acc := s.dev.count % 2 ^ 32 }).setReg
        (bankKey (64 + h.toNat) (R.GU_ARMRES u)) (pack [(31, 1), (4, k), (0, 1)])))) ∧
  -- a disarm at least 320 ticks before the firing count succeeds, and ends the hold of a frame already checked (the model's
  -- choice: log 101); a later one is LATE
  (∀ (h : Half) (u : Fin 18) (w : Word) (a : Arming) (d : Dev), d = s.dev.noteJudged (.mp h) u →
    s.dev.lets (.mp h) (R.GU_DISARM u) → s.dev.unsettled u = false → s.dev.unitOpen (.mp h) u = true →
    s.dev.pdRun (guPd u) = true → s.dev.armOf u (fld w 0 4) = some a →
    (s.dev.count + 320 ≤ a.fire → exec (.gunDisarm h u w) s = .next (s.goes
      (((if a.checked then d.endHold u (handleEntry a.param) else d).endArming u (fld w 0 4) a 3).setReg (bankKey (64 + h.toNat) (R.GU_ARMRES u))
        (pack [(31, 1), (4, fld w 0 4), (0, 0)])))) ∧
    (a.fire < s.dev.count + 320 → ∃ k < 16, exec (.gunDisarm h u w) s = .next (s.goes
      (d.setReg (bankKey (64 + h.toNat) (R.GU_ARMRES u)) (pack [(31, 1), (4, k), (0, 1)]))))) ∧
  (∀ (r : Req) (x y : LateRec) (l : List LateRec), s.dev.lets r R.TBG_LATE_POP → s.dev.tb.late = x :: y :: l →
    exec (.tbgLatePop r) s = .next (s.goes { s.dev with tb := { s.dev.tb with late := y :: l } }.showLate))

/-- On R38, R43, R51, R143, R145, R203: a gate of classes 0 to 4 of a lane or, on GU16, of the trunk transceiver at its firing
count. Whatever ends at this tick has ended first, and the arming ends with outcome 0 (`d`); in a state that does not refuse
the class, the gate has its effect; a state that refuses it counts the refusal with its reason. -/
def Obligations.LaneGates : Prop := ∀ (s : State) (n : Fin 17) (k : Fin 16) (a : Arming) (d : Dev),
  s.live → s.dev.unsettled n = false → d = ((s.dev.beforeGate n).fired n k a).noteFired n a →
  -- RXC without a frame in progress: the window closes, IDLE_R
  (∀ peak, s.dev.due n k 0 = some a → (d.radio n).st = sRX → (d.radio n).rx = none →
    exec (.rxc n k peak) s = .next (s.goes (((d.closeWin n peak).setSt n sIDLER).mayShut n))) ∧
  -- AER in IDLE_R: the aerial switches
  (s.dev.due n k 1 = some a → (d.radio n).st = sIDLER → ((d.setAer n (a.param % 2)).radio n).st ≠ sRX →
    exec (.aer n k) s = .next (s.goes ((d.setAer n (a.param % 2)).mayShut n))) ∧
  -- RTN in IDLE_R to a usable channel word: 7,680 ticks in RETUNE; one that names none is refused with reason 7, a PARAM of 64
  -- or more among them (the model's choice: log 116); the trunk retunes to TRK_CHAN
  (∀ w, s.dev.due n k 2 = some a → (d.radio n).st = sIDLER → n.val < 16 → w = d.reg (R.LAN_CHW n a.param) →
    (a.param < 64 → chUsable n w = true → exec (.rtn n k) s = .next (s.goes
      ((((d.onRadio n fun r => { r with until_ := d.clk + 7680, back := sIDLER, curCh := a.param, chw := w }).setF
        (R.LAN_STATUS n) 16 6 a.param).setSt n sRETUNE).mayShut n))) ∧
    (64 ≤ a.param ∨ chUsable n w = false → exec (.rtn n k) s = .next (s.goes ((d.refuse n k 2 7).mayShut n)))) ∧
  (s.dev.due n k 2 = some a → (d.radio n).st = sIDLER → n.val = 16 → exec (.rtn n k) s = .next (s.goes
    (((d.onRadio n fun r => { r with
      until_ := d.clk + 7680, back := sIDLER, curCh := a.param, chw := d.reg R.TRK_CHAN }).setSt n sRETUNE).mayShut n))) ∧
  -- RTN in RX is refused with reason 3
  (s.dev.due n k 2 = some a → (d.radio n).st = sRX →
    exec (.rtn n k) s = .next (s.goes ((d.refuse n k 2 3).mayShut n))) ∧
  -- TRN to transmit in IDLE_R: 15,360 ticks plus the alignment hold in TURN
  (∀ (peak : Int) (e : Dev), e = d.paTurn n sIDLET → s.dev.due n k 3 = some a → (d.radio n).st = sIDLER →
    a.param.testBit 0 = false → exec (.trn n k peak) s = .next (s.goes
      (((e.onRadio n fun r => { r with until_ := e.clk + 15360 + 160 * (a.param / 2 % 32768), back := sIDLET }).setSt n
        sTURN).mayShut n))) ∧
  -- RXO in IDLE_R with a profile 0 to 7: the window opens, and the search is of the profile's PHY entry and threshold
  (s.dev.due n k 4 = some a → (d.radio n).st = sIDLER → a.param < 8 → exec (.rxo n k) s = .next (s.goes
    (((d.onRadio n fun r => { r with
        win := some (a.param, d.clk), closeAfter := false, divEnded := false, divAer := none, winAer := r.aer,
        heard := none, dwellAt := d.clk, searchPhy := d.phy (fld (d.reg (R.LAN_WPROF n a.param)) 0 8)
        searchThr := fld (d.reg (R.LAN_WPROF n a.param)) 16 8 }).setSt n sRX).mayShut n)))

/-- On R38, R47, R142, R143, R243: an EVT gate posts on its channel; a turn-round or retune at its end returns to the state it
goes to; the frame-complete check of a TXS marks a ready frame, and misses the gate of one that is not ready. A TXS that the
checks pass radiates its entry, and marks its transaction radiated; one whose transaction may not start is missed and does not
radiate (how it shows is the model's choice: log 112). -/
def Obligations.GateEnds : Prop := ∀ s : State, s.live →
  (∀ (u : Fin 18) (k : Fin 16) (a : Arming), s.dev.unsettled u = false → s.dev.due u k 6 = some a →
    exec (.evt u k) s = .next (s.goes ((s.dev.fired u k a).post (a.param % 256)))) ∧
  (∀ n : Fin 17, (s.dev.radio n).st = sTURN → (s.dev.radio n).until_ ≤ s.dev.clk →
    exec (.turnRoundEnd n) s = .next (s.goes ((s.dev.setSt n (s.dev.radio n).back).mayShut n))) ∧
  (∀ n : Fin 17, (s.dev.radio n).st = sRETUNE → (s.dev.radio n).until_ ≤ s.dev.clk →
    exec (.retuneEnd n) s = .next (s.goes ((s.dev.setSt n (s.dev.radio n).back).mayShut n))) ∧
  (∀ (n k : Fin 16) (u : Fin 17) (a : Arming), u.val = n.val → s.dev.unsettled n = false → s.dev.armOf n k = some a →
    a.cls = 5 → a.checked = false → a.fire ≤ s.dev.count + 320 →
    (s.dev.entryReady n a.param = true → s.dev.mayStart a (s.dev.txent n (handleEntry a.param)).lsn = true →
      exec (.txsCheck u k) s = .next (s.goes (s.dev.checkArm n k a true))) ∧
    (s.dev.entryReady n a.param = false → exec (.txsCheck u k) s = .next (s.goes
      ((s.dev.endArming n k a 1).lateRecord
        { kind := 1, unit := n, slot := k, cls := 5, fire := a.fire, acc := s.dev.count % 2 ^ 32 })))) ∧
  -- a TXS whose frame has been checked, in IDLE_T
  (∀ (n k : Fin 16) (u : Fin 17) (a : Arming) (d d1 : Dev) (e : TxEnt), u.val = n.val → s.dev.unsettled n = false →
    s.dev.due n k 5 = some a → d = s.dev.beforeGate n → d.armOf n k = some a → a.checked = true →
    (d.radio n).st = sIDLET → e = d.txent n (handleEntry a.param) →
    -- of a transaction that may start, with no pin control, the lead, and a Seal that permits it
    (d.mayStart a e.lsn = true → d.pinControl = false → d.leadsFrame (laneHalf n) e = true →
      d.sealCheck n (chFreq (d.radio n).chw - chHalf (d.radio n).chw) (chFreq (d.radio n).chw + chHalf (d.radio n).chw)
        e.level e.airtime = none →
      d1 = ((d.fired n k a).noteFired n a).charge n (chFreq (d.radio n).chw - chHalf (d.radio n).chw)
        (chFreq (d.radio n).chw + chHalf (d.radio n).chw) e.airtime →
      exec (.txs u k) s = .next (s.goes
        (((((d1.startTx n e.airtime (handleEntry a.param)).radiate n e).markRadiated e.lsn e.fc).pmcOctets (12 + n) 2
          e.psdu.length).mayShut n))) ∧
    (d.mayStart a e.lsn = false → d.pinControl = false → d.leadsFrame (laneHalf n) e = true → exec (.txs u k) s = .next (s.goes
      ((((d.endArming n k a 1).lateRecord
        { kind := 1, unit := n, slot := k, cls := 5, fire := a.fire, acc := d.count % 2 ^ 32 }).endHold n
          (handleEntry a.param)).mayShut n))) ∧
    -- of a half that does not lead for the frame: counted in RIMX_TKREFUSE, and the gate has fired
    (d.pinControl = false → d.leadsFrame (laneHalf n) e = false →
      exec (.txs u k) s = .next (s.goes
        (((((d.fired n k a).noteFired n a).trailRefusal (laneHalf n)).endHold n (handleEntry a.param)).mayShut n))))

/-- On R54, R69, R94: the arithmetic functions on a processor that issues. Without S, rd takes the result (g0 discards it) and
every other register and flag stays; with S, NZCV is set as R94 gives it, C and V from unbounded integers. `completes` writes
the registers, retires the instruction at pc + 4 and charges its budget units. -/
def Obligations.AddSub : Prop :=
  ∀ (s : State) (p : Proc) (rd ra rb : Reg) (c : Cpu) (a b : Word) (k : Nat),
  s.live → s.dev.ready p → c = s.dev.cpu p.num → a = c.get ra → b = c.get rb → k = b2n c.flags.c →
  (exec (.add p rd ra rb false) s = .next (s.goes (s.dev.completes p (c.put rd (a + b)) 1 (c.pc + 4#32)))) ∧
  (exec (.sub p rd ra rb false) s = .next (s.goes (s.dev.completes p (c.put rd (a - b)) 1 (c.pc + 4#32)))) ∧
  (exec (.adc p rd ra rb false) s = .next (s.goes (s.dev.completes p (c.put rd (a + b + wd k)) 1 (c.pc + 4#32)))) ∧
  (exec (.sbc p rd ra rb false) s = .next (s.goes (s.dev.completes p (c.put rd (a - b - wd (1 - k))) 1 (c.pc + 4#32)))) ∧
  (∀ r, r = a + b → exec (.add p rd ra rb true) s = .next (s.goes (s.dev.completes p
    ((c.setFlags ⟨r.msb, r == 0#32, decide (2 ^ 32 ≤ a.toNat + b.toNat), a.msb == b.msb && r.msb != a.msb⟩).put rd r) 1
    (c.pc + 4#32)))) ∧
  (∀ r, r = a - b → exec (.sub p rd ra rb true) s = .next (s.goes (s.dev.completes p
    ((c.setFlags ⟨r.msb, r == 0#32, decide (b.toNat ≤ a.toNat), a.msb != b.msb && r.msb != a.msb⟩).put rd r) 1
    (c.pc + 4#32)))) ∧
  (∀ r, r = a + b + wd k → exec (.adc p rd ra rb true) s = .next (s.goes (s.dev.completes p
    ((c.setFlags ⟨r.msb, r == 0#32, decide (2 ^ 32 ≤ a.toNat + b.toNat + k), a.msb == b.msb && r.msb != a.msb⟩).put rd r) 1
    (c.pc + 4#32)))) ∧
  (∀ r, r = a - b - wd (1 - k) → exec (.sbc p rd ra rb true) s = .next (s.goes (s.dev.completes p
    ((c.setFlags ⟨r.msb, r == 0#32, decide (b.toNat + (1 - k) ≤ a.toNat), a.msb != b.msb && r.msb != a.msb⟩).put rd r) 1
    (c.pc + 4#32))))

/-- On R69, R94: the logic functions set N and Z with S, and leave C and V.
R69, R94: register shifts by n = rb[4:0]. With S, N and Z are set from the result and C is the last bit shifted out,
unchanged for n = 0; V stays. -/
def Obligations.LogicAndShifts : Prop :=
  (∀ (s : State) (p : Proc) (rd ra rb : Reg) (sf : Bool) (c : Cpu) (a b : Word) (out : Word → Cpu),
   s.live → s.dev.ready p → c = s.dev.cpu p.num → a = c.get ra → b = c.get rb →
   (out = fun r => (if sf then c.setFlags ⟨r.msb, r == 0#32, c.flags.c, c.flags.v⟩ else c).put rd r) →
   (exec (.and_ p rd ra rb sf) s = .next (s.goes (s.dev.completes p (out (a &&& b)) 1 (c.pc + 4#32)))) ∧
   (exec (.or_ p rd ra rb sf) s = .next (s.goes (s.dev.completes p (out (a ||| b)) 1 (c.pc + 4#32)))) ∧
   (exec (.xor_ p rd ra rb sf) s = .next (s.goes (s.dev.completes p (out (a ^^^ b)) 1 (c.pc + 4#32)))) ∧
   (exec (.andn p rd ra rb sf) s = .next (s.goes (s.dev.completes p (out (a &&& ~~~ b)) 1 (c.pc + 4#32)))) ∧
   (exec (.mul p rd ra rb sf) s = .next (s.goes (s.dev.completes p (out (a * b)) 2 (c.pc + 4#32))))) ∧
  (∀ (s : State) (p : Proc) (rd ra rb : Reg) (sf : Bool) (c : Cpu) (a : Word) (n : Nat) (out : Word → Bool → Cpu),
   s.live → s.dev.ready p → c = s.dev.cpu p.num → a = c.get ra → n = (c.get rb).toNat % 32 →
   (out = fun r o => (if sf then c.setFlags ⟨r.msb, r == 0#32, if n = 0 then c.flags.c else o, c.flags.v⟩ else c).put rd r) →
   (exec (.shl p rd ra rb sf) s =
     .next (s.goes (s.dev.completes p (out (a <<< n) (a.getLsbD (32 - n))) 1 (c.pc + 4#32)))) ∧
   (exec (.shr p rd ra rb sf) s =
     .next (s.goes (s.dev.completes p (out (a >>> n) (a.getLsbD (n - 1))) 1 (c.pc + 4#32)))) ∧
   (exec (.sar p rd ra rb sf) s =
     .next (s.goes (s.dev.completes p (out (a.sshiftRight n) (a.getLsbD (n - 1))) 1 (c.pc + 4#32)))) ∧
   (exec (.ror p rd ra rb sf) s =
     .next (s.goes (s.dev.completes p (out (a.rotateRight n) (a.rotateRight n).msb) 1 (c.pc + 4#32)))))

/-- On R69, R94: comparisons, minima and maxima, and the high halves of the product, none of which sets flags; S = 1 on any of
them faults with ILLEGAL.
R69: the divisions. The signed quotient goes toward zero and the signed remainder has the sign of ra; −2^31 ÷ −1 gives
−2^31, remainder 0; a zero divisor faults with DIVZ. -/
def Obligations.ComparesAndDivides : Prop :=
  (∀ (s : State) (p : Proc) (rd ra rb : Reg) (c : Cpu) (a b : Word) (done : Word → Nat → State),
   s.live → s.dev.ready p → c = s.dev.cpu p.num → a = c.get ra → b = c.get rb →
   (done = fun r n => s.goes (s.dev.completes p (c.put rd r) n (c.pc + 4#32))) →
   (exec (.slt p rd ra rb false) s = .next (done (if a.toInt < b.toInt then 1#32 else 0#32) 1)) ∧
   (exec (.sltu p rd ra rb false) s = .next (done (if a.toNat < b.toNat then 1#32 else 0#32) 1)) ∧
   (exec (.min p rd ra rb false) s = .next (done (if a.toInt < b.toInt then a else b) 1)) ∧
   (exec (.max p rd ra rb false) s = .next (done (if a.toInt < b.toInt then b else a) 1)) ∧
   (exec (.minu p rd ra rb false) s = .next (done (if a.toNat < b.toNat then a else b) 1)) ∧
   (exec (.maxu p rd ra rb false) s = .next (done (if a.toNat < b.toNat then b else a) 1)) ∧
   (exec (.mulhu p rd ra rb false) s = .next (done (wd (a.toNat * b.toNat / 2 ^ 32)) 2)) ∧
   (exec (.mulhs p rd ra rb false) s = .next (done (BitVec.ofInt 32 (a.toInt * b.toInt / 2 ^ 32)) 2)) ∧
   (exec (.slt p rd ra rb true) s = .next (s.goes (s.dev.takeFault p ILLEGAL))) ∧
   (exec (.sltu p rd ra rb true) s = .next (s.goes (s.dev.takeFault p ILLEGAL))) ∧
   (exec (.min p rd ra rb true) s = .next (s.goes (s.dev.takeFault p ILLEGAL))) ∧
   (exec (.max p rd ra rb true) s = .next (s.goes (s.dev.takeFault p ILLEGAL))) ∧
   (exec (.minu p rd ra rb true) s = .next (s.goes (s.dev.takeFault p ILLEGAL))) ∧
   (exec (.maxu p rd ra rb true) s = .next (s.goes (s.dev.takeFault p ILLEGAL))) ∧
   (exec (.mulhu p rd ra rb true) s = .next (s.goes (s.dev.takeFault p ILLEGAL))) ∧
   (exec (.mulhs p rd ra rb true) s = .next (s.goes (s.dev.takeFault p ILLEGAL)))) ∧
  (∀ (s : State) (p : Proc) (rd ra rb : Reg) (c : Cpu) (a b : Word) (done : Word → State),
   s.live → s.dev.ready p → c = s.dev.cpu p.num → a = c.get ra → b = c.get rb →
   (done = fun r => s.goes (s.dev.completes p (c.put rd r) 18 (c.pc + 4#32))) →
   (b ≠ 0#32 → exec (.divu p rd ra rb false) s = .next (done (wd (a.toNat / b.toNat)))) ∧
   (b ≠ 0#32 → exec (.remu p rd ra rb false) s = .next (done (wd (a.toNat % b.toNat)))) ∧
   (b ≠ 0#32 → exec (.divs p rd ra rb false) s = .next (done (BitVec.ofInt 32 (a.toInt.tdiv b.toInt)))) ∧
   (b ≠ 0#32 → exec (.rems p rd ra rb false) s = .next (done (BitVec.ofInt 32 (a.toInt.tmod b.toInt)))) ∧
   (b = 0#32 → exec (.divu p rd ra rb false) s = .next (s.goes (s.dev.takeFault p DIVZ))) ∧
   (b = 0#32 → exec (.remu p rd ra rb false) s = .next (s.goes (s.dev.takeFault p DIVZ))) ∧
   (b = 0#32 → exec (.divs p rd ra rb false) s = .next (s.goes (s.dev.takeFault p DIVZ))) ∧
   (b = 0#32 → exec (.rems p rd ra rb false) s = .next (s.goes (s.dev.takeFault p DIVZ))))

/-- On R69, R95: the counts of bits, whose rb is g0, and the byte permutation: selector [2] gives 0x00, otherwise [3] the sign of
the selected byte, otherwise that byte. -/
def Obligations.BitCounts : Prop :=
  ∀ (s : State) (p : Proc) (rd ra rb : Reg) (c : Cpu) (a b : Word) (done : Word → State),
  s.live → s.dev.ready p → c = s.dev.cpu p.num → a = c.get ra → b = c.get rb →
  (done = fun r => s.goes (s.dev.completes p (c.put rd r) 1 (c.pc + 4#32))) →
  -- CLZ: n leading zeros when bit 31 - n is the highest set
  (∀ n, n < 32 → a.getLsbD (31 - n) = true → (∀ i, i < n → a.getLsbD (31 - i) = false) →
    exec (.clz p rd ra 0 false) s = .next (done (wd n))) ∧
  (a = 0#32 → exec (.clz p rd ra 0 false) s = .next (done 32#32)) ∧
  -- CTZ: n trailing zeros when bit n is the lowest set
  (∀ n, n < 32 → a.getLsbD n = true → (∀ i, i < n → a.getLsbD i = false) →
    exec (.ctz p rd ra 0 false) s = .next (done (wd n))) ∧
  (a = 0#32 → exec (.ctz p rd ra 0 false) s = .next (done 32#32)) ∧
  (exec (.popc p rd ra 0 false) s = .next (done (wd ((List.range 32).filter fun i => a.getLsbD i).length))) ∧
  (∀ r : Word, (∀ i, i < 4 → byteOf r i =
      if b.getLsbD (8 * i + 2) then 0x00#8
      else if b.getLsbD (8 * i + 3) then (if (byteOf a (fld b (8 * i) 2)).msb then 0xFF#8 else 0x00#8)
      else byteOf a (fld b (8 * i) 2)) →
    exec (.bperm p rd ra rb false) s = .next (done r)) ∧
  -- a unary function with another rb faults with ILLEGAL
  (rb ≠ 0 → exec (.clz p rd ra rb false) s = .next (s.goes (s.dev.takeFault p ILLEGAL)))

/-- On R67, R68, R96: the immediate forms, imm16 sign-extended for ADDI and CMPI and zero-extended for the logic forms; none but
CMPI sets flags. CMPI sets NZCV as SUB of g[ra] and the immediate. A field that R93 reserves and that is not 0 (rd of CMPI, ra of
LUI, imm16 [15:7] of SHI) faults with ILLEGAL. -/
def Obligations.Immediates : Prop :=
  ∀ (s : State) (p : Proc) (rd ra : Reg) (imm : BitVec 16) (c : Cpu) (a : Word) (done : Cpu → State),
  s.live → s.dev.ready p → c = s.dev.cpu p.num → a = c.get ra →
  (done = fun c' => s.goes (s.dev.completes p c' 1 (c.pc + 4#32))) →
  (exec (.addi p rd ra imm) s = .next (done (c.put rd (a + imm.signExtend 32)))) ∧
  (exec (.andi p rd ra imm) s = .next (done (c.put rd (a &&& imm.zeroExtend 32)))) ∧
  (exec (.ori p rd ra imm) s = .next (done (c.put rd (a ||| imm.zeroExtend 32)))) ∧
  (exec (.xori p rd ra imm) s = .next (done (c.put rd (a ^^^ imm.zeroExtend 32)))) ∧
  (∀ n : Fin 32, exec (.shiShl p rd ra n 0) s = .next (done (c.put rd (a <<< n.val)))) ∧
  (∀ n : Fin 32, exec (.shiShr p rd ra n 0) s = .next (done (c.put rd (a >>> n.val)))) ∧
  (∀ n : Fin 32, exec (.shiSar p rd ra n 0) s = .next (done (c.put rd (a.sshiftRight n.val)))) ∧
  (∀ n : Fin 32, exec (.shiRor p rd ra n 0) s = .next (done (c.put rd (a.rotateRight n.val)))) ∧
  (∀ (n : Fin 32) (res : Fin 512), res ≠ 0 → exec (.shiShl p rd ra n res) s = .next (s.goes (s.dev.takeFault p ILLEGAL))) ∧
  (exec (.lui p rd 0 imm) s = .next (done (c.put rd (imm ++ 0#16)))) ∧
  (ra ≠ 0 → exec (.lui p rd ra imm) s = .next (s.goes (s.dev.takeFault p ILLEGAL))) ∧
  (∀ b r, b = imm.signExtend 32 → r = a - b → exec (.cmpi p 0 ra imm) s = .next (done
    (c.setFlags ⟨r.msb, r == 0#32, decide (b.toNat ≤ a.toNat), a.msb != b.msb && r.msb != a.msb⟩))) ∧
  (rd ≠ 0 → exec (.cmpi p rd ra imm) s = .next (s.goes (s.dev.takeFault p ILLEGAL)))

/-- On R70, R97: the bit fields of position pos and width w = wm1 + 1, with mask m = (2^w − 1) × 2^pos; a field that passes bit 31
faults with ILLEGAL. -/
def Obligations.BitFields : Prop :=
  ∀ (s : State) (p : Proc) (rd ra : Reg) (pos wm1 : Fin 32) (c : Cpu) (a m x : Word) (done : Word → State),
  s.live → s.dev.ready p → c = s.dev.cpu p.num → a = c.get ra →
  m = wd ((2 ^ (wm1.val + 1) - 1) * 2 ^ pos.val) → x = (a &&& m) >>> pos.val →
  (done = fun r => s.goes (s.dev.completes p (c.put rd r) 1 (c.pc + 4#32))) →
  (pos.val + wm1.val ≤ 31 →
    exec (.extu p rd ra pos wm1) s = .next (done x) ∧
    exec (.exts p rd ra pos wm1) s =
      .next (done (if x.getLsbD wm1.val then x ||| ~~~ wd (2 ^ (wm1.val + 1) - 1) else x)) ∧
    exec (.ins p rd ra pos wm1) s = .next (done ((c.get rd &&& ~~~ m) ||| ((a <<< pos.val) &&& m))) ∧
    exec (.clrf p rd ra pos wm1) s = .next (done (a &&& ~~~ m))) ∧
  (31 < pos.val + wm1.val →
    exec (.extu p rd ra pos wm1) s = .next (s.goes (s.dev.takeFault p ILLEGAL)) ∧
    exec (.exts p rd ra pos wm1) s = .next (s.goes (s.dev.takeFault p ILLEGAL)) ∧
    exec (.ins p rd ra pos wm1) s = .next (s.goes (s.dev.takeFault p ILLEGAL)) ∧
    exec (.clrf p rd ra pos wm1) s = .next (s.goes (s.dev.takeFault p ILLEGAL)))

/-- On R98: a load from memory that the processor's view permits, free of double-bit errors (a single-bit error is corrected
and the octets count as traffic, `loaded`): the octets at g[ra] + imm, little-endian, extended as the mnemonic says. R60: a
misaligned address faults with ALIGN. -/
def Obligations.Loads : Prop :=
  ∀ (s : State) (p : Proc) (rd ra : Reg) (imm : BitVec 16) (c : Cpu) (ea : Word) (f : Nat) (done : Nat → Word → State),
  s.live → s.dev.ready p → c = s.dev.cpu p.num → ea = c.get ra + imm.signExtend 32 →
  (done = fun n r => s.goes ((s.dev.loaded f n).completes p (((s.dev.loaded f n).cpu p.num).put rd r) 1
    (((s.dev.loaded f n).cpu p.num).pc + 4#32))) →
  (s.dev.place p c.sup ea 4 kLoad = .ok (.mem f) → s.dev.eccBad f 4 = false →
    exec (.ldw p rd ra imm) s = .next (done 4 (s.dev.rd32 f))) ∧
  (s.dev.place p c.sup ea 2 kLoad = .ok (.mem f) → s.dev.eccBad f 2 = false →
    exec (.ldh p rd ra imm) s = .next (done 2 ((s.dev.rd16 f).signExtend 32)) ∧
    exec (.ldhu p rd ra imm) s = .next (done 2 ((s.dev.rd16 f).zeroExtend 32))) ∧
  (s.dev.place p c.sup ea 1 kLoad = .ok (.mem f) → s.dev.eccBad f 1 = false →
    exec (.ldb p rd ra imm) s = .next (done 1 ((s.dev.rd8 f).signExtend 32)) ∧
    exec (.ldbu p rd ra imm) s = .next (done 1 ((s.dev.rd8 f).zeroExtend 32))) ∧
  (ea.toNat % 4 ≠ 0 → exec (.ldw p rd ra imm) s = .next (s.goes (s.dev.takeFault p (ALIGN ea)))) ∧
  (ea.toNat % 2 ≠ 0 → exec (.ldh p rd ra imm) s = .next (s.goes (s.dev.takeFault p (ALIGN ea))) ∧
    exec (.ldhu p rd ra imm) s = .next (s.goes (s.dev.takeFault p (ALIGN ea))))

/-- On R98: a store to memory that the processor's view permits writes the low octets of g[rd] at g[ra] + imm, little-endian, and
nothing else but the processor's own progress (and the octets count as traffic, and in MRAM no FENCE has followed: log entry
103); R60: a misaligned address faults with ALIGN. -/
def Obligations.Stores : Prop :=
  ∀ (s : State) (p : Proc) (rd ra : Reg) (imm : BitVec 16) (c : Cpu) (ea v : Word) (f : Nat) (done : List Byte → State),
  s.live → s.dev.ready p → c = s.dev.cpu p.num → ea = c.get ra + imm.signExtend 32 → v = c.get rd →
  (done = fun l => s.goes (((s.dev.stored f l).retire p.num 1 (c.pc + 4#32)).stepEnd p.num)) →
  (s.dev.place p c.sup ea 4 kStore = .ok (.mem f) →
    exec (.stw p rd ra imm) s = .next (done [byteOf v 0, byteOf v 1, byteOf v 2, byteOf v 3])) ∧
  (s.dev.place p c.sup ea 2 kStore = .ok (.mem f) →
    exec (.sth p rd ra imm) s = .next (done [byteOf v 0, byteOf v 1])) ∧
  (s.dev.place p c.sup ea 1 kStore = .ok (.mem f) → exec (.stb p rd ra imm) s = .next (done [byteOf v 0])) ∧
  (ea.toNat % 4 ≠ 0 → exec (.stw p rd ra imm) s = .next (s.goes (s.dev.takeFault p (ALIGN ea)))) ∧
  (ea.toNat % 2 ≠ 0 → exec (.sth p rd ra imm) s = .next (s.goes (s.dev.takeFault p (ALIGN ea))))

/-- On R99 to R101: pairs with an even rd, in memory; CAS, which stores rb where the word equals rd and gives the old word, Z
alone set with S; FENCE, which makes Custody's MRAM stores durable (R62); and SYNCI, after which fetch sees the region
registers as written. An odd rd of a pair and a reserved
field that is not 0 fault with ILLEGAL. -/
def Obligations.PairsAndCas : Prop :=
  ∀ (s : State) (p : Proc) (rd ra rb : Reg) (imm : BitVec 16) (c : Cpu) (ea : Word) (f : Nat),
  s.live → s.dev.ready p → c = s.dev.cpu p.num → ea = c.get ra + imm.signExtend 32 →
  (∀ f' d, rd.val % 2 = 0 → s.dev.ecc1 = [] → s.dev.eccBad f 4 = false → s.dev.eccBad f' 4 = false →
    s.dev.place p c.sup ea 4 kLoad = .ok (.mem f) → s.dev.place p c.sup (ea + 4#32) 4 kLoad = .ok (.mem f') →
    d = (s.dev.loaded f 4).loaded f' 4 → exec (.ldp p rd ra imm) s = .next (s.goes (d.completes p
      ((c.put rd (s.dev.rd32 f)).put (rd + 1) (s.dev.rd32 f')) 2 (c.pc + 4#32)))) ∧
  (∀ f', rd.val % 2 = 0 →
    s.dev.place p c.sup ea 4 kStore = .ok (.mem f) → s.dev.place p c.sup (ea + 4#32) 4 kStore = .ok (.mem f') →
    exec (.stp p rd ra imm) s = .next (s.goes ((((s.dev.stored f (natBytes 4 (c.get rd).toNat)).stored f'
      (natBytes 4 (c.get (rd + 1)).toNat)).retire p.num 2 (c.pc + 4#32)).stepEnd p.num))) ∧
  (rd.val % 2 = 1 → exec (.ldp p rd ra imm) s = .next (s.goes (s.dev.takeFault p ILLEGAL)) ∧
    exec (.stp p rd ra imm) s = .next (s.goes (s.dev.takeFault p ILLEGAL))) ∧
  (∀ sf old, s.dev.ecc1 = [] → s.dev.eccBad f 4 = false → s.dev.place p c.sup (c.get ra) 4 kCas = .ok (.mem f) →
    old = s.dev.rd32 f → old ≠ c.get rd → exec (.cas p rd ra rb sf 0) s = .next (s.goes ((s.dev.loaded f 4).completes p
      ((if sf then c.setFlags { c.flags with z := false } else c).put rd old) 4 (c.pc + 4#32)))) ∧
  (∀ d, s.dev.ecc1 = [] → s.dev.eccBad f 4 = false → s.dev.place p c.sup (c.get ra) 4 kCas = .ok (.mem f) →
    s.dev.rd32 f = c.get rd → d = (s.dev.loaded f 4).stored f (natBytes 4 (c.get rb).toNat) →
    exec (.cas p rd ra rb true 0) s = .next (s.goes (d.completes p
      ((c.setFlags { c.flags with z := true }).put rd (c.get rd)) 4 (c.pc + 4#32)))) ∧
  (∀ d, d = (if p = .custody then { s.dev with unfenced := [] } else s.dev) →
    exec (.fence p 0#26) s = .next (s.goes ((d.retire p.num 24 (c.pc + 4#32)).stepEnd p.num))) ∧
  (isEng p = false → exec (.synci p 0#26) s = .next (s.goes (s.dev.completes p
    { c with fetchRegions := c.ctl.filter fun e => decide (32 ≤ e.1) } 1 (c.pc + 4#32)))) ∧
  (∀ rest : BitVec 26, rest ≠ 0#26 → exec (.fence p rest) s = .next (s.goes (s.dev.takeFault p ILLEGAL)) ∧
    exec (.synci p rest) s = .next (s.goes (s.dev.takeFault p ILLEGAL)))

/-- On R71, R102, R103: branches. BC goes to pc + 4 × offset when the condition holds and to pc + 4 otherwise; condition 15 faults
with ILLEGAL. JMP goes to pc + 4 × offset; JMPR goes to g[ra] with the link in rd, and a target that is not a multiple of 4
faults with ALIGN at the jump. -/
def Obligations.Branches : Prop :=
  ∀ (s : State) (p : Proc) (c : Cpu) (f : Nzcv), s.live → s.dev.ready p → c = s.dev.cpu p.num → f = c.flags →
  (∀ (cond : Fin 16) (off : BitVec 22) (holds : Bool),
    [f.z, !f.z, f.c, !f.c, f.n, !f.n, f.v, !f.v, f.c && !f.z, !f.c || f.z, f.n == f.v, f.n != f.v, !f.z && f.n == f.v,
      f.z || f.n != f.v, true][cond.val]? = some holds →
    exec (.bc p cond off) s = .next (s.goes ((s.dev.retire p.num 1
      (if holds then c.pc + off.signExtend 32 * 4#32 else c.pc + 4#32)).stepEnd p.num))) ∧
  (∀ off : BitVec 22, exec (.bc p 15 off) s = .next (s.goes (s.dev.takeFault p ILLEGAL))) ∧
  (∀ off : BitVec 26, exec (.jmp p off) s = .next (s.goes ((s.dev.retire p.num 1
    (c.pc + off.signExtend 32 * 4#32)).stepEnd p.num))) ∧
  (∀ (rd ra : Reg), (c.get ra).toNat % 4 = 0 → exec (.jmpr p rd ra 0#16) s =
    .next (s.goes (s.dev.completes p (c.put rd (c.pc + 4#32)) 1 (c.get ra)))) ∧
  (∀ (rd ra : Reg), (c.get ra).toNat % 4 ≠ 0 → exec (.jmpr p rd ra 0#16) s =
    .next (s.goes (s.dev.takeFault p { code := 3, fetch := true, addr := c.get ra }))) ∧
  (∀ (rd ra : Reg) (rest : BitVec 16), rest ≠ 0#16 → exec (.jmpr p rd ra rest) s = .next (s.goes (s.dev.takeFault p ILLEGAL)))

/-- On R73 to R75: the mask calls store the return address, the marker 0xA500 with the mask, and g30 below the stack pointer, then
the registers of the mask from the highest (`callFrame`); g30 goes to sp − 12 and g31 below the frame. A frame that would pass
the stack's lower bound faults with STACK. RETM loads the header, and a header without the marker faults with FRAME; with it,
the registers, g30 and the return address are loaded and g31 goes to g30 + 12. Both complete on every frame that lies in
permitted memory. -/
def Obligations.Calls : Prop :=
  ∀ (s : State) (p : Proc) (c : Cpu) (sp : Word) (d : Dev) (v : Word),
  s.live → s.dev.ready p → c = s.dev.cpu p.num → sp = c.get 31 →
  (∀ (disp : BitVec 10) (mask : BitVec 16) (n : Nat), n = (maskRegs mask).length → sp.toNat % 4 = 0 →
    s.dev.stackLow p + (12 + 4 * n) ≤ sp.toNat → s.dev.storeWords p (callFrame c c.pc sp mask) = .ok d v →
    exec (.callm p disp mask) s = .next (s.goes (d.completes p
      (((d.cpu p.num).put 30 (sp - 12#32)).put 31 (sp - wd (12 + 4 * n))) (3 + n)
      ((c.pc &&& 0xFFFFFFF0#32) + disp.signExtend 32 * 16#32)))) ∧
  (∀ (ra : Reg) (mask : BitVec 16) (n : Nat), n = (maskRegs mask).length → sp.toNat % 4 = 0 → (c.get ra).toNat % 4 = 0 →
    s.dev.stackLow p + (12 + 4 * n) ≤ sp.toNat → s.dev.storeWords p (callFrame c c.pc sp mask) = .ok d v →
    exec (.callmr p ra 0 mask) s = .next (s.goes (d.completes p
      (((d.cpu p.num).put 30 (sp - 12#32)).put 31 (sp - wd (12 + 4 * n))) (3 + n) (c.get ra)))) ∧
  (∀ (disp : BitVec 10) (mask : BitVec 16), sp.toNat < s.dev.stackLow p + (12 + 4 * (maskRegs mask).length) →
    exec (.callm p disp mask) s = .next (s.goes (s.dev.takeFault p STACK))) ∧
  -- where every word of the frame lies in memory that the processor's view permits, both calls complete
  (∀ (mask : BitVec 16) (n : Nat), n = (maskRegs mask).length → sp.toNat % 4 = 0 → s.dev.stackLow p + (12 + 4 * n) ≤ sp.toNat →
    (∀ x, x ∈ callFrame c c.pc sp mask → ∃ f, s.dev.place p c.sup x.1 4 kStore = .ok (.mem f)) →
    ∃ d', s.dev.storeWords p (callFrame c c.pc sp mask) = .ok d' 0#32 ∧
      (∀ disp : BitVec 10, exec (.callm p disp mask) s = .next (s.goes (d'.completes p
        (((d'.cpu p.num).put 30 (sp - 12#32)).put 31 (sp - wd (12 + 4 * n))) (3 + n)
        ((c.pc &&& 0xFFFFFFF0#32) + disp.signExtend 32 * 16#32)))) ∧
      (∀ ra : Reg, (c.get ra).toNat % 4 = 0 → exec (.callmr p ra 0 mask) s = .next (s.goes (d'.completes p
        (((d'.cpu p.num).put 30 (sp - 12#32)).put 31 (sp - wd (12 + 4 * n))) (3 + n) (c.get ra))))) ∧
  (∀ hdr, (c.get 30).toNat % 4 = 0 → (c.get 30).toNat + 12 ≤ s.dev.stackHigh p →
    s.dev.loadWords p [c.get 30 + 4#32] = .ok d [hdr] → fld hdr 16 16 ≠ 0xA500 →
    exec (.retm p 0#26) s = .next (s.goes (s.dev.takeFault p FRAME))) ∧
  -- a frame that saved no register of the mask
  (∀ hdr d' g30 ret, (c.get 30).toNat % 4 = 0 → (c.get 30).toNat + 12 ≤ s.dev.stackHigh p →
    s.dev.loadWords p [c.get 30 + 4#32] = .ok d [hdr] → hdr = 0xA5000000#32 →
    d.loadWords p [c.get 30 + 8#32, c.get 30] = .ok d' [ret, g30] →
    exec (.retm p 0#26) s = .next (s.goes (d'.completes p (((d'.cpu p.num).put 30 g30).put 31 (c.get 30 + 12#32)) 3 ret))) ∧
  -- any frame, all of whose words lie in memory free of uncorrectable errors that the processor's view permits; `d` is the
  -- device once the header has been loaded and its traffic counted (R403)
  (∀ (mask : BitVec 16) (regs : List Nat) (l : List Word) (f : Nat), regs = maskRegs mask →
    l = (regs.mapIdx fun i _ => c.get 30 - 4#32 - wd (4 * i)) ++ [c.get 30 + 8#32, c.get 30] → s.dev.ecc2 = [] →
    (c.get 30).toNat % 4 = 0 → (c.get 30).toNat + 12 ≤ s.dev.stackHigh p →
    s.dev.place p c.sup (c.get 30 + 4#32) 4 kLoad = .ok (.mem f) → s.dev.rd32 f = 0xA500#16 ++ mask → d = s.dev.loaded f 4 →
    (∀ a, a ∈ l → ∃ f, d.place p c.sup a 4 kLoad = .ok (.mem f)) →
    ∃ d' vs, d.loadWords p l = .ok d' vs ∧ vs.length = regs.length + 2 ∧
      exec (.retm p 0#26) s = .next (s.goes (d'.completes p
        ((((regs.zip vs).foldl (fun c x => c.put x.1 x.2) (d'.cpu p.num)).put 30 (vs.getD (regs.length + 1) 0#32)).put 31
          (c.get 30 + 12#32)) (3 + regs.length) (vs.getD regs.length 0#32))))

/-- On R104 to R109, R126: the gate and time instructions. On a ready engine ARMG and DISG answer slot and code as R104 and R106
give them, once the unit's requests of this tick before theirs have been taken and its domain is not about to stop; WAITG
completes at once for a unit not open (7) or a free slot (its last outcome), and otherwise binds to the arming, and the wait
completes when that arming's outcome becomes visible. RDTS reads the count into a pair; SWP without a pending handover costs 4
units and goes on, and with one parks the engine (R89). A reserved field is ILLEGAL, as are ARMG, DISG, WAITG and SWP on a Main
Processor or Custody. -/
def Obligations.GateInstructions : Prop :=
  ∀ (s : State) (e : Fin 64) (c : Cpu) (rd ra rb : Reg), s.live → c = s.dev.cpu e.val →
  -- ARMG and DISG before the unit takes them (R105, R350; log 102, 118)
  (∀ (unit : Fin 32) (cls : Fin 8), s.dev.ready (.eng e) →
    s.dev.overtaken (.eng e) unit = true ∨ (unit.val < 18 ∧ s.dev.pdPrep (guPd unit) = true) →
    (ra.val % 2 = 0 → exec (.armg (.eng e) rd ra rb cls unit 0) s = .next (s.goes s.dev)) ∧
    exec (.disg (.eng e) rd 0 rb 0 unit 0) s = .next (s.goes s.dev)) ∧
  -- ARMG, with or without a predecessor, and DISG, taken at once
  (∀ (unit : Fin 32), s.dev.ready (.eng e) → s.dev.overtaken (.eng e) unit = false →
    (unit.val < 18 → s.dev.pdPrep (guPd unit) = false) →
    (∀ (cls : Fin 8) (w : Word) (fire : Nat) (x : Dev × Nat × Nat), ra.val % 2 = 0 → w = c.get rb →
      fire = (c.get ra).toNat + 2 ^ 32 * (c.get (ra.val + 1)).toNat →
      x = s.dev.arm (.eng e) unit cls fire (fld w 0 16) (if bitOf w 27 then some (fld w 28 4) else none) →
      exec (.armg (.eng e) rd ra rb cls unit 0) s = .next (s.goes (x.1.completes (.eng e)
        ((x.1.cpu e.val).put rd (pack [(4, x.2.1), (0, x.2.2)])) 4 ((x.1.cpu e.val).pc + 4#32)))) ∧
    (∀ (k : Nat) (x : Dev × Nat), k = fld (c.get rb) 4 4 → x = s.dev.disarm (.eng e) unit k →
      exec (.disg (.eng e) rd 0 rb 0 unit 0) s = .next (s.goes (x.1.completes (.eng e)
        ((x.1.cpu e.val).put rd (pack [(4, k), (0, x.2)])) 4 ((x.1.cpu e.val).pc + 4#32))))) ∧
  -- an odd ra, and a reserved field
  (∀ (cls res : Fin 8) (unit : Fin 32), s.dev.ready (.eng e) →
    (res ≠ 0 ∨ ra.val % 2 = 1 →
      exec (.armg (.eng e) rd ra rb cls unit res) s = .next (s.goes (s.dev.takeFault (.eng e) ILLEGAL))) ∧
    (res ≠ 0 ∨ cls ≠ 0 ∨ ra ≠ 0 →
      exec (.disg (.eng e) rd ra rb cls unit res) s = .next (s.goes (s.dev.takeFault (.eng e) ILLEGAL)))) ∧
  -- WAITG, once the cancellations of its unit have been brought up to the count (`d`)
  (∀ (imm : BitVec 16) (d : Dev) (k : Nat), s.dev.ready (.eng e) → d = s.dev.settle imm.toNat → k = fld (c.get ra) 4 4 →
    (32 ≤ imm.toNat → exec (.waitg (.eng e) rd ra imm) s = .next (s.goes (s.dev.takeFault (.eng e) ILLEGAL))) ∧
    (imm.toNat < 18 → d.pdPrep (guPd imm.toNat) = true → exec (.waitg (.eng e) rd ra imm) s = .next (s.goes d)) ∧
    (imm.toNat < 32 → (imm.toNat < 18 → d.pdPrep (guPd imm.toNat) = false) →
      (18 ≤ imm.toNat ∨ d.unitOpen (.eng e) imm.toNat = false ∨ d.pdRun (guPd imm.toNat) = false) →
      exec (.waitg (.eng e) rd ra imm) s = .next (s.goes (d.completes (.eng e)
        { (d.cpu e.val).put rd 7#32 with units := 0 } 0 ((d.cpu e.val).pc + 4#32)))) ∧
    (imm.toNat < 18 → d.pdPrep (guPd imm.toNat) = false → d.unitOpen (.eng e) imm.toNat = true →
      d.pdRun (guPd imm.toNat) = true →
      (∀ a, d.armOf imm.toNat k = some a →
        exec (.waitg (.eng e) rd ra imm) s = .next (s.goes (d.beginWait e.val (.gate rd a.id)))) ∧
      (d.armOf imm.toNat k = none → exec (.waitg (.eng e) rd ra imm) s = .next (s.goes (d.completes (.eng e)
        { (d.cpu e.val).put rd (wd (d.slot imm.toNat k).last) with units := 0 } 0 ((d.cpu e.val).pc + 4#32)))))) ∧
  -- the end of a wait: with the outcome once it is visible; nothing before, or for an engine that does not wait so
  (∀ (wrd : Reg) (id : Nat) (d : Dev), c.wait = .gate wrd id → d = s.dev.forEach (List.range 18) (fun d u => d.settle u) →
    (∀ o, d.outcome id = some o →
      exec (.waitgOutcome e) s = .next (s.goes (d.finishWait e.val 0 fun c => c.put wrd.val (wd o)))) ∧
    (d.outcome id = none → exec (.waitgOutcome e) s = .next (s.goes d))) ∧
  (c.wait = .none → exec (.waitgOutcome e) s = .next (s.goes s.dev)) ∧
  (∀ p : Proc, s.dev.ready p → rd.val % 2 = 0 → exec (.rdts p rd 0#21) s = .next (s.goes (s.dev.completes p
    (((s.dev.cpu p.num).put rd (wd s.dev.count)).put (rd.val + 1) (wd (s.dev.count / 2 ^ 32))) 4
    ((s.dev.cpu p.num).pc + 4#32)))) ∧
  -- SWP with nothing pending, with a handover pending, and with a resume address outside instruction memory
  (∀ imm, s.dev.ready (.eng e) → s.dev.hoPending e.val = none → exec (.swp (.eng e) 0 0 imm) s =
    .next (s.goes (s.dev.completes (.eng e) { c with units := 0 } 4 (c.pc + 4#32)))) ∧
  (∀ imm x r, s.dev.ready (.eng e) → s.dev.hoPending e.val = some x → r = c.pc + imm.signExtend 32 * 4#32 →
    (r.toNat < 0x4000 → exec (.swp (.eng e) 0 0 imm) s = .next (s.goes (s.dev.park e.val x r))) ∧
    (0x4000 ≤ r.toNat → exec (.swp (.eng e) 0 0 imm) s = .next (s.goes (s.dev.takeFault (.eng e) (ACCESS r))))) ∧
  (∀ imm, s.dev.ready (.eng e) → rd ≠ 0 ∨ ra ≠ 0 →
    exec (.swp (.eng e) rd ra imm) s = .next (s.goes (s.dev.takeFault (.eng e) ILLEGAL))) ∧
  (∀ (p : Proc) (cls res : Fin 8) (unit : Fin 32) (imm : BitVec 16), isEng p = false → s.dev.ready p →
    exec (.armg p rd ra rb cls unit res) s = .next (s.goes (s.dev.takeFault p ILLEGAL)) ∧
    exec (.disg p rd ra rb cls unit res) s = .next (s.goes (s.dev.takeFault p ILLEGAL)) ∧
    exec (.waitg p rd ra imm) s = .next (s.goes (s.dev.takeFault p ILLEGAL)) ∧
    exec (.swp p rd ra imm) s = .next (s.goes (s.dev.takeFault p ILLEGAL)))

/-- On R110 to R113, R151, R184, R207, R222: LIN and LOUT move a word through a port of the role, wait on an empty or full queue,
and fault with IOPORT where the role has no such port; a wait ends when its queue has the word or the space. The ports of every
role are listed: each word, each queue with a word and without, and the ports it does not have. On a Main Processor or Custody
both are ILLEGAL. EVPOST posts for a granted channel (0), and answers 1 otherwise; EVWAIT clears a set latch and answers the
overrun flag, answers 2 for a channel the processor does not consume, and otherwise waits. -/
def Obligations.PortsAndEvents : Prop :=
  ∀ (s : State) (p : Proc) (c : Cpu) (rd ra : Reg) (imm : BitVec 16), s.live → c = s.dev.cpu p.num →
  (∀ e : Fin 64, p = .eng e → s.dev.ready p → ∀ q, q = (c.get ra + imm.signExtend 32).toNat % 65536 →
    (∀ d v, s.dev.portIn e q = .ok d v → exec (.lin p rd ra imm) s =
      .next (s.goes (d.completes p ((d.cpu p.num).put rd v) 4 ((d.cpu p.num).pc + 4#32)))) ∧
    (s.dev.portIn e q = .wait → exec (.lin p rd ra imm) s =
      .next (s.goes (s.dev.beginWait e (.portIn rd q)))) ∧
    (s.dev.portIn e q = .ioport → exec (.lin p rd ra imm) s = .next (s.goes (s.dev.takeFault p IOPORT))) ∧
    (∀ d v, s.dev.portOut e q (c.get rd) = .ok d v → exec (.lout p rd ra imm) s =
      .next (s.goes ((d.retire e 4 ((d.cpu e).pc + 4#32)).stepEnd e))) ∧
    (s.dev.portOut e q (c.get rd) = .wait → exec (.lout p rd ra imm) s =
      .next (s.goes (s.dev.beginWait e (.portOut q (c.get rd))))) ∧
    (s.dev.portOut e q (c.get rd) = .ioport → exec (.lout p rd ra imm) s =
      .next (s.goes (s.dev.takeFault p IOPORT)))) ∧
  (isEng p = false → s.dev.ready p →
    exec (.lin p rd ra imm) s = .next (s.goes (s.dev.takeFault p ILLEGAL)) ∧
    exec (.lout p rd ra imm) s = .next (s.goes (s.dev.takeFault p ILLEGAL))) ∧
  -- the end of a queue wait: with the word or the space; nothing before, or for an engine that does not wait so
  (∀ (e : Fin 64) (q : Nat), p = .eng e →
    (∀ d v, c.wait = .portIn rd q → s.dev.portIn e q = .ok d v →
      exec (.queueWaitEnd e) s = .next (s.goes (d.finishWait e 4 fun c => c.put rd.val v))) ∧
    (∀ d v w, c.wait = .portOut q w → s.dev.portOut e q w = .ok d v →
      exec (.queueWaitEnd e) s = .next (s.goes (d.finishWait e 4 id))) ∧
    (c.wait = .portIn rd q → s.dev.portIn e q = .wait → exec (.queueWaitEnd e) s = .next (s.goes s.dev)) ∧
    (∀ w, c.wait = .portOut q w → s.dev.portOut e q w = .wait → exec (.queueWaitEnd e) s = .next (s.goes s.dev)) ∧
    (c.wait = .none → exec (.queueWaitEnd e) s = .next (s.goes s.dev))) ∧
  -- the ports of a lane sequencer, unless its lane's domain is about to stop
  (∀ (e : Fin 64) (r : Radio) (n : Nat), s.dev.roleKind e = 1 → n = s.dev.roleRes e → r = s.dev.radio n →
    s.dev.pdPrep (16 + n % 16) = false →
    (∀ x ∈ [(0x0000, s.dev, s.dev.reg (R.LAN_STATUS n)),
        (0x0001, s.dev.setReg (portCopy (R.LAN_REFUSE n)) 0#32, s.dev.reg (portCopy (R.LAN_REFUSE n))),
        (0x0002, s.dev.setReg (portCopy (R.LAN_DENY n)) 0#32, s.dev.reg (portCopy (R.LAN_DENY n))),
        (0x1001, s.dev, cnt16 r.rxq.length), (0x2003, s.dev, cnt16 r.filled.length),
        (0x2002, s.dev, wd ((List.range 64).filter fun h => (s.dev.txent n h).fill == 0).length),
        (0x2004, s.dev, wd (s.dev.txFreeBlocks n)), (0x3001, s.dev, wd r.capq.length),
        (0x4000, s.dev, wd (s.dev.laneTimer n)), (0x4001, s.dev, r.lt0), (0x4002, s.dev, wd (s.dev.laneTimer n)),
        (0x4003, s.dev, r.lt1), (0x4004, s.dev, wd r.ltctl)],
      s.dev.portIn e x.1 = .ok x.2.1 x.2.2) ∧
    (∀ w l, r.rxq = w :: l → s.dev.portIn e 0x1000 = .ok (s.dev.setRadio n { r with rxq := l }) w) ∧
    (∀ w l, r.filled = w :: l → s.dev.portIn e 0x2000 = .ok (s.dev.setRadio n { r with filled := l }) w) ∧
    (∀ w u l, r.capq = (w :: u) :: l → s.dev.portIn e 0x3000 =
      .ok (s.dev.setRadio n { r with capq := if u = [] then l else u :: l }) w) ∧
    (r.rxq = [] → s.dev.portIn e 0x1000 = .wait) ∧ (r.filled = [] → s.dev.portIn e 0x2000 = .wait) ∧
    (r.capq = [] → s.dev.portIn e 0x3000 = .wait) ∧
    (∀ v : Word, ∀ x ∈ [(0x2001, s.dev.releaseEntry n (fld v 0 16)),
        (0x4001, s.dev.setRadio n { r with
          lt0 := v, lt0At := s.dev.clk, lt0Old := if r.lt0At = s.dev.clk then r.lt0Old else r.lt0 }),
        (0x4003, s.dev.setRadio n { r with
          lt1 := v, lt1At := s.dev.clk, lt1Old := if r.lt1At = s.dev.clk then r.lt1Old else r.lt1 }),
        (0x4004, s.dev.setRadio n { r with ltctl := fld v 0 2 })], s.dev.portOut e x.1 v = .ok x.2 0#32) ∧
    (∀ q, 0x5000 ≤ q → q < 0x10000 → s.dev.portIn e q = .ioport ∧ ∀ v, s.dev.portOut e q v = .ioport) ∧
    (∀ v, s.dev.portOut e 0 v = .ioport ∧ s.dev.portOut e 0x1000 v = .ioport) ∧ s.dev.portIn e 0x2001 = .ioport) ∧
  -- the ports of an ACR post-processing role
  (∀ (e : Fin 64) (g key : Nat), s.dev.roleKind e = 2 → g = s.dev.roleRes e → key = 16 * engHalf e + g →
    s.dev.pdPrep (portPd 2 g) = false →
    (∀ w l, s.dev.acrQueue (engHalf e) g = w :: l →
      s.dev.portIn e 0x8000 = .ok { s.dev with acrq := tput nilDflt s.dev.acrq key l } w) ∧
    (s.dev.acrQueue (engHalf e) g = [] → s.dev.portIn e 0x8000 = .wait) ∧
    s.dev.portIn e 0x8001 = .ok s.dev (wd (s.dev.acrQueue (engHalf e) g).length) ∧
    s.dev.portIn e 0x8002 = .ok { s.dev with acrDrops := tput zeroDflt s.dev.acrDrops key 0 }
      (wd (tget zeroDflt s.dev.acrDrops key)) ∧
    (∀ i < 16, s.dev.portIn e (0x9000 + i) =
      .ok s.dev (s.dev.reg (R.ACRK_STATUS (groupChan g i).1 (groupChan g i).2))) ∧
    s.dev.portIn e 0x9011 = .ok s.dev (s.dev.reg (R.ACR_CLEANAFTER (groupChan g 0).1)) ∧
    (∀ q < 0x10000, ∀ v, s.dev.portOut e q v = .ioport)) ∧
  -- the ports of a MAC timing role
  (∀ (e : Fin 64) (h res b : Nat), s.dev.roleKind e = 3 → h = engHalf e → res = s.dev.roleRes e → b = roleBank h res →
    s.dev.pdPrep 4 = false →
    (∀ w u l, s.dev.evq h = (w :: u) :: l →
      s.dev.portIn e 0xC000 = .ok (s.dev.setEvq h (if u = [] then l else u :: l)) w) ∧
    (s.dev.evq h = [] → s.dev.portIn e 0xC000 = .wait) ∧
    s.dev.portIn e 0xC001 = .ok s.dev (wd (recWords (s.dev.evq h))) ∧
    (∀ i < 4, s.dev.portIn e (0xC004 + i) = .ok s.dev (s.dev.reg (bankKey b (R.MAC_NTARG i)))) ∧
    (∀ w l, tget nilDflt s.dev.mac.ntrq (b - 70) = w :: l → s.dev.portIn e 0xC008 =
      .ok { s.dev with mac := { s.dev.mac with ntrq := tput nilDflt s.dev.mac.ntrq (b - 70) l } } w) ∧
    (tget nilDflt s.dev.mac.ntrq (b - 70) = [] → s.dev.portIn e 0xC008 = .wait) ∧
    (∀ i < 6, s.dev.portIn e (0xC00C + i) = .ok s.dev (s.dev.reg (bankKey b (R.MAC_NTOUT i)))) ∧
    (∀ v : Word, s.dev.portOut e 0xC002 v = .ok (s.dev.ntCommand b h (fld v 0 4)) 0#32) ∧
    (∀ v : Word, s.dev.planRoom h res = true →
      s.dev.portOut e 0xC003 v = .ok (s.dev.planWord h res (s.dev.f (R.WEN_STATUS e) 24 4) v) 0#32) ∧
    (∀ v : Word, s.dev.planRoom h res = false → s.dev.portOut e 0xC003 v = .wait) ∧
    (∀ i < 4, ∀ v : Word, s.dev.portOut e (0xC004 + i) v = .ok (s.dev.setReg (bankKey b (R.MAC_NTARG i)) v) 0#32)) ∧
  -- the ports of the trunk role: words at once, queues of the leading half's role (R111, R207; log 118)
  (∀ (e : Fin 64) (t : Trunk), s.dev.roleKind e = 4 → t = s.dev.trunk → s.dev.pdPrep 12 = false →
    s.dev.portIn e 0xA004 = .ok s.dev (setFld (s.dev.reg R.TRK_STATUS) 16 8 s.dev.station) ∧
    s.dev.portIn e 0xA005 = .ok s.dev (pack [(24, 32 - t.txd.length), (16, min 255 t.txc.length),
      (8, 32 - t.rxb.length), (0, min 255 t.rxr.length)]) ∧
    (t.txc = [] → s.dev.portIn e 0xA001 = .wait) ∧ (t.rxr = [] → s.dev.portIn e 0xA003 = .wait) ∧
    (s.dev.leader ≠ engHalf e → s.dev.portIn e 0xA001 = .wait ∧ s.dev.portIn e 0xA003 = .wait ∧
      ∀ v, s.dev.portOut e 0xA000 v = .wait ∧ s.dev.portOut e 0xA002 v = .wait) ∧
    (s.dev.leader = engHalf e →
      (∀ w l, t.txc = w :: l → s.dev.portIn e 0xA001 = .ok { s.dev with trunk := { t with txc := l } } w) ∧
      (∀ w u l, t.rxr = (w :: u) :: l → s.dev.portIn e 0xA003 =
        .ok { s.dev with trunk := { t with rxr := if u = [] then l else u :: l } } w) ∧
      (∀ (v : Word) (l : List Word), t.txd.length < 32 → l = s.dev.partWords 8 ++ [v] →
        (l.length < 4 → s.dev.portOut e 0xA000 v = .ok (s.dev.setPart 8 l) 0#32) ∧
        (4 ≤ l.length → s.dev.portOut e 0xA000 v =
          .ok { s.dev.setPart 8 [] with trunk := { t with txd := t.txd ++ [l] } } 0#32)) ∧
      (∀ v : Word, t.rxb.length < 32 →
        (s.dev.partWords 9 = [] → s.dev.portOut e 0xA002 v = .ok (s.dev.setPart 9 [v]) 0#32) ∧
        (∀ w l, s.dev.partWords 9 = w :: l → s.dev.portOut e 0xA002 v =
          .ok { s.dev.setPart 9 [] with trunk := { t with rxb := t.rxb ++ [(w, v)] } } 0#32)) ∧
      (∀ v, 32 ≤ t.txd.length → s.dev.portOut e 0xA000 v = .wait) ∧
      (∀ v, 32 ≤ t.rxb.length → s.dev.portOut e 0xA002 v = .wait))) ∧
  -- an engine without a role has no port
  (∀ e : Fin 64, s.dev.roleKind e = 0 → ∀ q v, s.dev.portIn e q = .ioport ∧ s.dev.portOut e q v = .ioport) ∧
  -- EVPOST and EVWAIT, on any processor
  (s.dev.ready p → ra ≠ 0 ∨ 256 ≤ imm.toNat →
    exec (.evpost p rd ra imm) s = .next (s.goes (s.dev.takeFault p ILLEGAL)) ∧
    exec (.evwait p rd ra imm) s = .next (s.goes (s.dev.takeFault p ILLEGAL))) ∧
  (∀ (ch g : Nat) (d : Dev), s.dev.ready p → ch = imm.toNat → ch < 256 →
    g = (if p.num < 64 then 19 + engHalf p.num else 16 + (p.num - 64)) → d = s.dev.post ch →
    (s.dev.b (R.EVR_CH_CFG ch) g = true → exec (.evpost p rd 0 imm) s = .next (s.goes
      (d.completes p ((d.cpu p.num).put rd 0#32) 4 ((d.cpu p.num).pc + 4#32)))) ∧
    (s.dev.b (R.EVR_CH_CFG ch) g = false → exec (.evpost p rd 0 imm) s = .next (s.goes
      (s.dev.completes p (c.put rd 1#32) 4 (c.pc + 4#32))))) ∧
  (∀ ch : Nat, s.dev.ready p → ch = imm.toNat → ch < 256 →
    ((∀ j < 8, s.dev.consumer ch j ≠ p.num) → exec (.evwait p rd 0 imm) s = .next (s.goes
      (s.dev.completes p { c.put rd 2#32 with units := 0 } 0 (c.pc + 4#32)))) ∧
    (∀ (j : Nat) (d : Dev), j < 8 → s.dev.consumer ch j = p.num → (∀ i < j, s.dev.consumer ch i ≠ p.num) →
      d = s.dev.setLatch p.num ch false →
      (s.dev.latched p.num ch = false →
        exec (.evwait p rd 0 imm) s = .next (s.goes (s.dev.beginWait p.num (.event rd ch)))) ∧
      (s.dev.latched p.num ch = true → s.dev.furtherEvent p.num ch = false →
        exec (.evwait p rd 0 imm) s = .next (s.goes (d.completes p
          { (d.cpu p.num).put rd 0#32 with units := 0 } 0 ((d.cpu p.num).pc + 4#32)))) ∧
      (∀ d2, s.dev.latched p.num ch = true → s.dev.furtherEvent p.num ch = true →
        d2 = d.setB (R.EVR_CH_STAT ch) j false →
        exec (.evwait p rd 0 imm) s = .next (s.goes (d2.completes p
          { (d2.cpu p.num).put rd 1#32 with units := 0 } 0 ((d2.cpu p.num).pc + 4#32))))))

/-- On R53, R72, R80, R84, R114: the privileged group. In supervisor mode of a Main Processor or Custody MFC reads a stored control
register, MTC writes the writable bits of one, ERET restores STATUS and continues at EPC (from a supervisor ESTATUS), WFI waits
unless an enabled source is pending. In user mode each takes PRIV, and on an engine each is ILLEGAL. SYSC and BRK take their
faults; a reserved word is ILLEGAL. -/
def Obligations.SystemGroup : Prop :=
  ∀ (s : State) (p : Proc) (c : Cpu) (rd ra : Reg) (k : Fin 64), s.live → s.dev.ready p → c = s.dev.cpu p.num →
  (isEng p = false → c.sup = true →
    (k.val < 9 ∨ (10 < k.val ∧ k.val < 17) ∨ k.val = 18 ∨ 32 ≤ k.val →
      exec (.mfc p rd 0 k) s = .next (s.goes (s.dev.completes p (c.put rd (c.creg k)) 1 (c.pc + 4#32)))) ∧
    (2 ≤ k.val → k.val < 17 → k.val ≠ 3 → k.val ≠ 4 → k.val ≠ 5 → k.val ≠ 9 → k.val ≠ 10 →
      exec (.mtc p 0 ra k) s = .next (s.goes (s.dev.completes p (c.setCreg k (c.get ra)) 1 (c.pc + 4#32)))) ∧
    (k.val = 3 ∨ k.val = 4 → exec (.mtc p 0 ra k) s = .next (s.goes (s.dev.takeFault p ILLEGAL))) ∧
    (bitOf (c.creg 1) 4 = true → exec (.eret p 0 0 0) s =
      .next (s.goes (s.dev.completes p (c.setCreg 0 (c.creg 1)) 1 (c.creg 2)))) ∧
    (s.dev.anyEnabled p.num = false → exec (.wfi p 0 0 0) s = .next (s.goes (s.dev.beginWait p.num .wfi))) ∧
    (s.dev.anyEnabled p.num = true → exec (.wfi p 0 0 0) s =
      .next (s.goes ((s.dev.retire p.num 1 (c.pc + 4#32)).stepEnd p.num)))) ∧
  (isEng p = false → c.sup = false →
    (k.val < 9 → exec (.mfc p rd 0 k) s = .next (s.goes (s.dev.takeFault p PRIV))) ∧
    (k.val < 3 → exec (.mtc p 0 ra k) s = .next (s.goes (s.dev.takeFault p PRIV))) ∧
    exec (.eret p 0 0 0) s = .next (s.goes (s.dev.takeFault p PRIV)) ∧
    exec (.wfi p 0 0 0) s = .next (s.goes (s.dev.takeFault p PRIV))) ∧
  (isEng p = true →
    exec (.mfc p rd ra k) s = .next (s.goes (s.dev.takeFault p ILLEGAL)) ∧
    exec (.mtc p rd ra k) s = .next (s.goes (s.dev.takeFault p ILLEGAL)) ∧
    exec (.eret p rd ra k) s = .next (s.goes (s.dev.takeFault p ILLEGAL)) ∧
    exec (.wfi p rd ra k) s = .next (s.goes (s.dev.takeFault p ILLEGAL)) ∧
    exec (.sysc p rd ra k) s = .next (s.goes (s.dev.takeFault p ILLEGAL))) ∧
  (isEng p = false → exec (.sysc p 0 0 0) s = .next (s.goes (s.dev.takeFault p { code := 11 }))) ∧
  (∀ n : BitVec 26, exec (.brk p n) s = .next (s.goes (s.dev.takeFault p { code := 9, addr := n.zeroExtend 32 }))) ∧
  (∀ w : Word, w.extractLsb' 26 6 = 0#6 → exec (.illegal p w) s = .next (s.goes (s.dev.takeFault p ILLEGAL)))

/-- On R85, R88, R115: an eligible interrupt is entered; RCALL posts in the one free mailbox slot of the half and answers its
tag with Z set, or clears Z and answers 0 where none is free; RWAIT takes a ready reply, waits for a posted call, and answers
all ones for a tag that is neither. -/
def Obligations.RimCallInstructions : Prop :=
  ∀ (s : State) (h : Half) (p : Proc) (c : Cpu) (rd : Reg) (imm : BitVec 16),
  s.live → p = .mp h → c = s.dev.cpu p.num → c.sup = true →
  (∀ q : Proc, ∀ src, s.dev.executing q.num = true → s.dev.eligible q.num = some src →
    exec (.interruptEntry q) s = .next (s.goes (s.dev.takeInterrupt q.num src))) ∧
  (∀ t d, s.dev.ready p → s.dev.freeTags h.toNat = [t] →
    d = s.dev.postCall (8 * h.toNat + t) imm.toNat [c.get 1, c.get 2, c.get 3, c.get 4, c.get 5, c.get 6] →
    exec (.rcall p rd 0 imm) s = .next (s.goes (d.completes p
      (((d.cpu p.num).setFlags { (d.cpu p.num).flags with z := true }).put rd (wd t)) 1 ((d.cpu p.num).pc + 4#32)))) ∧
  (s.dev.ready p → s.dev.freeTags h.toNat = [] → exec (.rcall p rd 0 imm) s = .next (s.goes (s.dev.completes p
    ((c.setFlags { c.flags with z := false }).put rd 0#32) 1 (c.pc + 4#32)))) ∧
  (∀ d, s.dev.ready p → imm.toNat < 8 → s.dev.b R.RIMX_MBPEND (16 + (8 * h.toNat + imm.toNat)) = true →
    d = s.dev.takeReply p.num imm.toNat →
    exec (.rwait p 0 0 imm) s = .next (s.goes ((d.retire p.num 1 ((d.cpu p.num).pc + 4#32)).stepEnd p.num))) ∧
  (s.dev.ready p → imm.toNat < 8 → s.dev.b R.RIMX_MBPEND (16 + (8 * h.toNat + imm.toNat)) = false →
    s.dev.b R.RIMX_MBPEND (8 * h.toNat + imm.toNat) = true →
    exec (.rwait p 0 0 imm) s = .next (s.goes (s.dev.beginWait p.num (.rim imm.toNat)))) ∧
  (s.dev.ready p → imm.toNat < 8 → s.dev.b R.RIMX_MBPEND (16 + (8 * h.toNat + imm.toNat)) = false →
    s.dev.b R.RIMX_MBPEND (8 * h.toNat + imm.toNat) = false →
    exec (.rwait p 0 0 imm) s = .next (s.goes (s.dev.completes p
      ((((((c.put 1 0xFFFFFFFF#32).put 2 0#32).put 3 0#32).put 4 0#32).put 5 0#32).put 6 0#32) 1 (c.pc + 4#32))))

/-- On R121 to R123: engine commands of a permitted writer; CMDDONE clears first (`d`) and sets with the result. LOAD of a valid
source, destination and length enters LOADING; its end writes the octets and their CRC-32 and enters READY; START of a READY
engine in range, whose role fits, is not taken, and whose budget is available, starts a new generation at ENTRY with g31 = SP;
STOP in RUN places a drain marker and enters STOPPED; CLEAR in READY, FAULT or STOPPED empties the engine. In a state that does
not accept the command, the result is BAD_STATE. -/
def Obligations.EngineCommands : Prop :=
  ∀ (s : State) (r : Req) (e : Fin 64) (d : Dev), s.live → s.dev.lets r (R.WEN_CMD e) →
  d = s.dev.setB (R.WEN_STATUS e) 31 false →
  (∀ src dst len, d.engState e = 0 ∨ d.engState e = 2 → src = d.reg (R.WEN_LOADSRC e) → dst = d.reg (R.WEN_LOADDST e) →
    len = d.f (R.WEN_LOADLEN e) 0 15 → src.toNat % 4 = 0 → 0x41000000 ≤ src.toNat → src.toNat ≤ 0x41FFFFFF → len ≠ 0 →
    len % 4 = 0 → fld dst 0 14 + len ≤ 16384 → exec (.wenLoad r e) s = .next (s.goes
      ((d.setWen (engHalf e) { d.wen (engHalf e) with
        loads := (d.wen (engHalf e)).loads.filter (fun l => l.1 != e.val) ++ [(e.val, src.toNat, dst, len)] }).engTo e 1))) ∧
  (d.engState e = 2 → (d.reg (R.WEN_ENTRY e)).toNat % 4 = 0 → (d.reg (R.WEN_ENTRY e)).toNat < 0x4000 →
    (d.reg (R.WEN_SP e)).toNat % 4 = 0 → (d.reg (R.WEN_STKLO e)).toNat ≤ (d.reg (R.WEN_SP e)).toNat →
    (d.reg (R.WEN_SP e)).toNat ≤ (d.reg (R.WEN_STKHI e)).toNat → roleFits e (d.roleKind e) (d.roleRes e) = true →
    d.roleTaken e = false → d.engAvail e = true → exec (.wenStart r e) s = .next (s.goes
      (((d.newGen e).1.engRun e
        { ({} : Cpu).put 31 (d.reg (R.WEN_SP e)) with pc := d.reg (R.WEN_ENTRY e) }).engDone e 0))) ∧
  (d.engState e = 3 → exec (.wenStop r e) s = .next (s.goes
    ((((d.placeMarker e).onCpu e fun c => { c with wait := .none }).engTo e 6).engDone e 0))) ∧
  (d.engState e = 2 ∨ d.engState e = 5 ∨ d.engState e = 6 → exec (.wenClear r e) s =
    .next (s.goes ((d.engClear e).engDone e 0))) ∧
  (d.engState e = 4 → exec (.wenLoad r e) s = .next (s.goes (d.engDone e 1)) ∧
    exec (.wenStart r e) s = .next (s.goes (d.engDone e 1)) ∧
    exec (.wenStop r e) s = .next (s.goes (d.engDone e 1)) ∧
    exec (.wenClear r e) s = .next (s.goes (d.engDone e 1))) ∧
  (∀ src dst len f pd x, s.dev.engState e = 1 →
    (s.dev.wen (engHalf e)).loads.find? (fun x => x.1 == e.val) = some (e.val, src, dst, len) →
    ∀ d', d' = s.dev.setWen (engHalf e) { s.dev.wen (engHalf e) with
        loads := (s.dev.wen (engHalf e)).loads.filter fun x => x.1 != e.val } →
    d'.loadBad (engHalf e) (src - 0x40000000) len = false → winPlace (engHalf e) (src - 0x40000000) = some (f, pd) →
    x = loadOctets (engHalf e) len (src - 0x40000000) d' →
    exec (.loadDone e) s = .next (s.goes
      (((((((x.1.eccScrub f len).msTraffic f len 2).wrBytes (engBase e + (if bitOf dst 16 then 0x4000 else 0) + fld dst 0 14) x.2).setReg
        (R.WEN_LOADCRC e) (crc32 x.2)).engTo e 2).engDone e 0))))

/-- On R126, R128, R129, R132, R135: handovers and watchdogs. A request of another kind than refused becomes pending, PENDING in
HOSTAT, with both engines marked; a half that has one pending answers BUSY; a forced request of a halted source runs at once;
one whose source has not parked by the deadline ends with TIMEOUT; one whose role a third engine runs is NOT_PERMITTED (R116).
A drain marker passes, and the results held behind it are admitted in the order written; an engine whose count or wait exceeds
its watchdog halts with code 32 or 33. -/
def Obligations.Handovers : Prop := ∀ (s : State), s.live →
  (∀ (r : Req) (h : Half) (src tgt : Fin 64) (kind : Bool) (d : Dev), s.dev.lets r (R.WENH_HOCMD h.toNat) →
    (s.dev.wen h.toNat).ho = none → engHalf src = h.toNat → engHalf tgt = h.toNat → src ≠ tgt →
    roleFits tgt (s.dev.roleKind src) (s.dev.roleRes src) = true → s.dev.roleRuns src tgt = false → s.dev.engState tgt = 2 →
    s.dev.roleKind tgt = s.dev.roleKind src → s.dev.roleRes tgt = s.dev.roleRes src →
    (kind = false → s.dev.memPart (engBase src) 0x4000 = s.dev.memPart (engBase tgt) 0x4000) →
    d = (((s.dev.setWen h.toNat { s.dev.wen h.toNat with
        ho := some ⟨src, tgt, kind, s.dev.count + s.dev.f (R.WENH_HOTMO h.toNat) 0 24 * 160⟩ }).setB
      (R.WEN_STATUS src) 19 true).setB (R.WEN_STATUS tgt) 18 true).setReg (R.WENH_HOSTAT h.toNat)
        (pack [(31, 0), (24, 1), (20, 0), (8, tgt.val), (0, src.val)]) →
    (kind = false → s.dev.engState src = 3 → exec (.migration r h src tgt) s = .next (s.goes d)) ∧
    (kind = true → s.dev.engState src = 3 → exec (.exchange r h src tgt) s = .next (s.goes d)) ∧
    (s.dev.engState src = 5 ∨ s.dev.engState src = 6 → exec (.forcedHandover r h src tgt kind) s = .next (s.goes
      (d.hoRun h.toNat ⟨src, tgt, kind, s.dev.count + s.dev.f (R.WENH_HOTMO h.toNat) 0 24 * 160⟩ true)))) ∧
  (∀ (r : Req) (h : Half) (src tgt : Fin 64) (x : Handover), s.dev.lets r (R.WENH_HOCMD h.toNat) →
    (s.dev.wen h.toNat).ho = some x → exec (.migration r h src tgt) s = .next (s.goes
      (s.dev.setReg (R.WENH_HOSTAT h.toNat) (pack [(31, 1), (24, 5), (20, 0), (8, tgt.val), (0, src.val)])))) ∧
  (∀ (h : Half) (x : Handover), (s.dev.wen h.toNat).ho = some x → x.deadline < s.dev.count →
    exec (.handoverTimeout h) s = .next (s.goes (s.dev.hoEnd h.toNat x 2 0))) ∧
  -- a third engine runs the role (R116)
  (∀ (r : Req) (h : Half) (src tgt : Fin 64), s.dev.lets r (R.WENH_HOCMD h.toNat) → (s.dev.wen h.toNat).ho = none →
    s.dev.roleRuns src tgt = true → exec (.migration r h src tgt) s = .next (s.goes
      (s.dev.setReg (R.WENH_HOSTAT h.toNat) (pack [(31, 1), (24, 3), (20, 0), (8, tgt.val), (0, src.val)])))) ∧
  -- a drain marker, of a half whose trail takes what it frees: with another marker of the role still to pass, the results of
  -- that marker's generation are admitted; with the last, all of the role's; DRAINED sets with the marker of the generation that
  -- the last handover ended
  (∀ (h : Half) (m : Nat × Nat × Nat) (l : List (Nat × Nat × Nat)) (go : List Held) (next : Option Nat) (mine : Held → Bool)
    (d0 d : Dev), (s.dev.wen h.toNat).markers = m :: l →
    d0 = s.dev.setWen h.toNat { s.dev.wen h.toNat with markers := l } → next = (d0.wen h.toNat).oldest m.1 m.2.1 →
    (mine = fun x => x.kind == m.1 && x.res == m.2.1 && (next.isNone || next == some x.gen)) →
    go = (s.dev.wen h.toNat).hold.filter mine → d0.trailTakes h.toNat go = true →
    d = ((d0.setWen h.toNat { d0.wen h.toNat with hold := (s.dev.wen h.toNat).hold.filter fun x => !mine x }).forEach go
      fun d x => match x.what with
        | .plan l => d.planDeliver h.toNat l
        | .record r => d.admitRecord h.toNat r).showHoldcnt h.toNat →
    ((d.wen h.toNat).ended ≠ m → exec (.drainMarker h) s = .next (s.goes d)) ∧
    ((d.wen h.toNat).ended = m → d.b (R.WENH_HOSTAT h.toNat) 31 = true → d.f (R.WENH_HOSTAT h.toNat) 24 3 = 0 →
      exec (.drainMarker h) s = .next (s.goes (d.setB (R.WENH_HOSTAT h.toNat) 19 true)))) ∧
  (∀ e : Fin 64, s.dev.executing e = true → s.dev.f (R.WEN_WDOG e) 0 16 ≠ 0 →
    s.dev.f (R.WEN_WDOG e) 0 16 * 1024 < (s.dev.cpu e).units →
    exec (.runWatchdog e) s = .next (s.goes ((s.dev.engineFault e 32 0#32).engVote e))) ∧
  (∀ e : Fin 64, s.dev.executing e = true → (s.dev.cpu e).wait ≠ .none → s.dev.f (R.WEN_WDOG e) 16 16 ≠ 0 →
    (s.dev.cpu e).waitAt + s.dev.f (R.WEN_WDOG e) 16 16 * 160000 < s.dev.clk →
    exec (.waitWatchdog e) s = .next (s.goes ((s.dev.engineFault e 33 0#32).engVote e)))

/-- On R141, R149, R150, R157: a lane's commands and the ends of its states. -/
def Obligations.LaneStates : Prop := ∀ s : State, s.live →
  -- ENABLE in OFF: WARM for 32,000 ticks, aerial A, channel word 0; every kind pending at the first after reset
  (∀ (r : Req) (n mask : Fin 16) (d : Dev), s.dev.lets r (R.LAN_CMD n) →
    ((s.dev.radio n).st ≠ sOFF → exec (.laneEnable r n mask) s = .next (s.goes (s.dev.cmdRes n 1))) ∧
    -- in ROM recovery no lane starts (R295)
    (s.dev.fw.recov = 1 → exec (.laneEnable r n mask) s = .next (s.goes (s.dev.cmdRes n 1))) ∧
    ((s.dev.radio n).st = sOFF → s.dev.fw.recov ≠ 1 → s.dev.tbState = 0 →
      exec (.laneEnable r n mask) s = .next (s.goes (s.dev.cmdRes n 2))) ∧
    ((s.dev.radio n).st = sOFF → s.dev.fw.recov ≠ 1 → s.dev.tbState ≠ 0 → s.dev.pdRun (50 + laneQuad n) = true →
      d = s.dev.setRadio n { s.dev.radio n with
        until_ := s.dev.clk + 32000, enabledAt := s.dev.clk, everEnabled := true, shut := false, curCh := 0
        chw := s.dev.reg (R.LAN_CHW n 0), kept := [] } →
      exec (.laneEnable r n mask) s = .next (s.goes
        (((((((d.setPend n (if (s.dev.radio n).everEnabled then (s.dev.radio n).calPend ||| mask else 15)).setAer n 0).setF (R.LAN_STATUS n) 16 6
          0).setF (R.LAN_CALSTAT n) 24 4 0).cmdRes n 0).setSt n sWARM).vote (16 + n) 0 true)))) ∧
  -- DISABLE: BAD_STATE in OFF; with a move, the frames drained are offered for another lane, and without one they end as
  -- WITHDRAWN in their ordered places (R158)
  (∀ (r : Req) (n : Fin 16), s.dev.lets r (R.LAN_CMD n) →
    ((s.dev.radio n).st = sOFF → exec (.laneDisable r n true) s = .next (s.goes (s.dev.cmdRes n 1))) ∧
    (∀ x, (s.dev.radio n).st ≠ sOFF → x = (s.dev.cmdRes n 0).drain n →
      exec (.laneDisable r n true) s = .next (s.goes
        (x.1.onRadio n fun r => { r with offers := r.offers ++ x.2 })) ∧
      exec (.laneDisable r n false) s = .next (s.goes (x.1.withdraw n x.2)))) ∧
  -- CALIBRATE adds its kinds to the pending ones; BAD_STATE in OFF and WARM
  (∀ (r : Req) (n mask : Fin 16), s.dev.lets r (R.LAN_CMD n) →
    ((s.dev.radio n).st ≤ sWARM → exec (.calibrate r n mask) s = .next (s.goes (s.dev.cmdRes n 1))) ∧
    (sWARM < (s.dev.radio n).st → exec (.calibrate r n mask) s = .next (s.goes
      ((s.dev.setPend n ((s.dev.radio n).calPend ||| mask)).cmdRes n 0)))) ∧
  -- the end of WARM
  (∀ n : Fin 17, (s.dev.radio n).st = sWARM → (s.dev.radio n).until_ ≤ s.dev.clk →
    ((s.dev.radio n).calPend = 0 → exec (.warmDone n) s = .next (s.goes ((s.dev.setSt n sIDLER).mayShut n))) ∧
    ((s.dev.radio n).calPend ≠ 0 → (s.dev.radio n).draining = false →
      exec (.warmDone n) s = .next (s.goes (s.dev.beginCal n)))) ∧
  -- pending kinds start in IDLE_R once no armed slot of classes 0 to 5 is near
  (∀ (n : Fin 17) (d : Dev), d = s.dev.beforeGate n → (d.radio n).st = sIDLER → (d.radio n).calPend ≠ 0 →
    (d.radio n).draining = false →
    (∀ ka ∈ d.armed n, ka.2.cls = 6 ∨ d.count + calTicks (d.radio n).calPend + 3200 ≤ ka.2.fire) →
    exec (.calibrationStart n) s = .next (s.goes (d.beginCal n))) ∧
  -- the end of a lane's calibration of part of the kinds
  (∀ (n : Fin 16) (u : Fin 17) (fail : Fin 16) (temp : Int) (trims : List Word), u.val = n.val →
    (s.dev.radio n).st = sCAL → (s.dev.radio n).until_ ≤ s.dev.clk → (s.dev.radio n).calRun ≠ 15 →
    exec (.calibrationEnd u fail temp trims) s = .next (s.goes (s.dev.calEnd n fail temp trims))) ∧
  -- OFF, 1,600 ticks after the shutdown began (`d`); the frames still offered and placed nowhere end as WITHDRAWN (R158)
  (∀ (n : Fin 16) (u : Fin 17) (t : Nat) (d : Dev), u.val = n.val → (s.dev.radio n).offAt = some t → t ≤ s.dev.clk →
    d = (((s.dev.onRadio n fun r => { r with
      draining := false, offAt := none, win := none, rx := none, tx := none, air := none }).setB (R.LAN_STATUS n) 31
        false).setSt n sOFF).vote (16 + n) 0 false →
    ((d.radio n).offers = [] → exec (.laneOff u) s = .next (s.goes d)) ∧
    ((d.radio n).st = sOFF → (d.radio n).offers ≠ [] → exec (.laneOff u) s = .next (s.goes
      ((d.onRadio n fun r => { r with offers := [] }).withdraw n ((d.radio n).offers.filter fun x => !d.placedOn n x))))) ∧
  -- and of the trunk transceiver, whose role is then OFF
  (∀ (t : Nat) (d d' : Dev), (s.dev.radio 16).offAt = some t → t ≤ s.dev.clk → d = s.dev.onRadio 16 (fun r => { r with
      draining := false, offAt := none, win := none, rx := none, tx := none, air := none }) →
    d' = (((({ d with trunk := { d.trunk with paFrom := none, paTo := none } } : Dev).trunkOff).setSt 16 sOFF).vote 12 0
      false) → (d'.radio 16).offers = [] → exec (.laneOff 16) s = .next (s.goes d')) ∧
  -- the last symbol of a lane's frame: IDLE_T, a capture of source 3, and the end of the entry's hold
  (∀ (n : Fin 16) (u : Fin 17) (h : Nat), u.val = n.val → (s.dev.radio n).st = sTX →
    (s.dev.radio n).until_ ≤ s.dev.clk → (s.dev.radio n).tx = some h →
    exec (.txEnd u) s = .next (s.goes
      (((((s.dev.setSt n sIDLET).capture n 3).endHold n h).onRadio n fun r => { r with tx := none, air := none }).mayShut n)))

/-- On R142, R146, R147, R153, R186, R188 to R192: reception on a path, from the preamble to the frame's end. -/
def Obligations.Reception : Prop := ∀ s : State, s.live →
  -- a preamble is detected on a lane that searches where two consecutive evaluations reach THRESH, and not where one is below
  (∀ (n : Fin 16) (r1 r2 : Fin 257) (d : Dev), s.dev.searching (.lane n) = true →
    d = s.dev.onRadio n (fun r => { r with divAer := none, dwellAt := s.dev.clk }) →
    (s.dev.pathThr (.lane n) ≤ r1.val ∧ s.dev.pathThr (.lane n) ≤ r2.val →
      exec (.preambleDetected (.lane n) r1 r2) s =
        .next (s.goes (d.setPathRx (.lane n) (some { phy := d.pathPhy (.lane n) })))) ∧
    (r1.val < s.dev.pathThr (.lane n) ∨ r2.val < s.dev.pathThr (.lane n) →
      exec (.preambleDetected (.lane n) r1 r2) s = .next (s.goes s.dev))) ∧
  -- eight evaluations below THRESH before its SFD give a detection up, and the next search begins; a frame whose SFD was found
  -- is not given up
  (∀ (x : Path) (l : List Nat) (f : RxFrame), s.dev.pathRx x = some f →
    (f.sfd = false → (∀ r, r ∈ l → r < s.dev.pathThr x) →
      exec (.detectionGivenUp x l) s = .next (s.goes ((s.dev.setPathRx x none).newSearch x))) ∧
    (f.sfd = true → exec (.detectionGivenUp x l) s = .next (s.goes s.dev))) ∧
  -- the SFD on a lane, one that matches its PHY entry: the timestamp, less the path latency, with the Timebase state of that
  -- instant, a capture record of source 0, and the gain held from here, a free value of 0 to 11 (R139, log entry 15)
  (∀ (n : Fin 16) (f : RxFrame) (seen : SfdSeen) (coded : Bool) (back t : Nat) (d : Dev), s.dev.pathRx (.lane n) = some f →
    f.sfd = false → sfdMatch f.phy seen = some coded →
    bitOf (s.dev.laneProfile n) 31 = false → t = (256 * s.dev.count + 2 ^ 72 - back - 0) % 2 ^ 72 →
    d = s.dev.onRadio n (fun r => { r with rx := some { f with
        sfd := true, sfdAt := s.dev.clk, coded := coded, sfdCount := t / 256, sub := t % 256
        divShort := false, tbState := s.dev.tbState, slewing := s.dev.slewing } }) →
    exec (.sfdFound (.lane n) seen back) s = .next (s.goes
      ((d.fresh.2.onRadio n fun r => { r with gain := fld d.fresh.1 0 8 % 12 }).captureAt n 0 (t / 256) (t % 256)))) ∧
  -- what does not match is no SFD
  (∀ (n : Fin 16) (f : RxFrame) (seen : SfdSeen) (back : Nat), s.dev.pathRx (.lane n) = some f →
    sfdMatch f.phy seen = none → exec (.sfdFound (.lane n) seen back) s = .next (s.goes s.dev)) ∧
  -- the end of a frame that is not abandoned, on a lane whose window stays: the record with the PSDU and status 0 or 1 by
  -- its FCS, capture 1, and the aerial
  (∀ (n : Fin 16) (f : RxFrame) (e : RxEnd) (peak : Int) (st : Nat), (s.dev.radio n).rx = some f → f.sfd = true →
    e.abandons f.phy = false → st = (if e.fcsGood f.phy then 0 else 1) → (s.dev.radio n).closeAfter = false →
    exec (.receivedFrameEnd (.lane n) e peak) s = .next (s.goes
      ((((s.dev.setRadio n { s.dev.radio n with
          rx := none, dwellAt := s.dev.clk, searchPhy := s.dev.lanePhy n, searchThr := fld (s.dev.laneProfile n) 16 8
          heard := some s.dev.clk, divAer := none
          rxq := (s.dev.radio n).rxq ++
            ([pack [(29, st), (28, b2n f.divShort), (16, (e.psdu f.phy).length)]] ++ bytesWords (e.psdu f.phy) ++
              [pack [(16, patt 16 e.m.rssi), (8, lqiOf e.m.snr), (0, 0)],
               pack [(16, if phyKind f.phy = 2 then e.m.evm else e.m.devErr), (14, if phyKind f.phy = 2 then 1 else 2), (13, b2n e.m.clipped), (12, 0),
                     (11, (s.dev.radio n).winAer), (10, b2n f.divShort), (8, 0)]] ++
              [wd f.sfdCount, wd (f.sfdCount / 2 ^ 32), stampWordOf f.sub 0 false f.tbState f.slewing]) }).capture n 1).setAer
        n (s.dev.radio n).winAer).pmcOctets (12 + n) 1 (e.psdu f.phy).length))) ∧
  -- a dwell of DWELL symbol periods: alternate while searching; after one dwell on each aerial the higher energy chooses, an
  -- equal pair the aerial of detection; before its end nothing happens
  (∀ (n : Fin 16) (energy : Nat), (s.dev.radio n).st = sRX → (s.dev.radio n).divEnded = false →
    bitOf (s.dev.laneProfile n) 31 = true →
    (s.dev.clk < (s.dev.radio n).dwellAt + s.dev.dwellTicks n → exec (.diversityDwell n energy) s = .next (s.goes s.dev)) ∧
    ((s.dev.radio n).dwellAt + s.dev.dwellTicks n ≤ s.dev.clk →
      ((s.dev.radio n).rx = none → exec (.diversityDwell n energy) s = .next (s.goes
        (s.dev.setRadio n { s.dev.radio n with dwellAt := s.dev.clk, winAer := 1 - (s.dev.radio n).winAer }))) ∧
      (∀ (f : RxFrame) (first : Nat), (s.dev.radio n).rx = some f → f.sfd = false → f.sel = false →
        (s.dev.radio n).divAer = some first →
        exec (.diversityDwell n energy) s = .next (s.goes (s.dev.setRadio n { s.dev.radio n with
          dwellAt := s.dev.clk
          winAer := if first < energy then (s.dev.radio n).winAer else 1 - (s.dev.radio n).winAer
          rx := some { f with sel := true } }))))) ∧
  -- a lane timer that equals its compare value, a value written in this tick being in force from the next: a capture of
  -- source 4 or 5
  (∀ (n : Fin 16) (x : Fin 2) (cmp : Word), (s.dev.radio n).st ≠ sOFF → (s.dev.radio n).ltctl.testBit x = true →
    cmp = (if x.val = 0 then (if (s.dev.radio n).lt0At = s.dev.clk then (s.dev.radio n).lt0Old else (s.dev.radio n).lt0)
      else (if (s.dev.radio n).lt1At = s.dev.clk then (s.dev.radio n).lt1Old else (s.dev.radio n).lt1)) →
    s.dev.laneTimer n = cmp.toNat →
    exec (.laneTimerCompare n x) s = .next (s.goes (s.dev.capture n (4 + x))))

/-- On R162, R164, R165, R177: an all-channel receiver's commands and the ends of its states. A command in a wrong state answers
BAD_STATE; while an earlier command is in progress CMDDONE stays 0 with it (the model's choice: log 107). -/
def Obligations.AcrStates : Prop := ∀ s : State, s.live → ∀ a : Acr,
  (∀ r : Req, s.dev.lets r (R.ACR_CMD a.num) →
    -- ENABLE in OFF: STOPPED 8,000 ticks later, or CONFIG for a CONFIG of 0 or 3 or no digitizer
    (s.dev.acrState a.num ≠ 0 → exec (.acrEnable r a) s = .next (s.goes (s.dev.acrRefuse a.num 1))) ∧
    (s.dev.acrState a.num = 0 → s.dev.f (R.ACR_CFG a.num) 6 2 = 0 →
      exec (.acrEnable r a) s = .next (s.goes (s.dev.acrRefuse a.num 2))) ∧
    (∀ c, c = s.dev.f (R.ACR_CFG a.num) 0 2 → s.dev.acrState a.num = 0 → c = 1 ∨ c = 2 →
      s.dev.f (R.ACR_CFG a.num) 6 2 ≠ 0 → exec (.acrEnable r a) s = .next (s.goes
        ((s.dev.setAcr a.num { s.dev.acr a.num with until_ := s.dev.clk + 8000 }).acrRes a.num 0 true))) ∧
    -- START in STOPPED: the first check of R164 that fails, or CAL for 102,400 ticks and then RUN, with every path of the
    -- enabled channels unsettled from the START on (R175)
    (s.dev.acrState a.num ≠ 1 → exec (.acrStart r a) s = .next (s.goes (s.dev.acrRefuse a.num 1))) ∧
    (s.dev.acrState a.num = 1 → s.dev.tbState = 0 →
      exec (.acrStart r a) s = .next (s.goes (s.dev.acrRefuse a.num 4))) ∧
    (s.dev.acrState a.num = 1 → s.dev.acrStartCheck a.num = none → exec (.acrStart r a) s = .next (s.goes
      ((((s.dev.setAcr a.num { s.dev.acr a.num with until_ := s.dev.clk + 102400, back := 3, kind := acrCalKind 0 }).setAcrState a.num
        2).acrRes a.num 0 true).unsettleAll a.num (s.dev.clk + 102400)))) ∧
    -- CALIBRATE in STOPPED: CAL, and back to STOPPED
    (s.dev.acrState a.num ≠ 1 → exec (.acrCalibrate r a) s = .next (s.goes (s.dev.acrRefuse a.num 1))) ∧
    (s.dev.acrState a.num = 1 → exec (.acrCalibrate r a) s = .next (s.goes
      (((s.dev.setAcr a.num { s.dev.acr a.num with until_ := s.dev.clk + 102400, back := 1, kind := acrCalKind 0 }).setAcrState a.num
        2).acrRes a.num 0 true))) ∧
    -- STOP in RUN or RETUNE; with no cross-fade in progress
    (s.dev.acrState a.num < 3 → exec (.acrStop r a) s = .next (s.goes (s.dev.acrRefuse a.num 1))) ∧
    (3 ≤ s.dev.acrState a.num → ((s.dev.acrAbandonAll a.num).acr a.num).fades = [] →
      exec (.acrStop r a) s = .next (s.goes
        (((s.dev.acrAbandonAll a.num).setAcrState a.num 1).acrRes a.num 0 false))) ∧
    -- DISABLE in STOPPED: OFF
    (s.dev.acrState a.num ≠ 1 → exec (.acrDisable r a) s = .next (s.goes (s.dev.acrRefuse a.num 1))) ∧
    (s.dev.acrState a.num = 1 → exec (.acrDisable r a) s = .next (s.goes
      (((s.dev.setAcrState a.num 0).acrRes a.num 0 false).acrVote a.num false)))) ∧
  -- STOPPED, 8,000 ticks after ENABLE
  (s.dev.acrState a.num = 0 → (s.dev.acr a.num).busy = true → (s.dev.acr a.num).until_ ≤ s.dev.clk →
    exec (.acrEnableDone a) s = .next (s.goes (((s.dev.setAcrState a.num 1).acrDone a.num).acrVote a.num true))) ∧
  -- the end of a calibration begun by CALIBRATE: each kind that did not fail puts its values in force, one that failed
  -- keeps them, and a failed skew kind keeps ACRx_SKEW
  (∀ (fail : Fin 8) (skew : Int) (d : Dev), s.dev.acrState a.num = 2 → (s.dev.acr a.num).until_ ≤ s.dev.clk →
    d = (s.dev.setF (R.ACR_CALSTAT a.num) 29 3 fail).forEach [0, 1] (fun d p => d.setAcrDig a.num p { d.acrDig a.num p with
      dc := if fail.val.testBit 2 then (d.acrDig a.num p).dc else (d.acrDig a.num p).newDc
      image := if fail.val.testBit 1 then (d.acrDig a.num p).image else (d.acrDig a.num p).newImage }) →
    (∀ e x : Dev, e = (if fail.val.testBit 0 then d else d.setReg (R.ACR_SKEW a.num) (wd (patt 16 skew))) →
      ((((e.setAcr a.num { e.acr a.num with calTemp := e.acrTemp a.num + 1000 }).setB (R.ACR_STATUS a.num) 26
        false).acrDone a.num).acr a.num).back = 1 →
      x = (((e.setAcr a.num { e.acr a.num with calTemp := e.acrTemp a.num + 1000 }).setB (R.ACR_STATUS a.num) 26
        false).acrDone a.num).setAcrState a.num 1 →
      exec (.acrCalEnd a fail skew) s = .next (s.goes (if fail.val = 0 then x.calComplete (86 + 2 * a.num) else x)))) ∧
  -- a centre whose window leaves the band is discarded with WERR; out of RUN and RETUNE it is stored;
  -- in them frames are abandoned, channels that no longer fit are disabled, and RETUNE begins with every path unsettled
  (∀ (r : Req) (w : Word), s.dev.lets r (R.ACR_CENTRE 0) →
    (windowOk (s.dev.acrFront 0) (fld w 0 16) = false →
      exec (.acrsCentre r w) s = .next (s.goes (s.dev.setB (R.ACR_STATUS 0) 27 true))) ∧
    (∀ d d1 : Dev, windowOk (s.dev.acrFront 0) (fld w 0 16) = true → d = (s.dev.setReg (R.ACR_CENTRE 0) (w &&& 0xFFFF#32)).acrAbandonAll 0 →
      3 ≤ (s.dev.setReg (R.ACR_CENTRE 0) (w &&& 0xFFFF#32)).acrState 0 →
      d1 = d.forEach ((d.acrEnabled 0).filter fun k => !acrFits 0 k (d.acrFront 0) (d.reg (R.ACRK_CFG 0 k)))
        (fun d k => d.acrUnfit 0 k) → exec (.acrsCentre r w) s = .next (s.goes
        ((((d1.setAcr 0 { d1.acr 0 with until_ := d1.clk + 9600 }).setAcrState 0 4).acrCount 0).unsettleAll 0
          (d1.clk + 9600)))) ∧
    (windowOk (s.dev.acrFront 0) (fld w 0 16) = true →
      (s.dev.setReg (R.ACR_CENTRE 0) (w &&& 0xFFFF#32)).acrState 0 < 3 →
      exec (.acrsCentre r w) s = .next (s.goes (s.dev.setReg (R.ACR_CENTRE 0) (w &&& 0xFFFF#32))))) ∧
  -- RETUNE ends 9,600 ticks later, where the disturbance of every path of the enabled channels ends
  (s.dev.acrState 0 = 4 → (s.dev.acr 0).until_ ≤ s.dev.clk → exec .acrRetuneEnd s = .next (s.goes
    ((s.dev.setAcrState 0 3).unsettleAll 0 s.dev.clk)))

/-- On R168, R172, R173, R176, R179 to R181: an all-channel receiver's channels, settling, overload and gain steps. -/
def Obligations.AcrChannels : Prop := ∀ s : State, s.live → ∀ a : Acr,
  -- an enable that does not fit is refused with FIT: EN stays 0
  (∀ (r : Req) (k : Fin 128) (w v : Word), s.dev.lets r (R.ACRK_CFG a.num k) →
    v = w &&& (if a.num = 0 then 0xF7FFFFFF#32 else 0xC000FFFF#32) → bitOf v 31 = true →
    s.dev.b (R.ACRK_CFG a.num k) 31 = false → acrFits a.num k (s.dev.acrFront a.num) v = false →
    fld (s.dev.reg (R.ACRK_CFG a.num k)) 16 14 = fld (setBit v 31 false) 16 14 →
    bitOf (setBit v 31 false) 31 = false → bitOf (setBit v 31 false) 30 = false →
    exec (.acrskCfg r a k w) s = .next (s.goes
      (((s.dev.setF (R.ACRK_STATUS a.num k) 26 2 2).overGone a.num
        fun d => d.setReg (R.ACRK_CFG a.num k) (setBit v 31 false)).acrCount a.num))) ∧
  -- an enable that fits and is within the limit, no frame in progress on the channel: its paths become unsettled
  (∀ (r : Req) (k : Fin 128) (w v : Word) (d : Dev), s.dev.lets r (R.ACRK_CFG a.num k) →
    v = w &&& (if a.num = 0 then 0xF7FFFFFF#32 else 0xC000FFFF#32) → bitOf v 31 = true →
    s.dev.b (R.ACRK_CFG a.num k) 31 = false → acrFits a.num k (s.dev.acrFront a.num) v = true →
    (s.dev.acrEnabled a.num).length + 1 ≤ s.dev.acrLimit a.num →
    (s.dev.acrPath a.num k 0).rx = none → (s.dev.acrPath a.num k 1).rx = none →
    d = (((s.dev.overGone a.num fun d => d.setReg (R.ACRK_CFG a.num k) v).setB (R.ACRK_STATUS a.num k) 28 false).acrSearch
      a.num k 0).acrSearch a.num k 1 →
    exec (.acrskCfg r a k w) s = .next (s.goes ((d.disturbChan a.num k d.clk).acrCount a.num))) ∧
  -- SWAP: FADING answers 1; a set that is not symmetric in Full 2; too many taps 3; X = 0 exchanges the banks at once, and
  -- any other X starts a cross-fade of X output samples
  (∀ (r : Req) (k : Fin 128) (x : Fin 256) (d : Dev), s.dev.lets r (R.ACRK_FIRCMD a.num k) →
    d = s.dev.setF (R.ACRK_STATUS a.num k) 23 3 0 →
    (s.dev.fading a.num k = true →
      exec (.swap r a k x) s = .next (s.goes (s.dev.setF (R.ACRK_STATUS a.num k) 23 3 1))) ∧
    (s.dev.fading a.num k = false → s.dev.acrFull a.num = true → s.dev.b (R.ACRK_FIRPEND a.num k) 15 = false →
      exec (.swap r a k x) s = .next (s.goes (s.dev.setF (R.ACRK_STATUS a.num k) 23 3 2))) ∧
    (s.dev.fading a.num k = false → s.dev.acrFull a.num = false → firTaps (s.dev.reg (R.ACRK_FIRPEND a.num k)) ≤ 64 →
      (x.val = 0 → exec (.swap r a k x) s = .next (s.goes
        (((d.keepSets a.num k d.clk).swapBanks a.num k).disturbChan a.num k d.clk))) ∧
      (∀ d1 : Dev, x.val ≠ 0 → 3 ≤ d.acrState a.num → d1 = d.keepSets a.num k d.clk →
        exec (.swap r a k x) s = .next (s.goes
          ((d1.setAcr a.num { d1.acr a.num with
              fades := tput pairDflt (d1.acr a.num).fades k (d1.clk + x * d1.acrTs a.num k, x.val) }).setB
            (R.ACRK_STATUS a.num k) 29 true))))) ∧
  -- a cross-fade completes: FADING clears, and the banks exchange
  (∀ (k : Fin 128) (t : Nat) (d : Dev), s.dev.fading a.num k = true → t = (tget pairDflt (s.dev.acr a.num).fades k).1 →
    t ≤ s.dev.clk → d = s.dev.keepSets a.num k t → exec (.crossFadeEnd a k) s = .next (s.goes
      (((d.setAcr a.num { d.acr a.num with fades := tdel k.val (d.acr a.num).fades }).setB
        (R.ACRK_STATUS a.num k) 29 false).swapBanks a.num k))) ∧
  -- a change of a phase delay by at most 1 applies without making a path unsettled
  (∀ (r : Req) (k : Fin 128) (w : Word), s.dev.lets r (R.ACRK_PDLY a.num k) →
    ((fld (s.dev.reg (R.ACRK_PDLY a.num k)) 0 8 : Int) - fld w 0 8).natAbs ≤ 1 →
    ((fld (s.dev.reg (R.ACRK_PDLY a.num k)) 16 8 : Int) - fld w 16 8).natAbs ≤ 1 →
    exec (.acrskPdly r a k w) s = .next (s.goes (s.dev.setReg (R.ACRK_PDLY a.num k) (w &&& 0x00FF00FF#32)))) ∧
  -- a path settles at its H-th sample after E + S; one no overload had disturbed records no clean-after time
  (∀ (k : Fin 128) (q : Fin 2), s.dev.acrState a.num = 3 → (s.dev.acrPath a.num k q).settled = false →
    s.dev.acrRuns a.num k = true → s.dev.acrHasPath a.num k q = true →
    (s.dev.acrPath a.num k q).e + frontSpan (s.dev.acrFront a.num) +
      (s.dev.acrH a.num k - 1) * s.dev.acrTs a.num k ≤ s.dev.clk → (s.dev.acrPath a.num k q).ovl = false →
    exec (.pathSettled a k q) s = .next (s.goes
      (((s.dev.setAcrPath a.num k q { s.dev.acrPath a.num k q with settled := true, ovl := false }).acrSearch a.num k q).acrSettling
        a.num))) ∧
  -- a sample in range passes the front end, and above −18 dBFS restarts the step-up hold; an over-ranged one in MANUAL mode
  -- is clamped first, sets OVR and is the event: every path of the digitizer is unsettled
  (∀ (q : Fin 2) (x : Sample), 3 ≤ s.dev.acrState a.num →
    (∀ d : Dev, clampCode a.num x = x → d = s.dev.frontSample a.num q x →
      exec (.overrangedSample a q x) s = .next (s.goes (d.setAcrDig a.num q { d.acrDig a.num q with
        lastStrong := if strongCode a.num x then d.clk else (d.acrDig a.num q).lastStrong }))) ∧
    (∀ d : Dev, clampCode a.num x ≠ x →
      d = (s.dev.setB (R.ACR_OVR a.num) (30 + q) true).frontSample a.num q (clampCode a.num x) →
      d.b (R.ACR_AGC a.num q) 31 = true → (d.acrDig a.num q).ordered = none →
      exec (.overrangedSample a q x) s = .next (s.goes
        (((d.setAcrDig a.num q { d.acrDig a.num q with
            ordered := none, lastOver := some d.clk, lastStrong := d.clk
            e := max (d.acrDig a.num q).e (d.clk + digStep a.num) }).disturbDig a.num q
          (d.clk + digStep a.num) true).acrSettling a.num)))) ∧
  -- an ordered step down of 6 dB, and none in MANUAL or while a freezing lane transmits
  (∀ (q : Fin 2) (t : Nat) (d : Dev), (s.dev.acrDig a.num q).ordered = some t → t ≤ s.dev.clk →
    d = s.dev.setAcrDig a.num q { s.dev.acrDig a.num q with ordered := none } →
    (d.acrFrozen a.num = true ∨ d.b (R.ACR_AGC a.num q) 31 = true →
      exec (.agcStepDown a q) s = .next (s.goes d)) ∧
    (∀ d1 : Dev, d.acrFrozen a.num = false → d.b (R.ACR_AGC a.num q) 31 = false → d.acrState a.num = 3 →
      d1 = (d.setF (R.ACR_AGC a.num q) 24 3 (min 7 (d.attn a.num q + 1))).bumpF (R.ACR_AGC a.num q) 0 8 1 →
      exec (.agcStepDown a q) s = .next (s.goes
        ((d1.setAcrDig a.num q { d1.acrDig a.num q with
            e := max (s.dev.acrDig a.num q).e d1.clk }).disturbDig a.num q d1.clk true)))) ∧
  -- a step up of 6 dB with nothing received on the digitizer's paths
  (∀ (q : Fin 2), s.dev.b (R.ACR_AGC a.num q) 31 = false → 0 < s.dev.attn a.num q → s.dev.acrState a.num = 3 →
    s.dev.acrFrozen a.num = false → (s.dev.acrDig a.num q).lastStrong + s.dev.upHold a.num q ≤ s.dev.clk →
    (s.dev.acr a.num).paths = [] → ∀ d : Dev,
    d = (s.dev.setF (R.ACR_AGC a.num q) 24 3 (s.dev.attn a.num q - 1)).setAcrDig a.num q
      { s.dev.acrDig a.num q with lastStrong := s.dev.clk } → (d.acr a.num).paths = [] →
    exec (.agcStepUp a q) s = .next (s.goes (d.disturbDig a.num q d.clk false)))

/-- On R199, R200, R202, R204, R206 to R208: the trunk's commands, the end of a claim window, superframes, and received
frames. -/
def Obligations.Trunk : Prop := ∀ s : State, s.live →
  (∀ r : Req, s.dev.lets r R.TRK_CMD →
    -- ENABLE in OFF, not in ROM recovery (R295): the transceiver warms up with all four calibration kinds pending
    (s.dev.role ≠ 0 ∨ s.dev.fw.recov = 1 → exec (.trunkEnable r) s = .next (s.goes (s.dev.trkRes 1 true))) ∧
    (s.dev.role = 0 → s.dev.fw.recov ≠ 1 →
      (s.dev.tbState = 0 → exec (.trunkEnable r) s = .next (s.goes (s.dev.trkRes 2 true))) ∧
      (∀ d : Dev, s.dev.tbState ≠ 0 → d = (s.dev.onRadio 16 fun x => { x with
          until_ := s.dev.clk + 32000, enabledAt := s.dev.clk, everEnabled := true, shut := false, chw := s.dev.reg R.TRK_CHAN
          calPend := 15, lastWin := none, kept := [], aer := 0 }) →
        exec (.trunkEnable r) s = .next (s.goes
          ((((d.setF R.TRK_STATUS 16 8 d.station).trkRes 0 false).setSt 16 sWARM).vote 12 0 true)))) ∧
    -- DISABLE: BAD_STATE in OFF; otherwise every queued descriptor completes with result 3, and the transceiver drains (ROLE
    -- is OFF once it has: the model's choice, log 108)
    (s.dev.role = 0 → exec (.trunkDisable r) s = .next (s.goes (s.dev.trkRes 1 true))) ∧
    (∀ d : Dev, s.dev.role ≠ 0 → d = { s.dev with trunk := { s.dev.trunk with
          txd := [], txc := s.dev.trunk.txc ++ s.dev.trunk.txd.map fun x => pack [(29, 3), (0, fld (x.getD 0 0#32) 0 16)]
          coordKnown := false, ownClaim := false, ownResign := false, takeOver := false, winEnd := none
          entries := [] } } →
      exec (.trunkDisable r) s = .next (s.goes
        (((d.drain 16).1.setB R.TRK_STATUS 3 false).trkRes 0 true))) ∧
    -- CLAIM in SEEKING and MEMBER: the claim of this epoch goes out, and the station contends
    (s.dev.role ≠ 1 → s.dev.role ≠ 2 → exec (.claim r) s = .next (s.goes (s.dev.trkRes 1 true))) ∧
    (s.dev.role = 1 ∨ s.dev.role = 2 → ∀ d : Dev,
      d = { s.dev with trunk := { s.dev.trunk with ownClaim := true, prevRole := s.dev.role } } →
      exec (.claim r) s = .next (s.goes (((d.asbQueue
        { type := 3, addr := 255
          data := beBytes 2 s.dev.epochT ++ beBytes 1 (255 - s.dev.f R.TRK_CFG 24 8) ++
            beBytes 8 Config.eui64.toNat }).setRole 4).trkRes 0 false))) ∧
    -- RESIGN in COORDINATOR
    (s.dev.role ≠ 3 → exec (.resign r) s = .next (s.goes (s.dev.trkRes 1 true))) ∧
    (s.dev.role = 3 → ∀ d : Dev, d = { s.dev with trunk := { s.dev.trunk with ownResign := true } } →
      exec (.resign r) s = .next (s.goes
        ((d.asbQueue { type := 4, addr := 255, data := beBytes 2 d.epochT }).trkRes 0 false)))) ∧
  -- a window in which nobody claims after a resignation: NO_CLAIMANT for the station that resigned
  (∀ w, s.dev.trunk.winEnd = some w → w ≤ s.dev.count → s.dev.trunk.entries = [] →
    (s.dev.trunk.coordKnown = false ∨ s.dev.trunk.resigned = true) → s.dev.trunk.ownResign = true →
    exec .claimWindowEnd s = .next (s.goes
      ({ s.dev with trunk := { s.dev.trunk with
        winEnd := none, entries := [], ownResign := false, resigned := false } }.trkRes 4 true))) ∧
  -- a superframe of a member that hears no beacon counts a miss; at LOSTSF misses it takes SEEKING
  (∀ (t : Nat) (d : Dev) (m : Nat), d = (s.dev.endTurn 16 sTURN).txEnd 16 → d.trunk.sfNext = some t → t ≤ d.cluster →
    d.role = 2 → (d.radio 16).draining = false → ∀ d1 : Dev,
    d1 = { d with trunk := { d.trunk with sfStart := t, sfNext := some (t + d.trunk.sfLen), slots := [] } } →
    m = min 255 (d1.f R.TRK_STATUS 8 8 + 1) →
    exec (.superframeStart true) s = .next (s.goes d1) ∧
    (m < max 1 ((d1.setF R.TRK_STATUS 8 8 m).f R.TRK_CFG 2 3) →
      exec (.superframeStart false) s = .next (s.goes (d1.setF R.TRK_STATUS 8 8 m)))) ∧
  -- a data frame from a valid peer, in RX, its map generation the default, whose window stays: the capture of source 1, and
  -- the buffer at the head of RXB; with no buffer it is counted
  (∀ (x : TrunkRx) (f : RxFrame) (p : Nat) (peak : Int) (d0 d : Dev), (s.dev.radio 16).rx = some f → f.sfd = true →
    d0 = s.dev.onRadio 16 (fun r => { r with rx := none, heard := some s.dev.clk }) → (d0.radio 16).st = sRX →
    x.headerOk = true → x.type = 0 → d0.peerOf x.src = some p → x.soundings = [] → x.dst = 255 → x.mgen = 0 →
    d = d0.capture 16 1 →
    (d.trunk.rxb = [] → ((d.bumpF R.TRK_CNT 0 16 1).radio 16).closeAfter = false →
      exec (.trunkFrameEnd x peak) s = .next (s.goes (d.bumpF R.TRK_CNT 0 16 1))) ∧
    (∀ (addr cap : Word) (l : List (Word × Word)) (t : Dev), d.trunk.rxb = (addr, cap) :: l →
      x.payload.length ≤ cap.toNat → x.crcOk = true →
      t = (((({ d with trunk := { d.trunk with rxb := l } }.msWrite (storeBase + addr.toNat % 0xC00000)
          x.payload).trkRecord f x 0 addr).pmcOctets 28 1 x.payload.length)) → (t.radio 16).closeAfter = false →
      exec (.trunkFrameEnd x peak) s = .next (s.goes t))) ∧
  -- nothing is received where no frame is in progress
  ((s.dev.radio 16).rx = none → ∀ x peak, exec (.trunkFrameEnd x peak) s = .next (s.goes s.dev)) ∧
  -- a raised map is queued once MAPHOLD is over
  (∀ p : Fin 6, s.dev.trunk.mapDefer.contains p.val = true → s.dev.mapHeld p = true →
    exec (.mapFrameQueue p) s = .next (s.goes { s.dev with trunk := { s.dev.trunk with
      mapq := addOnce s.dev.trunk.mapq p, mapDefer := s.dev.trunk.mapDefer.filter (· ≠ p) } })) ∧
  -- an entry that becomes valid, or whose station address changes while it is valid, resets its maps
  (∀ (r : Req) (p : Fin 6) (w : Word) (d : Dev), s.dev.lets r (R.TRK_PEER_CTRL p) →
    d = s.dev.setReg (R.TRK_PEER_CTRL p) (w &&& 0x800000FF#32) →
    (fld (s.dev.reg (R.TRK_PEER_CTRL p)) 0 8 = fld w 0 8 → bitOf (s.dev.reg (R.TRK_PEER_CTRL p)) 31 = true →
      exec (.trkPeerpCtrl r p w) s = .next (s.goes d)) ∧
    (bitOf w 31 = true → bitOf (s.dev.reg (R.TRK_PEER_CTRL p)) 31 = false →
      exec (.trkPeerpCtrl r p w) s = .next (s.goes (d.resetMaps p))) ∧
    (fld (s.dev.reg (R.TRK_PEER_CTRL p)) 0 8 ≠ fld w 0 8 → bitOf (s.dev.reg (R.TRK_PEER_CTRL p)) 31 = true →
      exec (.trkPeerpCtrl r p w) s = .next (s.goes (d.resetMaps p))))

/-- On R326, R327, R329, R332: the Anchor Sync Bus station. -/
def Obligations.SyncBus : Prop := ∀ s : State, s.live →
  -- ASB_TXCMD: BAD_TYPE, BUSY with eight frames of the class waiting, or the frame is queued
  (∀ (r : Req) (w : Word), s.dev.lets r R.ASB_TXCMD →
    (fld w 24 4 ≠ 5 → fld w 24 4 ≠ 6 →
      exec (.asbTxcmd r w) s = .next (s.goes (s.dev.setReg R.ASB_TXRES (pack [(31, 1), (0, 2)])))) ∧
    (fld w 24 4 = 5 ∨ fld w 24 4 = 6 → fld w 0 5 ≤ 16 →
      8 ≤ (s.dev.asb.txq.filter fun e => busClass e.1.type == 2).length →
      exec (.asbTxcmd r w) s = .next (s.goes (s.dev.setReg R.ASB_TXRES (pack [(31, 1), (0, 3)])))) ∧
    (fld w 24 4 = 5 ∨ fld w 24 4 = 6 → fld w 0 5 ≤ 16 →
      (s.dev.asb.txq.filter fun e => busClass e.1.type == 2).length < 8 →
      exec (.asbTxcmd r w) s = .next (s.goes
        ((s.dev.setReg R.ASB_TXRES 0#32).asbQueue
          { type := fld w 24 4, addr := fld w 16 8
            data := ((List.range 4).flatMap fun k => (wordBytes (s.dev.reg (R.ASB_TXD k))).reverse).take
              (fld w 0 5) })))) ∧
  -- at bus idle the station's next frame starts, a FOLLOW filled at its first start; the loser of the arbitration counts it and
  -- keeps its frame, which is the next to start
  (∀ (k : Nat) (f g : BusFrame) (tries : Nat) (rivals : List BusFrame) (d : Dev), s.dev.asbIdle = true → s.dev.pdRun 2 = true →
    s.dev.asb.sending = none → s.dev.asbNext = some k → s.dev.asb.txq.getD k default = (f, tries) → g = s.dev.asbFill f →
    d = { s.dev with asb := { s.dev.asb with quiet := none, cur := some k, txq := s.dev.asb.txq.set k (g, tries) } } →
    (∀ l : List BusFrame, l = rivals.filter (fun r => losesTo (frameBitsOf g) (frameBitsOf r)) → l ≠ [] →
      exec (.asbTxStart rivals) s = .next (s.goes ({ d with asb := { d.asb with
        line := l.foldl (fun b r => alike b (lineBits r)) (lineBits g) } }.bumpF R.ASB_CNT 8 8 1))) ∧
    ((∀ r ∈ rivals, losesTo (frameBitsOf g) (frameBitsOf r) = false) →
      exec (.asbTxStart rivals) s = .next (s.goes
        ({ d with asb := { d.asb with sending := some g, line := lineBits g } }.asbSof g)))) ∧
  -- a frame completes at EOF, after which the line is recessive: errors are counted; another station's PLAN or USER frame is
  -- delivered; an own frame that was acknowledged is done, and one that was not is sent again up to RETRY times
  (∀ d e : Dev, s.dev.asbEn = true → s.dev.pdRun 2 = true →
    d = { s.dev with asb := { s.dev.asb with quiet := some (s.dev.clk - 7 * us) } } →
    e = { s.dev with asb := { s.dev.asb with quiet := some s.dev.clk } } →
    exec (.asbFrameComplete .crcError) s = .next (s.goes (d.bumpF R.ASB_CNT 24 8 1)) ∧
    exec (.asbFrameComplete .stuffError) s = .next (s.goes (e.bumpF R.ASB_CNT 16 8 1)) ∧
    (∀ (src ago : Nat) (f : BusFrame), f.addr = 255 → f.type = 5 ∨ f.type = 6 →
      exec (.asbFrameComplete (.other src f ago)) s = .next (s.goes
        ({ d with asb := { d.asb with line := [false] } }.asbDeliver f))) ∧
    (∀ (k : Nat) (f : BusFrame), s.dev.asb.cur = some k → s.dev.asb.sending = some f → f.type = 5 ∨ f.type = 6 →
      exec (.asbFrameComplete (.own true false)) s = .next (s.goes
        ((d.asbDone k).setReg R.ASB_TXRES 0x80000000#32)) ∧
      (∀ (g : BusFrame) (tries : Nat), s.dev.asb.txq.getD k default = (g, tries) →
        (tries < s.dev.f R.ASB_CFG 16 4 → exec (.asbFrameComplete (.own false false)) s = .next (s.goes
          { d with asb := { d.asb with txq := d.asb.txq.set k (f, tries + 1), sending := none } })) ∧
        (s.dev.f R.ASB_CFG 16 4 ≤ tries → exec (.asbFrameComplete (.own false false)) s = .next (s.goes
          ((d.asbDone k).setReg R.ASB_TXRES 0x80000001#32)))))) ∧
  -- the time master queues a SYNC and a FOLLOW every SYNCINT
  (∀ n, n = s.dev.f R.ASB_SYNCINT 0 16 → s.dev.asbEn = true → s.dev.b R.ASB_CFG 30 = true → n ≠ 0 →
    s.dev.pdRun 2 = true → s.dev.asb.nextSync ≤ s.dev.clk →
    exec .syncInterval s = .next (s.goes
      (({ s.dev with asb := { s.dev.asb with nextSync := s.dev.clk + n * ms } }.asbQueue
        { type := 1, addr := 255, data := [] }).asbQueue { type := 2, addr := 255, data := [] }))) ∧
  -- ASB_RXPOP discards the oldest received frame
  (∀ (r : Req) (f : BusFrame) (l : List BusFrame), s.dev.lets r R.ASB_RXPOP → s.dev.asb.rxq = f :: l →
    exec (.asbRxpop r) s = .next (s.goes { s.dev with asb := { s.dev.asb with rxq := l } }.asbShow))

/-- On R210, R211, R218: writes of a node table by field group, and node-table commands, whose result and outputs a Main
Processor reads in its own copies; INSERT's checks refuse in the order of R211. -/
def Obligations.NodeTable : Prop := ∀ s : State, s.live →
  -- a write through the window: a permitted field is stored, its reserved bits as 0, and any other write sets NTWERR
  (∀ (p : Proc) (off size pd f : Nat) (v : Word), off < 0x100000 →
    s.dev.place p (s.dev.cpu p.num).sup (wd (0x41000000 + off)) size kStore = .ok (.win f pd (0x1000000 + off)) →
    s.dev.pdRun pd = true → s.dev.pdPrep pd = false →
    (0x10 ≤ off % 64 → off % 64 < 0x20 → exec (.nodeTableWrite p off size v) s = .next (s.goes
      (s.dev.wrBytes (ntBase (s.dev.winHalf p) + off)
        ((natBytes size (v.toNat % 2 ^ (8 * size))).zipIdx.map fun e => e.1 &&& ntMask (off % 64 + e.2))))) ∧
    (0x20 ≤ off % 64 → exec (.nodeTableWrite p off size v) s = .next (s.goes (s.dev.setB R.MAC_STATUS 0 true)))) ∧
  (∀ (h : Half) (n : Nat) (bank : Nat) (a1 a2 a3 : Word), bank = 64 + h.toNat → s.dev.lets (.mp h) R.MAC_NTCMD →
    s.dev.pdRun 4 = true → n ≤ 16383 →
    (List.range 4).map (fun k => s.dev.reg (bankKey bank (R.MAC_NTARG k))) = [wd n, a1, a2, a3] →
    -- INSERT of an entry every check accepts, and of one that a check refuses
    (s.dev.insertCheck h.toNat n = 0 → exec (.ntInsert h none) s = .next (s.goes
      ((s.dev.ntInsert n a1.toNat (bitOf a2 0)).setReg (bankKey bank R.MAC_NTRES) (pack [(31, 1), (4, 1), (0, 0)])))) ∧
    (s.dev.insertCheck h.toNat n ≠ 0 → exec (.ntInsert h none) s = .next (s.goes
      (s.dev.setReg (bankKey bank R.MAC_NTRES) (pack [(31, 1), (4, 1), (0, s.dev.insertCheck h.toNat n)])))) ∧
    ((s.dev.ntField h.toNat n 0x0A 2).testBit 15 = true →
      -- INVALIDATE, SETFC and SYNC of a valid entry
      exec (.ntInvalidate h none) s = .next (s.goes
        (((s.dev.setValid n false).purge n).setReg (bankKey bank R.MAC_NTRES) (pack [(31, 1), (4, 2), (0, 0)]))) ∧
      exec (.ntSetfc h none) s = .next (s.goes
        (((s.dev.setFcIn n a1.toNat (bitOf a2 0) (s.dev.ntState n)).purge n).setReg (bankKey bank R.MAC_NTRES)
          (pack [(31, 1), (4, 3), (0, 0)]))) ∧
      (∀ d : Dev, d = (s.dev.ntPut n 0x20 8 (a1.toNat + 2 ^ 32 * a2.toNat)).ntPut n 0x28 8
          s.dev.count →
        exec (.ntSync h none) s = .next (s.goes
          ((d.ntPut n 0x3A 1 (d.ntCgen n + 1)).setReg (bankKey bank R.MAC_NTRES) (pack [(31, 1), (4, 4), (0, 0)]))))) ∧
    -- PLAN of a TRANSPARENT node is the instant asked for, and of a WAKEFRAME node NOW_OR_TRAIN with nothing of it; it writes
    -- NTOUT0 to NTOUT5, and the train it names waits for the node's next fill (R219). PLAN of an entry that is not valid answers 7
    (∀ x : Plan, s.dev.plan n (a1.toNat + 2 ^ 32 * a2.toNat) = (0, some x) →
      exec (.ntPlan h none) s = .next (s.goes
        (((List.range x.words.length).foldl
          (fun d k => d.setReg (bankKey bank (R.MAC_NTOUT k)) (x.words.getD k 0#32))
          (s.dev.noteTrain h.toNat n (if x.method = 2 ∨ x.method = 3 then x.n else 0))).setReg
          (bankKey bank R.MAC_NTRES) (pack [(31, 1), (4, 5), (0, 0)])))) ∧
    (∀ (m nb : Nat) (x : Plan), m = s.dev.planNode n → nb = a1.toNat + 2 ^ 32 * a2.toNat → s.dev.ntValid n = true →
      s.dev.ntValid m = true → phyKind (s.dev.ntPhy m) = s.dev.ntBand m + 1 →
      (s.dev.ntKind m = 1 ∧ x = { method := 0, txs := nb, frame := nb } ∨ s.dev.ntKind m = 2 ∧ x = { method := 4 }) →
      exec (.ntPlan h none) s = .next (s.goes
        (((List.range 6).foldl
          (fun d k => d.setReg (bankKey bank (R.MAC_NTOUT k)) (x.words.getD k 0#32)) (s.dev.noteTrain h.toNat n 0)).setReg
          (bankKey bank R.MAC_NTRES) (pack [(31, 1), (4, 5), (0, 0)])))) ∧
    (s.dev.ntValid n = false → exec (.ntPlan h none) s = .next (s.goes
      (s.dev.setReg (bankKey bank R.MAC_NTRES) (pack [(31, 1), (4, 5), (0, 7)]))))) ∧
  -- LOOKUP by a short address finds the valid node that has it, or answers 5
  (∀ (h : Half) (a1 a2 a3 : Word), s.dev.lets (.mp h) R.MAC_NTCMD → s.dev.pdRun 4 = true →
    (List.range 4).map (fun k => s.dev.reg (bankKey (64 + h.toNat) (R.MAC_NTARG k))) = [0#32, a1, a2, a3] →
    (∀ m, (s.dev.validNodes h.toNat).find? (fun m => s.dev.ntField h.toNat m 0x08 2 == a1.toNat) = some m →
      exec (.ntLookup h none) s = .next (s.goes
        ((s.dev.setReg (bankKey (64 + h.toNat) (R.MAC_NTOUT 0)) (wd m)).setReg (bankKey (64 + h.toNat) R.MAC_NTRES)
          (pack [(31, 1), (4, 6), (0, 0)])))) ∧
    ((s.dev.validNodes h.toNat).find? (fun m => s.dev.ntField h.toNat m 0x08 2 == a1.toNat) = none →
      exec (.ntLookup h none) s = .next (s.goes
        (s.dev.setReg (bankKey (64 + h.toNat) R.MAC_NTRES) (pack [(31, 1), (4, 6), (0, 5)])))))

/-- On R16, R212, R214 to R216, R236: a received copy in stages 3 to 6. -/
def Obligations.ReceivedCopies : Prop := ∀ s : State, s.live →
  -- stage 3: a foreign half's node is counted; a copy that fails the replay test is counted with a record of kind 2, or as a
  -- duplicate of an admitted twin; any other copy waits for its hold blocks
  (∀ (x : FrameIn) (n : Nat), s.dev.pdRun 4 = true → s.dev.findNode x.source = some n → s.dev.capacity = false →
    (s.dev.replayOk n x.fc = false → s.dev.ratHas n x.fc = none → exec (.frameCopy x) s = .next (s.goes
      ((s.dev.bump R.MAC_CNT_REPLAY).macEvent 2 n x.fc x.rxCount x.rxWord2 []))) ∧
    (∀ e, s.dev.replayOk n x.fc = false → s.dev.ratHas n x.fc = some e →
      exec (.frameCopy x) s = .next (s.goes (s.dev.duplicate e))) ∧
    (∀ (c : Copy) (d : Dev), s.dev.replayOk n x.fc = true → c = { id := s.dev.mac.copySeq, node := n, inn := x } →
      d = { s.dev with mac := { s.dev.mac with
        copySeq := s.dev.mac.copySeq + 1, copies := s.dev.mac.copies ++ [c] } } →
      ((d.holdCopy c).copy c.id).any Copy.held = true →
      exec (.frameCopy x) s = .next (s.goes (d.holdCopy c)))) ∧
  -- stage 4: a copy whose node lost its key is dropped, its blocks zeroised, and counted; so is one whose MIC does not verify
  -- under its node's key, and one whose entry was removed meanwhile; a verified copy that delivers nothing only takes its place
  (∀ (id : Nat) (c : Copy) (d : Dev) (datagram : Bool), s.dev.copy id = some c → c.held = true → c.verified = none →
    c.old = none → d = (s.dev.pmcEvent 0x09).loadKey (s.dev.ntSlot c.node) →
    (c.stale = true → exec (.decryptDone id datagram) s = .next (s.goes ((d.dropCopy id).bump R.MAC_CNT_LATE))) ∧
    (c.stale = false → d.rxNoKey c.node = true →
      exec (.decryptDone id datagram) s = .next (s.goes ((d.dropCopy id).bump R.SEC_CNT_NOKEY))) ∧
    (c.stale = false → d.rxNoKey c.node = false → (d.openCopy c).2 = false →
      exec (.decryptDone id datagram) s = .next (s.goes ((d.dropCopy id).bump R.SEC_CNT_AUTH))) ∧
    (∀ n : Fin 16, c.stale = false → d.rxNoKey c.node = false → (d.openCopy c).2 = true → c.inn.path = .lane n →
      exec (.decryptDone id false) s = .next (s.goes
        (d.setCopies (d.mac.copies.map fun x => if x.id = id then
          { c with verified := some d.clk, opened := openPlain (d.openCopy c).1 false, busy := false } else x))))) ∧
  -- stage 5: a twin of an admitted copy is dropped as a duplicate, and so is one with a twin of a better path in the step;
  -- a copy waits for a lower counter of its node in the step; the admitted copy commits its counter and its twins go
  (∀ (id : Nat) (c : Copy), s.dev.copy id = some c → c.verified.isSome = true → c.stale = false →
    (∀ e, s.dev.ratHas c.node c.inn.fc = some e →
      exec (.duplicateFilter id) s = .next (s.goes ((s.dev.dropCopy id).duplicate e))) ∧
    (s.dev.ratHas c.node c.inn.fc = none → ∀ better : Bool,
      better = (s.dev.twins c).any (fun x => decide (pathRank x.inn.path < pathRank c.inn.path)) →
      (better = true → exec (.duplicateFilter id) s = .next (s.goes ((s.dev.dropCopy id).duplicate
        { node := c.node, fc := c.inn.fc, tag := c.context.1 }))) ∧
      (better = false → s.dev.lowerFirst c = true → exec (.duplicateFilter id) s = .next (s.goes s.dev)) ∧
      (∀ d : Dev, better = false → s.dev.lowerFirst c = false → s.dev.mac.rat.length < 512 →
        s.dev.replayOk c.node c.inn.fc = true → c.inn.csl = none → c.delivers = false →
        d = s.dev.setRat (s.dev.mac.rat ++
          [{ node := c.node, fc := c.inn.fc, commit := some s.dev.clk, tag := c.context.1 }]) →
        exec (.duplicateFilter id) s = .next (s.goes
          ((((d.commitFc c.node c.inn.fc).lqsUpdate c.node c.inn.lqw0).forEach (s.dev.twins c)
            fun d x => (d.dropCopy x.id).dupCount x.node).dropCopy id))))) ∧
  -- DUPWIN ms after its commit an entry is removed
  (∀ (n : Fin 16384) (fc : Word), exec (.dupwinExpiry n fc) s = .next (s.goes
    { s.dev with mac := { s.dev.mac with rat := s.dev.mac.rat.filter fun e =>
      !(e.node == n.val && e.fc == fc.toNat &&
        e.commit.any fun t => decide (t + s.dev.f R.MAC_DUPWIN 0 16 * ms ≤ s.dev.clk)) } }))

/-- On R13, R152, R226 to R236: the security rings. The entry at HEAD is refused by the first check that fails; an encryption uses
the slot's next counter, writes it into the header, and delivers ciphertext and MIC; a decryption opens through hold memory, and
hands out nothing when its tag or MIC does not verify; a request that the other half's binding answers takes its result. -/
def Obligations.SecurityRings : Prop := ∀ (s : State) (h : Half), s.live →
  -- refusals, and an OP that the engine does not know
  (∀ (x : Desc) (st : Nat), s.dev.secWait h.toNat = .none → s.dev.ringFront h.toNat = some x →
    s.dev.refusal h.toNat x = some st →
    (x.op = 1 → exec (.ccmEnc h) s = .next (s.goes (s.dev.ringResult h.toNat x st 0 0 0))) ∧
    (x.op = 0 → exec (.gcmEnc h) s = .next (s.goes (s.dev.ringResult h.toNat x st 0 0 0))) ∧
    (s.dev.oldOf h.toNat = none → x.op = 2 →
      exec (.ccmDec h) s = .next (s.goes (s.dev.ringResult h.toNat x st 0 0 0)))) ∧
  -- a fresh encryption to memory: counter c, in the header, and output at the destination
  (∀ (x : Desc) (c : Nat) (out : List Byte) (d d1 : Dev), s.dev.secWait h.toNat = .none →
    s.dev.ringFront h.toNat = some x → s.dev.refusal h.toNat x = none → s.dev.bound h.toNat x = none →
    s.dev.slotState x.slot ≠ 2 → d = (s.dev.loadKey x.slot).opReads x x.mlen → out = d.encOut x c →
    (x.op = 1 → c = tget zeroDflt s.dev.sec.fc x.slot → c < 0xFFFFFFFF → c < tget zeroDflt s.dev.sec.fcLim x.slot →
      d1 = ((d.msWrite (storeBase + (x.word 2).toNat + x.fcoff) (natBytes 4 c)).msWrite (storeBase + (x.word 4).toNat)
        out).useFc x.slot →
      exec (.ccmEnc h) s = .next (s.goes ((d1.bind h.toNat x 0 c out).ringResult h.toNat x 0 c 0 (d1.reported x)))) ∧
    (x.op = 3 → c = tget zeroDflt s.dev.sec.gcm x.slot → c < tget zeroDflt s.dev.sec.gcmLim x.slot →
      d1 = (d.msWrite (storeBase + (x.word 4).toNat) out).useGcm x.slot →
      exec (.gcmEnc h) s = .next (s.goes
        ((d1.bind h.toNat x 0 c out).ringResult h.toNat x 0 c (c / 2 ^ 32) (d1.reported x))))) ∧
  -- no limit: the front waits 1 ms for a reservation
  (∀ (x : Desc), s.dev.secWait h.toNat = .none → s.dev.ringFront h.toNat = some x → s.dev.refusal h.toNat x = none →
    s.dev.bound h.toNat x = none → s.dev.slotState x.slot ≠ 2 → x.op = 1 →
    tget zeroDflt s.dev.sec.fc x.slot < 0xFFFFFFFF →
    tget zeroDflt s.dev.sec.fcLim x.slot ≤ tget zeroDflt s.dev.sec.fc x.slot →
    exec (.ccmEnc h) s = .next (s.goes ((s.dev.askLimit x.slot).setWait h.toNat (.reservation (s.dev.clk + 160000))))) ∧
  -- decryptions, with hold blocks, and without
  (∀ (x : Desc) (fc : Nat) (i : Instr), s.dev.secWait h.toNat = .none → s.dev.ringFront h.toNat = some x →
    s.dev.oldOf h.toNat = none → s.dev.refusal h.toNat x = none → s.dev.bound h.toNat x = none →
    (x.op = 2 ∧ i = .ccmDec h ∧ fc = (x.word 5).toNat ∨ x.op = 4 ∧ i = .gcmDec h ∧ fc = 0) →
    (∀ d0 d o, s.dev.takeHold h.toNat (holdBlocks x.mlen) = some d0 → d = (d0.loadKey x.slot).opReads x (x.mlen + x.mic) → o = d.decOpen x →
      (o.2 = false → exec i s = .next (s.goes
        (((d.bind h.toNat x 1 fc []).freeHold h.toNat).ringResult h.toNat x 1 fc 0 0))) ∧
      (o.2 = true → exec i s = .next (s.goes
        ((((d.bind h.toNat x 0 fc o.1).msWrite (storeBase + (x.word 4).toNat) (fit x.mlen o.1)).freeHold
          h.toNat).ringResult h.toNat x 0 fc 0 x.mlen)))) ∧
    (s.dev.takeHold h.toNat (holdBlocks x.mlen) = none →
      exec i s = .next (s.goes ((s.dev.bumpF R.SEC_HOLD 16 16 1).setWait h.toNat .hold)))) ∧
  -- a request that the other half's binding answers: a decryption is not performed again, and late is MATCH_LATE
  (∀ (x : Desc) (b : Binding) (d : Dev), s.dev.secWait h.toNat = .none → s.dev.ringFront h.toNat = some x →
    s.dev.oldOf h.toNat = none → s.dev.refusal h.toNat x = none → s.dev.bound h.toNat x = some b →
    d = s.dev.unbind b.node b.dir b.match_ →
    (x.op = 2 → b.late = false → b.status = 0 → exec (.ccmDec h) s = .next (s.goes
      ((d.msWrite (storeBase + (x.word 4).toNat) (fit x.mlen b.out)).ringEnd h.toNat x 0 b.fc 0 x.mlen))) ∧
    (x.op = 2 → b.late = true → exec (.ccmDec h) s = .next (s.goes (d.ringEnd h.toNat x 7 0 0 0))) ∧
    (x.op = 1 → b.late = true → exec (.ccmEnc h) s = .next (s.goes (d.ringEnd h.toNat x 7 0 0 0)))) ∧
  -- a decryption whose slot changed while it waited uses the slot as it was (`i`), and the change stands after it; a
  -- further request that waits on the same slot as it was finds what this one left (R237)
  (∀ (x : Desc) (i : SlotImage) (d : Dev), s.dev.secWait h.toNat = .none → s.dev.ringFront h.toNat = some x →
    s.dev.oldOf h.toNat = some i → d = (s.dev.putSlot i).decrypt h.toNat x →
    (x.op = 2 → exec (.ccmDec h) s = .next (s.goes
      (({ d with sec := { d.sec with requested := s.dev.sec.requested } }.sameOld i (d.slotImage i.slot)).putSlot
        (s.dev.slotImage i.slot)))) ∧
    (x.op = 4 → exec (.gcmDec h) s = .next (s.goes
      (({ d with sec := { d.sec with requested := s.dev.sec.requested } }.sameOld i (d.slotImage i.slot)).putSlot
        (s.dev.slotImage i.slot))))) ∧
  -- a fill whose lane has room, and behind which none waits: the entry, its handle, and the train that PLAN named (R219)
  (∀ (x : Desc) (c k : Nat) (out : List Byte) (d d1 t : Dev) (e : Dev × Nat), s.dev.secWait h.toNat = .none →
    s.dev.ringFront h.toNat = some x → x.op = 5 → s.dev.refusal h.toNat x = none → s.dev.bound h.toNat x = none →
    s.dev.slotState x.slot ≠ 2 → c = tget zeroDflt s.dev.sec.fc x.slot → c < 0xFFFFFFFF →
    c < tget zeroDflt s.dev.sec.fcLim x.slot → d = (s.dev.loadKey x.slot).opReads x x.mlen → out = d.encOut x c →
    d.txPlace x.lane (d.fillLen x) = some k → d.fillFirst x.lane (d.fillUntil h.toNat) h.toNat = true →
    e = (d.msWrite (storeBase + (x.word 2).toNat + x.fcoff) (natBytes 4 c)).fillEntry x.lane k (d.fillOf x c out) →
    d1 = (e.1.fillTrain h.toNat x).useFc x.slot → t = (d1.bind h.toNat x 0 c out).ringResult h.toNat x 0 c e.2 (d1.reported x) →
    t.sec.acks = [] → exec (.ccmFill h) s = .next (s.goes t)) ∧
  -- 1 ms without a limit, or without room, ends the waiting front with BUSY
  (∀ (t : Nat) (d : Dev), s.dev.pdRun 6 = true → t ≤ s.dev.clk →
    d = s.dev.ringResult h.toNat (s.dev.headDesc h.toNat) 3 0 0 0 →
    (s.dev.secWait h.toNat = .reservation t → (d.sec.acks.filter fun a => a.counter && decide (a.until_ ≤ d.clk)) = [] →
      exec (.reservationTimeout h) s = .next (s.goes d)) ∧
    (s.dev.secWait h.toNat = .fill t → (d.sec.acks.filter fun a => !a.counter && decide (a.until_ ≤ d.clk)) = [] →
      exec (.fillTimeout h) s = .next (s.goes d))) ∧
  -- hold blocks have come free for a waiting decryption, which takes them and runs
  (∀ d : Dev, d = s.dev.holdCopies → d.secWait h.toNat = .hold → d.pdRun 6 = true →
    (d.takeHold h.toNat (holdBlocks (d.headDesc h.toNat).mlen)).isSome = true → d.oldOf h.toNat = none →
    exec (.holdBlocksFreed h) s = .next (s.goes
      ((d.setWait h.toNat .none).decrypt h.toNat ((d.setWait h.toNat .none).headDesc h.toNat)))) ∧
  -- a reservation reaches the engine with no encryption and no acknowledgement waiting
  (∀ (k : Fin 16640) (gcm : Bool), s.dev.restarting = false → (s.dev.grantLimit k gcm).secWait 0 = .none →
    (s.dev.grantLimit k gcm).secWait 1 = .none → (s.dev.grantLimit k gcm).sec.acks = [] →
    exec (.reservationGrant k gcm) s = .next (s.goes (s.dev.grantLimit k gcm))) ∧
  -- a write of the tail that adds no entry
  (∀ (r : Req) (w : Word), s.dev.lets r (R.SEC_RING_TAIL h.toNat) → s.dev.ringSize h.toNat ≤ fld w 0 12 →
    exec (.secRinghTail r h w) s = .next (s.goes ({ s.dev with sec := { s.dev.sec with
      tailBy := tput zeroDflt s.dev.sec.tailBy h.toNat (r.num + 1) } }.setReg (R.SEC_RING_TAIL h.toNat) (wd (fld w 0 12))))) ∧
  -- 100 ms: a binding that no waiting request takes is late from now on
  (∀ (node : Fin 16384) (dir : Fin 3) (m : BitVec 96), exec (.bindingExpiry node dir m) s = .next (s.goes
    { s.dev with sec := { s.dev.sec with bindings := s.dev.sec.bindings.map fun b =>
      if (b.names node dir m.toNat && decide (b.expires ≤ s.dev.clk) && !s.dev.copyWaits 0 b && !s.dev.copyWaits 1 b) = true
      then { b with late := true, out := [] } else b } }))

/-- On R237 to R239: the alarms. A1 ends operations with NO_KEY and zeroises hold memory; A2 also starts the zeroisation of
every slot; a slot that fails its check is BAD, with a notice to Rim and Weave, and the seventeenth raises A2. -/
def Obligations.Alarms : Prop := ∀ s : State, s.live →
  (∀ r : Req, s.dev.lets r R.SEC_ALARM →
    exec (.a1 r) s = .next (s.goes ((s.dev.almCause 1 0).abortOps)) ∧
    (∀ d : Dev, d = (s.dev.almCause 2 0).abortOps → exec (.a2 r) s = .next (s.goes
      ({ d with fw := { d.fw with a2Pending := true } }.setB R.SEC_STATUS 31 true)))) ∧
  exec .keyBusError s = .next (s.goes ((s.dev.almCause 1 1).abortOps)) ∧
  (∀ (k : Fin 16640) (d0 d : Dev), s.dev.slotState k = 1 ∨ s.dev.slotState k = 2 →
    d0 = (s.dev.setSlotState k 3).flushKey k →
    d = { d0 with sec := { d0.sec with bad := d0.sec.bad + 1 }, mgn := { d0.mgn with keyNotice := true } } →
    (d.sec.bad ≠ 17 → exec (.slotBad k) s = .next (s.goes d)) ∧
    (d.sec.bad = 17 → exec (.slotBad k) s = .next (s.goes (d.alarm2 3)))) ∧
  (s.dev.fw.a2Pending = true → exec .a2ZeroisationDone s = .next (s.goes
    (s.dev.zeroiseKeys.setB R.SEC_STATUS 31 false)))

/-- On R245 to R247, R250, R253, R260, R261: submissions. One the device cannot take stalls its queue and changes nothing else; a
malformed one completes with BAD_SUBMISSION; any other takes the next LSN and the sequence of its domain, and then its
blocks, or, in a fenced domain, ends FENCED. A LIFT_FENCE clears the fence. -/
def Obligations.Submissions : Prop := ∀ (s : State) (lq : Fin 127) (entry : List Word) (payload : List Byte), s.live →
  s.dev.pdRun 5 = true → s.dev.b R.MSG_CTRL 0 = true →
  ∀ p ∈ [(Instr.sendNode lq entry payload, 1), (Instr.sendGroup lq entry payload, 2), (Instr.liftFence lq entry payload, 3)],
  ∀ x : Sub, x = ⟨setFld (entry.getD 0 0#32) 28 4 p.2 :: entry.drop 1⟩ →
  -- a PCIe submission of a class S or F domain stays queued while the AMP has submitted to the domain at this tick
  (lq.val < 64 → s.dev.ampAhead x = true → exec p.1 s = .next (s.goes s.dev)) ∧
  ((lq.val < 64 → s.dev.ampAhead x = false) →
  (s.dev.canAccept x = false → exec p.1 s = .next (s.goes (s.dev.setB R.MSG_STATUS 31 true))) ∧
  (s.dev.canAccept x = true → ∀ d : Dev, d = (s.dev.noteAmp lq x).setB R.MSG_STATUS 31 false →
    (d.malformed x = true → exec p.1 s = .next (s.goes
      (d.addTcb { d.newTcb lq x (d.numberFrom lsnMod upBase) [] with state := 2, status := 14, len := 0 }).releaseAll)) ∧
    (d.malformed x = false → ∀ (t t1 : Tcb) (d1 d2 : Dev), t = d.newTcb lq x d.msg.nextLsn payload →
      d1 = { d with msg := { d.msg with nextLsn := (d.msg.nextLsn + 1) % lsnMod } } →
      -- class U
      (x.cls = 2 →
        (p.2 = 3 → exec p.1 s = .next (s.goes ((d1.addTcb t).conclude t.lsn 0))) ∧
        (p.2 ≠ 3 → exec p.1 s = .next (s.goes ((d1.addTcb t).reserve t)))) ∧
      -- classes S and F: the domain's sequence advances
      (∀ (i h : Nat), x.cls ≠ 2 → d1.ledGet t.dom = some (d2, i) → h = d2.ledHalf t.group t.home →
        t1 = { t with ledger := some i, dseq := (d2.ledWord h i 1).toNat } → ∀ d3 : Dev,
        d3 = (d2.ledPut t.group t.home i 1 (d2.ledWord h i 1 + 1#32)).addTcb t1 →
        (p.2 = 3 → exec p.1 s = .next (s.goes
          ((d3.ledPut t.group t.home i 0 (setBit (d3.ledWord h i 0) 30 false)).conclude t.lsn 0))) ∧
        (p.2 ≠ 3 → bitOf (d3.ledWord h i 0) 30 = true → exec p.1 s = .next (s.goes (d3.conclude t.lsn 8))) ∧
        (p.2 ≠ 3 → bitOf (d3.ledWord h i 0) 30 = false → exec p.1 s = .next (s.goes (d3.reserve t1)))))))

/-- On R249, R250, R254, R257, R258, R261, R266: what ends or admits a transaction, reassembly, and the message commands. -/
def Obligations.Transactions : Prop := ∀ s : State, s.live →
  -- the head of a pool's admission queue takes its blocks when they are free above the reserve
  (∀ (p : Fin 16) (t : Tcb) (l : List Tcb), s.dev.poolQueue p = t :: l → s.dev.poolResv p + t.need ≤ s.dev.poolFree p →
    exec (.poolReserve p) s = .next (s.goes (s.dev.takeBlocks t))) ∧
  -- the wait of WAITMS ends with BUSY
  (∀ (p : Fin 16) (t : Tcb) (l : List Tcb) (w : Nat), s.dev.poolQueue p = t :: l → t.waitUntil = some w → w ≤ s.dev.clk →
    exec (.poolWaitTimeout p) s = .next (s.goes (s.dev.conclude t.lsn 12))) ∧
  -- a deadline: DEADLINE_MISSED before the first radiation, otherwise a deadline event
  (∀ (lsn : Nat) (t : Tcb), s.dev.tcb lsn = some t → lsn < 2 ^ 20 → t.state ≠ 2 → t.deadline ≤ s.dev.clk →
    (t.radiated = false → exec (.deadline lsn) s = .next (s.goes (s.dev.conclude lsn 3))) ∧
    (t.radiated = true → s.dev.capacity = false → t.deadlinePosted = true →
      exec (.deadline lsn) s = .next (s.goes s.dev)) ∧
    (t.radiated = true → s.dev.capacity = false → t.deadlinePosted = false → exec (.deadline lsn) s = .next (s.goes
      ((s.dev.updTcb lsn fun u => { u with deadlinePosted := true, barFrom := s.dev.armSeq }).macEvent 6
        (t.target % 16384) lsn s.dev.count (stampWordOf 0 0 false s.dev.tbState s.dev.slewing) [])))) ∧
  -- a result record of the leading half is admitted, and one that names no undecided transaction is counted; the trailing
  -- half's goes to its trail queue
  (∀ (h : Half) (r : ResultRec), s.dev.pdRun 5 = true → s.dev.capacity = false →
    ((s.dev.wen h.toNat).oldest r.kind r.res = some r.gen ∨
      ((s.dev.wen h.toNat).markers.contains (r.kind, r.res, r.gen) = false ∧ r.gen = tget zeroDflt (s.dev.wen h.toNat).gen (32 * r.kind + r.res) ∧
        s.dev.markerOf h.toNat r.kind r.res = false)) →
    (s.dev.leader = h.toNat → s.dev.undecided r.lsn = none →
      exec (.resultRecord h r) s = .next (s.goes (s.dev.bump R.MSG_CNT_STALE))) ∧
    (∀ (t : Tcb) (st : Nat), s.dev.leader = h.toNat → s.dev.undecided r.lsn = some t → r.report = .failed st →
      (roleStatus t.group st = false → exec (.resultRecord h r) s = .next (s.goes (s.dev.bump R.MSG_CNT_STALE))) ∧
      -- a deadline event posted leaves only OK and DEADLINE_MISSED
      (roleStatus t.group st = true → t.deadlinePosted = true → exec (.resultRecord h r) s = .next (s.goes s.dev)) ∧
      (roleStatus t.group st = true → t.deadlinePosted = false → exec (.resultRecord h r) s = .next (s.goes
        (s.dev.conclude t.lsn st)))) ∧
    -- a second report of a fragment is discarded and counted
    (∀ (t : Tcb) (f z : Nat), s.dev.leader = h.toNat → s.dev.undecided r.lsn = some t → r.report = .acked f z →
      t.acked.contains f = true → exec (.resultRecord h r) s = .next (s.goes (s.dev.bump R.MSG_CNT_STALE))) ∧
    (s.dev.leader ≠ h.toNat → exec (.resultRecord h r) s = .next (s.goes (s.dev.trailPut h.toNat r)))) ∧
  -- a record of a new placement is held until the older one's marker has passed; one of a placement whose marker has
  -- passed is counted
  (∀ (h : Half) (r : ResultRec), s.dev.pdRun 5 = true →
    (s.dev.wen h.toNat).oldest r.kind r.res ≠ some r.gen →
    (((s.dev.wen h.toNat).markers.contains (r.kind, r.res, r.gen) = true ∨
        r.gen = tget zeroDflt (s.dev.wen h.toNat).gen (32 * r.kind + r.res) ∧ s.dev.markerOf h.toNat r.kind r.res = true) →
      (s.dev.wen h.toNat).hold.length < 256 → exec (.resultRecord h r) s = .next (s.goes
        ((s.dev.setWen h.toNat { s.dev.wen h.toNat with
          hold := (s.dev.wen h.toNat).hold ++ [⟨r.kind, r.res, r.gen, .record r⟩] }).showHoldcnt h.toNat))) ∧
    ((s.dev.wen h.toNat).markers.contains (r.kind, r.res, r.gen) = false → r.gen ≠ tget zeroDflt (s.dev.wen h.toNat).gen (32 * r.kind + r.res) →
      exec (.resultRecord h r) s = .next (s.goes (s.dev.bump R.MSG_CNT_STALE)))) ∧
  -- TIMEOUT ms without a fragment discard a reassembly, and count it
  (∀ (n : Fin 16384) (tag : Fin 65536) (c : Reasm), s.dev.context n tag = some c →
    c.last + s.dev.f R.MSG_REASM 0 16 * ms ≤ s.dev.clk →
    exec (.reassemblyTimeout n tag) s = .next (s.goes ((s.dev.dropContext c).bump R.MSG_CNT_REASM_TO))) ∧
  (∀ r : Req, s.dev.lets r R.MSG_CMD →
    -- CARVE: blocks from the top of a pool, while the reserve stays; UNCARVE of the latest carve
    (∀ p n a : Nat, p = fld (s.dev.msgArg r.num 0) 0 4 → s.dev.poolEn p = true →
      n = fld (s.dev.msgArg r.num 1) 0 16 →
      (s.dev.poolFree p < s.dev.poolResv p + n →
        exec (.msgCarve r) s = .next (s.goes (s.dev.msgResult r.num 2 3 []))) ∧
      (s.dev.poolResv p + n ≤ s.dev.poolFree p →
        a = (s.dev.reg (R.MSG_POOL_BASE p)).toNat + 256 * (s.dev.poolSize p - s.dev.carved p - n) →
        exec (.msgCarve r) s = .next (s.goes
          ({ s.dev with msg := { s.dev.msg with
            carves := tput nilDflt s.dev.msg.carves p ((a, n) :: s.dev.carves p) } }.msgResult r.num 2 0 [wd a])))) ∧
    (∀ (p n : Nat) (l : List (Nat × Nat)), p = fld (s.dev.msgArg r.num 0) 0 4 → s.dev.poolEn p = true →
      n = fld (s.dev.msgArg r.num 2) 0 16 → s.dev.carves p = ((s.dev.msgArg r.num 1).toNat, n) :: l →
      exec (.msgUncarve r) s = .next (s.goes
        ({ s.dev with msg := { s.dev.msg with carves := tput nilDflt s.dev.msg.carves p l } }.msgResult r.num 3 0
          []))) ∧
    -- QUERY: a domain's record, or NOT_FOUND
    (∀ (x : Dom) (h : Nat), s.dev.argDom (s.dev.msgArg r.num 0) (bitOf (s.dev.msgArg r.num 0) 27) = some x →
      h = s.dev.ledHalf x.group x.home →
      (s.dev.ledFind x = none → exec (.msgQuery r) s = .next (s.goes (s.dev.msgResult r.num 4 2 []))) ∧
      (∀ i, s.dev.ledFind x = some i → exec (.msgQuery r) s = .next (s.goes
        (s.dev.msgResult r.num 4 0 [wd i, s.dev.ledWord h i 1, s.dev.ledWord h i 2, s.dev.ledWord h i 3])))) ∧
    -- LIFT: NOT_FOUND of a domain without a record, BUSY without a free entry; otherwise a transaction of its own in the
    -- domain, on link queue 127, that clears the fence in its place
    (∀ x : Dom, s.dev.argDom (s.dev.msgArg r.num 0) false = some x →
      (s.dev.ledFind x = none → exec (.msgLift r) s = .next (s.goes (s.dev.msgResult r.num 1 2 []))) ∧
      (s.dev.ledFind x ≠ none → s.dev.tcbFree = false →
        exec (.msgLift r) s = .next (s.goes (s.dev.msgResult r.num 1 3 []))) ∧
      ∀ (t : Tcb) (i h : Nat) (d1 : Dev), s.dev.ledFind x = some i → s.dev.tcbFree = true →
      h = s.dev.ledHalf x.group x.home →
      t = { s.dev.newTcb 127 ⟨[pack [(28, 3), (26, x.cls), (22, if x.cls = 1 then x.flow else 0), (0, x.target)], 0#32,
          0#32, 1#32]⟩ s.dev.msg.nextLsn [] with
        group := x.group, home := x.home, ledger := some i
        dseq := (s.dev.ledWord h i 1).toNat } →
      d1 = ({ s.dev with msg := { s.dev.msg with nextLsn := (s.dev.msg.nextLsn + 1) % lsnMod } }.ledPut x.group x.home i 1
        (s.dev.ledWord h i 1 + 1#32)).addTcb t →
      exec (.msgLift r) s = .next (s.goes
        (((d1.ledPut x.group x.home i 0 (setBit (d1.ledWord h i 0) 30 false)).conclude
          s.dev.msg.nextLsn 0).msgResult r.num 1 0 [])))) ∧
  -- a write of a pool's configuration with EN = 0 disables it; an enabled pool only takes its limits
  (∀ (r : Req) (p : Fin 16) (w : Word) (d : Dev), s.dev.lets r (R.MSG_POOL_CFG p) →
    d = s.dev.setReg (R.MSG_POOL_CFG p)
      (setFld (s.dev.reg (R.MSG_POOL_CFG p) &&& 0xC0000000#32) 0 28 (fld w 0 28)) →
    (bitOf w 31 = false → exec (.poolEnable r p w) s = .next (s.goes (d.setB (R.MSG_POOL_CFG p) 31 false))) ∧
    (bitOf w 31 = true → s.dev.poolEn p = true → exec (.poolEnable r p w) s = .next (s.goes d)) ∧
    -- EN = 1 of a disabled pool: refused with bit 30 where base or size is misaligned or the pool is smaller than 64 KiB
    (∀ b n : Nat, b = (d.reg (R.MSG_POOL_BASE p)).toNat → n = (d.reg (R.MSG_POOL_SIZE p)).toNat → bitOf w 31 = true →
      s.dev.poolEn p = false → (b % 4096 ≠ 0 ∨ n % 4096 ≠ 0 ∨ n < 0x10000 ∨ 0xC00000 < b + n) →
      exec (.poolEnable r p w) s = .next (s.goes (d.setB (R.MSG_POOL_CFG p) 30 true))) ∧
    -- enabled where it is aligned, large enough and meets no other pool, the TCB table or the upload table
    (∀ b n : Nat, b = (d.reg (R.MSG_POOL_BASE p)).toNat → n = (d.reg (R.MSG_POOL_SIZE p)).toNat → bitOf w 31 = true →
      s.dev.poolEn p = false → b % 4096 = 0 → n % 4096 = 0 → 0x10000 ≤ n → b + n ≤ 0xC00000 →
      (∀ q : Nat, q < 16 → q ≠ p.val → d.poolEn q = true →
        overlaps b n (d.reg (R.MSG_POOL_BASE q)).toNat (d.reg (R.MSG_POOL_SIZE q)).toNat = false) →
      overlaps b n (d.reg R.MSG_TCBBASE).toNat (64 * d.tcbCount) = false →
      overlaps b n (d.reg R.MSG_UPTBASE).toNat 0x10000 = false →
      exec (.poolEnable r p w) s = .next (s.goes
        ((d.setB (R.MSG_POOL_CFG p) 30 false).setB (R.MSG_POOL_CFG p) 31 true))))

/-- On R274 to R276, R282 to R288, R294, R298: the custody token's commands and events. -/
def Obligations.Token : Prop := ∀ s : State, s.live →
  (∀ (r : Req) (h : Half) (w : Word), s.dev.lets r R.RIMX_TKCMD →
    -- while Custody restarts every command but RESUME answers BAD_STATE
    (s.dev.restarting = true →
      exec (.tkSwitch r) s = .next (s.goes (s.dev.tkRes 1)) ∧ exec (.tkRevoke r h) s = .next (s.goes (s.dev.tkRes 1)) ∧
      exec (.tkResync r h) s = .next (s.goes (s.dev.tkRes 1)) ∧ exec (.tkCancel r) s = .next (s.goes (s.dev.tkRes 1)) ∧
      exec (.tkEligible r h false) s = .next (s.goes (s.dev.tkRes 1))) ∧
    -- GRANT of the vacant lead in Duplex-Protected mode, after the first
    (s.dev.restarting = false → s.dev.failed h.toNat = false → s.dev.capacity = false → 2 ≤ s.dev.leader →
      s.dev.b R.RIMX_TOKEN 15 = true →
      w = setFld (setBit (setBit (s.dev.reg R.RIMX_TOKEN) 15 true) (4 + h.toNat) true) 0 2 h.toNat →
      exec (.tkGrant r h) s = .next (s.goes (((s.dev.setToken w).takeLead h.toNat).tkRes 0))) ∧
    -- SWITCH: too early, or pending until S
    (∀ S, S = s.dev.pair R.RIMX_TKSW_LO R.RIMX_TKSW_HI → s.dev.restarting = false → s.dev.leader < 2 →
      (S < s.dev.count + 16000 → exec (.tkSwitch r) s = .next (s.goes (s.dev.tkRes 3))) ∧
      (s.dev.count + 16000 ≤ S → s.dev.elig (1 - s.dev.leader) = true → s.dev.capacity = false →
        exec (.tkSwitch r) s = .next (s.goes
          { (s.dev.setReg R.RIMX_TKRES 0#32).tokBit 12 true with
            tok := { (s.dev.tokBit 12 true).tok with swAt := some S } }))) ∧
    -- REVOKE in Duplex-Protected mode vacates the lead of the leading half
    (s.dev.restarting = false → s.dev.capacity = false → s.dev.leader = h.toNat →
      w = setFld (setBit (setBit (s.dev.reg R.RIMX_TOKEN) (10 + h.toNat) false) (4 + h.toNat) false) 0 2 2 →
      exec (.tkRevoke r h) s = .next (s.goes ((s.dev.setToken w).tkRes 0))) ∧
    -- ELIGIBLE
    (s.dev.restarting = false → exec (.tkEligible r h false) s = .next (s.goes
      ((s.dev.tokBit (10 + h.toNat) false).tkRes 0))) ∧
    (s.dev.restarting = false → s.dev.resynced h.toNat = false →
      (s.dev.tkRes 1).elig h.toNat = false →
      exec (.tkEligible r h true) s = .next (s.goes (s.dev.tkRes 1))) ∧
    -- RESYNC of the half that does not lead
    (s.dev.restarting = false → s.dev.capacity = false → s.dev.leader < 2 → s.dev.leader ≠ h.toNat →
      s.dev.pdRun (40 + h.toNat) = true → s.dev.tok.resync = none →
      exec (.tkResync r h) s = .next (s.goes
        (({ s.dev with tok := { s.dev.tok with resync := some h.toNat } }.tokBit (4 + h.toNat) false).tkRes 0))) ∧
    -- CANCEL
    (s.dev.restarting = false → exec (.tkCancel r) s = .next (s.goes
      (({ s.dev with tok := { s.dev.tok with swAt := none } }.tokBit 12 false).tkRes 0))) ∧
    -- RESUME: BAD_STATE without a freeze; the end of a freeze with no call posted and no fault latched
    (s.dev.restarting = false → exec (.tkResume r) s = .next (s.goes (s.dev.tkRes 1))) ∧
    (∀ d : Dev, s.dev.restarting = true → d = (s.dev.tokBit 13 false).bumpF R.RIMX_CRCNT 0 8 1 →
      (∀ k, d.posted k = false) → d.tok.latched = [] →
      exec (.tkResume r) s = .next (s.goes ({ d with tok := { d.tok with latched := [] } }.tkRes 0)))) ∧
  -- RESYNC completes: RESYNCED sets, FAILED clears
  (∀ (h : Nat) (d : Dev), s.dev.tok.resync = some h →
    d = { s.dev with tok := { s.dev.tok with resync := none } }.copyMirrors (if s.dev.leader < 2 then s.dev.leader else 1 - h) h →
    exec .resyncDone s = .next (s.goes
      (d.setToken (setBit (setBit (d.reg R.RIMX_TOKEN) (4 + h) true) (2 + h) false)))) ∧
  -- a switch whose other half is no longer eligible at S is dropped
  (∀ (S : Nat) (d : Dev), s.dev.tok.swAt = some S → S ≤ s.dev.count →
    d = { s.dev with tok := { s.dev.tok with swAt := none } } → d.switchBar ≠ none →
    ((d.tokBit 12 false).tkRes 2).leader = s.dev.leader →
    exec .plannedSwitch s = .next (s.goes ((d.tokBit 12 false).tkRes 2))) ∧
  -- heartbeats, YIELD and a lapse
  (∀ (r : Req) (h : Half), s.dev.lets r (R.RIMX_HB h.toNat) →
    exec (.heartbeat r h) s = .next (s.goes (s.dev.beat h.toNat)) ∧
    exec (.yield r h) s = .next (s.goes ((s.dev.beat h.toNat).declareH h.toNat 4))) ∧
  (∀ h : Half, s.dev.watched h.toNat = true → s.dev.failed h.toNat = false →
    s.dev.lastBeat h.toNat + s.dev.hbSpan ≤ s.dev.clk →
    exec (.heartbeatLapse h) s = .next (s.goes ((s.dev.setWatch h.toNat false).declareH h.toNat 1))) ∧
  -- the Custody cores disagree: A1, and Custody restarts
  exec .lockstepDisagreement s = .next (s.goes ((s.dev.alarm1 2).custodyRestart 5)) ∧
  -- one second without a leader: class D, and reset
  (∀ t, s.dev.tok.noLead = some t → t + 160000000 ≤ s.dev.clk →
    exec .noLeaderTimeout s = .next (s.goes ((s.dev.faultRecord 3 0 6 false).enterReset 5 0))) ∧
  -- Upsett: from release of reset; and GRANT once the roles of the half FIRST names run
  (∀ (errA errB octal : Bool), s.dev.fw.recov = 0 → s.dev.rimRuns = true → s.dev.fw.step = 8 →
    s.dev.rolesOf (s.dev.rimOctet 1 % 2) = true →
    exec (.upsett errA errB octal) s = .next (s.goes s.dev.upsettGrant)) ∧
  -- no CONFIRM within TRIALS: the confirmed image is active again, and the device resets with cause TRIAL; in a trial the
  -- halves run one after the other, the half goes back to it alone
  (∀ t : Nat, s.dev.fw.trialEnd = some t → t ≤ s.dev.clk → s.dev.fw.weave.trial = true →
    (s.dev.fw.byHalf = false → exec .trialTimeout s = .next (s.goes (s.dev.dropTrial.enterReset 7 0))) ∧
    (s.dev.fw.byHalf = true → exec .trialTimeout s = .next (s.goes
      ({ s.dev.dropTrial with fw := { s.dev.dropTrial.fw with byHalf := false } }.backTo s.dev.fw.weave.confirmed))))

/-- On R88, R300 to R304, R308, R353, R425: Rim's calls for information, settings, power, snapshot, the commissioning area,
alarm and reset. Rim serves the oldest call posted; its reply begins with the status. -/
def Obligations.RimServices : Prop := ∀ (s : State) (k : Fin 16), s.live →
  (s.dev.calls k 1 [] → exec (.rimInfo k) s = .next (s.goes
    (s.dev.replies k [0#32, wd (s.dev.hdr (rimBase s.dev.fw.rslot) 0x10), wd s.dev.runVersion,
      s.dev.reg R.FWU_BOOTINFO]))) ∧
  (s.dev.calls k 2 [] → k.val < 8 → exec (.rimRolesRunning k) s = .next (s.goes
    ({ s.dev with tok := { s.dev.tok with rolesA := true } }.replies k [0#32]))) ∧
  (s.dev.calls k 2 [] → 8 ≤ k.val → exec (.rimRolesRunning k) s = .next (s.goes
    ({ s.dev with tok := { s.dev.tok with rolesB := true } }.replies k [0#32]))) ∧
  -- SETTINGS_READ copies as much of the settings as fits, and reports the whole length and the generation
  (∀ (a cap : Nat) (l : List Byte), s.dev.calls k 3 [1, 2, 3] → a = (s.dev.callArg k 2).toNat →
    cap = (s.dev.callArg k 3).toNat → l = s.dev.settingsIn (s.dev.callArg k 1).toNat →
    a + min cap l.length ≤ 0xC00000 → exec (.rimSettingsRead k) s = .next (s.goes
      ((s.dev.msWrite (storeBase + a) (l.take cap)).replies k [0#32, wd l.length, wd s.dev.setGen]))) ∧
  -- SETTINGS_WRITE: DENIED for another generation; otherwise one copy of 65 to 65,536 octets replaces all, or
  -- the two copies, one of each format, that a trial of an image of another format asks for
  (∀ e : Dev, e = s.dev.journal k 4 → s.dev.calls k 4 [1, 2, 3, 4, 5] → (e.callArg k 1).toNat ≠ e.setGen →
    exec (.rimSettingsWrite k) s = .next (s.goes (e.replies k [2#32]))) ∧
  (∀ (l : List Byte) (g n : Nat) (e : Dev) (x : Settings), e = s.dev.journal k 4 → s.dev.calls k 4 [1, 2, 3, 4, 5] →
    (e.callArg k 1).toNat = e.setGen → n = (e.callArg k 3).toNat → 65 ≤ n → n ≤ 65536 →
    (e.callArg k 2).toNat + n ≤ 0xC00000 →
    l = e.rdBytes (storeBase + (e.callArg k 2).toNat) n → g = (e.setGen + 1) % 2 ^ 32 →
    ((e.fw.weave.trial = false ∨ e.setfmtOf e.fw.weave.active = e.fw.weave.setfmt) ∧
        x = ⟨g, tput nilDflt [] (e.setfmtOf e.fw.weave.active) l⟩ ∨
      e.fw.weave.trial = true ∧ e.setfmtOf e.fw.weave.active ≠ e.fw.weave.setfmt ∧
        65 ≤ (e.callArg k 5).toNat ∧ (e.callArg k 5).toNat ≤ 65536 ∧
        (e.callArg k 4).toNat + (e.callArg k 5).toNat ≤ 0xC00000 ∧
        x = ⟨g, tput nilDflt (tput nilDflt [] (e.setfmtOf e.fw.weave.active) l) e.fw.weave.setfmt
          (e.rdBytes (storeBase + (e.callArg k 4).toNat) (e.callArg k 5).toNat)⟩) →
    (x.fits = false → exec (.rimSettingsWrite k) s = .next (s.goes (e.replies k [1#32]))) ∧
    (x.fits = true → exec (.rimSettingsWrite k) s = .next (s.goes ((e.putSettings x).replies k [0#32, wd g])))) ∧
  (s.dev.calls k 0x19 [] →
    (∀ x, s.dev.fw.sealed = some x →
      exec (.rimSealQuery k) s = .next (s.goes (s.dev.replies k [0#32, wd x.region, wd x.version]))) ∧
    (s.dev.fw.sealed = none →
      exec (.rimSealQuery k) s = .next (s.goes (s.dev.replies k [0#32, 0#32, 0#32])))) ∧
  -- PD_SWITCH: a stop Rim refuses, and one it votes for; a start with every prerequisite in Run
  (∀ n : Nat, s.dev.calls k 0x20 [1, 2] → n = (s.dev.callArg k 1).toNat → n < 54 →
    ((s.dev.callArg k 2).toNat = 0 → s.dev.stopDenied n = true →
      exec (.rimPdSwitch k) s = .next (s.goes (s.dev.replies k [2#32]))) ∧
    ((s.dev.callArg k 2).toNat = 0 → s.dev.stopDenied n = false →
      exec (.rimPdSwitch k) s = .next (s.goes ((s.dev.rimVote n false).replies k [0#32]))) ∧
    ((s.dev.callArg k 2).toNat = 1 → (prerequisites n).filter (fun m => !s.dev.pdRun m) = [] →
      exec (.rimPdSwitch k) s = .next (s.goes ((s.dev.rimVote n true).replies k [0#32])))) ∧
  (∀ e : Dev, e = s.dev.journal k 0x21 → s.dev.calls k 0x21 [] → exec (.rimNtSnapshot k) s = .next (s.goes
    ({ e.copyMem (ntBase (k / 8)) (mramBase + 0x100000) 0x100000 with
      fw := { e.fw with snapshot := true } }.replies k [0#32]))) ∧
  -- CA_READ and CA_WRITE of the commissioning area
  (∀ (o a n : Nat), s.dev.calls k 0x22 [1, 2, 3] → bitOf (s.dev.callArg k 1) 31 = false →
    o = fld (s.dev.callArg k 1) 0 12 → a = (s.dev.callArg k 2).toNat → n = (s.dev.callArg k 3).toNat → o + n ≤ 4096 →
    a + n ≤ 0xC00000 → exec (.rimCaRead k) s = .next (s.goes
      (((s.dev.caFirst false).msWrite (storeBase + a) ((s.dev.caFirst false).caNow.caRead o n)).replies k
        [0#32, wd n, wd (s.dev.caFirst false).caNow.caGen]))) ∧
  -- a write of one page whose generation is not the one asked for is DENIED; one that another's writes keep
  -- waiting past 50 ms is BUSY; the write itself answers OK with the new generation, or its failure with a status the
  -- spec leaves open
  (∀ (o a n : Nat) (d e : Dev) (m : Fin 3) (x : Dev × Nat), e = s.dev.journal k 0x23 → s.dev.calls k 0x23 [1, 2, 3, 4] →
    bitOf (e.callArg k 1) 31 = false → o = fld (e.callArg k 1) 0 12 → a = (e.callArg k 2).toNat →
    n = (e.callArg k 3).toNat → a + n ≤ 0xC00000 →
    (caOnePage o n = false → exec (.rimCaWrite k m) s = .next (s.goes (e.replies k [1#32]))) ∧
    (caOnePage o n = true → d = e.caFirst false →
      (e.callArg k 4 ≠ 0xFFFFFFFF#32 → e.callArg k 4 ≠ wd d.caGen →
        exec (.rimCaWrite k m) s = .next (s.goes (d.replies k [2#32]))) ∧
      ((e.callArg k 4 = 0xFFFFFFFF#32 ∨ e.callArg k 4 = wd d.caGen) → d.clk + 50 * ms < d.caFree →
        exec (.rimCaWrite k m) s = .next (s.goes (d.replies k [4#32]))) ∧
      ((e.callArg k 4 = 0xFFFFFFFF#32 ∨ e.callArg k 4 = wd d.caGen) → d.caFree ≤ d.clk + 50 * ms →
        x = d.caTurn false (o / 256) (d.caPage o (d.rdBytes (storeBase + a) n)) m →
        (x.2 = 0 → exec (.rimCaWrite k m) s = .next (s.goes (x.1.replies k [0#32, wd x.1.caGen]))) ∧
        (x.2 ≠ 0 → exec (.rimCaWrite k m) s = .next (s.goes (x.1.fresh.2.replies k [x.1.fresh.1])))))) ∧
  (s.dev.calls k 0x28 [1] → s.dev.callArg k 1 = 1#32 →
    exec (.rimAlarm k) s = .next (s.goes ((s.dev.alarm1 0).replies k [0#32]))) ∧
  (s.dev.calls k 0x30 [1] → (s.dev.callArg k 1).toNat ≤ 255 →
    exec (.rimReset k) s = .next (s.goes ((s.dev.enterReset 9 (s.dev.callArg k 1).toNat).replies k [0#32]))) ∧
  -- Custody's DONE makes the reply of a posted call ready
  (∀ r : Req, s.dev.lets r (R.RIMX_MB_DONE k) → s.dev.posted k = true → exec (.rimxMbsDone r k) s = .next (s.goes
    (s.dev.mbReply k ((List.range 6).map fun i => s.dev.reg (R.RIMX_MB_RES k i)))))

/-- On R225, R226, R237, R291, R293, R296, R298, R299, R302, R304, R305: Rim's calls for firmware, keys and the Seal. -/
def Obligations.RimFirmware : Prop := ∀ (s : State) (k : Fin 16) (n : Nat) (e : Dev), s.live →
  n = (e.callArg k 1).toNat →
  -- FW_WINDOW: DENIED for the active slot and, on trial, the CONFIRMED one; otherwise the window, and the slot is no longer staged
  (e = s.dev → s.dev.calls k 5 [1] → n ≤ 1 →
    (n = e.fw.weave.active → exec (.rimFwWindow k) s = .next (s.goes (e.replies k [2#32]))) ∧
    (n ≠ e.fw.weave.active → e.fw.weave.trial = true → n = e.fw.weave.confirmed →
      exec (.rimFwWindow k) s = .next (s.goes (e.replies k [2#32]))) ∧
    (n ≠ e.fw.weave.active → (e.fw.weave.trial = false ∨ n ≠ e.fw.weave.confirmed) → exec (.rimFwWindow k) s = .next (s.goes
      (((e.setReg R.FWU_WRWIN (pack [(31, 1), (0, n)])).setStaged n false).replies k [0#32])))) ∧
  -- FW_STAGE closes the window; then the slot is staged where every check passes, and REFUSED with the check's code
  -- otherwise
  (∀ (x : Bool) (d : Dev), e = s.dev → s.dev.calls k 6 [1] → n ≤ 1 → d = e.closeWindow →
    (d.verifyWeave n x = 0 → exec (.rimFwStage k x) s = .next (s.goes ((d.setStaged n true).replies k [0#32]))) ∧
    (d.verifyWeave n x ≠ 0 → exec (.rimFwStage k x) s = .next (s.goes
      ((d.setStaged n false).replies k [5#32, wd (d.verifyWeave n x)])))) ∧
  -- FW_ACTIVATE of a staged slot, whole; a slot not staged is DENIED
  (e = s.dev.journal k 7 → s.dev.calls k 7 [1] → n ≤ 1 → bitOf (e.callArg k 1) 1 = false → fld (e.callArg k 1) 0 1 = n →
    (e.stagedOk n = false → exec (.rimFwActivate k) s = .next (s.goes (e.replies k [2#32]))) ∧
    (e.stagedOk n = true → exec (.rimFwActivate k) s = .next (s.goes
      ((e.setWeave { e.fw.weave with active := n, trial := true, tries := 0 }).replies k [0#32])))) ∧
  -- CONFIRM: off trial DENIED; on trial the active image is confirmed, and the floor rises to its version
  (∀ (fmt : Nat) (d d1 : Dev), e = s.dev.journal k 8 → s.dev.calls k 8 [1] → n = 1 →
    (e.fw.weave.trial = false → exec (.rimConfirm k) s = .next (s.goes (e.replies k [2#32]))) ∧
    (e.fw.weave.trial = true → fmt = e.setfmtOf e.fw.weave.active →
      d1 = { e with fw := { e.fw with trialEnd := none, byHalf := false } } →
      d = (match d1.fw.settings with
        | some x => if x.copies.all fun y => y.1 == fmt then d1
          else d1.putSettings { gen := (x.gen + 1) % 2 ^ 32, copies := x.copies.filter fun y => y.1 == fmt }
        | none => d1) →
      exec (.rimConfirm k) s = .next (s.goes ((d.setWeave { e.fw.weave with
        confirmed := e.fw.weave.active, trial := false, setfmt := fmt
        floor := max e.fw.weave.floor (d.hdr (weaveBase e.fw.weave.active) 0x10) }).replies k [0#32])))) ∧
  -- RIM_STAGE: the inactive Rim slot takes the image; one that passes is selected at the next Upsett
  (∀ (len j : Nat) (d : Dev), e = s.dev.journal k 9 → s.dev.calls k 9 [1, 2] → len = (e.callArg k 2).toNat → 4096 ≤ len → len ≤ 0x80000 →
    n + len ≤ 0xC00000 → j = 1 - e.fw.rslot →
    d = ((e.clearMem (rimBase j) 0x80000).copyMem (storeBase + n) (rimBase j) len).msTraffic (storeBase + n) len 2 →
    (d.verifyRim j ≠ 0 → exec (.rimStage k) s = .next (s.goes (d.replies k [5#32, wd (d.verifyRim j)]))) ∧
    (d.verifyRim j = 0 → exec (.rimStage k) s = .next (s.goes
      ({ d with fw := { d.fw with rim := { d.fw.rim with active := j, trial := true } } }.showBoot.replies k
        [0#32])))) ∧
  -- SIGNER_REVOKE of a key no confirmed image is signed with
  (e = s.dev.journal k 0xA → s.dev.calls k 0xA [1] → n ≤ 3 → (e.rd8 (weaveBase e.fw.weave.confirmed + 0x14)).toNat ≠ n →
    (e.rd8 (rimBase e.fw.rim.confirmed + 0x14)).toNat ≠ n → exec (.rimSignerRevoke k) s = .next (s.goes
      ({ e with fw := { e.fw with revoked := e.fw.revoked ++ [n] } }.putUpsett.replies k [0#32]))) ∧
  -- keys: a slot outside 0 to 16639 is NO_KEY
  (16639 < n →
    (e = s.dev.journal k 0x11 → s.dev.calls k 0x11 [1, 4] → exec (.rimKeyGenerate k) s = .next (s.goes (e.replies k [3#32]))) ∧
    (e = s.dev.journal k 0x12 → s.dev.calls k 0x12 [1] → exec (.rimKeyErase k) s = .next (s.goes (e.replies k [3#32])))) ∧
  -- KEY_UNWRAP of 16 octets: the key the unwrap function opens is installed; one whose integrity fails is BAD_ARG (log 70)
  (∀ (w : Word) (kek : Nat) (got : Option (List Byte)), e = s.dev.journal k 0x10 → s.dev.calls k 0x10 [1, 2, 3, 4] → n ≤ 16639 →
    w = e.callArg k 4 → kek = (e.callArg k 2).toNat → kek ≤ 16639 → w &&& ~~~ 0x1F01#32 = 0#32 →
    bitOf w 0 = false → (e.callArg k 3).toNat + 24 ≤ 0xC00000 → usageForbidden n (fld w 8 5) = false →
    e.slotState kek = 1 → (e.slotUsage kek).testBit 3 = true →
    got = keyUnwrap (e.slotKey kek) (e.rdBytes (storeBase + (e.callArg k 3).toNat) 24) →
    (got = none → exec (.rimKeyUnwrap k) s = .next (s.goes (e.replies k [1#32]))) ∧
    (∀ key, got = some key →
      exec (.rimKeyUnwrap k) s = .next (s.goes ((e.installKey n (fld w 8 5) (fit 16 key)).replies k [0#32])))) ∧
  (∀ w : Word, e = s.dev.journal k 0x11 → s.dev.calls k 0x11 [1, 4] → n ≤ 16639 → w = e.callArg k 4 → w &&& ~~~ 0x1F01#32 = 0#32 →
    usageForbidden n (fld w 8 5) = false → exec (.rimKeyGenerate k) s = .next (s.goes
      (({ e with freeCtr := e.freeCtr + 1 }.installKey n (fld w 8 5)
        (fit (if bitOf w 0 then 32 else 16) (Config.generatedKey e.freeCtr))).replies k [0#32]))) ∧
  (e = s.dev.journal k 0x12 → s.dev.calls k 0x12 [1] → n ≤ 16639 → exec (.rimKeyErase k) s = .next (s.goes
    (((((e.settleSlot n).flushKey n).clearMem (mramBase + 32 * n) 32).setSlotState n 0).replies k [0#32]))) ∧
  (∀ u : Nat, e = s.dev.journal k 0x13 → s.dev.calls k 0x13 [1, 2] → n ≤ 16639 → u = (e.callArg k 2).toNat → u ≤ 31 →
    (usageForbidden n u = true → exec (.rimKeyUsage k) s = .next (s.goes (e.replies k [2#32]))) ∧
    (usageForbidden n u = false → exec (.rimKeyUsage k) s = .next (s.goes
      ((e.wrBytes (slotAddr n + 2) (natBytes 2 u)).replies k [0#32])))) ∧
  -- SEAL_INSTALL: another magic is REFUSED; a profile every check accepts replaces the Seal
  (∀ (p : Seal) (len b : Nat), e = s.dev.journal k 0x18 → s.dev.calls k 0x18 [1, 2] → len = (e.callArg k 2).toNat → 4096 ≤ len →
    n + len ≤ 0xC00000 → b = storeBase + n →
    (e.hdr b 0 ≠ 0x5345414C → exec (.rimSealInstall k p) s = .next (s.goes (e.replies k [5#32, 1#32]))) ∧
    (e.hdr b 0 = 0x5345414C → (e.rd16 (b + 4)).toNat = 1 → e.sealReserved b = false →
      e.hdr b 8 / 2 ^ 16 = 0x6400 →
      e.hdr b 8 % 2 ^ 16 ≤ e.f R.DEV_ID 0 16 → e.hdr b 0x0C = 4096 → len = 0x2000 →
      (∀ x, e.fw.sealed = some x → x.version ≤ e.hdr b 0x10) →
      ∀ signed whole : Bool, signed = Config.ecdsaOk (e.rdBytes (rimBase e.fw.rslot + 0x198) 64)
        (e.rdBytes b 0xF80) (e.rdBytes (b + 0xF80) 64) →
      whole = e.digestIs (b + 0x20) (e.rdBytes (b + 4096) (len - 4096)) →
      (signed = false → exec (.rimSealInstall k p) s = .next (s.goes (e.replies k [5#32, 7#32]))) ∧
      (signed = true → whole = false → exec (.rimSealInstall k p) s = .next (s.goes (e.replies k [5#32, 10#32]))) ∧
      (∀ q : Seal, signed = true → whole = true → q = { p with version := e.hdr b 0x10 } →
        exec (.rimSealInstall k p) s = .next (s.goes (((e.putSeal b q).installSeal q).replies k [0#32])))))

/-- On R295, R307: flash commands. While one runs, a second is BUSY; one that fails a check ends with its code; any other runs
until FWU_DONE, when COPY has copied and digested, DIGEST digested, ERASE erased and PROGRAM programmed. -/
def Obligations.FlashCommands : Prop := ∀ (s : State) (r : Req) (w : Word), s.live → s.dev.lets r R.FWU_CMD →
  ∀ p ∈ [(Instr.fwuCopy r w, 1), (.fwuDigest r w, 2), (.fwuErase r w, 3), (.fwuProgram r w, 4)],
  ∀ v : Word, v = setFld w 0 4 p.2 →
  (s.dev.b R.FWU_STATUS 30 = true → exec p.1 s = .next (s.goes (s.dev.fwuResult 6 false))) ∧
  (s.dev.b R.FWU_STATUS 30 = false →
    (s.dev.fwuCheck r.num v ≠ 0 → exec p.1 s = .next (s.goes (s.dev.fwuResult (s.dev.fwuCheck r.num v) true))) ∧
    (s.dev.fwuCheck r.num v = 0 → exec p.1 s = .next (s.goes
      { (s.dev.fwuResult 0 false).setB R.FWU_STATUS 30 true with
        fw := { s.dev.fw with cmd := some (v, (s.dev.reg R.FWU_SRC).toNat, (s.dev.reg R.FWU_DST).toNat,
          s.dev.f R.FWU_LEN 0 25) } }))) ∧
  -- explicitly: with no recovery under way, Custody asking, addresses in range and aligned, and no ERASE or PROGRAM
  -- of the CONFIRMED slot on trial
  (∀ src dst len : Nat, src = (s.dev.reg R.FWU_SRC).toNat → dst = (s.dev.reg R.FWU_DST).toNat →
    len = s.dev.f R.FWU_LEN 0 25 → s.dev.b R.FWU_STATUS 30 = false → r = .custody → s.dev.fw.recov = 0 →
    src + len ≤ 0x2000000 → src % 65536 = 0 → len % 65536 = 0 → dst % 4 = 0 → dst + len ≤ 0x200000 →
    bitOf v 10 = false → bitOf v 11 = false →
    (s.dev.fw.weave.trial = false ∨ p.2 < 3 ∨ src + len ≤ s.dev.fw.weave.confirmed * 0x1000000 ∨
      (s.dev.fw.weave.confirmed + 1) * 0x1000000 ≤ src) →
    exec p.1 s = .next (s.goes { (s.dev.fwuResult 0 false).setB R.FWU_STATUS 30 true with
      fw := { s.dev.fw with cmd := some (v, src, dst, len) } })) ∧
  (∀ (src dst len : Nat) (d : Dev), s.dev.fw.cmd = some (w, src, dst, len) →
    (d = ({ s.dev with fw := { s.dev.fw with cmd := none } }.fwuResult 4 true).setB R.FWU_STATUS 30 false →
      exec (.fwuDone false) s = .next (s.goes d)) ∧
    (d = ({ s.dev with fw := { s.dev.fw with cmd := none } }.fwuResult 0 true).setB R.FWU_STATUS 30 false →
      d.fw.recov = 0 →
      (fld w 0 4 = 3 → exec (.fwuDone true) s = .next (s.goes (d.clearMem (flashBase + src) len))) ∧
      (∀ d2 : Dev, fld w 0 4 = 4 →
        d2 = (d.copyMem (storeBase + dst) (flashBase + src) len).msTraffic (storeBase + dst) len 2 → d2.fw.recov = 0 →
        exec (.fwuDone true) s = .next (s.goes d2)) ∧
      (∀ d1 : Dev, fld w 0 4 = 2 → bitOf w 8 = false →
        d1 = { d with fw := { d.fw with digested := d.rdBytes (flashBase + src) len } } →
        exec (.fwuDone true) s = .next (s.goes ((List.range 8).foldl
          (fun x i => x.setReg (R.FWU_DIGEST i) (Config.sha256 (d.rdBytes (flashBase + src) len) i)) d1)))))

/-- On R310 to R316, R330: the host's doorbells, the endpoint's fetch, the ends of host reads, coalescing, the configuration of a
queue pair, DISCARD, and the link. A doorbell is 4 octets of PCIe payload for the performance counters while PD13 is in Run. -/
def Obligations.HostQueues : Prop := ∀ s : State, s.live →
  -- doorbells: without effect on a queue pair that is not enabled; discarded with HPC_STATUS [25] out of range; otherwise
  -- the submission tail moves, or the completion head with the data space its entries held, and releases that waited go on
  (∀ (q : Fin 64) (v : Fin 65536) (e : Dev), e = (if s.dev.pdRun 13 then s.dev.pmcOctets 0 1 4 else s.dev) →
    (e.qpOn q = false →
      exec (.sqTailDoorbell q v) s = .next (s.goes e) ∧ exec (.cqHeadDoorbell q v) s = .next (s.goes e)) ∧
    (e.qpOn q = true → e.sqSize q ≤ v →
      exec (.sqTailDoorbell q v) s = .next (s.goes (e.setB R.HPC_STATUS 25 true))) ∧
    (e.qpOn q = true → v < e.sqSize q → exec (.sqTailDoorbell q v) s = .next (s.goes
      (e.setQp q { e.qp q with sqTail := v }))) ∧
    (e.qpOn q = true → e.cqSize q ≤ v →
      exec (.cqHeadDoorbell q v) s = .next (s.goes (e.setB R.HPC_STATUS 25 true))) ∧
    (∀ n, e.qpOn q = true → n = e.cqSize q → v < n → exec (.cqHeadDoorbell q v) s = .next (s.goes
      (((e.setQp q { e.qp q with
          cqHead := v
          data := (e.qp q).data.filter fun x =>
            !decide ((x.1 + n - (e.qp q).cqHead) % n < (v + n - (e.qp q).cqHead) % n) }).flushHeld q).releaseAll)))) ∧
  -- with no enabled queue whose head differs from its tail there is nothing to fetch
  (∀ words : List Word, (∀ q < 64, s.dev.qpOn q = true → (s.dev.qp q).sqHead = (s.dev.qp q).sqTail) →
    exec (.submissionFetch words) s = .next (s.goes s.dev)) ∧
  -- the next such queue, round-robin from the one after the last, is fetched from; its head advances when the submission is
  -- taken; a submission to a domain the AMP has submitted to at this tick stays where it is (log 109)
  (∀ (words : List Word) (i q : Nat), i < 64 → q = (s.dev.host.nextQ + i) % 64 → s.dev.qpOn q = true →
    (s.dev.qp q).sqHead ≠ (s.dev.qp q).sqTail →
    (∀ j < i, ∀ m, m = (s.dev.host.nextQ + j) % 64 → s.dev.qpOn m = true → (s.dev.qp m).sqHead = (s.dev.qp m).sqTail) →
    (s.dev.ampAhead ⟨words⟩ = true → exec (.submissionFetch words) s = .next (s.goes s.dev)) ∧
    (∀ d d1 : Dev, s.dev.ampAhead ⟨words⟩ = false →
      d = (s.dev.emit (.read (s.dev.qpBase q 0 + 64 * (s.dev.qp q).sqHead) 64)).pmcOctets 0 1 64 →
      d1 = { d with host := { d.host with nextQ := (q + 1) % 64 } } →
      (d1.canAccept ⟨words⟩ = true → exec (.submissionFetch words) s = .next (s.goes
        ((d1.setQp q { s.dev.qp q with sqHead := ((s.dev.qp q).sqHead + 1) % d1.sqSize q }).submit q ⟨words⟩ []))) ∧
      (d1.canAccept ⟨words⟩ = false →
        exec (.submissionFetch words) s = .next (s.goes (d1.submit q ⟨words⟩ []))))) ∧
  -- a payload read ends: the payload is in the pool's blocks, or the transaction ends in a hole and the error is counted; the
  -- end of a read that is not outstanding has no effect
  (∀ (lsn : Nat) (ok : Bool) (data : List Byte), s.dev.host.reads.contains lsn = false →
    exec (.hostReadComplete lsn ok data) s = .next (s.goes s.dev)) ∧
  (∀ (lsn : Nat) (data : List Byte) (d d1 d2 : Dev), s.dev.host.reads.contains lsn = true →
    d = { s.dev with host := { s.dev.host with reads := s.dev.host.reads.filter (· ≠ lsn) } } →
    d1 = d.updTcb lsn (fun u => { u with fetched := true, payload := data.take u.len }) → d2 = d.bump R.HPC_CNT_ERR →
    (∀ t, d1.tcb lsn = some t → exec (.hostReadComplete lsn true data) s = .next (s.goes
      ((d1.fillPlaces t.place 0 (data.take t.len)).pmcOctets 0 1 t.len))) ∧
    (d1.tcb lsn = none → exec (.hostReadComplete lsn true data) s = .next (s.goes d1)) ∧
    (d2.undecided lsn ≠ none → exec (.hostReadComplete lsn false data) s = .next (s.goes (d2.conclude lsn 13))) ∧
    (d2.undecided lsn = none → exec (.hostReadComplete lsn false data) s = .next (s.goes d2))) ∧
  -- COAL_US after the first unsignalled entry the message of the queue pair's vector goes out, or pends while masked; before,
  -- and with none unsignalled, nothing happens
  (∀ (q : Fin 64) (x : Qp) (v due : Nat), x = s.dev.qp q → v = s.dev.f (R.HPC_QP_CFG q) 24 6 →
    due = x.firstAt + s.dev.f R.HPC_COAL 16 16 * us →
    (s.dev.qpOn q = false ∨ x.unsignalled = 0 ∨ s.dev.clk < due →
      exec (.coalesceTimeout q) s = .next (s.goes s.dev)) ∧
    (∀ d : Dev, s.dev.qpOn q = true → 0 < x.unsignalled → due ≤ s.dev.clk → d = s.dev.setQp q { x with unsignalled := 0 } →
      (bitOf (d.msixWord (4 * v + 3)) 0 = true → exec (.coalesceTimeout q) s = .next (s.goes
        { d with host := { d.host with msixPend := d.host.msixPend.filter (· ≠ v) ++ [v] } })) ∧
      (bitOf (d.msixWord (4 * v + 3)) 0 = false → exec (.coalesceTimeout q) s = .next (s.goes
        ((d.emit (.msix v (d.msixWord (4 * v + 1) ++ d.msixWord (4 * v)).toNat (d.msixWord (4 * v + 2)))).pmcOctets
          0 2 4))))) ∧
  -- a configuration write is discarded while EN = 1; with EN = 0 it takes the fields; EN sets only with every size in range,
  -- and then head and tails start at 0 and the held entries are written
  (∀ (r : Req) (q : Fin 64) (w : Word) (ok : Bool) (d : Dev), s.dev.lets r (R.HPC_QP_CFG q) →
    ok = (decide (4 ≤ fld w 20 4 ∧ fld w 20 4 ≤ 12) && decide (4 ≤ fld w 16 4 ∧ fld w 16 4 ≤ 12) &&
      decide (16 ≤ fld w 11 5 ∧ fld w 11 5 ≤ 24)) →
    d = s.dev.setReg (R.HPC_QP_CFG q) (setBit (w &&& 0x3FFFF800#32) 31 (bitOf w 31 && ok)) →
    (s.dev.b (R.HPC_QP_CFG q) 31 = true → exec (.hpcQpqCfg r q w) s = .next (s.goes s.dev)) ∧
    (s.dev.b (R.HPC_QP_CFG q) 31 = false → bitOf w 31 = false ∨ ok = false →
      exec (.hpcQpqCfg r q w) s = .next (s.goes d)) ∧
    (s.dev.b (R.HPC_QP_CFG q) 31 = false → bitOf w 31 = true → ok = true → exec (.hpcQpqCfg r q w) s = .next (s.goes
      (((d.setQp q { held := (d.qp q).held }).flushHeld q).releaseAll)))) ∧
  -- the link goes down, or the endpoint is reset: EN of every queue pair clears, the outstanding reads end as errors, the
  -- releases that waited are held, and LINKUP clears where the link is down
  (∀ d d1 : Dev, d = (List.range 64).foldl (fun d q =>
      if d.b (R.HPC_QP_CFG q) 31 then d.setB (R.HPC_QP_CFG q) 31 false else d) s.dev →
    d1 = (d.host.reads.foldl (fun d lsn => d.readDone lsn false []) d).releaseAll →
    exec (.linkDown true) s = .next (s.goes (d1.setB R.HPC_STATUS 31 false)) ∧
    exec (.linkDown false) s = .next (s.goes d1)) ∧
  (∀ (r : Req) (q : Fin 64), s.dev.lets r R.HPC_QCMD → exec (.discard r q) s = .next (s.goes
    ((s.dev.setHeld q []).bumpF (R.HPC_QP_STAT q) 16 16 (s.dev.qp q).held.length))) ∧
  -- the link comes up at a rate of 2.5, 5 or 8 GT/s on 1, 2 or 4 lanes
  (∀ (rate : Fin 4) (width : Fin 8), s.dev.pdRun 13 = true → rate ≠ 0 → width = 1 ∨ width = 2 ∨ width = 4 →
    exec (.pcieLinkUp rate width) s = .next (s.goes
      ((((s.dev.setF R.HPC_STATUS 29 2 rate).setF R.HPC_STATUS 26 3 width).setB R.HPC_STATUS 31 true).linkEvent)))

/-- On R317 to R322, R331: AMP streams, PTP timestamps, raw frames, and the Ethernet link. A datagram of another source is
discarded and counted; a segment is taken in sequence, a repeated one is counted and acknowledged, one ahead discarded. -/
def Obligations.EthernetPeer : Prop := ∀ s : State, s.live →
  (∀ (x : AmpIn) (d : Dev), s.dev.ethOn = true → s.dev.tagOk x.tag = true → x.dport = s.dev.f R.ETH_PORT 0 16 →
    d = s.dev.pmcOctets 1 1 (s.dev.ampOctets x.body.length) →
    (d.fromPeer x = false → exec (.ampSubmit x) s = .next (s.goes (d.bump R.ETH_CNT_DROP))) ∧
    (d.fromPeer x = true → x.ver = 1 →
      -- an OPEN that does not resume starts the stream afresh; what it acknowledges is not counted as lost
      (∀ (st : Stream) (d1 : Dev), 4 ≤ x.body.length → x.flags.testBit 2 = false → d1 = d.ampTaken x.stream.val x.ack →
        st = d1.stream x.stream.val → exec (.ampOpen x) s = .next (s.goes
          (((((d1.setStream x.stream.val
              { session := some (leNat (x.body.take 4)), window := max 1 (min 255 x.window) }).bumpF
            (R.ETH_AMP_STAT x.stream.val) 0 16
            (((st.unacked ++ st.queued).filter fun g => g.flags.testBit 1).length + st.held.length)).setAmp x.stream.val
            1).ampSend x.stream.val 2 0 0 (x.body.take 4)).releaseAll))) ∧
      -- ACK and OPEN_ACK: the header's acknowledgement and window
      exec (.ampOpenAck x) s = .next (s.goes (d.ampAck x)) ∧
      exec (.ampAck x) s = .next (s.goes (d.ampAck x)) ∧
      -- CLOSE: what it acknowledges is taken, and the stream is LOST
      exec (.ampClose x) s = .next (s.goes (((d.ampTaken x.stream.val x.ack).setAmp x.stream.val 2).releaseAll)) ∧
      -- COMPLETE and SUBMIT segments on an open stream
      ((d.ampAck x).ampOpen x.stream.val = true →
        (x.seq = ((d.ampAck x).stream x.stream.val).rxNext →
          exec (.ampComplete x) s = .next (s.goes
            ((d.ampAck x).ampNext x.stream.val ((d.ampAck x).stream x.stream.val).partial_)) ∧
          (x.flags.testBit 0 = true → x.flags.testBit 1 = false → exec (.ampSubmit x) s = .next (s.goes
            ({ d.ampAck x with host := { (d.ampAck x).host with ethReady := true } }.ampNext x.stream.val x.body))) ∧
          -- the segment that completes a submission: taken, or left for the peer to send again
          (∀ (sub : Sub) (payload : List Byte) (d1 : Dev), x.flags.testBit 0 = true → x.flags.testBit 1 = true →
            (sub, payload) = ampSub x.body →
            d1 = { d.ampAck x with host := { (d.ampAck x).host with ethReady := true } } →
            (d1.canAccept sub = true → exec (.ampSubmit x) s = .next (s.goes
              ((d1.ampNext x.stream.val []).submit (64 + x.stream.val) sub payload))) ∧
            (d1.canAccept sub = false → exec (.ampSubmit x) s = .next (s.goes
              (d1.submit (64 + x.stream.val) sub payload))))) ∧
        (x.seq ≠ ((d.ampAck x).stream x.stream.val).rxNext →
          (seqBefore x.seq ((d.ampAck x).stream x.stream.val).rxNext = true → exec (.ampSubmit x) s = .next (s.goes
            (((d.ampAck x).bump R.ETH_CNT_AMPDUP).ackSoon x.stream.val))) ∧
          (seqBefore x.seq ((d.ampAck x).stream x.stream.val).rxNext = false →
            exec (.ampSubmit x) s = .next (s.goes (d.ampAck x))))))) ∧
  -- RTO: the oldest unacknowledged segment goes out again, or after RETRY resends the stream is LOST
  (∀ (i : Fin 64) (t : Nat) (g : Segment) (l : List Segment), (s.dev.stream i).rtoAt = some t →
    (s.dev.stream i).unacked = g :: l → s.dev.ampOpen i = true → t ≤ s.dev.clk →
    (s.dev.f R.ETH_AMPCFG 0 8 ≤ (s.dev.stream i).retries → exec (.ampRto i) s = .next (s.goes
      (((s.dev.setStream i { s.dev.stream i with rtoAt := none }).setAmp i 2).releaseAll))) ∧
    ((s.dev.stream i).retries < s.dev.f R.ETH_AMPCFG 0 8 → exec (.ampRto i) s = .next (s.goes
      ((s.dev.setStream i { s.dev.stream i with
          retries := (s.dev.stream i).retries + 1, rtoAt := some (s.dev.clk + s.dev.rto) }).ampSend i g.type g.seq g.flags
        g.body)))) ∧
  (∀ (i : Fin 64) (t : Nat), (s.dev.stream i).ackAt = some t → s.dev.ampOpen i = true → t ≤ s.dev.clk →
    exec (.ampAckTimer i) s = .next (s.goes (s.dev.ampSend i 5 0 0 []))) ∧
  -- PTP event messages of types 0 to 3 are timestamped; a queue of 32 takes no more
  (∀ (tx : Bool) (ty : Fin 16) (seq : Fin 65536) (back : Nat), s.dev.ethOn = true →
    (32 ≤ s.dev.host.ptp.length → exec (.ptpEventMessage tx ty seq back) s = .next (s.goes s.dev)) ∧
    (∀ t, ty.val ≤ 3 → s.dev.host.ptp.length < 32 → t = (256 * s.dev.count + 2 ^ 72 - back) % 2 ^ 72 →
      exec (.ptpEventMessage tx ty seq back) s = .next (s.goes
        { s.dev with host := { s.dev.host with
          ptp := s.dev.host.ptp ++ [(pack [(31, 1), (30, b2n tx), (24, ty), (0, seq % 65536)], wd (t / 256),
            wd (t / 256 / 2 ^ 32), s.dev.stampWord (t % 256) 7 false)] } }.showPtp))) ∧
  (∀ r : Req, s.dev.lets r R.ETH_PTPPOP → exec (.ethPtppop r) s = .next (s.goes
    { s.dev with host := { s.dev.host with ptp := s.dev.host.ptp.drop 1 } }.showPtp)) ∧
  (∀ (up : Bool) (speed : Fin 4) (an : Bool), s.dev.pdRun 14 = true → exec (.ethLinkChange up speed an) s = .next (s.goes
    ((s.dev.setReg R.ETH_STATUS (pack [(31, b2n up), (29, speed % 4), (28, b2n an)])).linkEvent))) ∧
  -- a frame that the hardware does not terminate takes the raw ring's next buffer of 2,048 octets
  (∀ (frame : List Byte) (n head : Nat) (d : Dev), s.dev.ethOn = true → s.dev.tagOk (frameTag frame).1 = true →
    s.dev.terminated frame = false → n = s.dev.f R.ETH_RAWRX_CTL 0 12 → n ≠ 0 →
    head = s.dev.f R.ETH_RAWRX_CTL 16 12 →
    d = ((s.dev.msWrite (storeBase + ((s.dev.reg R.ETH_RAWRX_BASE).toNat + 2048 * head) % 0xC00000)
      (frame.take 2048)).setF R.ETH_RAWRX_CTL 16 12 ((head + 1) % n)).pmcOctets 1 1 (frame.length + 4) →
    exec (.ethRawReceive frame) s = .next (s.goes { d with host := { d.host with ethReady := true } }))

/-- On R334, R337, R371, R461, R462: entering and leaving reset. DEV_RSTCAUSE moves CODE to PRIOR and takes the cause, the RTC
seconds and the count of resets are kept; a second cause of the same reset only lowers CODE. Release puts every domain in
Run, and VDD_AON alone ends the RTC, DEV and the records queued for the ledger. -/
def Obligations.Resets : Prop := ∀ s : State,
  -- the rail's reset is a loss of power: an MRAM store no FENCE has followed is not guaranteed
  (∀ (rail : Bool) (code : Nat), code = (if rail then 2 else 4) →
    (∀ d : Dev, d = (if rail then s.dev.powerLoss else s.dev) → s.dev.power.inReset = false →
      exec (.resetAssert rail) s = .next (s.goes
      (((d.wiped.setReg R.DEV_RSTCAUSE (pack [(24, s.dev.f R.DEV_RSTCAUSE 0 8), (8, 0), (0, code)])).setReg
        R.DEV_RSTSEC (wd s.dev.rtcSec)).bump R.DEV_RSTCNT))) ∧
    (s.dev.power.inReset = true → s.dev.f R.DEV_RSTCAUSE 0 8 ≤ code →
      exec (.resetAssert rail) s = .next (s.goes s.dev)) ∧
    (s.dev.power.inReset = true → code < s.dev.f R.DEV_RSTCAUSE 0 8 → exec (.resetAssert rail) s = .next (s.goes
      ((s.dev.setF R.DEV_RSTCAUSE 0 8 code).setF R.DEV_RSTCAUSE 8 8 0)))) ∧
  (s.dev.power.inReset = true → exec .resetRelease s = .next (s.goes
    { s.dev.resetRange 0x20000 0x21000 with power := {} })) ∧
  (s.dev.power.inReset = false → exec .resetRelease s = .next (s.goes s.dev)) ∧
  (∀ d : Dev, d = (s.dev.powerLoss.wiped.resetRange 0 0x100).resetRange 0x90000 0xA0000 →
    exec .vddAonEntersRange s = .next (s.goes
      { d with rtc := { clk0 := d.clk }, fw := { d.fw with charges := [] }, mgn := { d.mgn with recs := [] } })) ∧
  (s.dev.power.inReset = false → exec .brownout s = .next (s.goes
    (((s.dev.powerLoss.wiped.setReg R.DEV_RSTCAUSE (pack [(24, s.dev.f R.DEV_RSTCAUSE 0 8), (8, 0), (0, 3)])).setReg R.DEV_RSTSEC
      (wd s.dev.rtcSec)).bump R.DEV_RSTCNT)))

/-- On R336 to R341, R346, R356: the supply monitor. Every class change, warning and error notices; AVSBus answers or times
out. -/
def Obligations.Supply : Prop := ∀ s : State, s.live →
  (∀ d : Dev, d = ((s.dev.setB R.SUP_STATUS 26 true).noteAll).rideTrigger 3 →
    exec .coreUv s = .next (s.goes { d with sup := { d.sup with okSince := none } }.exitCheck)) ∧
  (s.dev.b R.SUP_STATUS 27 = false → exec .pfwN s = .next (s.goes
    ((((s.dev.setB R.SUP_STATUS 27 true).noteAll).rideTrigger 2).exitCheck))) ∧
  exec .pfwNRelease s = .next (s.goes ((s.dev.setB R.SUP_STATUS 27 false).exitCheck)) ∧
  -- a half-cycle in the frequency range, with no frequency error open, moves the line class
  (∀ (code freq : Fin 65536) (d : Dev), 4500 ≤ freq.val → freq.val ≤ 6500 → s.dev.sup.freqAt = none →
    d = { s.dev.setReg R.SUP_LINEMEAS (pack [(16, min 65535 code), (0, min 65535 freq)]) with
      sup := { s.dev.sup with freqBad := 0 } } →
    exec (.halfCycle code freq) s = .next (s.goes (d.setClass (d.classAfter code) (some (d.pct code))))) ∧
  exec .lineLoss s = .next (s.goes (s.dev.setClass 3 none)) ∧
  (10 ≤ s.dev.sup.freqBad → s.dev.b R.SUP_STATUS 25 = false → exec .freqerr s = .next (s.goes
    (({ s.dev with sup := { s.dev.sup with
        freqAt := some (s.dev.count, s.dev.clk, s.dev.f R.SUP_LINEMEAS 0 16) } }.setB R.SUP_STATUS 25 true).noteAll))) ∧
  -- EXIT_READY after SUP_RTRECOV ms: Rim then owes its votes, which it gives as soon as it runs (R346)
  (∀ (t : Nat) (d : Dev), s.dev.sup.okSince = some t → s.dev.b R.SUP_RTSTAT 31 = true →
    s.dev.b R.SUP_RTSTAT 29 = false → t + s.dev.f R.SUP_RTRECOV 0 16 * ms ≤ s.dev.clk →
    d = ((s.dev.setB R.SUP_RTSTAT 29 true).setB R.SUP_STATUS 26 false).note [66] →
    exec .exitReady s = .next (s.goes { d with sup := { d.sup with voteBack := true } })) ∧
  (∀ (r : Req) (l : List SupEvent), s.dev.lets r R.SUP_EVPOP → l = s.dev.sup.events.drop 1 →
    exec (.supEvpop r) s = .next (s.goes { s.dev with sup := { s.dev.sup with
      events := l, lost := if l.isEmpty then 0 else s.dev.sup.lost } }.showSup)) ∧
  (∀ d : Dev, s.dev.b R.SUP_AVS 30 = true →
    d = (s.dev.setF R.SUP_AVS 16 12 (s.dev.f R.SUP_AVS 0 12)).setB R.SUP_AVS 30 false →
    exec .avsResponse s = .next (s.goes
      { d with sup := { d.sup with avsSent := none }, mgn := { d.mgn with stepAt := some d.clk } })) ∧
  (∀ (t : Nat) (d : Dev), s.dev.sup.avsSent = some t → t + 100 * us ≤ s.dev.clk →
    d = (s.dev.setB R.SUP_AVS 31 true).setB R.SUP_AVS 30 false →
    exec .avsTimeout s = .next (s.goes
      (({ d with sup := { d.sup with avsSent := none } }.mgnRecord 8 0 d.setpoint (d.f R.SUP_AVS 0 12)).mgnNotice 7)))

/-- On R347 to R352, R355: software votes, Prepare, refusals and Run entry. A requester writes only its own vote; a voter that
holds something refuses, and the last to quiesce commits the stop. -/
def Obligations.PowerDomains : Prop := ∀ (s : State) (n : Fin 64), s.live →
  (∀ (r : Req) (w : Word), s.dev.lets r (R.PWR_PD_SWV n) →
    (∀ i, swvBit r.num = some i → n.val < 54 → exec (.pwrPdnSwv r n w) s = .next (s.goes
      ((s.dev.setB (R.PWR_PD_SWV n) i (bitOf w i)).vote n i (bitOf w i)))) ∧
    (54 ≤ n.val → exec (.pwrPdnSwv r n w) s = .next (s.goes s.dev)) ∧
    (swvBit r.num = none → exec (.pwrPdnSwv r n w) s = .next (s.goes s.dev))) ∧
  (∀ v, s.dev.pdPrep n = true → v = (tget pairDflt s.dev.power.prep n).1 →
    (∀ reason, s.dev.voterAnswer n v = some reason →
      exec (.prepareAnswer n) s = .next (s.goes (s.dev.refuseStop n v reason))) ∧
    (s.dev.voterAnswer n v = none → s.dev.reg (R.PWR_PD_VOTES n) ≠ 0#32 →
      exec (.prepareAnswer n) s = .next (s.goes (s.dev.refuseStop n v 4))) ∧
    (s.dev.voterAnswer n v = none → s.dev.reg (R.PWR_PD_VOTES n) = 0#32 →
      (v + 1 < hwVoters n → exec (.prepareAnswer n) s = .next (s.goes
        { s.dev with power := { s.dev.power with
          prep := tput pairDflt s.dev.power.prep n (v + 1, s.dev.clk) } })) ∧
      (hwVoters n ≤ v + 1 → exec (.prepareAnswer n) s = .next (s.goes
        ((s.dev.endPrepare n false).stopDomain n))))) ∧
  (∀ v t, s.dev.pdPrep n = true → tget pairDflt s.dev.power.prep n = (v, t) →
    t + s.dev.f R.PWR_PREPTMO 0 16 * us ≤ s.dev.clk →
    exec (.prepareTimeout n) s = .next (s.goes (s.dev.refuseStop n v 3))) ∧
  (∀ v, s.dev.b (R.PWR_PD_STAT n) 29 = true → s.dev.pdPrep n = false →
    tget zeroDflt s.dev.power.refuser n = v + 1 → s.dev.voterAnswer n v = none →
    exec (.stopRetry n) s = .next (s.goes
      ({ s.dev with power := { s.dev.power with refuser := tdel n.val s.dev.power.refuser } }.beginPrepare n))) ∧
  -- Run entry: the domain's registers are in their reset state, its rings and margin outputs start anew (R29, R358)
  (∀ (tcxo : Bool) (d e : Dev), tget zeroDflt s.dev.power.entry n ≠ 0 → s.dev.pdRun n = false →
    d = ({ s.dev with power := { s.dev.power with entry := tdel n.val s.dev.power.entry } }.clearRegs n).setB
      (R.PWR_PD_STAT n) 31 true → e = (d.enterRun n tcxo).ringsStart n →
    -- with no vote left by then a domain above PD1 prepares to stop again
    ((e.reg (R.PWR_PD_VOTES n) ≠ 0#32 ∨ n.val < 2) → exec (.runEntryDone n tcxo) s = .next (s.goes e)) ∧
    (e.reg (R.PWR_PD_VOTES n) = 0#32 → 2 ≤ n.val →
      exec (.runEntryDone n tcxo) s = .next (s.goes (e.beginPrepare n))))

/-- On R358 to R360, R363: the margin planner's events. -/
def Obligations.Margin : Prop := ∀ s : State, s.live →
  -- a burst of an engine's ring
  (∀ (k : Fin 96) (burst mv : Nat) (temp : Int) (d : Dev), s.dev.pdRun (ringPd k) = true → k.val < 70 →
    d = (s.dev.setReg (R.MGN_SN_MEAS k) (pack [(16, burst), (0, burst)])).setReg (R.MGN_SN_ENV k)
      (pack [(16, mv % 1024), (8, patt 8 temp)]) →
    exec (.sentinelBurst k burst mv temp) s = .next (s.goes
      ((d.setRing k { d.ring k with began := d.clk, valid := true }).replan k))) ∧
  -- 65,535 ticks without a burst: FAULT, and the ring counts as slowest
  (∀ (k : Fin 96) (d : Dev), s.dev.pdRun (ringPd k) = true → (s.dev.ring k).began + 65535 ≤ s.dev.clk →
    d = (s.dev.setF (R.MGN_SN_MEAS k) 0 16 65535).setB (R.MGN_SN_ENV k) 31 true →
    exec (.burstTimeout k) s = .next (s.goes
      ((((d.setRing k { d.ring k with began := d.clk, valid := true }).mgnRecord 10 k 0 65535).mgnNotice 5).replan k))) ∧
  -- each minute every ring with a completed burst adds its slowdown to the week's sum
  exec .minuteNormalisation s = .next (s.goes ((List.range 96).foldl (fun d k =>
    if d.burst k = 0 ∨ d.f (R.MGN_SN_MEAS k) 16 16 = 0 then d else d.setRing k { d.ring k with
      weekSum := (d.ring k).weekSum + slowdown k (d.f (R.MGN_SN_MEAS k) 16 16) (d.f (R.MGN_SN_ENV k) 16 10)
        (sfld (d.reg (R.MGN_SN_ENV k)) 8 8)
      weekN := (d.ring k).weekN + 1
      tempSum := (d.ring k).tempSum + sfld (d.reg (R.MGN_SN_ENV k)) 8 8 }) s.dev)) ∧
  -- the weekly record only at the end of a week of power-on time
  (s.dev.mgn.onTicks < (s.dev.mgn.week + 1) * 96768000000000 → exec .weeklyRecord s = .next (s.goes s.dev)) ∧
  ((s.dev.mgn.week + 1) * 96768000000000 ≤ s.dev.mgn.onTicks → exec .weeklyRecord s = .next (s.goes s.dev.weekly)) ∧
  -- DOWNHOLD seconds of double headroom lower the setpoint by 5 mV, and to VMAX where it stands above
  (∀ t, s.dev.mgn.highSince = some t → s.dev.stepBarred = false →
    t + max 1 (s.dev.f R.MGN_POLICY 0 8) * 160000000 ≤ s.dev.clk → s.dev.mgn.noLower ≤ s.dev.clk →
    s.dev.vmin + 5 ≤ s.dev.setpoint → exec .setpointLower s = .next (s.goes
      ({ s.dev with mgn := { s.dev.mgn with lowered := true, highSince := none } }.avsSend
        (min s.dev.vmax (s.dev.setpoint - 5)))))

/-- On R372 to R378: the real-time clock, which also runs in reset. A read of RTC_FRAC latches the seconds of the same cycle;
a write of RTC_SETSEC_HI sets the seconds and clears the fraction at the next crystal cycle; RTC_SHIFT is judged by the first
row of R376 that applies. -/
def Obligations.RealTimeClock : Prop := ∀ s : State,
  (∀ r : Req, s.dev.answers r R.RTC_FRAC → exec (.rtcFracRead r) s = .next (s.goes
    { s.dev.setPair (bankKey r.num R.RTC_SEC_LO) (bankKey r.num R.RTC_SEC_HI) s.dev.rtcSec with
      bus := some (r.num, R.RTC_FRAC, some (wd s.dev.rtcFrac)) })) ∧
  (∀ (r : Req) (w : Word) (d d1 : Dev), s.dev.lets r R.RTC_SETSEC_HI →
    d = s.dev.rtcSync.setReg R.RTC_SETSEC_HI (w &&& 0xFFFF#32) →
    d1 = { d with rtc := { d.rtc with
      setTo := some (d.xtal + 1, ((d.reg R.RTC_SETSEC_LO).toNat + 2 ^ 32 * fld w 0 16) * 2 ^ 15, 0), hold := 0
      setAt := some d.clk } }.setB R.RTC_STATUS 31 false →
    d1.rtc.shiftAt ≠ some d1.clk → exec (.rtcSetsecHi r w) s = .next (s.goes d1)) ∧
  (∀ (r : Req) (w : Word) (x : Int), s.dev.lets r R.RTC_SHIFT → x = sfld w 0 17 →
    (16384 < x.natAbs → exec (.rtcShift r w) s = .next (s.goes (s.dev.setF R.RTC_STATUS 28 3 4))) ∧
    (x.natAbs ≤ 16384 → s.dev.b R.RTC_CTRL 0 = true →
      exec (.rtcShift r w) s = .next (s.goes (s.dev.setF R.RTC_STATUS 28 3 2))) ∧
    (x.natAbs ≤ 16384 → s.dev.b R.RTC_CTRL 0 = false → s.dev.b R.RTC_STATUS 31 = true →
      exec (.rtcShift r w) s = .next (s.goes (s.dev.setF R.RTC_STATUS 28 3 1))) ∧
    (∀ d : Dev, x.natAbs ≤ 16384 → s.dev.b R.RTC_CTRL 0 = false → s.dev.b R.RTC_STATUS 31 = false →
      s.dev.rtc.setAt ≠ some s.dev.clk → d = (s.dev.setF R.RTC_STATUS 28 3 0).rtcSync →
      (x = 0 → exec (.rtcShift r w) s = .next (s.goes { d with rtc := { d.rtc with shiftAt := some d.clk } })) ∧
      -- forward the time moves at once, or with the seconds write that the next crystal cycle puts in force
      (0 < x → d.rtc.setTo = none → exec (.rtcShift r w) s = .next (s.goes { d with rtc := { d.rtc with
        total := (d.rtc.total + x.toNat) % 2 ^ 63, shiftAt := some d.clk } })) ∧
      (∀ c t h, 0 < x → d.rtc.setTo = some (c, t, h) → exec (.rtcShift r w) s = .next (s.goes
        { d with rtc := { d.rtc with
          setTo := some (c, (t + x.toNat) % 2 ^ 63, h), shiftAt := some d.clk } })) ∧
      -- backward it is held
      (x < 0 → d.rtc.setTo = none → exec (.rtcShift r w) s = .next (s.goes
        ({ d with rtc := { d.rtc with
          hold := x.natAbs, since := max d.rtc.since d.xtal, shiftAt := some d.clk } }.setB R.RTC_STATUS 31 true))))) ∧
  (∀ d : Dev, d = s.dev.rtcSync → d.b R.RTC_STATUS 31 = true →
    (d.rtc.hold = 0 → d.rtc.setTo = none → exec .shiftHoldEnd s = .next (s.goes (d.setB R.RTC_STATUS 31 false))) ∧
    (d.rtc.hold ≠ 0 ∨ d.rtc.setTo ≠ none → exec .shiftHoldEnd s = .next (s.goes d))) ∧
  (∀ d : Dev, s.dev.xtalFail = false → s.dev.rtc.winAt + 2 ^ 20 ≤ s.dev.xtal → d = s.dev.rtcSync →
    exec .trimWindow s = .next (s.goes { d with rtc := { d.rtc with
      winAt := d.rtc.since, trim := max (-1023) (sfld (d.reg R.RTC_TRIM) 0 11) } })) ∧
  -- the crystal is found failed after 1 ms without an edge
  exec .xtalFail s = .next (s.goes
    ({ { s.dev with clk := s.dev.clk - ms }.rtcSync with clk := s.dev.clk }.setB R.RTC_STATUS 27 true))

/-- On R379 to R385: the timers. A write that enables starts the count at 0; while enabled only CMPEN and OWNER take; a match
sets MATCH and may reload; a selected pin edge captures; a snapshot latches every count into the writer's bank. -/
def Obligations.Timers : Prop := ∀ (s : State) (n : Fin 32), s.live →
  (∀ (r : Req) (w v old : Word) (d : Dev) (t : Tmr), s.dev.lets r (R.TMR_CTL n) → v = w &&& 0xF8FFF8FF#32 →
    d = s.dev.tmrSync n → old = d.reg (R.TMR_CTL n) →
    t = { d.timer n with wrAt := if bitOf v 28 && !bitOf old 28 then some d.clk else (d.timer n).wrAt } →
    (bitOf v 31 = true → bitOf old 31 = false → exec (.tmrnCtl r n w) s = .next (s.goes
      ((d.setTimer n { t with count := 0, res := 0, edges := 0, reload := false, advAt := none }).setReg (R.TMR_CTL n)
        v))) ∧
    (bitOf v 31 = true → bitOf old 31 = true → exec (.tmrnCtl r n w) s = .next (s.goes
      ((d.setTimer n t).setReg (R.TMR_CTL n) (setFld (setFld old 28 1 (fld v 28 1)) 29 2 (fld v 29 2))))) ∧
    (bitOf v 31 = false → exec (.tmrnCtl r n w) s = .next (s.goes
      ((d.setTimer n { t with res := 0 }).setReg (R.TMR_CTL n) v)))) ∧
  -- the count matches only at its own advance to CMP, or at the write of CMP or CMPEN, and once
  (∀ d : Dev, d = s.dev.tmrSync n → d.pdRun 3 = true → d.b (R.TMR_CTL n) 28 = true →
    (d.timer n).advAt = some d.clk ∨ (d.timer n).wrAt = some d.clk →
    (d.timer n).count = d.tmrCmp n → exec (.timerMatch n) s = .next (s.goes
      (((d.setTimer n { d.timer n with advAt := none, wrAt := none, reload := d.b (R.TMR_CTL n) 27 }).setB
        (R.TMR_FLAGS n) 0 true).tmrMatchPost n))) ∧
  (∀ (rising : Bool) (d d1 : Dev), s.dev.tmrRuns n = true → bitOf (s.dev.reg (R.TMR_CTL n)) 11 = false →
    (if rising then bitOf (s.dev.reg (R.TMR_CTL n)) 14 else bitOf (s.dev.reg (R.TMR_CTL n)) 15) = true →
    s.dev.f (R.PIO_GP_CFG (fld (s.dev.reg (R.TMR_CTL n)) 0 3)) 0 4 = 1 → d = s.dev.tmrSync n →
    d1 = d.setTimer n { d.timer n with edges := (d.timer n).edges + 1 } →
    (((d.timer n).edges + 1) % 2 ^ d1.f (R.TMR_CTL n) 12 2 ≠ 0 →
      exec (.timerCapture n rising) s = .next (s.goes d1)) ∧
    (((d.timer n).edges + 1) % 2 ^ d1.f (R.TMR_CTL n) 12 2 = 0 → exec (.timerCapture n rising) s = .next (s.goes
      (d1.tmrCaptureValue n
        (((d.timer n).count + 2 ^ 48 - fld (s.dev.reg (R.TMR_CTL n)) 16 4) % 2 ^ 48))))) ∧
  (∀ r : Req, s.dev.lets r R.TMR_SNAPCMD → exec (.tmrSnapcmd r) s = .next (s.goes
    ((List.range 32).foldl
      (fun d k => d.setPair (bankKey r.num (R.TMR_SNAP_LO k)) (bankKey r.num (R.TMR_SNAP_HI k)) (d.tmrCount k))
      (s.dev.setPair (bankKey r.num R.TMR_SNAPTB_LO) (bankKey r.num R.TMR_SNAPTB_HI) s.dev.count)))) ∧
  (∀ r : Req, s.dev.answers r (R.TMR_CAP_LO n) → exec (.tmrnCapLoRead r n) s = .next (s.goes
    { s.dev.setReg (bankKey r.num (R.TMR_CAP_HI n)) (s.dev.reg (R.TMR_CAP_HI n)) with
      bus := some (r.num, R.TMR_CAP_LO n, some (s.dev.reg (R.TMR_CAP_LO n))) }))

/-- On R391 to R394, R399, R401, R403, R405: the event fabric and the performance counters. An event step latches every
consumer before any acts. -/
def Obligations.EventFabric : Prop := ∀ s : State, s.live →
  (∀ (ch : Fin 256) (d : Dev), s.dev.pdRun 3 = true → d =
      { s.dev with skein := { s.dev.skein with held := tput falseDflt s.dev.skein.held ch false } } →
    (tget falseDflt s.dev.skein.held ch = true → exec (.eventStep ch) s = .next (s.goes
      ((List.range 8).foldl (fun d j => d.actSlot ch j) ((List.range 8).foldl (fun d j => d.latchSlot ch j) d)))) ∧
    (tget falseDflt s.dev.skein.held ch = false → exec (.eventStep ch) s = .next (s.goes s.dev))) ∧
  (∀ c : Fin 32, tget zeroDflt s.dev.skein.filt c ≠ 0 → tget zeroDflt s.dev.skein.filt c ≤ s.dev.clk →
    exec (.splintFilterExpiry c) s = .next (s.goes
      ({ s.dev with skein := { s.dev.skein with filt := tput zeroDflt s.dev.skein.filt c 0 } }.post
        (s.dev.f (R.EVR_SC_CFG c) 16 8)))) ∧
  (∀ (r : Req) (w : Word), s.dev.lets r R.EVR_LATCHCLR →
    exec (.evrLatchclr r w) s = .next (s.goes (s.dev.setLatch r.num (fld w 0 8) false))) ∧
  (∀ (n : Fin 64) (d : Dev), s.dev.f (R.PMC_CFG n) 0 3 = 2 → s.dev.count % 2 ^ s.dev.pmcK n = 0 →
    s.dev.b R.PMC_CTRL 0 = false → tget zeroDflt s.dev.skein.wins n ≠ s.dev.count + 1 →
    d = (s.dev.setReg (R.PMC_LAST_LO n) (s.dev.reg (R.PMC_CNT_LO n))).setReg (R.PMC_LAST_HI n)
      ((s.dev.setReg (R.PMC_LAST_LO n) (s.dev.reg (R.PMC_CNT_LO n))).reg (R.PMC_CNT_HI n)) →
    exec (.pmcWindowEnd n) s = .next (s.goes
      { d.setPair (R.PMC_CNT_LO n) (R.PMC_CNT_HI n) 0 with
        skein := { s.dev.skein with wins := tput zeroDflt s.dev.skein.wins n (s.dev.count + 1) } })) ∧
  (∀ (n : Fin 64) (t : Nat) (d : Dev), t = tget zeroDflt s.dev.skein.due n → t ≠ 0 →
    d = { s.dev with skein := { s.dev.skein with due := tput zeroDflt s.dev.skein.due n 0 } } →
    d.b (R.PMC_SAMP n) 31 = false → exec (.pmcSampleTrigger n) s = .next (s.goes
      ((d.setB (R.PMC_SAMP n) 31 true).setReg (R.PMC_SADDR n) (wd (t - 1))))) ∧
  (∀ (r : Req) (n : Fin 64) (w : Word), s.dev.lets r (R.PMC_CFG n) → exec (.pmcnCfg r n w) s = .next (s.goes
    { (s.dev.setReg (R.PMC_CFG n) (w &&& 0xFFFF9FFF#32)).setPair (R.PMC_CNT_LO n) (R.PMC_CNT_HI n) 0 with
      skein := { s.dev.skein with
        due := tput zeroDflt s.dev.skein.due n 0, after := tput zeroDflt s.dev.skein.after n 0 } })) ∧
  (∀ (r : Req) (n : Fin 64), s.dev.answers r (R.PMC_CNT_LO n) → exec (.pmcnCntLoRead r n) s = .next (s.goes
    { s.dev.setReg (bankKey r.num (R.PMC_CNT_HI n)) (s.dev.reg (R.PMC_CNT_HI n)) with
      bus := some (r.num, R.PMC_CNT_LO n, some (s.dev.reg (R.PMC_CNT_LO n))) }))

/-- On R409 to R411, R414, R418: activation of the tag front end, in any state of the device: a field gives it a random UID whose
first octet is 0x08, REQA, SELECT and RATS move it on with the answers of R409, and HLTA, S(DESELECT) and the loss of the
field end its session. -/
def Obligations.TagActivation : Prop := ∀ (s : State) (c : Clp), c = s.dev.clp →
  (∀ (wp : Nat), c.field = false → s.dev.tagCfg.1 = true → wp = s.dev.tagCfg.2 → s.dev.rdField = false →
    exec .fieldActivation s = .next (s.goes (s.dev.setClp { (c.draw 3).2.endSession 1 with
      field := true, tagEn := true, wp := wp, uid := 0x08#8 :: (c.draw 3).1 }))) ∧
  -- a tag whose configuration disables it, or beside the reader's own field, stays inactive
  (∀ (en : Bool) (wp : Nat), c.field = false → (en, wp) = s.dev.tagCfg → en = false ∨ s.dev.rdField = true →
    exec .fieldActivation s = .next (s.goes (s.dev.setClp { c with field := true, tagEn := en, wp := wp }))) ∧
  -- the field's loss ends the session, and collapses a tag write in the step it is in; the next access then completes it
  (c.field = true → (∀ w ∈ c.wrs, w.tag = true → w.step s.dev.clk = 0) →
    exec .fieldLost s = .next (s.goes (s.dev.setClp
      { c.endSession 0 with field := false, uid := [], fieldLost := s.dev.clk, lastReply := [] }))) ∧
  (∀ d : Dev, c.field = true → (∃ w ∈ c.wrs, w.tag = true ∧ w.step s.dev.clk ≠ 0) → d = s.dev.caCollapse true s.dev.clk →
    exec .fieldLost s = .next (s.goes (d.setClp
      { d.clp.endSession 0 with
        firstDone := false, field := false, uid := [], fieldLost := d.clk, lastReply := [] }))) ∧
  (∀ wupa : Bool, c.lockout = false → (c.st = 1 ∨ (c.st = 4 ∧ wupa = true)) →
    exec (.reqa wupa) s = .next (s.goes (s.dev.setClp { c with st := 2, lastReply := [0x04#8, 0x00#8] }))) ∧
  (c.lockout = false → c.st = 4 → exec (.reqa false) s = .next (s.goes s.dev)) ∧
  (c.lockout = true → ∀ wupa : Bool, exec (.reqa wupa) s = .next (s.goes s.dev)) ∧
  (∀ known : List Bool, c.lockout = false → c.st = 2 →
    (airBits (c.uid ++ [bcc c.uid])).take known.length = known → exec (.anticollision known) s = .next (s.goes
      (s.dev.setClp { c with lastReply := (c.uid ++ [bcc c.uid]).drop (known.length / 8) }))) ∧
  (∀ uid : List Byte, c.lockout = false → c.st = 2 →
    (uid = c.uid ++ [bcc c.uid] →
      exec (.select uid) s = .next (s.goes (s.dev.setClp { c with st := 3, lastReply := [0x20#8] }))) ∧
    (uid ≠ c.uid ++ [bcc c.uid] → exec (.select uid) s = .next (s.goes (s.dev.setClp { c with st := 1 })))) ∧
  (∀ fsdi : Fin 16, c.lockout = false → c.st = 3 → exec (.rats fsdi) s = .next (s.goes (s.dev.setClp
    { c.endSession 5 with fsd := fsdOf fsdi, lastReply := [0x05#8, 0x75#8, 0x00#8, 0x40#8, 0x00#8] }))) ∧
  (c.lockout = false → (c.st = 3 ∨ c.st = 5) → exec .hlta s = .next (s.goes (s.dev.setClp (c.endSession 4)))) ∧
  (c.lockout = false → c.st = 5 → exec .deselect s = .next (s.goes (s.dev.setClp
    { c.endSession 4 with lastReply := [0xC2#8] }))) ∧
  (∀ (x : List Byte) (r : List (List Byte)), c.lockout = false → c.st = 5 → c.chain = x :: r →
    exec (.tagRBlock 0) s = .next (s.goes (s.dev.setClp { c with lastReply := x, chain := r }))) ∧
  -- the reader answers the oldest S(WTX): its waiting time is then WTXM times the tag's own
  (∀ (m : Nat) (r : List Nat), c.lockout = false → c.st = 5 → c.wtx = m :: r →
    exec (.tagRBlock 2) s = .next (s.goes (s.dev.setClp { c with wtx := r, waits := m * 4833 * us }))) ∧
  (c.lockout = true → c.field = false → c.fieldLost + 100 * ms ≤ s.dev.clk →
    exec .lockoutEnd s = .next (s.goes (s.dev.setClp { c with lockout := false }))) ∧
  -- the first access after power returned copies a shadow page in force back to its page, then clears the selector; one
  -- that loses power again leaves it in force
  (c.firstDone = true → ∀ cut : Bool, exec (.caFirstAccess cut) s = .next (s.goes s.dev)) ∧
  (∀ e : Dev, c.firstDone = false → e = s.dev.caLost →
    (e.caSel.2.1 ≠ 1 → ∀ cut : Bool, exec (.caFirstAccess cut) s = .next (s.goes
      (e.setClp { e.clp with firstDone := true }))) ∧
    (e.caSel.2.1 = 1 → exec (.caFirstAccess true) s = .next (s.goes e)) ∧
    (∀ (g p : Nat) (d : Dev), g = e.caSel.1 → e.caSel.2.1 = 1 → p = e.caSel.2.2 →
      d = (e.wrBytes (caBase + 256 * p) (e.rdBytes caShadow 256)).caFlip (g + 1) 0 p →
      exec (.caFirstAccess false) s = .next (s.goes (d.setClp { d.clp with firstDone := true }))))

/-- On R409, R412 to R414, R416, R417, R419, R420: I-blocks to a tag in an open session. A block of more than 64 octets is not
taken, one that chains is gathered and answered R(ACK), and the last makes the command, which after authentication must open
under the session key. An unknown command is status 0xFF, one that needs authentication is status 1 without it, one of the
wrong form status 2, and a third failure of authentication silences the tag. -/
def Obligations.TagCommands : Prop := ∀ (s : State) (c k : Clp) (e : Dev), c = s.dev.clp → c.lockout = false → c.st = 5 →
  k = { c with part := [] } → e = s.dev.setClp k →
  ∀ (msg x : List Byte) (more low : Bool) (step : Fin 6) (mism : Nat),
  ∀ p ∈ [(Instr.getInfo msg more, 0x10#8, false, 0, 0), (.auth1 msg more, 0x20#8, false, 0, 0),
    (.auth2 msg more, 0x21#8, false, 0, 0), (.ident msg more, 0x30#8, false, 0, 0), (.tagRead msg more, 0x40#8, false, 0, 0),
    (.tagWrite msg more low step mism, 0x50#8, low, step.val, mism), (.generation msg more, 0x60#8, false, 0, 0)],
  -- before authentication the first block of a command begins with its code
  x = (if c.part = [] ∧ c.authed ≠ 2 then p.2.1 :: msg else msg) →
  (61 < x.length → exec p.1 s = .next (s.goes s.dev)) ∧
  (x.length ≤ 61 → more = true → exec p.1 s = .next (s.goes
    (s.dev.setClp { c with part := c.part ++ x, lastReply := [0xA2#8] }))) ∧
  (∀ y : Option (List Byte), x.length ≤ 61 → more = false → y = e.tagOpen (c.part ++ x) →
    (c.authed ≠ 2 → y = some (c.part ++ x)) ∧
    -- a message whose MIC fails ends the session
    (∀ d : Dev, y = none → d = e.authFail → exec p.1 s = .next (s.goes
      (d.setClp { d.clp.endSession 4 with lockout := d.clp.lockout }))) ∧
    (y = some [] → exec p.1 s = .next (s.goes (e.tagReply 0xFF []))) ∧
    (∀ (code : Byte) (m : List Byte), y = some (code :: m) →
      -- GETINFO
      (code = 0x10#8 →
        (m = [] → exec p.1 s = .next (s.goes
          (e.tagReply 0 ([0x01#8] ++ natBytes 2 4096 ++ natBytes 2 256 ++ natBytes 2 c.wp)))) ∧
        (m ≠ [] → exec p.1 s = .next (s.goes (e.tagReply 2 [])))) ∧
      -- AUTH1 for a slot it can succeed for, and for another, whose C1 is random
      (code = 0x20#8 →
        (m.length ≠ 18 → exec p.1 s = .next (s.goes (e.tagReply 2 []))) ∧
        (∀ (n : Nat) (t : List Byte) (d : Dev), m.length = 18 → n = leNat (m.take 2) → t = (k.draw 16).1 →
          (e.authSlot n = true →
            d = (e.setClp { (k.draw 16).2 with slot := n, rndR := m.drop 2 }).tagReply 0
              (t ++ Config.aesBlock (e.slotKey n) (xorBytes (m.drop 2) t)) →
            exec p.1 s = .next (s.goes
              (d.setClp { d.clp with rndT := t, authed := 1, counter := 0, key := e.slotKey n }))) ∧
          (e.authSlot n = false →
            d = (e.setClp { ((k.draw 16).2.draw 16).2 with slot := n, rndR := m.drop 2 }).tagReply 0
              (t ++ ((k.draw 16).2.draw 16).1) →
            exec p.1 s = .next (s.goes (d.setClp { d.clp with rndT := t, authed := 1, counter := 0, key := [] }))))) ∧
      -- AUTH2 after AUTH1: the session key, or a failure
      (code = 0x21#8 →
        (c.authed ≠ 1 → exec p.1 s = .next (s.goes (e.tagReply 1 []))) ∧
        (c.authed = 1 → m.length ≠ 16 → exec p.1 s = .next (s.goes (e.tagReply 2 []))) ∧
        (∀ (good : Bool) (d : Dev), c.authed = 1 → m.length = 16 → d = e.tagReply 0 [] →
          good = (!c.key.isEmpty && m == Config.aesBlock c.key (xorBytes c.rndT (c.rndR.drop 1 ++ c.rndR.take 1))) →
          (good = true → exec p.1 s = .next (s.goes (d.setClp { d.clp with
            authed := 2, counter := 0, key := Config.aesBlock c.key (c.rndR.take 8 ++ c.rndT.take 8) }))) ∧
          (good = false → exec p.1 s = .next (s.goes e.authFail)))) ∧
      (code ∉ [0x10#8, 0x20#8, 0x21#8, 0x30#8, 0x40#8, 0x50#8, 0x60#8] →
        exec p.1 s = .next (s.goes (e.tagReply 0xFF []))) ∧
      (code ∈ [0x30#8, 0x40#8, 0x50#8, 0x60#8] → c.authed ≠ 2 → exec p.1 s = .next (s.goes (e.tagReply 1 []))) ∧
      -- IDENT
      (code = 0x30#8 → c.authed = 2 →
        (m = [] → exec p.1 s = .next (s.goes (e.tagReply 0 (natBytes 8 Config.eui64.toNat ++
          natBytes 4 (s.dev.reg R.DEV_ID).toNat ++
          natBytes 4 (s.dev.hdr (weaveBase s.dev.fw.weave.confirmed) 0x10))))) ∧
        (m ≠ [] → exec p.1 s = .next (s.goes (e.tagReply 2 [])))) ∧
      -- READ
      (∀ (o n : Nat) (d : Dev), code = 0x40#8 → c.authed = 2 → o = leNat (m.take 2) → n = leNat ((m.drop 2).take 2) →
        d = e.caFirst false →
        (m.length = 4 ∧ 1 ≤ n ∧ n ≤ 256 ∧ o + n ≤ 4096 →
          exec p.1 s = .next (s.goes (d.tagReply 0 (d.caNow.caRead o n)))) ∧
        (¬ (m.length = 4 ∧ 1 ≤ n ∧ n ≤ 256 ∧ o + n ≤ 4096) → exec p.1 s = .next (s.goes (e.tagReply 2 [])))) ∧
      -- GENERATION
      (∀ d : Dev, code = 0x60#8 → c.authed = 2 → d = e.caFirst false →
        (m = [] → exec p.1 s = .next (s.goes (d.tagReply 0 (natBytes 4 d.caNow.caGen)))) ∧
        (m ≠ [] → exec p.1 s = .next (s.goes (e.tagReply 2 [])))) ∧
      -- WRITE: the wrong form, a protected page, and a field too low for a write; one that takes its turn asks for the
      -- reader's patience, and is its status; one that the field leaves in a step collapses there
      (∀ (o n : Nat) (l : List Byte), code = 0x50#8 → c.authed = 2 → o = leNat (m.take 2) →
        n = leNat ((m.drop 2).take 2) → l = m.drop 4 →
        ((l.length ≠ n ∨ caOnePage o n = false) → exec p.1 s = .next (s.goes (e.tagReply 2 []))) ∧
        (l.length = n → caOnePage o n = true → c.wp.testBit (o / 256) = true →
          exec p.1 s = .next (s.goes (e.tagReply 1 []))) ∧
        (∀ d : Dev, l.length = n → caOnePage o n = true → c.wp.testBit (o / 256) = false → d = e.caFirst false →
          (p.2.2.1 = true → p.2.2.2.1 ≠ 1 → exec p.1 s = .next (s.goes (d.tagReply 3 []))) ∧
          (∀ (a : Dev) (z : Dev × Nat), p.2.2.1 = false → p.2.2.2.1 = 0 →
            a = d.askWtx (writeAsks ((d.caFree - d.clk) / us) 0 p.2.2.2.2) →
            z = a.caTurn true (o / 256) (a.caPage o l) p.2.2.2.2 →
            (z.2 ≠ 0 → exec p.1 s = .next (s.goes (z.1.tagReply z.2 []))) ∧
            (z.2 = 0 → z.1.rimRuns = false →
              exec p.1 s = .next (s.goes (z.1.tagReply 0 (natBytes 4 z.1.caGen)))) ∧
            (∀ w : Dev, z.2 = 0 → z.1.rimRuns = true →
              w = (z.1.setClp { z.1.clp with tagIrq := true }).bumpF R.CLP_TAGLOG 16 16 1 →
              exec p.1 s = .next (s.goes (w.tagReply 0 (natBytes 4 w.caGen))))) ∧
          (∀ a z : Dev, p.2.2.1 = false ∨ p.2.2.2.1 = 1 → 1 ≤ p.2.2.2.1 → p.2.2.2.1 ≤ 5 →
            a = (if p.2.2.2.1 = 1 then d
              else d.askWtx (writeAsks ((d.caFree - d.clk) / us) p.2.2.2.1 p.2.2.2.2)) →
            z = (a.caWrite (o / 256) (a.caPage o l) p.2.2.2.1 p.2.2.2.2).1 →
            exec p.1 s = .next (s.goes (z.setClp { z.clp with firstDone := false }).fieldGone))))))

/-- On R421 to R426: the reader. A measurement that differs from the baseline by more than WAKETH turns the field on, else the
baseline moves a 64th of the way; an exchange names a tag the poll found; a wait that expires a second time ends it with a
record of kind 3. -/
def Obligations.Reader : Prop := ∀ (s : State) (c : Clp), c = s.dev.clp → s.live →
  (∀ (count : Fin 65536) (d : Dev), s.dev.rdEnabled = true → s.dev.b R.CLP_RDCTRL 30 = true → s.dev.rdField = false →
    c.nextMeas ≤ s.dev.clk →
    d = (s.dev.setClp { c with nextMeas := s.dev.clk + max 1 (s.dev.f R.CLP_RDCTRL 8 8) * ms }).setF R.CLP_RDCAP 16 16
      count →
    (d.f R.CLP_RDWAKE 16 16 < ((count.val : Int) - s.dev.f R.CLP_RDCAP 0 16).natAbs →
      exec (.readerWakeMeasure count) s = .next (s.goes (d.setClp { d.clp with rdWake := true }).rdOn.1)) ∧
    (((count.val : Int) - s.dev.f R.CLP_RDCAP 0 16).natAbs ≤ d.f R.CLP_RDWAKE 16 16 →
      exec (.readerWakeMeasure count) s = .next (s.goes (d.setF R.CLP_RDCAP 0 16
        ((s.dev.f R.CLP_RDCAP 0 16 : Int) + ((count.val : Int) - s.dev.f R.CLP_RDCAP 0 16).tdiv 64).toNat)))) ∧
  -- a poll, by command or 5 ms after the field of a measurement, where the field is on or comes on now; afterwards the
  -- field goes off where capacitive wake is on and nothing waits
  (∀ (tags found : List (List Byte)) (o d e : Dev), s.dev.rdEnabled = true → c.rdActive = none →
    (c.rdWake = true ∨ s.dev.rdFront 1 ≠ none) →
    (s.dev.rdOn = (o, false) → exec (.poll tags) s = .next (s.goes o)) ∧
    (s.dev.rdOn = (o, true) → c.rdWake = true → o.clk < o.clp.rdOnAt + 5 * ms →
      exec (.poll tags) s = .next (s.goes o)) ∧
    (s.dev.rdOn = (o, true) → c.rdWake = false ∨ o.clp.rdOnAt + 5 * ms ≤ o.clk →
      d = (if c.rdWake then o.setClp { o.clp with rdWake := false } else o.rdPopCmd) →
      found = (tags.foldl (fun l u => walkInsert u l) []).take (max 1 (d.f R.CLP_RDCTRL 0 8)) →
      e = (d.setClp { d.clp with rdTags := found, rdRats := [] }).forEach (List.range found.length)
        (fun d i => d.rdRecord 1 i (found.getD i [])) →
      (found.length = max 1 (d.f R.CLP_RDCTRL 0 8) → exec (.poll tags) s = .next (s.goes
        ((e.rdRecord 4 0 []).setF R.CLP_RDSTAT 0 8 (min 255 found.length)).rdRest)) ∧
      (found.length ≠ max 1 (d.f R.CLP_RDCTRL 0 8) → exec (.poll tags) s = .next (s.goes
        (e.setF R.CLP_RDSTAT 0 8 (min 255 found.length)).rdRest)))) ∧
  -- an exchange: a tag without RATS since it was found is activated first, which has its own wait
  (∀ (fwi : Fin 15) (t : Nat) (l : List Byte) (o d : Dev), s.dev.rdFront 2 = some (t, l) → s.dev.rdEnabled = true →
    c.rdActive = none →
    (s.dev.rdOn = (o, false) → exec (.exchangeBlock fwi) s = .next (s.goes o)) ∧
    (s.dev.rdOn = (o, true) → d = o.rdPopCmd →
      (d.clp.rdTags.length ≤ t → exec (.exchangeBlock fwi) s = .next (s.goes (d.rdRecord 5 t []).rdRest)) ∧
      (t < d.clp.rdTags.length → d.clp.rdRats.contains t = true →
        exec (.exchangeBlock fwi) s = .next (s.goes (d.setClp { d.clp with
          rdActive := some t, rdFwt := fwt fwi, rdWait := some (d.clk + fwt fwi), rdNaks := 0, rdWtx := 0
          rdWaitFrom := d.clk }))) ∧
      (t < d.clp.rdTags.length → d.clp.rdRats.contains t = false →
        exec (.exchangeBlock fwi) s = .next (s.goes (d.setClp { d.clp with
          rdRats := t :: d.clp.rdRats
          rdActive := some t, rdFwt := fwt fwi, rdWait := some (d.clk + d.ansWait + fwt fwi), rdNaks := 0, rdWtx := 0
          rdWaitFrom := d.clk }))))) ∧
  -- the tag's reply, an S(WTX) within the limits and beyond them, and a protocol error
  (∀ (t : Nat) (l : List Byte) (wait : Nat), c.rdActive = some t → wait = c.rdFwt * (l.headD 1#8).toNat →
    exec (.readerReply 0 l) s = .next (s.goes
      ((s.dev.setClp { c with rdActive := none, rdWait := none }).rdRecord 2 t l).rdRest) ∧
    (c.rdWtx < s.dev.f R.CLP_RDTMO 8 8 → s.dev.clk + wait ≤ c.rdWaitFrom + s.dev.f R.CLP_RDTMO 16 16 * ms →
      exec (.readerReply 1 l) s = .next (s.goes
        (s.dev.setClp { c with rdWtx := c.rdWtx + 1, rdWait := some (s.dev.clk + wait) }))) ∧
    ((s.dev.f R.CLP_RDTMO 8 8 ≤ c.rdWtx ∨ c.rdWaitFrom + s.dev.f R.CLP_RDTMO 16 16 * ms < s.dev.clk + wait) →
      exec (.readerReply 1 l) s = .next (s.goes s.dev)) ∧
    exec (.readerReply 2 l) s = .next (s.goes ((s.dev.rdRelease t).rdRecord 5 t []).rdRest)) ∧
  (∀ t w : Nat, c.rdActive = some t → c.rdWait = some w → w ≤ s.dev.clk →
    (c.rdNaks = 0 → exec .readerWaitExpiry s = .next (s.goes
      (s.dev.setClp { c with rdNaks := 1, rdWait := some (s.dev.clk + c.rdFwt) }))) ∧
    (c.rdNaks ≠ 0 → exec .readerWaitExpiry s = .next (s.goes ((s.dev.rdRecord 3 t []).rdRelease t).rdRest))) ∧
  (∀ (t : Nat) (l : List Byte), s.dev.rdFront 3 = some (t, l) → s.dev.rdEnabled = true →
    exec .readerRelease s = .next (s.goes (s.dev.rdPopCmd.rdRelease t).rdRest)) ∧
  (∀ x : Nat × List Byte, s.dev.rdFront 4 = some x → s.dev.pdRun 15 = true →
    exec .fieldOff s = .next (s.goes s.dev.rdPopCmd.rdOff)) ∧
  (s.dev.b R.CLP_RDSTAT 30 = true → c.field = false → c.fieldLost + 5 * ms ≤ s.dev.clk → s.dev.rdEnabled = true →
    exec .readerDeferralEnd s = .next (s.goes ((s.dev.setB R.CLP_RDSTAT 30 false).rdOn).1)) ∧
  (∀ (r : Req) (w : Word), s.dev.lets r R.CLP_TAGCFG →
    exec (.clpTagcfg r w) s = .next (s.goes (s.dev.setTagCfg w)))

/-- On R439, R444, R445, R448, R449: the test access port. An instruction that gives pin control shows in TST_STATUS; TRST_N
selects IDCODE; CSACC ends with ERR while CS_EN is 0. -/
def Obligations.TestAccess : Prop := ∀ s : State, s.live →
  (∀ (ir : Fin 256) (cells : List Bool), s.dev.pdRun 7 = true →
    exec (.updateIr ir cells) s = .next (s.goes
      (({ s.dev with tap := { s.dev.tap with boundary := cells } } : Dev).setIr ir false)) ∧
    (pinOpcode ir = false → exec (.updateIr ir cells) s = .next (s.goes
      ({ s.dev with tap := { s.dev.tap with boundary := cells, ir := ir, tlr := false } }.setReg R.TST_STATUS
        (pack [(31, 0), (30, 0), (16, ir.val)]))))) ∧
  (s.dev.pdRun 7 = true → exec .trstN s = .next (s.goes
    ({ s.dev with tap := { s.dev.tap with ir := 2, tlr := true } }.setReg R.TST_STATUS
      (pack [(31, 0), (30, 1), (16, 2)])))) ∧
  (∀ edges : Nat, s.dev.pdRun 7 = true → s.dev.tap.tlr = false →
    (s.dev.tap.ir = 5 → exec (.tapRunTestIdle edges) s = .next (s.goes
      { s.dev with tap := { s.dev.tap with pulses := s.dev.tap.pulses + 2 } })) ∧
    (s.dev.tap.ir = 6 → exec (.tapRunTestIdle edges) s = .next (s.goes
      { s.dev with tap := { s.dev.tap with pulses := s.dev.tap.pulses + edges } }))) ∧
  (∀ (wr : Bool) (off : BitVec 24) (v : Word), s.dev.pdRun 7 = true → s.dev.tap.ir = 0x20 →
    ((s.dev.b R.TST_DBGCTL 0 = false ∨ off.toNat % 4 ≠ 0) → exec (.csacc wr off v) s = .next (s.goes
      { s.dev with tap := { s.dev.tap with csDone := true, csErr := true, csData := 0#32 } })) ∧
    (s.dev.b R.TST_DBGCTL 0 = true → off.toNat % 4 = 0 →
      (s.dev.gate 68 off.toNat wr = .unassigned → exec (.csacc wr off v) s = .next (s.goes (s.dev.csEnd true 0#32))) ∧
      (∀ (row : RegRow) (x : Dev × Word), wr = false → s.dev.gate 68 off.toNat false = .go row →
        x = s.dev.readReg 68 off.toNat row →
        exec (.csacc wr off v) s = .next (s.goes (x.1.csEnd false x.2))) ∧
      (∀ row : RegRow, wr = true → s.dev.gate 68 off.toNat true = .go row →
        exec (.csacc wr off v) s = .next (s.goes ((s.dev.writeEffect 68 off.toNat row v).csEnd false 0#32))))) ∧
  (s.dev.pdRun 7 = false → ∀ (wr : Bool) (off : BitVec 24) (v : Word), exec (.csacc wr off v) s = .next (s.goes s.dev))

/-- On R450: debug access to one processor. An operation ends with ERR while its enable bit is 0, or where it requires halt and
the processor is not halted. -/
def Obligations.DebugAccess : Prop := ∀ (s : State) (p : Fin 3) (en : Nat) (c : Cpu), s.live → s.dev.pdRun 7 = true →
  s.dev.tap.ir = 0x21 → en = (if p = 2 then 2 else 1) → c = s.dev.cpu (64 + p.val) →
  (s.dev.b R.TST_DBGCTL en = false → ∀ (a v : Word) (arg : Fin 128),
    exec (.dbgHalt p) s = .next (s.goes (s.dev.dbgEnd p true 0#32)) ∧
    exec (.dbgResume p) s = .next (s.goes (s.dev.dbgEnd p true 0#32)) ∧
    exec (.dbgStep p) s = .next (s.goes (s.dev.dbgEnd p true 0#32)) ∧
    exec (.dbgReadRegister p arg) s = .next (s.goes (s.dev.dbgEnd p true 0#32)) ∧
    exec (.dbgWriteRegister p arg v) s = .next (s.goes (s.dev.dbgEnd p true 0#32)) ∧
    exec (.dbgReadWord p a) s = .next (s.goes (s.dev.dbgEnd p true 0#32)) ∧
    exec (.dbgWriteWord p a v) s = .next (s.goes (s.dev.dbgEnd p true 0#32)) ∧
    exec (.dbgReadPc p) s = .next (s.goes (s.dev.dbgEnd p true 0#32))) ∧
  (s.dev.b R.TST_DBGCTL en = true → c.run ≠ .halted → ∀ (a v : Word) (arg : Fin 128),
    exec (.dbgResume p) s = .next (s.goes (s.dev.dbgEnd p true 0#32)) ∧
    exec (.dbgStep p) s = .next (s.goes (s.dev.dbgEnd p true 0#32)) ∧
    exec (.dbgReadRegister p arg) s = .next (s.goes (s.dev.dbgEnd p true 0#32)) ∧
    exec (.dbgWriteRegister p arg v) s = .next (s.goes (s.dev.dbgEnd p true 0#32)) ∧
    exec (.dbgReadWord p a) s = .next (s.goes (s.dev.dbgEnd p true 0#32)) ∧
    exec (.dbgWriteWord p a v) s = .next (s.goes (s.dev.dbgEnd p true 0#32))) ∧
  (s.dev.b R.TST_DBGCTL en = true →
    exec (.dbgReadPc p) s = .next (s.goes (s.dev.dbgEnd p false c.pc)) ∧
    (c.run = .running → exec (.dbgHalt p) s = .next (s.goes
      ((s.dev.onCpu (64 + p.val) fun c => { c with run := .halted, wait := .none }).dbgEnd p false 0#32)))) ∧
  (s.dev.b R.TST_DBGCTL en = true → c.run = .halted →
    exec (.dbgResume p) s = .next (s.goes
      ((s.dev.onCpu (64 + p.val) fun c => { c with run := .running }).dbgEnd p false 0#32)) ∧
    exec (.dbgStep p) s = .next (s.goes
      ((s.dev.onCpu (64 + p.val) fun c => { c with run := .stepping }).dbgEnd p false 0#32)) ∧
    (∀ (arg : Fin 128) (v : Word), arg.val < 32 →
      exec (.dbgReadRegister p arg) s = .next (s.goes (s.dev.dbgEnd p false (c.get arg))) ∧
      exec (.dbgWriteRegister p arg v) s = .next (s.goes
        ((s.dev.onCpu (64 + p.val) fun c => c.put arg v).dbgEnd p false 0#32))) ∧
    (∀ (arg : Fin 128) (v m : Word), 32 ≤ arg.val → arg.val < 96 → mtcMask (arg.val - 32) = some m →
      exec (.dbgWriteRegister p arg v) s = .next (s.goes
        ((s.dev.onCpu (64 + p.val) fun c => c.setCreg (arg.val - 32) (v &&& m)).dbgEnd p false 0#32))) ∧
    (∀ (a : Word) (f : Nat), s.dev.place (dbgProc p) true a 4 kLoad = .ok (.mem f) → s.dev.eccBad f 4 = false →
      exec (.dbgReadWord p a) s = .next (s.goes
        (((s.dev.eccScrub (f / 4 * 4) 4).msTraffic f 4 2).dbgEnd p false (wd (leNat (s.dev.rdBytes f 4)))))) ∧
    (∀ (a v : Word) (f : Nat), s.dev.place (dbgProc p) true a 4 kStore = .ok (.mem f) →
      exec (.dbgWriteWord p a v) s = .next (s.goes
        (((s.dev.noteUnfenced f 4).msWrite f (natBytes 4 v.toNat)).dbgEnd p false 0#32))))

/-- On R41, R310, R396, R455, R459, R460: a register write or host read of any requester, by where it falls: nothing at an
undefined offset, DEV_ACCERR with REASON 1 at a domain in Stop, except that a Main Processor's gate command there answers
NOT_PERMITTED, and REASON 2 where it is not permitted, EVR_STATUS with it at a locked event register. The host's accesses are
4 octets of PCIe payload; beyond BAR0 they fall on BAR2 (log 88). -/
def Obligations.RegisterAccess : Prop := ∀ (s : State) (r : Req), s.live →
  (∀ (off : BitVec 26) (v : Word) (e : Dev), off.toNat % 4 = 0 → off.toNat < 0x1000000 →
    e = (if r = .host ∧ s.dev.pdRun 13 = true then s.dev.pmcOctets 0 1 4 else s.dev) →
    (e.gate r.num off.toNat true = .undefined → exec (.registerWrite r off v) s = .next (s.goes e)) ∧
    (e.gate r.num off.toNat true = .waits → exec (.registerWrite r off v) s = .next (s.goes e)) ∧
    (e.gate r.num off.toNat true = .stopped → (gateCmdUnit off.toNat = none ∨ r.num ≠ 64 ∧ r.num ≠ 65) →
      exec (.registerWrite r off v) s = .next (s.goes (e.accErr r.num off.toNat 1 true))) ∧
    (∀ u, e.gate r.num off.toNat true = .stopped → gateCmdUnit off.toNat = some u → r.num = 64 ∨ r.num = 65 →
      exec (.registerWrite r off v) s = .next (s.goes (e.armResult (r.num - 64) u 0 gNOTPERM))) ∧
    (e.gate r.num off.toNat true = .denied → e.lockedAt off.toNat = false →
      exec (.registerWrite r off v) s = .next (s.goes (e.accErr r.num off.toNat 2 true))) ∧
    (e.gate r.num off.toNat true = .denied → e.lockedAt off.toNat = true → 0xB0000 ≤ off.toNat →
      off.toNat < 0xC0000 → exec (.registerWrite r off v) s = .next (s.goes
        ((e.setB R.EVR_STATUS 1 true).accErr r.num off.toNat 2 true))) ∧
    (∀ row : RegRow, e.gate r.num off.toNat true = .go row → exec (.registerWrite r off v) s = .next (s.goes
      (e.writeEffect r.num off.toNat row v)))) ∧
  -- a host write of one word of the MSI-X table while PD13 is in Run: a vector that it unmasks sends what pends
  (∀ (off : BitVec 26) (v : Word) (i : Nat) (d : Dev), r = .host → s.dev.pdRun 13 = true → i < 256 →
    off.toNat = 0x2001000 + 4 * i →
    d = s.dev.pmcOctets 0 1 4 → d.host.msixPend.contains (i / 4) = false →
    exec (.registerWrite r off v) s = .next (s.goes { d with host := { d.host with
      msix := tput msixDflt d.host.msix i
        (if i % 4 = 3 then v &&& 1#32 else if i % 4 = 0 then v &&& 0xFFFFFFFC#32 else v) } })) ∧
  (∀ (off : Nat) (e : Dev), off % 4 = 0 →
    e = (if s.dev.pdRun 13 then s.dev.pmcOctets 0 2 4 else s.dev) →
    (off < 0x1000000 →
      (e.gate 67 off false = .unassigned →
        exec (.hostRegisterRead off true) s = .next (s.goes { e with bus := some (67, off, none) })) ∧
      (e.gate 67 off false = .undefined →
        exec (.hostRegisterRead off true) s = .next (s.goes { e with bus := some (67, off, some 0#32) })) ∧
      (e.gate 67 off false = .stopped → exec (.hostRegisterRead off true) s = .next (s.goes
        { e.accErr 67 off 1 false with bus := some (67, off, some 0xFFFFFFFF#32) })) ∧
      (∀ row : RegRow, e.gate 67 off false = .go row → exec (.hostRegisterRead off true) s = .next (s.goes
        { (e.readReg 67 off row).1 with bus := some (67, off, some (e.readReg 67 off row).2) }))) ∧
    (e.pdRun 13 = true → 0x2000000 ≤ off → off < 0x2002000 → exec (.hostRegisterRead off true) s = .next (s.goes
      { e with bus := some (67, off, some (e.bar2Word (off - 0x2000000))) })) ∧
    exec (.hostRegisterRead off false) s = .next (s.goes { e with bus := some (67, off, none) })) ∧
  (∀ (x : LockReg) (row : RegRow) (bit : Nat), s.dev.gate r.num (lockOff x) true = .go row →
    (∀ k, x = .channel k → bit = 30) → ((∀ k, x ≠ .channel k) → bit = 31) →
    exec (.lockReg r x) s = .next (s.goes (s.dev.writeEffect r.num (lockOff x) row
      (setBit (s.dev.reg (lockOff x)) bit true))))

end
end

