-- ==== Sys2Proof/Laws/Sparse.lean ====
section
/-!
SUPPORT. Sparse tables: read after write, other keys, and that every operation keeps the canonical form.
-/

namespace Sys2Proof.Machine

variable {α : Type} (dflt : Nat → α)

theorem tget_tdel (t : Table α) (k j : Nat) : tget dflt (tdel k t) j = if j = k then dflt j else tget dflt t j := by
  induction t with
  | nil => simp [tdel, tget]
  | cons e r ih =>
    obtain ⟨k', v'⟩ := e
    simp only [tdel]
    split
    · rename_i h; subst h; rw [ih]; split
      · rfl
      · rename_i h2; simp only [tget]; rw [if_neg (fun h => h2 h.symm)]
    · rename_i h; simp only [tget]; split
      · rename_i h2; subst h2; rw [if_neg h]
      · exact ih

theorem tget_tins (t : Table α) (k : Nat) (v : α) (j : Nat) :
    tget dflt (tins k v (tdel k t)) j = if j = k then v else tget dflt (tdel k t) j := by
  induction t with
  | nil =>
    simp only [tdel, tins, tget]
    by_cases h : k = j
    · subst h; simp
    · rw [if_neg h, if_neg (fun h2 => h h2.symm)]
  | cons e r ih =>
    obtain ⟨k', v'⟩ := e
    simp only [tdel]
    split
    · exact ih
    · rename_i h
      simp only [tins]
      split
      · simp only [tget]
        by_cases h2 : k = j
        · subst h2; simp
        · rw [if_neg h2, if_neg (show ¬ j = k from fun h3 => h2 h3.symm)]
      · simp only [tget]
        split
        · rename_i h2; subst h2; rw [if_neg h]
        · exact ih

theorem tget_tput [DecidableEq α] (t : Table α) (k : Nat) (v : α) (j : Nat) :
    tget dflt (tput dflt t k v) j = if j = k then v else tget dflt t j := by
  unfold tput
  split
  · rename_i h; rw [tget_tdel]; split
    · rename_i h2; subst h2; exact h.symm
    · rfl
  · rw [tget_tins]; split
    · rfl
    · rename_i h2; rw [tget_tdel, if_neg h2]

@[simp] theorem tget_tput_same [DecidableEq α] (t : Table α) (k : Nat) (v : α) :
    tget dflt (tput dflt t k v) k = v := by simp [tget_tput]

theorem tget_tput_ne [DecidableEq α] (t : Table α) {k j : Nat} (v : α) (h : j ≠ k) :
    tget dflt (tput dflt t k v) j = tget dflt t j := by simp [tget_tput, h]

/-! ## The canonical form -/

theorem twfFrom_mono [DecidableEq α] {t : Table α} {lo lo' : Nat} (h : twfFrom dflt lo t = true) (hle : lo' ≤ lo) :
    twfFrom dflt lo' t = true := by
  cases t with
  | nil => rfl
  | cons e r =>
    obtain ⟨k, v⟩ := e
    simp only [twfFrom, Bool.and_eq_true, decide_eq_true_eq] at h ⊢
    exact ⟨⟨Nat.le_trans hle h.1.1, h.1.2⟩, h.2⟩

theorem twfFrom_filter [DecidableEq α] (q : Nat × α → Bool) (t : Table α) (lo : Nat) (h : twfFrom dflt lo t = true) :
    twfFrom dflt lo (t.filter q) = true := by
  induction t generalizing lo with
  | nil => rfl
  | cons e r ih =>
    obtain ⟨k, v⟩ := e
    simp only [twfFrom, Bool.and_eq_true, decide_eq_true_eq] at h
    simp only [List.filter_cons]
    split
    · simp only [twfFrom, Bool.and_eq_true, decide_eq_true_eq]; exact ⟨h.1, ih _ h.2⟩
    · exact twfFrom_mono dflt (ih _ h.2) (by omega)

theorem twfFrom_tdel [DecidableEq α] (k : Nat) (t : Table α) (lo : Nat) (h : twfFrom dflt lo t = true) :
    twfFrom dflt lo (tdel k t) = true := by
  induction t generalizing lo with
  | nil => rfl
  | cons e r ih =>
    obtain ⟨k', v⟩ := e
    simp only [twfFrom, Bool.and_eq_true, decide_eq_true_eq] at h
    simp only [tdel]
    split
    · exact twfFrom_mono dflt (ih _ h.2) (by omega)
    · simp only [twfFrom, Bool.and_eq_true, decide_eq_true_eq]; exact ⟨h.1, ih _ h.2⟩

theorem twfFrom_tins [DecidableEq α] (k : Nat) (v : α) (hv : v ≠ dflt k) (t : Table α) (lo : Nat) (hlo : lo ≤ k)
    (h : twfFrom dflt lo (tdel k t) = true) : twfFrom dflt lo (tins k v (tdel k t)) = true := by
  induction t generalizing lo with
  | nil => simp [tdel, tins, twfFrom, hlo, hv]
  | cons e r ih =>
    obtain ⟨k', v'⟩ := e
    simp only [tdel] at h ⊢
    split at h
    · rename_i hk; rw [if_pos hk]; exact ih _ hlo h
    · rename_i hk
      rw [if_neg hk]
      simp only [twfFrom, Bool.and_eq_true, decide_eq_true_eq] at h
      simp only [tins]
      split
      · simp only [twfFrom, Bool.and_eq_true, decide_eq_true_eq]
        exact ⟨⟨hlo, hv⟩, ⟨by omega, h.1.2⟩, h.2⟩
      · simp only [twfFrom, Bool.and_eq_true, decide_eq_true_eq]
        exact ⟨h.1, ih _ (by omega) h.2⟩

/-- A write keeps the canonical form. -/
theorem twf_tput [DecidableEq α] {t : Table α} (h : twf dflt t = true) (k : Nat) (v : α) :
    twf dflt (tput dflt t k v) = true := by
  unfold twf tput at *
  split
  · exact twfFrom_tdel dflt k t 0 h
  · rename_i hv; exact twfFrom_tins dflt k v hv t 0 (Nat.zero_le _) (twfFrom_tdel dflt k t 0 h)

/-- Keeping some entries keeps the canonical form. -/
theorem twf_filter [DecidableEq α] {t : Table α} (h : twf dflt t = true) (q : Nat × α → Bool) :
    twf dflt (t.filter q) = true := twfFrom_filter dflt q t 0 h

/-- Clearing keys keeps the canonical form. -/
theorem twf_tclear [DecidableEq α] {t : Table α} (h : twf dflt t = true) (p : Nat → Bool) :
    twf dflt (tclear p t) = true := twf_filter dflt h _

end Sys2Proof.Machine
end

