-- ==== Sys2Proof/Laws/Bits.lean ====
section
/-!
SUPPORT. Bit fields, registers and memory: what reads as written, and what stays as it was.
-/

namespace Sys2Proof.Machine

theorem bitOf_fldMask (lo n i : Nat) : bitOf (fldMask lo n) i = (decide (lo ≤ i ∧ i < lo + n) && decide (i < 32)) := by
  unfold bitOf fldMask
  rw [BitVec.getLsbD_ofNat, Nat.testBit_shiftLeft, Nat.testBit_two_pow_sub_one, Bool.and_comm]
  congr 1
  by_cases h : lo ≤ i
  · simp [h]; omega
  · simp [h]

/-- A bit after a field has been set: the field's own bit inside it, the old bit outside. -/
theorem bitOf_setFld (w : Word) (lo n v i : Nat) : bitOf (setFld w lo n v) i =
    if lo ≤ i ∧ i < lo + n ∧ i < 32 then v.testBit (i - lo) else bitOf w i := by
  have hm := bitOf_fldMask lo n i
  unfold bitOf at hm ⊢
  unfold setFld
  rw [BitVec.getLsbD_or, BitVec.getLsbD_and, BitVec.getLsbD_not, hm, BitVec.getLsbD_ofNat, Nat.testBit_shiftLeft,
    Nat.testBit_mod_two_pow]
  by_cases h : i < 32
  · by_cases h1 : lo ≤ i
    · by_cases h2 : i < lo + n
      · have : i - lo < n := by omega
        simp [h, h1, h2, this]
      · have : ¬ i - lo < n := by omega
        simp [h, h2, this]
    · simp [h, h1]
  · rw [if_neg (by omega)]
    simp [h, BitVec.getLsbD_of_ge w i (by omega)]

@[simp] theorem bitOf_setBit (w : Word) (i j : Nat) (b : Bool) (hi : i < 32) :
    bitOf (setBit w i b) j = if j = i then b else bitOf w j := by
  unfold setBit
  rw [bitOf_setFld]
  by_cases h : j = i
  · subst h; rw [if_pos (by omega), if_pos rfl]; cases b <;> simp
  · rw [if_neg (by omega), if_neg h]

/-- Bit `i` of a field is bit `lo + i` of the word. -/
theorem testBit_fld (w : Word) (lo n i : Nat) : (fld w lo n).testBit i = (decide (i < n) && bitOf w (lo + i)) := by
  unfold fld bitOf
  rw [Nat.testBit_mod_two_pow, Nat.testBit_shiftRight, BitVec.testBit_toNat]

/-- A field reads as it was set. -/
theorem fld_setFld_same (w : Word) (lo n v : Nat) (h : lo + n ≤ 32) : fld (setFld w lo n v) lo n = v % 2 ^ n := by
  apply Nat.eq_of_testBit_eq
  intro i
  rw [testBit_fld, Nat.testBit_mod_two_pow, bitOf_setFld]
  by_cases hi : i < n
  · rw [if_pos (by omega)]; simp [hi]
  · simp [hi]

/-- A field that lies apart from the one set reads as before. -/
theorem fld_setFld_apart (w : Word) (lo n v lo' n' : Nat) (h : lo' + n' ≤ lo ∨ lo + n ≤ lo') :
    fld (setFld w lo n v) lo' n' = fld w lo' n' := by
  apply Nat.eq_of_testBit_eq
  intro i
  rw [testBit_fld, testBit_fld, bitOf_setFld]
  by_cases hi : i < n'
  · rw [if_neg (by omega)]
  · simp [hi]

/-- A bit that a field set does not cover reads as before. -/
theorem bitOf_setFld_apart (w : Word) (lo n v i : Nat) (h : i < lo ∨ lo + n ≤ i) :
    bitOf (setFld w lo n v) i = bitOf w i := by rw [bitOf_setFld, if_neg (by omega)]

/-! ## Registers -/

/-- A register reads as it was written, and every other as before. -/
theorem Dev.reg_setReg (d : Dev) (k j : Nat) (w : Word) : (d.setReg k w).reg j = if j = k then w else d.reg j := by
  simp [Dev.reg, Dev.setReg, tget_tput]

@[simp] theorem Dev.reg_setReg_same (d : Dev) (k : Nat) (w : Word) : (d.setReg k w).reg k = w := by
  rw [Dev.reg_setReg, if_pos rfl]

theorem Dev.reg_setReg_ne (d : Dev) {k j : Nat} (w : Word) (h : j ≠ k) : (d.setReg k w).reg j = d.reg j := by
  rw [Dev.reg_setReg, if_neg h]

theorem Dev.reg_setF (d : Dev) (k lo n v j : Nat) :
    (d.setF k lo n v).reg j = if j = k then setFld (d.reg k) lo n v else d.reg j := Dev.reg_setReg ..

theorem Dev.reg_setB (d : Dev) (k i j : Nat) (v : Bool) :
    (d.setB k i v).reg j = if j = k then setBit (d.reg k) i v else d.reg j := Dev.reg_setReg ..

/-- A field reads as it was set. -/
theorem Dev.f_setF_same (d : Dev) (k lo n v : Nat) (h : lo + n ≤ 32) : (d.setF k lo n v).f k lo n = v % 2 ^ n := by
  simp [Dev.f, Dev.setF, fld_setFld_same _ _ _ _ h]

/-- A bit reads as it was set. -/
theorem Dev.b_setB (d : Dev) (k i k' i' : Nat) (v : Bool) (h : i < 32) :
    (d.setB k i v).b k' i' = if k' = k ∧ i' = i then v else d.b k' i' := by
  unfold Dev.b
  rw [Dev.reg_setB]
  by_cases hk : k' = k
  · subst hk; simp [h]
  · simp [hk]

/-! ## Memory -/

/-- An octet of RAM reads as it was written, and every other octet as before. -/
theorem Dev.rd8_wr8 (d : Dev) (a b : Nat) (v : Byte) (h : a < romBase) :
    (d.wr8 a v).rd8 b = if b = a then v else d.rd8 b := by
  unfold Dev.rd8 Dev.wr8
  by_cases hb : b = a
  · subst hb; simp [h]
  · simp only [hb, if_false]; split
    · exact tget_tput_ne _ _ _ hb
    · rfl

/-- An octet outside those stored reads as before. -/
theorem Dev.rd8_wr8_ne (d : Dev) {a b : Nat} (v : Byte) (h : b ≠ a) : (d.wr8 a v).rd8 b = d.rd8 b := by
  unfold Dev.rd8 Dev.wr8
  split
  · exact tget_tput_ne _ _ _ h
  · rfl

@[simp] theorem Dev.unmark_mem (d : Dev) (a : Nat) : (d.unmark a).mem = d.mem := rfl
@[simp] theorem Dev.unmark_rd8 (d : Dev) (a b : Nat) : (d.unmark a).rd8 b = d.rd8 b := rfl

theorem Dev.rd8_wrBytes_apart (l : List Byte) : ∀ (d : Dev) (a b : Nat), (b < a ∨ a + l.length ≤ b) →
    (d.wrBytes a l).rd8 b = d.rd8 b := by
  induction l with
  | nil => intro d a b _; rfl
  | cons x r ih =>
    intro d a b h
    simp only [List.length_cons] at h
    rw [Dev.wrBytes, ih _ _ _ (by omega), Dev.unmark_rd8, Dev.rd8_wr8_ne _ _ (by omega)]

/-- The octets stored read as they were stored. -/
theorem Dev.rd8_wrBytes (l : List Byte) : ∀ (d : Dev) (a k : Nat), a + l.length ≤ romBase → (h : k < l.length) →
    (d.wrBytes a l).rd8 (a + k) = l[k] := by
  induction l with
  | nil => intro d a k _ h; simp at h
  | cons x r ih =>
    intro d a k hr h
    simp only [List.length_cons] at hr h
    rw [Dev.wrBytes]
    cases k with
    | zero =>
      rw [Dev.rd8_wrBytes_apart _ _ _ _ (by omega), Dev.unmark_rd8, Dev.rd8_wr8 _ _ _ _ (by omega)]
      simp
    | succ k =>
      have := ih ((d.wr8 a x).unmark a) (a + 1) k (by omega) (by omega)
      rw [show a + 1 + k = a + (k + 1) by omega] at this
      rw [this]; rfl

end Sys2Proof.Machine
end

