-- ==== Sys2Proof/Laws/Canonical.lean ====
section
/-!
SUPPORT. Every operation over registers and memory keeps their canonical form, and the reset state has it.
-/

namespace Sys2Proof.Machine

/-- The canonical form speaks of registers and memory alone. -/
theorem Dev.canonical_congr {d e : Dev} (hr : e.regs = d.regs) (hm : e.mem = d.mem) : e.canonical = d.canonical := by
  unfold Dev.canonical; rw [hr, hm]

theorem Dev.canonical_iff (d : Dev) :
    d.canonical = true ↔ twf resetOf d.regs = true ∧ Memory.wf d.mem = true := by
  simp [Dev.canonical]

/-! ## Registers -/

theorem Dev.canonical_setReg {d : Dev} (h : d.canonical = true) (k : Nat) (w : Word) : (d.setReg k w).canonical = true := by
  rw [Dev.canonical_iff] at h ⊢
  exact ⟨twf_tput resetOf h.1 k w, h.2⟩

theorem Dev.canonical_setF {d : Dev} (h : d.canonical = true) (k lo n v : Nat) : (d.setF k lo n v).canonical = true :=
  Dev.canonical_setReg h _ _

theorem Dev.canonical_setB {d : Dev} (h : d.canonical = true) (k i : Nat) (v : Bool) : (d.setB k i v).canonical = true :=
  Dev.canonical_setReg h _ _

theorem Dev.canonical_bumpF {d : Dev} (h : d.canonical = true) (k lo n x : Nat) : (d.bumpF k lo n x).canonical = true :=
  Dev.canonical_setReg h _ _

theorem Dev.canonical_bump {d : Dev} (h : d.canonical = true) (k : Nat) : (d.bump k).canonical = true :=
  Dev.canonical_setReg h _ _

theorem Dev.canonical_setPair {d : Dev} (h : d.canonical = true) (lo hi v : Nat) : (d.setPair lo hi v).canonical = true :=
  Dev.canonical_setReg (Dev.canonical_setReg h _ _) _ _

theorem Dev.canonical_resetRange {d : Dev} (h : d.canonical = true) (lo hi : Nat) :
    (d.resetRange lo hi).canonical = true := by
  rw [Dev.canonical_iff] at h ⊢
  exact ⟨twf_tclear resetOf h.1 fun k => decide (lo ≤ k % bankSize ∧ k % bankSize < hi), h.2⟩

/-! ## Memory -/

theorem Dev.wf_wr8 {d : Dev} (h : Memory.wf d.mem = true) (a : Nat) (v : Byte) : Memory.wf (d.wr8 a v).mem = true :=
  twf_tput memDflt h a v

theorem Dev.canonical_wr8 {d : Dev} (h : d.canonical = true) (a : Nat) (v : Byte) : (d.wr8 a v).canonical = true := by
  rw [Dev.canonical_iff] at h ⊢
  exact ⟨h.1, Dev.wf_wr8 h.2 a v⟩

theorem Dev.canonical_unmark {d : Dev} (h : d.canonical = true) (a : Nat) : (d.unmark a).canonical = true := h

theorem Dev.canonical_wr16 {d : Dev} (h : d.canonical = true) (a : Nat) (w : Word) : (d.wr16 a w).canonical = true :=
  Dev.canonical_wr8 (Dev.canonical_wr8 h _ _) _ _

theorem Dev.canonical_wr32 {d : Dev} (h : d.canonical = true) (a : Nat) (w : Word) : (d.wr32 a w).canonical = true :=
  Dev.canonical_wr8 (Dev.canonical_wr8 (Dev.canonical_wr8 (Dev.canonical_wr8 h _ _) _ _) _ _) _ _

theorem Dev.canonical_wrBytes (l : List Byte) : ∀ {d : Dev}, d.canonical = true → ∀ a, (d.wrBytes a l).canonical = true := by
  induction l with
  | nil => intro d h a; exact h
  | cons x r ih => intro d h a; exact ih (Dev.canonical_unmark (Dev.canonical_wr8 h a x) a) (a + 1)

theorem Dev.canonical_wrWords (l : List Word) : ∀ {d : Dev}, d.canonical = true → ∀ a, (d.wrWords a l).canonical = true := by
  induction l with
  | nil => intro d h a; exact h
  | cons x r ih => intro d h a; exact ih (Dev.canonical_wr32 h a x) (a + 4)

theorem Dev.canonical_clearMem {d : Dev} (h : d.canonical = true) (lo n : Nat) : (d.clearMem lo n).canonical = true := by
  rw [Dev.canonical_iff] at h ⊢
  exact ⟨h.1, twf_tclear memDflt h.2 fun k => decide (lo ≤ k ∧ k < lo + n)⟩

/-! ## Many updates, and reset -/

/-- What every update of a list of them keeps, all of them keep. -/
theorem Dev.canonical_forEach {α : Type} {g : Dev → α → Dev} (hg : ∀ d x, d.canonical = true → (g d x).canonical = true)
    (l : List α) : ∀ {d : Dev}, d.canonical = true → (d.forEach l g).canonical = true := by
  induction l with
  | nil => intro d h; exact h
  | cons x r ih => intro d h; exact ih (hg d x h)

theorem Dev.canonical_discMiss {d : Dev} (h : d.canonical = true) : d.discMiss.canonical = true := by
  unfold Dev.discMiss
  split
  · exact Dev.canonical_setReg (Dev.canonical_setReg h _ _) _ _
  · exact h

theorem Dev.canonical_wiped {d : Dev} (h : d.canonical = true) : d.wiped.canonical = true := by
  rw [Dev.canonical_iff] at h
  refine Dev.canonical_discMiss (Dev.canonical_forEach (fun d x hd => Dev.canonical_setReg (Dev.canonical_setReg hd _ _) _ _) _ ?_)
  rw [Dev.canonical_iff]
  exact ⟨twf_filter resetOf h.1 _, twf_filter memDflt h.2 _⟩

theorem State.reset_wf : Memory.wf State.reset.dev.mem = true := by decide

theorem State.reset_canonical : State.reset.dev.canonical = true := by decide

end Sys2Proof.Machine
end

