-- ==== Sys2Proof/Laws/Fields.lean ====
section
/-!
SUPPORT. What each plain update of the device leaves: one lemma for each other field, so that no proof unfolds a record
update.
-/

namespace Sys2Proof.Machine

variable (d : Dev)

@[simp] theorem Dev.setReg_clk (k : Nat) (w : Word) : (d.setReg k w).clk = d.clk := rfl
@[simp] theorem Dev.setReg_freeCtr (k : Nat) (w : Word) : (d.setReg k w).freeCtr = d.freeCtr := rfl
@[simp] theorem Dev.setReg_mem (k : Nat) (w : Word) : (d.setReg k w).mem = d.mem := rfl
@[simp] theorem Dev.setReg_ecc1 (k : Nat) (w : Word) : (d.setReg k w).ecc1 = d.ecc1 := rfl
@[simp] theorem Dev.setReg_ecc2 (k : Nat) (w : Word) : (d.setReg k w).ecc2 = d.ecc2 := rfl
@[simp] theorem Dev.setReg_tb (k : Nat) (w : Word) : (d.setReg k w).tb = d.tb := rfl
@[simp] theorem Dev.setReg_slots (k : Nat) (w : Word) : (d.setReg k w).slots = d.slots := rfl
@[simp] theorem Dev.setReg_ghosts (k : Nat) (w : Word) : (d.setReg k w).ghosts = d.ghosts := rfl
@[simp] theorem Dev.setReg_outcomes (k : Nat) (w : Word) : (d.setReg k w).outcomes = d.outcomes := rfl
@[simp] theorem Dev.setReg_armSeq (k : Nat) (w : Word) : (d.setReg k w).armSeq = d.armSeq := rfl
@[simp] theorem Dev.setReg_cpus (k : Nat) (w : Word) : (d.setReg k w).cpus = d.cpus := rfl
@[simp] theorem Dev.setReg_wenA (k : Nat) (w : Word) : (d.setReg k w).wenA = d.wenA := rfl
@[simp] theorem Dev.setReg_wenB (k : Nat) (w : Word) : (d.setReg k w).wenB = d.wenB := rfl
@[simp] theorem Dev.setReg_radios (k : Nat) (w : Word) : (d.setReg k w).radios = d.radios := rfl
@[simp] theorem Dev.setReg_txents (k : Nat) (w : Word) : (d.setReg k w).txents = d.txents := rfl
@[simp] theorem Dev.setReg_acrs (k : Nat) (w : Word) : (d.setReg k w).acrs = d.acrs := rfl
@[simp] theorem Dev.setReg_acrq (k : Nat) (w : Word) : (d.setReg k w).acrq = d.acrq := rfl
@[simp] theorem Dev.setReg_acrDrops (k : Nat) (w : Word) : (d.setReg k w).acrDrops = d.acrDrops := rfl
@[simp] theorem Dev.setReg_trunk (k : Nat) (w : Word) : (d.setReg k w).trunk = d.trunk := rfl
@[simp] theorem Dev.setReg_asb (k : Nat) (w : Word) : (d.setReg k w).asb = d.asb := rfl
@[simp] theorem Dev.setReg_mac (k : Nat) (w : Word) : (d.setReg k w).mac = d.mac := rfl
@[simp] theorem Dev.setReg_planq (k : Nat) (w : Word) : (d.setReg k w).planq = d.planq := rfl
@[simp] theorem Dev.setReg_sec (k : Nat) (w : Word) : (d.setReg k w).sec = d.sec := rfl
@[simp] theorem Dev.setReg_msg (k : Nat) (w : Word) : (d.setReg k w).msg = d.msg := rfl
@[simp] theorem Dev.setReg_tok (k : Nat) (w : Word) : (d.setReg k w).tok = d.tok := rfl
@[simp] theorem Dev.setReg_host (k : Nat) (w : Word) : (d.setReg k w).host = d.host := rfl
@[simp] theorem Dev.setReg_skein (k : Nat) (w : Word) : (d.setReg k w).skein = d.skein := rfl
@[simp] theorem Dev.setReg_timers (k : Nat) (w : Word) : (d.setReg k w).timers = d.timers := rfl
@[simp] theorem Dev.setReg_rtc (k : Nat) (w : Word) : (d.setReg k w).rtc = d.rtc := rfl
@[simp] theorem Dev.setReg_fw (k : Nat) (w : Word) : (d.setReg k w).fw = d.fw := rfl
@[simp] theorem Dev.setReg_sup (k : Nat) (w : Word) : (d.setReg k w).sup = d.sup := rfl
@[simp] theorem Dev.setReg_power (k : Nat) (w : Word) : (d.setReg k w).power = d.power := rfl
@[simp] theorem Dev.setReg_mgn (k : Nat) (w : Word) : (d.setReg k w).mgn = d.mgn := rfl
@[simp] theorem Dev.setReg_clp (k : Nat) (w : Word) : (d.setReg k w).clp = d.clp := rfl
@[simp] theorem Dev.setReg_tap (k : Nat) (w : Word) : (d.setReg k w).tap = d.tap := rfl
@[simp] theorem Dev.setReg_bus (k : Nat) (w : Word) : (d.setReg k w).bus = d.bus := rfl

@[simp] theorem Dev.setF_clk (k lo n v : Nat) : (d.setF k lo n v).clk = d.clk := rfl
@[simp] theorem Dev.setF_freeCtr (k lo n v : Nat) : (d.setF k lo n v).freeCtr = d.freeCtr := rfl
@[simp] theorem Dev.setF_mem (k lo n v : Nat) : (d.setF k lo n v).mem = d.mem := rfl
@[simp] theorem Dev.setF_ecc1 (k lo n v : Nat) : (d.setF k lo n v).ecc1 = d.ecc1 := rfl
@[simp] theorem Dev.setF_ecc2 (k lo n v : Nat) : (d.setF k lo n v).ecc2 = d.ecc2 := rfl
@[simp] theorem Dev.setF_tb (k lo n v : Nat) : (d.setF k lo n v).tb = d.tb := rfl
@[simp] theorem Dev.setF_slots (k lo n v : Nat) : (d.setF k lo n v).slots = d.slots := rfl
@[simp] theorem Dev.setF_ghosts (k lo n v : Nat) : (d.setF k lo n v).ghosts = d.ghosts := rfl
@[simp] theorem Dev.setF_outcomes (k lo n v : Nat) : (d.setF k lo n v).outcomes = d.outcomes := rfl
@[simp] theorem Dev.setF_armSeq (k lo n v : Nat) : (d.setF k lo n v).armSeq = d.armSeq := rfl
@[simp] theorem Dev.setF_cpus (k lo n v : Nat) : (d.setF k lo n v).cpus = d.cpus := rfl
@[simp] theorem Dev.setF_wenA (k lo n v : Nat) : (d.setF k lo n v).wenA = d.wenA := rfl
@[simp] theorem Dev.setF_wenB (k lo n v : Nat) : (d.setF k lo n v).wenB = d.wenB := rfl
@[simp] theorem Dev.setF_radios (k lo n v : Nat) : (d.setF k lo n v).radios = d.radios := rfl
@[simp] theorem Dev.setF_txents (k lo n v : Nat) : (d.setF k lo n v).txents = d.txents := rfl
@[simp] theorem Dev.setF_acrs (k lo n v : Nat) : (d.setF k lo n v).acrs = d.acrs := rfl
@[simp] theorem Dev.setF_acrq (k lo n v : Nat) : (d.setF k lo n v).acrq = d.acrq := rfl
@[simp] theorem Dev.setF_acrDrops (k lo n v : Nat) : (d.setF k lo n v).acrDrops = d.acrDrops := rfl
@[simp] theorem Dev.setF_trunk (k lo n v : Nat) : (d.setF k lo n v).trunk = d.trunk := rfl
@[simp] theorem Dev.setF_asb (k lo n v : Nat) : (d.setF k lo n v).asb = d.asb := rfl
@[simp] theorem Dev.setF_mac (k lo n v : Nat) : (d.setF k lo n v).mac = d.mac := rfl
@[simp] theorem Dev.setF_planq (k lo n v : Nat) : (d.setF k lo n v).planq = d.planq := rfl
@[simp] theorem Dev.setF_sec (k lo n v : Nat) : (d.setF k lo n v).sec = d.sec := rfl
@[simp] theorem Dev.setF_msg (k lo n v : Nat) : (d.setF k lo n v).msg = d.msg := rfl
@[simp] theorem Dev.setF_tok (k lo n v : Nat) : (d.setF k lo n v).tok = d.tok := rfl
@[simp] theorem Dev.setF_host (k lo n v : Nat) : (d.setF k lo n v).host = d.host := rfl
@[simp] theorem Dev.setF_skein (k lo n v : Nat) : (d.setF k lo n v).skein = d.skein := rfl
@[simp] theorem Dev.setF_timers (k lo n v : Nat) : (d.setF k lo n v).timers = d.timers := rfl
@[simp] theorem Dev.setF_rtc (k lo n v : Nat) : (d.setF k lo n v).rtc = d.rtc := rfl
@[simp] theorem Dev.setF_fw (k lo n v : Nat) : (d.setF k lo n v).fw = d.fw := rfl
@[simp] theorem Dev.setF_sup (k lo n v : Nat) : (d.setF k lo n v).sup = d.sup := rfl
@[simp] theorem Dev.setF_power (k lo n v : Nat) : (d.setF k lo n v).power = d.power := rfl
@[simp] theorem Dev.setF_mgn (k lo n v : Nat) : (d.setF k lo n v).mgn = d.mgn := rfl
@[simp] theorem Dev.setF_clp (k lo n v : Nat) : (d.setF k lo n v).clp = d.clp := rfl
@[simp] theorem Dev.setF_tap (k lo n v : Nat) : (d.setF k lo n v).tap = d.tap := rfl
@[simp] theorem Dev.setF_bus (k lo n v : Nat) : (d.setF k lo n v).bus = d.bus := rfl

@[simp] theorem Dev.setB_clk (k i : Nat) (v : Bool) : (d.setB k i v).clk = d.clk := rfl
@[simp] theorem Dev.setB_freeCtr (k i : Nat) (v : Bool) : (d.setB k i v).freeCtr = d.freeCtr := rfl
@[simp] theorem Dev.setB_mem (k i : Nat) (v : Bool) : (d.setB k i v).mem = d.mem := rfl
@[simp] theorem Dev.setB_ecc1 (k i : Nat) (v : Bool) : (d.setB k i v).ecc1 = d.ecc1 := rfl
@[simp] theorem Dev.setB_ecc2 (k i : Nat) (v : Bool) : (d.setB k i v).ecc2 = d.ecc2 := rfl
@[simp] theorem Dev.setB_tb (k i : Nat) (v : Bool) : (d.setB k i v).tb = d.tb := rfl
@[simp] theorem Dev.setB_slots (k i : Nat) (v : Bool) : (d.setB k i v).slots = d.slots := rfl
@[simp] theorem Dev.setB_ghosts (k i : Nat) (v : Bool) : (d.setB k i v).ghosts = d.ghosts := rfl
@[simp] theorem Dev.setB_outcomes (k i : Nat) (v : Bool) : (d.setB k i v).outcomes = d.outcomes := rfl
@[simp] theorem Dev.setB_armSeq (k i : Nat) (v : Bool) : (d.setB k i v).armSeq = d.armSeq := rfl
@[simp] theorem Dev.setB_cpus (k i : Nat) (v : Bool) : (d.setB k i v).cpus = d.cpus := rfl
@[simp] theorem Dev.setB_wenA (k i : Nat) (v : Bool) : (d.setB k i v).wenA = d.wenA := rfl
@[simp] theorem Dev.setB_wenB (k i : Nat) (v : Bool) : (d.setB k i v).wenB = d.wenB := rfl
@[simp] theorem Dev.setB_radios (k i : Nat) (v : Bool) : (d.setB k i v).radios = d.radios := rfl
@[simp] theorem Dev.setB_txents (k i : Nat) (v : Bool) : (d.setB k i v).txents = d.txents := rfl
@[simp] theorem Dev.setB_acrs (k i : Nat) (v : Bool) : (d.setB k i v).acrs = d.acrs := rfl
@[simp] theorem Dev.setB_acrq (k i : Nat) (v : Bool) : (d.setB k i v).acrq = d.acrq := rfl
@[simp] theorem Dev.setB_acrDrops (k i : Nat) (v : Bool) : (d.setB k i v).acrDrops = d.acrDrops := rfl
@[simp] theorem Dev.setB_trunk (k i : Nat) (v : Bool) : (d.setB k i v).trunk = d.trunk := rfl
@[simp] theorem Dev.setB_asb (k i : Nat) (v : Bool) : (d.setB k i v).asb = d.asb := rfl
@[simp] theorem Dev.setB_mac (k i : Nat) (v : Bool) : (d.setB k i v).mac = d.mac := rfl
@[simp] theorem Dev.setB_planq (k i : Nat) (v : Bool) : (d.setB k i v).planq = d.planq := rfl
@[simp] theorem Dev.setB_sec (k i : Nat) (v : Bool) : (d.setB k i v).sec = d.sec := rfl
@[simp] theorem Dev.setB_msg (k i : Nat) (v : Bool) : (d.setB k i v).msg = d.msg := rfl
@[simp] theorem Dev.setB_tok (k i : Nat) (v : Bool) : (d.setB k i v).tok = d.tok := rfl
@[simp] theorem Dev.setB_host (k i : Nat) (v : Bool) : (d.setB k i v).host = d.host := rfl
@[simp] theorem Dev.setB_skein (k i : Nat) (v : Bool) : (d.setB k i v).skein = d.skein := rfl
@[simp] theorem Dev.setB_timers (k i : Nat) (v : Bool) : (d.setB k i v).timers = d.timers := rfl
@[simp] theorem Dev.setB_rtc (k i : Nat) (v : Bool) : (d.setB k i v).rtc = d.rtc := rfl
@[simp] theorem Dev.setB_fw (k i : Nat) (v : Bool) : (d.setB k i v).fw = d.fw := rfl
@[simp] theorem Dev.setB_sup (k i : Nat) (v : Bool) : (d.setB k i v).sup = d.sup := rfl
@[simp] theorem Dev.setB_power (k i : Nat) (v : Bool) : (d.setB k i v).power = d.power := rfl
@[simp] theorem Dev.setB_mgn (k i : Nat) (v : Bool) : (d.setB k i v).mgn = d.mgn := rfl
@[simp] theorem Dev.setB_clp (k i : Nat) (v : Bool) : (d.setB k i v).clp = d.clp := rfl
@[simp] theorem Dev.setB_tap (k i : Nat) (v : Bool) : (d.setB k i v).tap = d.tap := rfl
@[simp] theorem Dev.setB_bus (k i : Nat) (v : Bool) : (d.setB k i v).bus = d.bus := rfl

@[simp] theorem Dev.setCpu_clk (p : Nat) (c : Cpu) : (d.setCpu p c).clk = d.clk := rfl
@[simp] theorem Dev.setCpu_freeCtr (p : Nat) (c : Cpu) : (d.setCpu p c).freeCtr = d.freeCtr := rfl
@[simp] theorem Dev.setCpu_regs (p : Nat) (c : Cpu) : (d.setCpu p c).regs = d.regs := rfl
@[simp] theorem Dev.setCpu_mem (p : Nat) (c : Cpu) : (d.setCpu p c).mem = d.mem := rfl
@[simp] theorem Dev.setCpu_ecc1 (p : Nat) (c : Cpu) : (d.setCpu p c).ecc1 = d.ecc1 := rfl
@[simp] theorem Dev.setCpu_ecc2 (p : Nat) (c : Cpu) : (d.setCpu p c).ecc2 = d.ecc2 := rfl
@[simp] theorem Dev.setCpu_tb (p : Nat) (c : Cpu) : (d.setCpu p c).tb = d.tb := rfl
@[simp] theorem Dev.setCpu_slots (p : Nat) (c : Cpu) : (d.setCpu p c).slots = d.slots := rfl
@[simp] theorem Dev.setCpu_ghosts (p : Nat) (c : Cpu) : (d.setCpu p c).ghosts = d.ghosts := rfl
@[simp] theorem Dev.setCpu_outcomes (p : Nat) (c : Cpu) : (d.setCpu p c).outcomes = d.outcomes := rfl
@[simp] theorem Dev.setCpu_armSeq (p : Nat) (c : Cpu) : (d.setCpu p c).armSeq = d.armSeq := rfl
@[simp] theorem Dev.setCpu_wenA (p : Nat) (c : Cpu) : (d.setCpu p c).wenA = d.wenA := rfl
@[simp] theorem Dev.setCpu_wenB (p : Nat) (c : Cpu) : (d.setCpu p c).wenB = d.wenB := rfl
@[simp] theorem Dev.setCpu_radios (p : Nat) (c : Cpu) : (d.setCpu p c).radios = d.radios := rfl
@[simp] theorem Dev.setCpu_txents (p : Nat) (c : Cpu) : (d.setCpu p c).txents = d.txents := rfl
@[simp] theorem Dev.setCpu_acrs (p : Nat) (c : Cpu) : (d.setCpu p c).acrs = d.acrs := rfl
@[simp] theorem Dev.setCpu_acrq (p : Nat) (c : Cpu) : (d.setCpu p c).acrq = d.acrq := rfl
@[simp] theorem Dev.setCpu_acrDrops (p : Nat) (c : Cpu) : (d.setCpu p c).acrDrops = d.acrDrops := rfl
@[simp] theorem Dev.setCpu_trunk (p : Nat) (c : Cpu) : (d.setCpu p c).trunk = d.trunk := rfl
@[simp] theorem Dev.setCpu_asb (p : Nat) (c : Cpu) : (d.setCpu p c).asb = d.asb := rfl
@[simp] theorem Dev.setCpu_mac (p : Nat) (c : Cpu) : (d.setCpu p c).mac = d.mac := rfl
@[simp] theorem Dev.setCpu_planq (p : Nat) (c : Cpu) : (d.setCpu p c).planq = d.planq := rfl
@[simp] theorem Dev.setCpu_sec (p : Nat) (c : Cpu) : (d.setCpu p c).sec = d.sec := rfl
@[simp] theorem Dev.setCpu_msg (p : Nat) (c : Cpu) : (d.setCpu p c).msg = d.msg := rfl
@[simp] theorem Dev.setCpu_tok (p : Nat) (c : Cpu) : (d.setCpu p c).tok = d.tok := rfl
@[simp] theorem Dev.setCpu_host (p : Nat) (c : Cpu) : (d.setCpu p c).host = d.host := rfl
@[simp] theorem Dev.setCpu_skein (p : Nat) (c : Cpu) : (d.setCpu p c).skein = d.skein := rfl
@[simp] theorem Dev.setCpu_timers (p : Nat) (c : Cpu) : (d.setCpu p c).timers = d.timers := rfl
@[simp] theorem Dev.setCpu_rtc (p : Nat) (c : Cpu) : (d.setCpu p c).rtc = d.rtc := rfl
@[simp] theorem Dev.setCpu_fw (p : Nat) (c : Cpu) : (d.setCpu p c).fw = d.fw := rfl
@[simp] theorem Dev.setCpu_sup (p : Nat) (c : Cpu) : (d.setCpu p c).sup = d.sup := rfl
@[simp] theorem Dev.setCpu_power (p : Nat) (c : Cpu) : (d.setCpu p c).power = d.power := rfl
@[simp] theorem Dev.setCpu_mgn (p : Nat) (c : Cpu) : (d.setCpu p c).mgn = d.mgn := rfl
@[simp] theorem Dev.setCpu_clp (p : Nat) (c : Cpu) : (d.setCpu p c).clp = d.clp := rfl
@[simp] theorem Dev.setCpu_tap (p : Nat) (c : Cpu) : (d.setCpu p c).tap = d.tap := rfl
@[simp] theorem Dev.setCpu_bus (p : Nat) (c : Cpu) : (d.setCpu p c).bus = d.bus := rfl

@[simp] theorem Dev.setRadio_clk (n : Nat) (r : Radio) : (d.setRadio n r).clk = d.clk := rfl
@[simp] theorem Dev.setRadio_freeCtr (n : Nat) (r : Radio) : (d.setRadio n r).freeCtr = d.freeCtr := rfl
@[simp] theorem Dev.setRadio_regs (n : Nat) (r : Radio) : (d.setRadio n r).regs = d.regs := rfl
@[simp] theorem Dev.setRadio_mem (n : Nat) (r : Radio) : (d.setRadio n r).mem = d.mem := rfl
@[simp] theorem Dev.setRadio_ecc1 (n : Nat) (r : Radio) : (d.setRadio n r).ecc1 = d.ecc1 := rfl
@[simp] theorem Dev.setRadio_ecc2 (n : Nat) (r : Radio) : (d.setRadio n r).ecc2 = d.ecc2 := rfl
@[simp] theorem Dev.setRadio_tb (n : Nat) (r : Radio) : (d.setRadio n r).tb = d.tb := rfl
@[simp] theorem Dev.setRadio_slots (n : Nat) (r : Radio) : (d.setRadio n r).slots = d.slots := rfl
@[simp] theorem Dev.setRadio_ghosts (n : Nat) (r : Radio) : (d.setRadio n r).ghosts = d.ghosts := rfl
@[simp] theorem Dev.setRadio_outcomes (n : Nat) (r : Radio) : (d.setRadio n r).outcomes = d.outcomes := rfl
@[simp] theorem Dev.setRadio_armSeq (n : Nat) (r : Radio) : (d.setRadio n r).armSeq = d.armSeq := rfl
@[simp] theorem Dev.setRadio_cpus (n : Nat) (r : Radio) : (d.setRadio n r).cpus = d.cpus := rfl
@[simp] theorem Dev.setRadio_wenA (n : Nat) (r : Radio) : (d.setRadio n r).wenA = d.wenA := rfl
@[simp] theorem Dev.setRadio_wenB (n : Nat) (r : Radio) : (d.setRadio n r).wenB = d.wenB := rfl
@[simp] theorem Dev.setRadio_txents (n : Nat) (r : Radio) : (d.setRadio n r).txents = d.txents := rfl
@[simp] theorem Dev.setRadio_acrs (n : Nat) (r : Radio) : (d.setRadio n r).acrs = d.acrs := rfl
@[simp] theorem Dev.setRadio_acrq (n : Nat) (r : Radio) : (d.setRadio n r).acrq = d.acrq := rfl
@[simp] theorem Dev.setRadio_acrDrops (n : Nat) (r : Radio) : (d.setRadio n r).acrDrops = d.acrDrops := rfl
@[simp] theorem Dev.setRadio_trunk (n : Nat) (r : Radio) : (d.setRadio n r).trunk = d.trunk := rfl
@[simp] theorem Dev.setRadio_asb (n : Nat) (r : Radio) : (d.setRadio n r).asb = d.asb := rfl
@[simp] theorem Dev.setRadio_mac (n : Nat) (r : Radio) : (d.setRadio n r).mac = d.mac := rfl
@[simp] theorem Dev.setRadio_planq (n : Nat) (r : Radio) : (d.setRadio n r).planq = d.planq := rfl
@[simp] theorem Dev.setRadio_sec (n : Nat) (r : Radio) : (d.setRadio n r).sec = d.sec := rfl
@[simp] theorem Dev.setRadio_msg (n : Nat) (r : Radio) : (d.setRadio n r).msg = d.msg := rfl
@[simp] theorem Dev.setRadio_tok (n : Nat) (r : Radio) : (d.setRadio n r).tok = d.tok := rfl
@[simp] theorem Dev.setRadio_host (n : Nat) (r : Radio) : (d.setRadio n r).host = d.host := rfl
@[simp] theorem Dev.setRadio_skein (n : Nat) (r : Radio) : (d.setRadio n r).skein = d.skein := rfl
@[simp] theorem Dev.setRadio_timers (n : Nat) (r : Radio) : (d.setRadio n r).timers = d.timers := rfl
@[simp] theorem Dev.setRadio_rtc (n : Nat) (r : Radio) : (d.setRadio n r).rtc = d.rtc := rfl
@[simp] theorem Dev.setRadio_fw (n : Nat) (r : Radio) : (d.setRadio n r).fw = d.fw := rfl
@[simp] theorem Dev.setRadio_sup (n : Nat) (r : Radio) : (d.setRadio n r).sup = d.sup := rfl
@[simp] theorem Dev.setRadio_power (n : Nat) (r : Radio) : (d.setRadio n r).power = d.power := rfl
@[simp] theorem Dev.setRadio_mgn (n : Nat) (r : Radio) : (d.setRadio n r).mgn = d.mgn := rfl
@[simp] theorem Dev.setRadio_clp (n : Nat) (r : Radio) : (d.setRadio n r).clp = d.clp := rfl
@[simp] theorem Dev.setRadio_tap (n : Nat) (r : Radio) : (d.setRadio n r).tap = d.tap := rfl
@[simp] theorem Dev.setRadio_bus (n : Nat) (r : Radio) : (d.setRadio n r).bus = d.bus := rfl

@[simp] theorem Dev.setSlot_clk (u k : Nat) (x : Slot) : (d.setSlot u k x).clk = d.clk := rfl
@[simp] theorem Dev.setSlot_freeCtr (u k : Nat) (x : Slot) : (d.setSlot u k x).freeCtr = d.freeCtr := rfl
@[simp] theorem Dev.setSlot_regs (u k : Nat) (x : Slot) : (d.setSlot u k x).regs = d.regs := rfl
@[simp] theorem Dev.setSlot_mem (u k : Nat) (x : Slot) : (d.setSlot u k x).mem = d.mem := rfl
@[simp] theorem Dev.setSlot_ecc1 (u k : Nat) (x : Slot) : (d.setSlot u k x).ecc1 = d.ecc1 := rfl
@[simp] theorem Dev.setSlot_ecc2 (u k : Nat) (x : Slot) : (d.setSlot u k x).ecc2 = d.ecc2 := rfl
@[simp] theorem Dev.setSlot_tb (u k : Nat) (x : Slot) : (d.setSlot u k x).tb = d.tb := rfl
@[simp] theorem Dev.setSlot_ghosts (u k : Nat) (x : Slot) : (d.setSlot u k x).ghosts = d.ghosts := rfl
@[simp] theorem Dev.setSlot_outcomes (u k : Nat) (x : Slot) : (d.setSlot u k x).outcomes = d.outcomes := rfl
@[simp] theorem Dev.setSlot_armSeq (u k : Nat) (x : Slot) : (d.setSlot u k x).armSeq = d.armSeq := rfl
@[simp] theorem Dev.setSlot_cpus (u k : Nat) (x : Slot) : (d.setSlot u k x).cpus = d.cpus := rfl
@[simp] theorem Dev.setSlot_wenA (u k : Nat) (x : Slot) : (d.setSlot u k x).wenA = d.wenA := rfl
@[simp] theorem Dev.setSlot_wenB (u k : Nat) (x : Slot) : (d.setSlot u k x).wenB = d.wenB := rfl
@[simp] theorem Dev.setSlot_radios (u k : Nat) (x : Slot) : (d.setSlot u k x).radios = d.radios := rfl
@[simp] theorem Dev.setSlot_txents (u k : Nat) (x : Slot) : (d.setSlot u k x).txents = d.txents := rfl
@[simp] theorem Dev.setSlot_acrs (u k : Nat) (x : Slot) : (d.setSlot u k x).acrs = d.acrs := rfl
@[simp] theorem Dev.setSlot_acrq (u k : Nat) (x : Slot) : (d.setSlot u k x).acrq = d.acrq := rfl
@[simp] theorem Dev.setSlot_acrDrops (u k : Nat) (x : Slot) : (d.setSlot u k x).acrDrops = d.acrDrops := rfl
@[simp] theorem Dev.setSlot_trunk (u k : Nat) (x : Slot) : (d.setSlot u k x).trunk = d.trunk := rfl
@[simp] theorem Dev.setSlot_asb (u k : Nat) (x : Slot) : (d.setSlot u k x).asb = d.asb := rfl
@[simp] theorem Dev.setSlot_mac (u k : Nat) (x : Slot) : (d.setSlot u k x).mac = d.mac := rfl
@[simp] theorem Dev.setSlot_planq (u k : Nat) (x : Slot) : (d.setSlot u k x).planq = d.planq := rfl
@[simp] theorem Dev.setSlot_sec (u k : Nat) (x : Slot) : (d.setSlot u k x).sec = d.sec := rfl
@[simp] theorem Dev.setSlot_msg (u k : Nat) (x : Slot) : (d.setSlot u k x).msg = d.msg := rfl
@[simp] theorem Dev.setSlot_tok (u k : Nat) (x : Slot) : (d.setSlot u k x).tok = d.tok := rfl
@[simp] theorem Dev.setSlot_host (u k : Nat) (x : Slot) : (d.setSlot u k x).host = d.host := rfl
@[simp] theorem Dev.setSlot_skein (u k : Nat) (x : Slot) : (d.setSlot u k x).skein = d.skein := rfl
@[simp] theorem Dev.setSlot_timers (u k : Nat) (x : Slot) : (d.setSlot u k x).timers = d.timers := rfl
@[simp] theorem Dev.setSlot_rtc (u k : Nat) (x : Slot) : (d.setSlot u k x).rtc = d.rtc := rfl
@[simp] theorem Dev.setSlot_fw (u k : Nat) (x : Slot) : (d.setSlot u k x).fw = d.fw := rfl
@[simp] theorem Dev.setSlot_sup (u k : Nat) (x : Slot) : (d.setSlot u k x).sup = d.sup := rfl
@[simp] theorem Dev.setSlot_power (u k : Nat) (x : Slot) : (d.setSlot u k x).power = d.power := rfl
@[simp] theorem Dev.setSlot_mgn (u k : Nat) (x : Slot) : (d.setSlot u k x).mgn = d.mgn := rfl
@[simp] theorem Dev.setSlot_clp (u k : Nat) (x : Slot) : (d.setSlot u k x).clp = d.clp := rfl
@[simp] theorem Dev.setSlot_tap (u k : Nat) (x : Slot) : (d.setSlot u k x).tap = d.tap := rfl
@[simp] theorem Dev.setSlot_bus (u k : Nat) (x : Slot) : (d.setSlot u k x).bus = d.bus := rfl

@[simp] theorem Dev.setTxent_clk (n h : Nat) (e : TxEnt) : (d.setTxent n h e).clk = d.clk := rfl
@[simp] theorem Dev.setTxent_freeCtr (n h : Nat) (e : TxEnt) : (d.setTxent n h e).freeCtr = d.freeCtr := rfl
@[simp] theorem Dev.setTxent_regs (n h : Nat) (e : TxEnt) : (d.setTxent n h e).regs = d.regs := rfl
@[simp] theorem Dev.setTxent_mem (n h : Nat) (e : TxEnt) : (d.setTxent n h e).mem = d.mem := rfl
@[simp] theorem Dev.setTxent_ecc1 (n h : Nat) (e : TxEnt) : (d.setTxent n h e).ecc1 = d.ecc1 := rfl
@[simp] theorem Dev.setTxent_ecc2 (n h : Nat) (e : TxEnt) : (d.setTxent n h e).ecc2 = d.ecc2 := rfl
@[simp] theorem Dev.setTxent_tb (n h : Nat) (e : TxEnt) : (d.setTxent n h e).tb = d.tb := rfl
@[simp] theorem Dev.setTxent_slots (n h : Nat) (e : TxEnt) : (d.setTxent n h e).slots = d.slots := rfl
@[simp] theorem Dev.setTxent_ghosts (n h : Nat) (e : TxEnt) : (d.setTxent n h e).ghosts = d.ghosts := rfl
@[simp] theorem Dev.setTxent_outcomes (n h : Nat) (e : TxEnt) : (d.setTxent n h e).outcomes = d.outcomes := rfl
@[simp] theorem Dev.setTxent_armSeq (n h : Nat) (e : TxEnt) : (d.setTxent n h e).armSeq = d.armSeq := rfl
@[simp] theorem Dev.setTxent_cpus (n h : Nat) (e : TxEnt) : (d.setTxent n h e).cpus = d.cpus := rfl
@[simp] theorem Dev.setTxent_wenA (n h : Nat) (e : TxEnt) : (d.setTxent n h e).wenA = d.wenA := rfl
@[simp] theorem Dev.setTxent_wenB (n h : Nat) (e : TxEnt) : (d.setTxent n h e).wenB = d.wenB := rfl
@[simp] theorem Dev.setTxent_radios (n h : Nat) (e : TxEnt) : (d.setTxent n h e).radios = d.radios := rfl
@[simp] theorem Dev.setTxent_acrs (n h : Nat) (e : TxEnt) : (d.setTxent n h e).acrs = d.acrs := rfl
@[simp] theorem Dev.setTxent_acrq (n h : Nat) (e : TxEnt) : (d.setTxent n h e).acrq = d.acrq := rfl
@[simp] theorem Dev.setTxent_acrDrops (n h : Nat) (e : TxEnt) : (d.setTxent n h e).acrDrops = d.acrDrops := rfl
@[simp] theorem Dev.setTxent_trunk (n h : Nat) (e : TxEnt) : (d.setTxent n h e).trunk = d.trunk := rfl
@[simp] theorem Dev.setTxent_asb (n h : Nat) (e : TxEnt) : (d.setTxent n h e).asb = d.asb := rfl
@[simp] theorem Dev.setTxent_mac (n h : Nat) (e : TxEnt) : (d.setTxent n h e).mac = d.mac := rfl
@[simp] theorem Dev.setTxent_planq (n h : Nat) (e : TxEnt) : (d.setTxent n h e).planq = d.planq := rfl
@[simp] theorem Dev.setTxent_sec (n h : Nat) (e : TxEnt) : (d.setTxent n h e).sec = d.sec := rfl
@[simp] theorem Dev.setTxent_msg (n h : Nat) (e : TxEnt) : (d.setTxent n h e).msg = d.msg := rfl
@[simp] theorem Dev.setTxent_tok (n h : Nat) (e : TxEnt) : (d.setTxent n h e).tok = d.tok := rfl
@[simp] theorem Dev.setTxent_host (n h : Nat) (e : TxEnt) : (d.setTxent n h e).host = d.host := rfl
@[simp] theorem Dev.setTxent_skein (n h : Nat) (e : TxEnt) : (d.setTxent n h e).skein = d.skein := rfl
@[simp] theorem Dev.setTxent_timers (n h : Nat) (e : TxEnt) : (d.setTxent n h e).timers = d.timers := rfl
@[simp] theorem Dev.setTxent_rtc (n h : Nat) (e : TxEnt) : (d.setTxent n h e).rtc = d.rtc := rfl
@[simp] theorem Dev.setTxent_fw (n h : Nat) (e : TxEnt) : (d.setTxent n h e).fw = d.fw := rfl
@[simp] theorem Dev.setTxent_sup (n h : Nat) (e : TxEnt) : (d.setTxent n h e).sup = d.sup := rfl
@[simp] theorem Dev.setTxent_power (n h : Nat) (e : TxEnt) : (d.setTxent n h e).power = d.power := rfl
@[simp] theorem Dev.setTxent_mgn (n h : Nat) (e : TxEnt) : (d.setTxent n h e).mgn = d.mgn := rfl
@[simp] theorem Dev.setTxent_clp (n h : Nat) (e : TxEnt) : (d.setTxent n h e).clp = d.clp := rfl
@[simp] theorem Dev.setTxent_tap (n h : Nat) (e : TxEnt) : (d.setTxent n h e).tap = d.tap := rfl
@[simp] theorem Dev.setTxent_bus (n h : Nat) (e : TxEnt) : (d.setTxent n h e).bus = d.bus := rfl

@[simp] theorem Dev.setAcr_clk (a : Nat) (x : AcrRx) : (d.setAcr a x).clk = d.clk := rfl
@[simp] theorem Dev.setAcr_freeCtr (a : Nat) (x : AcrRx) : (d.setAcr a x).freeCtr = d.freeCtr := rfl
@[simp] theorem Dev.setAcr_regs (a : Nat) (x : AcrRx) : (d.setAcr a x).regs = d.regs := rfl
@[simp] theorem Dev.setAcr_mem (a : Nat) (x : AcrRx) : (d.setAcr a x).mem = d.mem := rfl
@[simp] theorem Dev.setAcr_ecc1 (a : Nat) (x : AcrRx) : (d.setAcr a x).ecc1 = d.ecc1 := rfl
@[simp] theorem Dev.setAcr_ecc2 (a : Nat) (x : AcrRx) : (d.setAcr a x).ecc2 = d.ecc2 := rfl
@[simp] theorem Dev.setAcr_tb (a : Nat) (x : AcrRx) : (d.setAcr a x).tb = d.tb := rfl
@[simp] theorem Dev.setAcr_slots (a : Nat) (x : AcrRx) : (d.setAcr a x).slots = d.slots := rfl
@[simp] theorem Dev.setAcr_ghosts (a : Nat) (x : AcrRx) : (d.setAcr a x).ghosts = d.ghosts := rfl
@[simp] theorem Dev.setAcr_outcomes (a : Nat) (x : AcrRx) : (d.setAcr a x).outcomes = d.outcomes := rfl
@[simp] theorem Dev.setAcr_armSeq (a : Nat) (x : AcrRx) : (d.setAcr a x).armSeq = d.armSeq := rfl
@[simp] theorem Dev.setAcr_cpus (a : Nat) (x : AcrRx) : (d.setAcr a x).cpus = d.cpus := rfl
@[simp] theorem Dev.setAcr_wenA (a : Nat) (x : AcrRx) : (d.setAcr a x).wenA = d.wenA := rfl
@[simp] theorem Dev.setAcr_wenB (a : Nat) (x : AcrRx) : (d.setAcr a x).wenB = d.wenB := rfl
@[simp] theorem Dev.setAcr_radios (a : Nat) (x : AcrRx) : (d.setAcr a x).radios = d.radios := rfl
@[simp] theorem Dev.setAcr_txents (a : Nat) (x : AcrRx) : (d.setAcr a x).txents = d.txents := rfl
@[simp] theorem Dev.setAcr_acrq (a : Nat) (x : AcrRx) : (d.setAcr a x).acrq = d.acrq := rfl
@[simp] theorem Dev.setAcr_acrDrops (a : Nat) (x : AcrRx) : (d.setAcr a x).acrDrops = d.acrDrops := rfl
@[simp] theorem Dev.setAcr_trunk (a : Nat) (x : AcrRx) : (d.setAcr a x).trunk = d.trunk := rfl
@[simp] theorem Dev.setAcr_asb (a : Nat) (x : AcrRx) : (d.setAcr a x).asb = d.asb := rfl
@[simp] theorem Dev.setAcr_mac (a : Nat) (x : AcrRx) : (d.setAcr a x).mac = d.mac := rfl
@[simp] theorem Dev.setAcr_planq (a : Nat) (x : AcrRx) : (d.setAcr a x).planq = d.planq := rfl
@[simp] theorem Dev.setAcr_sec (a : Nat) (x : AcrRx) : (d.setAcr a x).sec = d.sec := rfl
@[simp] theorem Dev.setAcr_msg (a : Nat) (x : AcrRx) : (d.setAcr a x).msg = d.msg := rfl
@[simp] theorem Dev.setAcr_tok (a : Nat) (x : AcrRx) : (d.setAcr a x).tok = d.tok := rfl
@[simp] theorem Dev.setAcr_host (a : Nat) (x : AcrRx) : (d.setAcr a x).host = d.host := rfl
@[simp] theorem Dev.setAcr_skein (a : Nat) (x : AcrRx) : (d.setAcr a x).skein = d.skein := rfl
@[simp] theorem Dev.setAcr_timers (a : Nat) (x : AcrRx) : (d.setAcr a x).timers = d.timers := rfl
@[simp] theorem Dev.setAcr_rtc (a : Nat) (x : AcrRx) : (d.setAcr a x).rtc = d.rtc := rfl
@[simp] theorem Dev.setAcr_fw (a : Nat) (x : AcrRx) : (d.setAcr a x).fw = d.fw := rfl
@[simp] theorem Dev.setAcr_sup (a : Nat) (x : AcrRx) : (d.setAcr a x).sup = d.sup := rfl
@[simp] theorem Dev.setAcr_power (a : Nat) (x : AcrRx) : (d.setAcr a x).power = d.power := rfl
@[simp] theorem Dev.setAcr_mgn (a : Nat) (x : AcrRx) : (d.setAcr a x).mgn = d.mgn := rfl
@[simp] theorem Dev.setAcr_clp (a : Nat) (x : AcrRx) : (d.setAcr a x).clp = d.clp := rfl
@[simp] theorem Dev.setAcr_tap (a : Nat) (x : AcrRx) : (d.setAcr a x).tap = d.tap := rfl
@[simp] theorem Dev.setAcr_bus (a : Nat) (x : AcrRx) : (d.setAcr a x).bus = d.bus := rfl

@[simp] theorem Dev.setTimer_clk (n : Nat) (x : Tmr) : (d.setTimer n x).clk = d.clk := rfl
@[simp] theorem Dev.setTimer_freeCtr (n : Nat) (x : Tmr) : (d.setTimer n x).freeCtr = d.freeCtr := rfl
@[simp] theorem Dev.setTimer_regs (n : Nat) (x : Tmr) : (d.setTimer n x).regs = d.regs := rfl
@[simp] theorem Dev.setTimer_mem (n : Nat) (x : Tmr) : (d.setTimer n x).mem = d.mem := rfl
@[simp] theorem Dev.setTimer_ecc1 (n : Nat) (x : Tmr) : (d.setTimer n x).ecc1 = d.ecc1 := rfl
@[simp] theorem Dev.setTimer_ecc2 (n : Nat) (x : Tmr) : (d.setTimer n x).ecc2 = d.ecc2 := rfl
@[simp] theorem Dev.setTimer_tb (n : Nat) (x : Tmr) : (d.setTimer n x).tb = d.tb := rfl
@[simp] theorem Dev.setTimer_slots (n : Nat) (x : Tmr) : (d.setTimer n x).slots = d.slots := rfl
@[simp] theorem Dev.setTimer_ghosts (n : Nat) (x : Tmr) : (d.setTimer n x).ghosts = d.ghosts := rfl
@[simp] theorem Dev.setTimer_outcomes (n : Nat) (x : Tmr) : (d.setTimer n x).outcomes = d.outcomes := rfl
@[simp] theorem Dev.setTimer_armSeq (n : Nat) (x : Tmr) : (d.setTimer n x).armSeq = d.armSeq := rfl
@[simp] theorem Dev.setTimer_cpus (n : Nat) (x : Tmr) : (d.setTimer n x).cpus = d.cpus := rfl
@[simp] theorem Dev.setTimer_wenA (n : Nat) (x : Tmr) : (d.setTimer n x).wenA = d.wenA := rfl
@[simp] theorem Dev.setTimer_wenB (n : Nat) (x : Tmr) : (d.setTimer n x).wenB = d.wenB := rfl
@[simp] theorem Dev.setTimer_radios (n : Nat) (x : Tmr) : (d.setTimer n x).radios = d.radios := rfl
@[simp] theorem Dev.setTimer_txents (n : Nat) (x : Tmr) : (d.setTimer n x).txents = d.txents := rfl
@[simp] theorem Dev.setTimer_acrs (n : Nat) (x : Tmr) : (d.setTimer n x).acrs = d.acrs := rfl
@[simp] theorem Dev.setTimer_acrq (n : Nat) (x : Tmr) : (d.setTimer n x).acrq = d.acrq := rfl
@[simp] theorem Dev.setTimer_acrDrops (n : Nat) (x : Tmr) : (d.setTimer n x).acrDrops = d.acrDrops := rfl
@[simp] theorem Dev.setTimer_trunk (n : Nat) (x : Tmr) : (d.setTimer n x).trunk = d.trunk := rfl
@[simp] theorem Dev.setTimer_asb (n : Nat) (x : Tmr) : (d.setTimer n x).asb = d.asb := rfl
@[simp] theorem Dev.setTimer_mac (n : Nat) (x : Tmr) : (d.setTimer n x).mac = d.mac := rfl
@[simp] theorem Dev.setTimer_planq (n : Nat) (x : Tmr) : (d.setTimer n x).planq = d.planq := rfl
@[simp] theorem Dev.setTimer_sec (n : Nat) (x : Tmr) : (d.setTimer n x).sec = d.sec := rfl
@[simp] theorem Dev.setTimer_msg (n : Nat) (x : Tmr) : (d.setTimer n x).msg = d.msg := rfl
@[simp] theorem Dev.setTimer_tok (n : Nat) (x : Tmr) : (d.setTimer n x).tok = d.tok := rfl
@[simp] theorem Dev.setTimer_host (n : Nat) (x : Tmr) : (d.setTimer n x).host = d.host := rfl
@[simp] theorem Dev.setTimer_skein (n : Nat) (x : Tmr) : (d.setTimer n x).skein = d.skein := rfl
@[simp] theorem Dev.setTimer_rtc (n : Nat) (x : Tmr) : (d.setTimer n x).rtc = d.rtc := rfl
@[simp] theorem Dev.setTimer_fw (n : Nat) (x : Tmr) : (d.setTimer n x).fw = d.fw := rfl
@[simp] theorem Dev.setTimer_sup (n : Nat) (x : Tmr) : (d.setTimer n x).sup = d.sup := rfl
@[simp] theorem Dev.setTimer_power (n : Nat) (x : Tmr) : (d.setTimer n x).power = d.power := rfl
@[simp] theorem Dev.setTimer_mgn (n : Nat) (x : Tmr) : (d.setTimer n x).mgn = d.mgn := rfl
@[simp] theorem Dev.setTimer_clp (n : Nat) (x : Tmr) : (d.setTimer n x).clp = d.clp := rfl
@[simp] theorem Dev.setTimer_tap (n : Nat) (x : Tmr) : (d.setTimer n x).tap = d.tap := rfl
@[simp] theorem Dev.setTimer_bus (n : Nat) (x : Tmr) : (d.setTimer n x).bus = d.bus := rfl

@[simp] theorem Dev.setClp_clk (c : Clp) : (d.setClp c).clk = d.clk := rfl
@[simp] theorem Dev.setClp_freeCtr (c : Clp) : (d.setClp c).freeCtr = d.freeCtr := rfl
@[simp] theorem Dev.setClp_regs (c : Clp) : (d.setClp c).regs = d.regs := rfl
@[simp] theorem Dev.setClp_mem (c : Clp) : (d.setClp c).mem = d.mem := rfl
@[simp] theorem Dev.setClp_ecc1 (c : Clp) : (d.setClp c).ecc1 = d.ecc1 := rfl
@[simp] theorem Dev.setClp_ecc2 (c : Clp) : (d.setClp c).ecc2 = d.ecc2 := rfl
@[simp] theorem Dev.setClp_tb (c : Clp) : (d.setClp c).tb = d.tb := rfl
@[simp] theorem Dev.setClp_slots (c : Clp) : (d.setClp c).slots = d.slots := rfl
@[simp] theorem Dev.setClp_ghosts (c : Clp) : (d.setClp c).ghosts = d.ghosts := rfl
@[simp] theorem Dev.setClp_outcomes (c : Clp) : (d.setClp c).outcomes = d.outcomes := rfl
@[simp] theorem Dev.setClp_armSeq (c : Clp) : (d.setClp c).armSeq = d.armSeq := rfl
@[simp] theorem Dev.setClp_cpus (c : Clp) : (d.setClp c).cpus = d.cpus := rfl
@[simp] theorem Dev.setClp_wenA (c : Clp) : (d.setClp c).wenA = d.wenA := rfl
@[simp] theorem Dev.setClp_wenB (c : Clp) : (d.setClp c).wenB = d.wenB := rfl
@[simp] theorem Dev.setClp_radios (c : Clp) : (d.setClp c).radios = d.radios := rfl
@[simp] theorem Dev.setClp_txents (c : Clp) : (d.setClp c).txents = d.txents := rfl
@[simp] theorem Dev.setClp_acrs (c : Clp) : (d.setClp c).acrs = d.acrs := rfl
@[simp] theorem Dev.setClp_acrq (c : Clp) : (d.setClp c).acrq = d.acrq := rfl
@[simp] theorem Dev.setClp_acrDrops (c : Clp) : (d.setClp c).acrDrops = d.acrDrops := rfl
@[simp] theorem Dev.setClp_trunk (c : Clp) : (d.setClp c).trunk = d.trunk := rfl
@[simp] theorem Dev.setClp_asb (c : Clp) : (d.setClp c).asb = d.asb := rfl
@[simp] theorem Dev.setClp_mac (c : Clp) : (d.setClp c).mac = d.mac := rfl
@[simp] theorem Dev.setClp_planq (c : Clp) : (d.setClp c).planq = d.planq := rfl
@[simp] theorem Dev.setClp_sec (c : Clp) : (d.setClp c).sec = d.sec := rfl
@[simp] theorem Dev.setClp_msg (c : Clp) : (d.setClp c).msg = d.msg := rfl
@[simp] theorem Dev.setClp_tok (c : Clp) : (d.setClp c).tok = d.tok := rfl
@[simp] theorem Dev.setClp_host (c : Clp) : (d.setClp c).host = d.host := rfl
@[simp] theorem Dev.setClp_skein (c : Clp) : (d.setClp c).skein = d.skein := rfl
@[simp] theorem Dev.setClp_timers (c : Clp) : (d.setClp c).timers = d.timers := rfl
@[simp] theorem Dev.setClp_rtc (c : Clp) : (d.setClp c).rtc = d.rtc := rfl
@[simp] theorem Dev.setClp_fw (c : Clp) : (d.setClp c).fw = d.fw := rfl
@[simp] theorem Dev.setClp_sup (c : Clp) : (d.setClp c).sup = d.sup := rfl
@[simp] theorem Dev.setClp_power (c : Clp) : (d.setClp c).power = d.power := rfl
@[simp] theorem Dev.setClp_mgn (c : Clp) : (d.setClp c).mgn = d.mgn := rfl
@[simp] theorem Dev.setClp_tap (c : Clp) : (d.setClp c).tap = d.tap := rfl
@[simp] theorem Dev.setClp_bus (c : Clp) : (d.setClp c).bus = d.bus := rfl

@[simp] theorem Dev.setOutcome_clk (id o : Nat) : (d.setOutcome id o).clk = d.clk := rfl
@[simp] theorem Dev.setOutcome_freeCtr (id o : Nat) : (d.setOutcome id o).freeCtr = d.freeCtr := rfl
@[simp] theorem Dev.setOutcome_regs (id o : Nat) : (d.setOutcome id o).regs = d.regs := rfl
@[simp] theorem Dev.setOutcome_mem (id o : Nat) : (d.setOutcome id o).mem = d.mem := rfl
@[simp] theorem Dev.setOutcome_ecc1 (id o : Nat) : (d.setOutcome id o).ecc1 = d.ecc1 := rfl
@[simp] theorem Dev.setOutcome_ecc2 (id o : Nat) : (d.setOutcome id o).ecc2 = d.ecc2 := rfl
@[simp] theorem Dev.setOutcome_tb (id o : Nat) : (d.setOutcome id o).tb = d.tb := rfl
@[simp] theorem Dev.setOutcome_slots (id o : Nat) : (d.setOutcome id o).slots = d.slots := rfl
@[simp] theorem Dev.setOutcome_ghosts (id o : Nat) : (d.setOutcome id o).ghosts = d.ghosts := rfl
@[simp] theorem Dev.setOutcome_armSeq (id o : Nat) : (d.setOutcome id o).armSeq = d.armSeq := rfl
@[simp] theorem Dev.setOutcome_cpus (id o : Nat) : (d.setOutcome id o).cpus = d.cpus := rfl
@[simp] theorem Dev.setOutcome_wenA (id o : Nat) : (d.setOutcome id o).wenA = d.wenA := rfl
@[simp] theorem Dev.setOutcome_wenB (id o : Nat) : (d.setOutcome id o).wenB = d.wenB := rfl
@[simp] theorem Dev.setOutcome_radios (id o : Nat) : (d.setOutcome id o).radios = d.radios := rfl
@[simp] theorem Dev.setOutcome_txents (id o : Nat) : (d.setOutcome id o).txents = d.txents := rfl
@[simp] theorem Dev.setOutcome_acrs (id o : Nat) : (d.setOutcome id o).acrs = d.acrs := rfl
@[simp] theorem Dev.setOutcome_acrq (id o : Nat) : (d.setOutcome id o).acrq = d.acrq := rfl
@[simp] theorem Dev.setOutcome_acrDrops (id o : Nat) : (d.setOutcome id o).acrDrops = d.acrDrops := rfl
@[simp] theorem Dev.setOutcome_trunk (id o : Nat) : (d.setOutcome id o).trunk = d.trunk := rfl
@[simp] theorem Dev.setOutcome_asb (id o : Nat) : (d.setOutcome id o).asb = d.asb := rfl
@[simp] theorem Dev.setOutcome_mac (id o : Nat) : (d.setOutcome id o).mac = d.mac := rfl
@[simp] theorem Dev.setOutcome_planq (id o : Nat) : (d.setOutcome id o).planq = d.planq := rfl
@[simp] theorem Dev.setOutcome_sec (id o : Nat) : (d.setOutcome id o).sec = d.sec := rfl
@[simp] theorem Dev.setOutcome_msg (id o : Nat) : (d.setOutcome id o).msg = d.msg := rfl
@[simp] theorem Dev.setOutcome_tok (id o : Nat) : (d.setOutcome id o).tok = d.tok := rfl
@[simp] theorem Dev.setOutcome_host (id o : Nat) : (d.setOutcome id o).host = d.host := rfl
@[simp] theorem Dev.setOutcome_skein (id o : Nat) : (d.setOutcome id o).skein = d.skein := rfl
@[simp] theorem Dev.setOutcome_timers (id o : Nat) : (d.setOutcome id o).timers = d.timers := rfl
@[simp] theorem Dev.setOutcome_rtc (id o : Nat) : (d.setOutcome id o).rtc = d.rtc := rfl
@[simp] theorem Dev.setOutcome_fw (id o : Nat) : (d.setOutcome id o).fw = d.fw := rfl
@[simp] theorem Dev.setOutcome_sup (id o : Nat) : (d.setOutcome id o).sup = d.sup := rfl
@[simp] theorem Dev.setOutcome_power (id o : Nat) : (d.setOutcome id o).power = d.power := rfl
@[simp] theorem Dev.setOutcome_mgn (id o : Nat) : (d.setOutcome id o).mgn = d.mgn := rfl
@[simp] theorem Dev.setOutcome_clp (id o : Nat) : (d.setOutcome id o).clp = d.clp := rfl
@[simp] theorem Dev.setOutcome_tap (id o : Nat) : (d.setOutcome id o).tap = d.tap := rfl
@[simp] theorem Dev.setOutcome_bus (id o : Nat) : (d.setOutcome id o).bus = d.bus := rfl

@[simp] theorem Dev.setLatch_clk (p ch : Nat) (v : Bool) : (d.setLatch p ch v).clk = d.clk := rfl
@[simp] theorem Dev.setLatch_freeCtr (p ch : Nat) (v : Bool) : (d.setLatch p ch v).freeCtr = d.freeCtr := rfl
@[simp] theorem Dev.setLatch_regs (p ch : Nat) (v : Bool) : (d.setLatch p ch v).regs = d.regs := rfl
@[simp] theorem Dev.setLatch_mem (p ch : Nat) (v : Bool) : (d.setLatch p ch v).mem = d.mem := rfl
@[simp] theorem Dev.setLatch_ecc1 (p ch : Nat) (v : Bool) : (d.setLatch p ch v).ecc1 = d.ecc1 := rfl
@[simp] theorem Dev.setLatch_ecc2 (p ch : Nat) (v : Bool) : (d.setLatch p ch v).ecc2 = d.ecc2 := rfl
@[simp] theorem Dev.setLatch_tb (p ch : Nat) (v : Bool) : (d.setLatch p ch v).tb = d.tb := rfl
@[simp] theorem Dev.setLatch_slots (p ch : Nat) (v : Bool) : (d.setLatch p ch v).slots = d.slots := rfl
@[simp] theorem Dev.setLatch_ghosts (p ch : Nat) (v : Bool) : (d.setLatch p ch v).ghosts = d.ghosts := rfl
@[simp] theorem Dev.setLatch_outcomes (p ch : Nat) (v : Bool) : (d.setLatch p ch v).outcomes = d.outcomes := rfl
@[simp] theorem Dev.setLatch_armSeq (p ch : Nat) (v : Bool) : (d.setLatch p ch v).armSeq = d.armSeq := rfl
@[simp] theorem Dev.setLatch_cpus (p ch : Nat) (v : Bool) : (d.setLatch p ch v).cpus = d.cpus := rfl
@[simp] theorem Dev.setLatch_wenA (p ch : Nat) (v : Bool) : (d.setLatch p ch v).wenA = d.wenA := rfl
@[simp] theorem Dev.setLatch_wenB (p ch : Nat) (v : Bool) : (d.setLatch p ch v).wenB = d.wenB := rfl
@[simp] theorem Dev.setLatch_radios (p ch : Nat) (v : Bool) : (d.setLatch p ch v).radios = d.radios := rfl
@[simp] theorem Dev.setLatch_txents (p ch : Nat) (v : Bool) : (d.setLatch p ch v).txents = d.txents := rfl
@[simp] theorem Dev.setLatch_acrs (p ch : Nat) (v : Bool) : (d.setLatch p ch v).acrs = d.acrs := rfl
@[simp] theorem Dev.setLatch_acrq (p ch : Nat) (v : Bool) : (d.setLatch p ch v).acrq = d.acrq := rfl
@[simp] theorem Dev.setLatch_acrDrops (p ch : Nat) (v : Bool) : (d.setLatch p ch v).acrDrops = d.acrDrops := rfl
@[simp] theorem Dev.setLatch_trunk (p ch : Nat) (v : Bool) : (d.setLatch p ch v).trunk = d.trunk := rfl
@[simp] theorem Dev.setLatch_asb (p ch : Nat) (v : Bool) : (d.setLatch p ch v).asb = d.asb := rfl
@[simp] theorem Dev.setLatch_mac (p ch : Nat) (v : Bool) : (d.setLatch p ch v).mac = d.mac := rfl
@[simp] theorem Dev.setLatch_planq (p ch : Nat) (v : Bool) : (d.setLatch p ch v).planq = d.planq := rfl
@[simp] theorem Dev.setLatch_sec (p ch : Nat) (v : Bool) : (d.setLatch p ch v).sec = d.sec := rfl
@[simp] theorem Dev.setLatch_msg (p ch : Nat) (v : Bool) : (d.setLatch p ch v).msg = d.msg := rfl
@[simp] theorem Dev.setLatch_tok (p ch : Nat) (v : Bool) : (d.setLatch p ch v).tok = d.tok := rfl
@[simp] theorem Dev.setLatch_host (p ch : Nat) (v : Bool) : (d.setLatch p ch v).host = d.host := rfl
@[simp] theorem Dev.setLatch_timers (p ch : Nat) (v : Bool) : (d.setLatch p ch v).timers = d.timers := rfl
@[simp] theorem Dev.setLatch_rtc (p ch : Nat) (v : Bool) : (d.setLatch p ch v).rtc = d.rtc := rfl
@[simp] theorem Dev.setLatch_fw (p ch : Nat) (v : Bool) : (d.setLatch p ch v).fw = d.fw := rfl
@[simp] theorem Dev.setLatch_sup (p ch : Nat) (v : Bool) : (d.setLatch p ch v).sup = d.sup := rfl
@[simp] theorem Dev.setLatch_power (p ch : Nat) (v : Bool) : (d.setLatch p ch v).power = d.power := rfl
@[simp] theorem Dev.setLatch_mgn (p ch : Nat) (v : Bool) : (d.setLatch p ch v).mgn = d.mgn := rfl
@[simp] theorem Dev.setLatch_clp (p ch : Nat) (v : Bool) : (d.setLatch p ch v).clp = d.clp := rfl
@[simp] theorem Dev.setLatch_tap (p ch : Nat) (v : Bool) : (d.setLatch p ch v).tap = d.tap := rfl
@[simp] theorem Dev.setLatch_bus (p ch : Nat) (v : Bool) : (d.setLatch p ch v).bus = d.bus := rfl

@[simp] theorem Dev.wr8_clk (a : Nat) (v : Byte) : (d.wr8 a v).clk = d.clk := rfl
@[simp] theorem Dev.wr8_freeCtr (a : Nat) (v : Byte) : (d.wr8 a v).freeCtr = d.freeCtr := rfl
@[simp] theorem Dev.wr8_regs (a : Nat) (v : Byte) : (d.wr8 a v).regs = d.regs := rfl
@[simp] theorem Dev.wr8_ecc1 (a : Nat) (v : Byte) : (d.wr8 a v).ecc1 = d.ecc1 := rfl
@[simp] theorem Dev.wr8_ecc2 (a : Nat) (v : Byte) : (d.wr8 a v).ecc2 = d.ecc2 := rfl
@[simp] theorem Dev.wr8_tb (a : Nat) (v : Byte) : (d.wr8 a v).tb = d.tb := rfl
@[simp] theorem Dev.wr8_slots (a : Nat) (v : Byte) : (d.wr8 a v).slots = d.slots := rfl
@[simp] theorem Dev.wr8_ghosts (a : Nat) (v : Byte) : (d.wr8 a v).ghosts = d.ghosts := rfl
@[simp] theorem Dev.wr8_outcomes (a : Nat) (v : Byte) : (d.wr8 a v).outcomes = d.outcomes := rfl
@[simp] theorem Dev.wr8_armSeq (a : Nat) (v : Byte) : (d.wr8 a v).armSeq = d.armSeq := rfl
@[simp] theorem Dev.wr8_cpus (a : Nat) (v : Byte) : (d.wr8 a v).cpus = d.cpus := rfl
@[simp] theorem Dev.wr8_wenA (a : Nat) (v : Byte) : (d.wr8 a v).wenA = d.wenA := rfl
@[simp] theorem Dev.wr8_wenB (a : Nat) (v : Byte) : (d.wr8 a v).wenB = d.wenB := rfl
@[simp] theorem Dev.wr8_radios (a : Nat) (v : Byte) : (d.wr8 a v).radios = d.radios := rfl
@[simp] theorem Dev.wr8_txents (a : Nat) (v : Byte) : (d.wr8 a v).txents = d.txents := rfl
@[simp] theorem Dev.wr8_acrs (a : Nat) (v : Byte) : (d.wr8 a v).acrs = d.acrs := rfl
@[simp] theorem Dev.wr8_acrq (a : Nat) (v : Byte) : (d.wr8 a v).acrq = d.acrq := rfl
@[simp] theorem Dev.wr8_acrDrops (a : Nat) (v : Byte) : (d.wr8 a v).acrDrops = d.acrDrops := rfl
@[simp] theorem Dev.wr8_trunk (a : Nat) (v : Byte) : (d.wr8 a v).trunk = d.trunk := rfl
@[simp] theorem Dev.wr8_asb (a : Nat) (v : Byte) : (d.wr8 a v).asb = d.asb := rfl
@[simp] theorem Dev.wr8_mac (a : Nat) (v : Byte) : (d.wr8 a v).mac = d.mac := rfl
@[simp] theorem Dev.wr8_planq (a : Nat) (v : Byte) : (d.wr8 a v).planq = d.planq := rfl
@[simp] theorem Dev.wr8_sec (a : Nat) (v : Byte) : (d.wr8 a v).sec = d.sec := rfl
@[simp] theorem Dev.wr8_msg (a : Nat) (v : Byte) : (d.wr8 a v).msg = d.msg := rfl
@[simp] theorem Dev.wr8_tok (a : Nat) (v : Byte) : (d.wr8 a v).tok = d.tok := rfl
@[simp] theorem Dev.wr8_host (a : Nat) (v : Byte) : (d.wr8 a v).host = d.host := rfl
@[simp] theorem Dev.wr8_skein (a : Nat) (v : Byte) : (d.wr8 a v).skein = d.skein := rfl
@[simp] theorem Dev.wr8_timers (a : Nat) (v : Byte) : (d.wr8 a v).timers = d.timers := rfl
@[simp] theorem Dev.wr8_rtc (a : Nat) (v : Byte) : (d.wr8 a v).rtc = d.rtc := rfl
@[simp] theorem Dev.wr8_fw (a : Nat) (v : Byte) : (d.wr8 a v).fw = d.fw := rfl
@[simp] theorem Dev.wr8_sup (a : Nat) (v : Byte) : (d.wr8 a v).sup = d.sup := rfl
@[simp] theorem Dev.wr8_power (a : Nat) (v : Byte) : (d.wr8 a v).power = d.power := rfl
@[simp] theorem Dev.wr8_mgn (a : Nat) (v : Byte) : (d.wr8 a v).mgn = d.mgn := rfl
@[simp] theorem Dev.wr8_clp (a : Nat) (v : Byte) : (d.wr8 a v).clp = d.clp := rfl
@[simp] theorem Dev.wr8_tap (a : Nat) (v : Byte) : (d.wr8 a v).tap = d.tap := rfl
@[simp] theorem Dev.wr8_bus (a : Nat) (v : Byte) : (d.wr8 a v).bus = d.bus := rfl

end Sys2Proof.Machine
end

