-- ==== Sys2Proof/Laws/State.lean ====
section
/-!
SUPPORT. Small lemmas of State and of the shared wrappers: what a record update leaves, and how a command's effect
becomes its outcome.
-/

namespace Sys2Proof.Machine

@[simp] theorem State.goes_pending (s : State) (d : Dev) : (s.goes d).pending = s.pending := rfl
@[simp] theorem State.goes_dev (s : State) (d : Dev) : (s.goes d).dev = d.after := rfl

theorem acted_live {s : State} (h : s.live) (f : Dev → Dev) : acted s f = .next (s.goes (f s.dev)) := by
  have h' : s.dev.power.inReset = false := h
  simp [acted, Dev.act, h', State.goes]

theorem acted_inReset {s : State} (h : s.dev.power.inReset = true) (f : Dev → Dev) : acted s f = .next s := by
  simp [acted, Dev.act, h]

theorem always_goes (s : State) (f : Dev → Dev) : always s f = .next (s.goes (f s.dev)) := rfl

theorem Dev.byWrite_lets {d : Dev} {r : Req} {off : Nat} (h : d.lets r off) (act : Dev → Dev) :
    d.byWrite r off act = act d := by
  unfold Dev.lets at h
  unfold Dev.byWrite Dev.writeWith
  split <;> simp_all [Gate.isGo, Acc1.dev]

theorem Dev.regWrite_lets {d : Dev} {r : Req} {off : Nat} {row : RegRow} (h : d.gate r.num off true = .go row) (w : Word) :
    (d.regWrite r.num off w).dev d = d.writeEffect r.num off row w := by
  simp [Dev.regWrite, Dev.writeWith, h, Acc1.dev]

theorem Dev.byRead_answers {d : Dev} {r : Req} {off : Nat} {row : RegRow} (h : d.gate r.num off false = .go row) :
    d.byRead r off = { (d.readReg r.num off row).1 with bus := some (r.num, off, some (d.readReg r.num off row).2) } := by
  simp [Dev.byRead, Dev.regRead, h]

theorem Dev.answers_go {d : Dev} {r : Req} {off : Nat} (h : d.answers r off) :
    ∃ row, d.gate r.num off false = .go row := by
  unfold Dev.answers at h
  cases hg : d.gate r.num off false <;> simp_all [Gate.isGo]

theorem Dev.eccCorrect_clean {d : Dev} {a : Nat} (h : d.ecc1.contains (a / 4 * 4) = false) : d.eccCorrect a = d := by
  unfold Dev.eccCorrect; rw [h]; rfl

/-- A processor that is ready carries its instruction out. -/
theorem Dev.issue_ready {d : Dev} {p : Proc} (h : d.ready p) (body : Dev → Ex) : d.issue p body = d.finish p (body d) := by
  obtain ⟨h1, h2, h3, h4, h5⟩ := h
  unfold Dev.issue
  cases hf : fetchWhere p (d.cpu p.num).pc.toNat with
  | none =>
    exfalso
    simp only [Dev.fetchFault, hf] at h4
    split at h4 <;> cases h4
  | some a =>
    rw [hf] at h5
    have h6 : d.ecc1.contains (a / 4 * 4) = false := by simpa using h5
    simp [h1, h2, h3, h4, Dev.eccCorrect_clean h6]

/-- A call Rim serves is journalled where it changes durable state, does what its function says, and is answered. -/
theorem Dev.serve_journalled {d : Dev} {k fn : Nat} {args : List Nat} (h : d.calls k fn args)
    (hf : rimFns.contains fn = true) (body : Dev → Dev × List Word) :
    d.serve k fn args body = (body (d.journal k fn)).1.replies k (body (d.journal k fn)).2 := by
  obtain ⟨h1, h2, h3, h4, h5⟩ := h
  have ha : answerUnknownN 16 d = d := by simp only [answerUnknownN, h3, h4, hf, if_true]
  have hn : ([1, 2, 3, 4, 5, 6].any fun i => !args.contains i && d.callArg k i != 0#32) = false := by
    rw [List.any_eq_false]
    intro i hi
    rcases h5 i hi with h | h <;> simp [h]
  simp only [Dev.serve, h1, h2, ha, h3, h4, hn, Dev.replies]
  simp

/-- A call that changes nothing durable leaves no record. -/
theorem Dev.journal_passing {d : Dev} {k fn : Nat} (h : durableCalls.contains fn = false) : d.journal k fn = d := by
  unfold Dev.journal; rw [h]; rfl

theorem Dev.serve_calls {d : Dev} {k fn : Nat} {args : List Nat} (h : d.calls k fn args) (hf : rimFns.contains fn = true)
    (hd : durableCalls.contains fn = false) (body : Dev → Dev × List Word) :
    d.serve k fn args body = (body d).1.replies k (body d).2 := by
  rw [Dev.serve_journalled h hf, Dev.journal_passing hd]

end Sys2Proof.Machine
end

