-- ==== Sys2Proof/Laws/Gates.lean ====
section
/-!
SUPPORT. What the Gate Unit operations answer (R41, R44, R49).
-/

namespace Sys2Proof.Machine

theorem Dev.settle_quiet {d : Dev} {u : Nat} (h : d.unsettled u = false) : d.settle u = d := by simp [Dev.settle, h]

/-- The request passes the first row of R41. -/
def Dev.armOpen (d : Dev) (p : Proc) (u cls : Nat) : Prop :=
  d.tbState ≠ 0 ∧ u < 18 ∧ d.unitOpen p u = true ∧ d.classOpen u cls = true ∧ d.pdRun (guPd u) = true

theorem Dev.armOpen_guard {d : Dev} {p : Proc} {u cls : Nat} (h : d.armOpen p u cls) :
    (d.tbState = 0 || !decide (u < 18) || !d.unitOpen p u || !d.classOpen u cls || !d.pdRun (guPd u)) = false := by
  obtain ⟨h1, h2, h3, h4, h5⟩ := h
  simp [h1, h2, h3, h4, h5]

/-- The note of a judged request changes nothing that a request is judged by. -/
theorem Dev.judge_arms (d : Dev) (p : Proc) (u c v : Nat) : (d.judge p u c).armed v = d.armed v := rfl
theorem Dev.judge_open (d : Dev) (p q : Proc) (u v c e : Nat) : (d.judge p u c).armOpen q v e ↔ d.armOpen q v e := Iff.rfl
theorem Dev.noteJudged_open (d : Dev) (p q : Proc) (u v : Nat) : (d.noteJudged p u).unitOpen q v = d.unitOpen q v := rfl

/-- An arm request without a predecessor that no check turns away takes the lowest free slot. -/
theorem Dev.arm_ok {d : Dev} {p : Proc} {u cls fire param k : Nat} (hq : d.unsettled u = false)
    (ho : d.armOpen p u cls)
    (hc : (d.armed u).any (fun ka => ka.2.cls == cls && ka.2.fire == fire) = false)
    (hl : d.count + d.leadOf cls ≤ fire) (hf : d.count < fire)
    (hk : (List.range 16).find? (fun k => (d.armOf u k).isNone) = some k) :
    d.arm p u cls fire param none =
      (({ d.judge p u cls with armSeq := d.armSeq + 1 }.setSlot u k { d.slot u k with
        arm := some { id := d.armSeq, cls := cls, fire := fire, param := param } }).setB (R.GU_ARMED u) k true, k, 0) := by
  have hc' : ((d.judge p u cls).armed u).any (fun ka => ka.2.cls == cls && ka.2.fire == fire) = false := hc
  have hk' : (List.range 16).find? (fun k => ((d.judge p u cls).armOf u k).isNone) = some k := hk
  have e : (decide (fire < (d.judge p u cls).count + (d.judge p u cls).leadOf cls) ||
      decide (fire ≤ (d.judge p u cls).count)) = false := by
    change (decide (fire < d.count + d.leadOf cls) || decide (fire ≤ d.count)) = false
    simp; omega
  unfold Dev.arm
  simp only [Dev.settle_quiet hq, Dev.armOpen_guard ((d.judge_open p p u u cls cls).2 ho), hc', e, hk']
  rfl

/-- The same request with a lead shorter than its class needs is LATE. -/
theorem Dev.arm_late {d : Dev} {p : Proc} {u cls fire param : Nat} (hq : d.unsettled u = false)
    (ho : d.armOpen p u cls)
    (hc : (d.armed u).any (fun ka => ka.2.cls == cls && ka.2.fire == fire) = false)
    (hl : fire < d.count + d.leadOf cls) :
    d.arm p u cls fire param none =
      ((d.judge p u cls).lateRecord
        { kind := 0, unit := u, slot := 0, cls := cls, fire := fire, acc := d.count % 2 ^ 32 }, 0, 1) := by
  have hc' : ((d.judge p u cls).armed u).any (fun ka => ka.2.cls == cls && ka.2.fire == fire) = false := hc
  have e : (decide (fire < (d.judge p u cls).count + (d.judge p u cls).leadOf cls) ||
      decide (fire ≤ (d.judge p u cls).count)) = true := by
    change (decide (fire < d.count + d.leadOf cls) || decide (fire ≤ d.count)) = true
    simp; omega
  unfold Dev.arm
  simp only [Dev.settle_quiet hq, Dev.armOpen_guard ((d.judge_open p p u u cls cls).2 ho), hc', e]
  rfl

/-- Where the first row of R41 fails, the request is NOT_PERMITTED. -/
theorem Dev.arm_notPermitted {d : Dev} {p : Proc} {u cls fire param : Nat} {pred : Option Nat}
    (hq : d.unsettled u = false) (ho : ¬ d.armOpen p u cls) :
    d.arm p u cls fire param pred = (d.judge p u cls, 0, 3) := by
  have e : ((d.judge p u cls).tbState = 0 || !decide (u < 18) || !(d.judge p u cls).unitOpen p u ||
      !(d.judge p u cls).classOpen u cls || !(d.judge p u cls).pdRun (guPd u)) = true := by
    refine Decidable.byContradiction fun hne => ho ((d.judge_open p p u u cls cls).1 ?_)
    simp at hne
    exact ⟨hne.1.1.1.1, hne.1.1.1.2, hne.1.1.2, hne.1.2, hne.2⟩
  unfold Dev.arm
  simp only [Dev.settle_quiet hq, e]
  rfl

/-- A disarm request of an open unit at least 320 ticks before the firing count succeeds, and ends the hold of a gate
whose frame has been checked; a later one does not succeed. -/
theorem Dev.disarm_armed {d : Dev} {p : Proc} {u k : Nat} {a : Arming} (hq : d.unsettled u = false) (hu : u < 18)
    (ho : d.unitOpen p u = true) (hp : d.pdRun (guPd u) = true) (ha : d.armOf u k = some a) :
    d.disarm p u k = if d.count + 320 ≤ a.fire then
      ((if a.checked then (d.noteJudged p u).endHold u (handleEntry a.param) else d.noteJudged p u).endArming u k a 3, 0)
      else (d.noteJudged p u, 1) := by
  have ha' : (d.noteJudged p u).armOf u k = some a := ha
  unfold Dev.disarm Dev.disarmSlot
  simp only [Dev.settle_quiet hq, hu, (d.noteJudged_open p p u u).trans ho, ha']
  rw [show (d.noteJudged p u).pdRun (guPd u) = true from hp]
  rfl

/-- A gate that is due and that the radio's state does not refuse has its class's effect. -/
theorem Dev.fireGate_ok {d d0 : Dev} {n k cls : Nat} {a : Arming} {act : Dev → Arming → Dev}
    (hq : d.unsettled n = false) (hd : d.due n k cls = some a)
    (h0 : d0 = ((d.beforeGate n).fired n k a).noteFired n a)
    (hr : gateRefusal cls (d0.radio n).st (!a.param.testBit 0) = none) :
    d.fireGate n k cls act = (act d0 a).mayShut n := by
  subst h0
  unfold Dev.fireGate
  simp only [Dev.settle_quiet hq, hd, hr]

/-- A gate that is due and that the radio's state refuses is refused with the reason of R143. -/
theorem Dev.fireGate_refused {d d0 : Dev} {n k cls why : Nat} {a : Arming} {act : Dev → Arming → Dev}
    (hq : d.unsettled n = false) (hd : d.due n k cls = some a)
    (h0 : d0 = ((d.beforeGate n).fired n k a).noteFired n a)
    (hr : gateRefusal cls (d0.radio n).st (!a.param.testBit 0) = some why) :
    d.fireGate n k cls act = (d0.refuse n k cls why).mayShut n := by
  subst h0
  unfold Dev.fireGate
  simp only [Dev.settle_quiet hq, hd, hr]

end Sys2Proof.Machine
end

