-- ==== Sys2Proof/Laws/Isa.lean ====
section
/-!
SUPPORT. Processors: registers read after a write, and what a ready processor's instruction comes to.
-/

namespace Sys2Proof.Machine

/-! ## Registers -/

@[simp] theorem Dev.cpu_setCpu_same (d : Dev) (p : Nat) (c : Cpu) : (d.setCpu p c).cpu p = c := by
  simp [Dev.cpu, Dev.setCpu]

theorem Dev.cpu_setCpu_ne (d : Dev) {p q : Nat} (c : Cpu) (h : q ≠ p) : (d.setCpu p c).cpu q = d.cpu q := by
  simp [Dev.cpu, Dev.setCpu, tget_tput_ne _ _ _ h]

theorem Dev.setCpu_setCpu_clk (d : Dev) (p : Nat) (c : Cpu) : (d.setCpu p c).clk = d.clk := rfl

@[simp] theorem Cpu.put_pc (c : Cpu) (r : Nat) (w : Word) : (c.put r w).pc = c.pc := by unfold Cpu.put; split <;> rfl
@[simp] theorem Cpu.put_ctl (c : Cpu) (r : Nat) (w : Word) : (c.put r w).ctl = c.ctl := by unfold Cpu.put; split <;> rfl
@[simp] theorem Cpu.setCreg_pc (c : Cpu) (k : Nat) (w : Word) : (c.setCreg k w).pc = c.pc := rfl
@[simp] theorem Cpu.setCreg_g (c : Cpu) (k : Nat) (w : Word) : (c.setCreg k w).g = c.g := rfl
@[simp] theorem Cpu.setFlags_pc (c : Cpu) (f : Nzcv) : (c.setFlags f).pc = c.pc := rfl
@[simp] theorem Cpu.get_zero (c : Cpu) : c.get 0 = 0#32 := rfl
@[simp] theorem Cpu.put_zero (c : Cpu) (w : Word) : c.put 0 w = c := rfl

@[simp] theorem Cpu.creg_setCreg_same (c : Cpu) (k : Nat) (w : Word) : (c.setCreg k w).creg k = w := by
  simp [Cpu.creg, Cpu.setCreg]

theorem Cpu.creg_setCreg_ne (c : Cpu) {k j : Nat} (w : Word) (h : j ≠ k) : (c.setCreg k w).creg j = c.creg j := by
  simp [Cpu.creg, Cpu.setCreg, tget_tput_ne _ _ _ h]

/-- A general register reads as last written; g0 reads 0 whatever is written (R54). -/
theorem Cpu.get_put (c : Cpu) (r q : Nat) (w : Word) (hr : r < 32) :
    (c.put r w).get q = if q = 0 then 0#32 else if q = r then w else c.get q := by
  unfold Cpu.get Cpu.put
  by_cases hq : q = 0
  · simp [hq]
  · simp only [hq, if_false]
    by_cases h0 : r = 0
    · subst h0; simp [hq]
    · simp only [h0, if_false]
      by_cases h : q = r
      · subst h; simp [Vector.getD, hr]
      · simp only [h, if_false]
        simp [Vector.getD, Array.getD_eq_getD_getElem?, Ne.symm h]

/-! ## Memory accesses leave the processors alone -/

theorem Dev.forEach_cpu {α : Type} {g : Dev → α → Dev} {n : Nat} (h : ∀ d x, (g d x).cpu n = d.cpu n) (l : List α) :
    ∀ d : Dev, (d.forEach l g).cpu n = d.cpu n := by
  induction l with
  | nil => intro d; rfl
  | cons x r ih => intro d; exact (ih (g d x)).trans (h d x)

@[simp] theorem Dev.wrBytes_cpu (l : List Byte) (n : Nat) : ∀ (d : Dev) (a : Nat), (d.wrBytes a l).cpu n = d.cpu n := by
  induction l with
  | nil => intro d a; rfl
  | cons x r ih => intro d a; exact ih _ _

@[simp] theorem Dev.msTraffic_cpu (d : Dev) (a k dir n : Nat) : (d.msTraffic a k dir).cpu n = d.cpu n := by
  unfold Dev.msTraffic
  split
  · rfl
  · refine Dev.forEach_cpu (fun d b => ?_) _ d
    dsimp only
    split <;> rfl

@[simp] theorem Dev.msWrite_cpu (d : Dev) (a : Nat) (l : List Byte) (n : Nat) : (d.msWrite a l).cpu n = d.cpu n := by
  simp [Dev.msWrite]

@[simp] theorem Dev.stored_cpu (d : Dev) (f : Nat) (l : List Byte) (n : Nat) : (d.stored f l).cpu n = d.cpu n := by
  unfold Dev.stored Dev.noteUnfenced
  split <;> simp <;> rfl

/-! ## Instructions -/

/-- The instruction retires with the registers its body wrote. -/
theorem Dev.finish_ok (d e : Dev) (p : Proc) (c : Cpu) (cost : Nat) :
    d.finish p (.ok (e.setCpu p.num c) cost) = e.completes p c cost (c.pc + 4#32) := by
  simp [Dev.finish, Dev.completes]

theorem Dev.finish_jump (d e : Dev) (p : Proc) (c : Cpu) (t : Word) (cost : Nat) :
    d.finish p (.jump (e.setCpu p.num c) t cost) = e.completes p c cost t := rfl

/-- The ALU group, where no fault of R69 or R93 applies. -/
theorem exec_alu {s : State} {p : Proc} (fn : Nat) {rd ra rb : Reg} {sf : Bool} {r : Word} (hl : s.live)
    (hr : s.dev.ready p)
    (h1 : aluResult fn ((s.dev.cpu p.num).get ra) ((s.dev.cpu p.num).get rb) (s.dev.cpu p.num).flags = some r)
    (h2 : aluUnary fn = true → rb = 0) (h3 : aluDivides fn = true → (s.dev.cpu p.num).get rb ≠ 0#32)
    (h4 : sf = true → (aluFlags fn ((s.dev.cpu p.num).get ra) ((s.dev.cpu p.num).get rb) r
      (s.dev.cpu p.num).flags).isSome = true) :
    acted s (fun d => d.issue p (aluBody p fn rd ra rb sf)) = .next (s.goes (s.dev.completes p
      ((match sf, aluFlags fn ((s.dev.cpu p.num).get ra) ((s.dev.cpu p.num).get rb) r (s.dev.cpu p.num).flags with
        | true, some x => (s.dev.cpu p.num).setFlags x
        | _, _ => s.dev.cpu p.num).put rd r) (aluCost fn) ((s.dev.cpu p.num).pc + 4#32))) := by
  have e1 : (aluUnary fn && rb.val != 0) = false := by
    cases h : aluUnary fn
    · rfl
    · rw [h2 h]; rfl
  have e2 : (aluDivides fn && (s.dev.cpu p.num).get rb == 0#32) = false := by
    cases h : aluDivides fn <;> simp; exact h3 h
  have e3 : (sf && (aluFlags fn ((s.dev.cpu p.num).get ra) ((s.dev.cpu p.num).get rb) r
      (s.dev.cpu p.num).flags).isNone) = false := by
    cases h : sf <;> simp; simpa using h4 h
  rw [acted_live hl, Dev.issue_ready hr]
  simp only [aluBody, h1, e1, e2, e3, Bool.or_self, Bool.false_eq_true, if_false]
  rw [Dev.finish_ok]
  congr 4
  · rw [Cpu.put_pc]; split <;> rfl

end Sys2Proof.Machine
end

