-- ==== Sys2Proof/Tests/Slice0.lean ====
section
/-!
SUPPORT. Tests: ill-formed commands refused, values worked in the manual, and for every statement with hypotheses a
concrete state and operands that meet them.
-/

-- One theorem at a time: elaborated together they take a thread each, past the memory a check may use.
set_option Elab.async false

namespace Sys2Proof.Tests

open Sys2Proof Sys2Proof.Machine

/-! ## Small states -/

/-- The device after reset. -/
abbrev d0 : Dev := {}

/-- With an arming of class `cls` and parameter `param` in slot 0 of Gate Unit `u`, due at count 0. -/
def armed0 (d : Dev) (u cls param : Nat) : Dev :=
  d.setSlot u 0 { d.slot u 0 with arm := some { id := 1, cls := cls, fire := 0, param := param, checked := true } }

/-- With radio `n` in state `st`. -/
def inState (d : Dev) (n st : Nat) : Dev := d.setSt n st

/-- The Timebase in state 1. -/
def tb1 : Dev := d0.setTb 1

/-- With processor `p` running. -/
def up (d : Dev) (p : Proc) : Dev :=
  match p with
  | .eng n => (d.setCpu n { d.cpu n with run := .running }).setEngState n 3
  | _ => d.setCpu p.num { d.cpu p.num with run := .running }

/-- With a word in a general register of processor `p`. -/
def withReg (d : Dev) (p : Proc) (r : Nat) (w : Word) : Dev := d.setCpu p.num ((d.cpu p.num).put r w)

/-! ## Witnesses -/

theorem witness_TimebaseEvents :
    (d0.pdRun 2 = true ∧ (d0.setB R.TBG_STATUS TBG_REF true).tbState ≠ 3) ∧
    (let d := ({ d0 with tb := { d0.tb with holdFrom := 2 } }.setTb 3).setB R.TBG_STATUS TBG_REF true;
      d.tbState = 3 ∧ d.tb.holdFrom = 2 ∧ d.srcXo = false) ∧
    (let d := d0.setB R.TBG_STATUS TBG_REF true;
      d.b R.TBG_STATUS TBG_REF = true ∧ d.srcXo = false ∧ d.tb.locked = false) ∧
    ((d0.setTb 2).setB R.TBG_STATUS TBG_REF false).tbState = 2 ∧
    ((d0.setB R.TBG_STATUS TBG_XO true).tbState = 0 ∧ d0.tb.everLocked = false) ∧
    (tb1.setB R.TBG_STATUS TBG_XO false).tbState = 1 ∧
    (let d := { (tb1.setB R.TBG_CTRL 5 true) with tb := { d0.tb with count := 160000000 } };
      d.b R.TBG_CTRL 5 = true ∧ d.tbState ≠ 0 ∧ d.tb.ppsDone < d.boundaries d.count) ∧
    (let d := { d0 with tb := { d0.tb with ppsOut := true } };
      d.tb.ppsOut = true ∧ d.tb.ppsFall ≤ d.clk) := by decide +kernel

theorem witness_PpsEdges :
    (let e := wrapSec (d0.count + sfld (d0.reg R.TBG_PPSIN_DLY) 0 16);
      let d := ((d0.setB R.TBG_STATUS 7 true).setPair R.TBG_PPSCAP_LO R.TBG_PPSCAP_HI 0).setReg R.TBG_PPSERR (wd (patt 32 e));
      d.b R.TBG_STATUS 7 = true ∧ e.natAbs ≤ d.f R.TBG_PPSWIN 0 24) ∧
    (let d1 := { d0.setB R.TBG_STATUS 7 true with tb := { d0.tb with count := 80000000 } };
      let e := wrapSec (d1.count + sfld (d1.reg R.TBG_PPSIN_DLY) 0 16);
      d1.b R.TBG_STATUS 7 = true ∧ d1.f R.TBG_PPSWIN 0 24 < e.natAbs) ∧
    (let d := { d0.setB R.TBG_STATUS 7 true with tb := { d0.tb with count := 400000000, ppsK := 1 } };
      d.b R.TBG_STATUS 7 = true ∧ d.tb.ppsAnchor + d.tb.ppsK * 160000000 + d.f R.TBG_PPSWIN 0 24 ≤ d.count) ∧
    (let d := { tb1 with tb := { tb1.tb with err := 1 } };
      d.pdRun 2 = true ∧ d.tbState ≠ 0 ∧ d.tb.slewAt ≤ d.clk ∧ d.tb.err = 1) := by decide +kernel

theorem witness_GateRequests :
    (d0.gate 64 R.TBG_COUNT_LO false).isGo = true ∧
    (let w : Word := 0x00060005#32;
      let d := tb1.setReg (bankKey 64 (R.GU_FIRE_LO 0)) 100000#32;
      (d.gate 64 (R.GU_ARMCMD 0) true).isGo = true ∧ d.unsettled 0 = false ∧ d.tbState ≠ 0 ∧
        d.unitOpen (.mp .a) 0 = true ∧ d.classOpen 0 (fld w 16 3) = true ∧ d.pdRun (guPd 0) = true ∧ bitOf w 27 = false ∧
        (d.armed 0).any (fun ka => ka.2.cls == fld w 16 3 && ka.2.fire == 100000) = false ∧
        d.pair (bankKey 64 (R.GU_FIRE_LO 0)) (bankKey 64 (R.GU_FIRE_HI 0)) = 100000 ∧
        d.count + d.leadOf (fld w 16 3) ≤ 100000 ∧ d.count < 100000 ∧
        (List.range 16).find? (fun k => (d.armOf 0 k).isNone) = some 0) ∧
    0 < tb1.count + tb1.leadOf 6 ∧
    (let d := armed0 tb1 0 6 0;
      (d.gate 64 (R.GU_DISARM 0) true).isGo = true ∧ d.unsettled 0 = false ∧ (d.armOf 0 0).isSome = true) ∧
    (let r : LateRec := { kind := 0, unit := 0, slot := 0, cls := 0, fire := 0, acc := 0 };
      let d := { tb1 with tb := { tb1.tb with late := [r, r] } };
      (d.gate 64 R.TBG_LATE_POP true).isGo = true ∧ d.tb.late = r :: r :: []) := by decide +kernel

/-- What the gate in slot 0 of lane 0 leaves at its firing. -/
def fired0 (d : Dev) (a : Arming) : Dev := ((d.beforeGate 0).fired 0 0 a).noteFired 0 a

theorem witness_LaneGates :
    (let d := armed0 (inState tb1 0 sRX) 0 0 0;
      d.unsettled 0 = false ∧ (d.due 0 0 0).any (fun a => ((fired0 d a).radio 0).st == sRX &&
        ((fired0 d a).radio 0).rx == none) = true) ∧
    (∀ x ∈ [(1, 1), (2, 5), (3, 2), (4, 7)],
      let d := (armed0 (inState tb1 0 sIDLER) 0 x.1 x.2).setReg (R.LAN_CHW 0 5) 0x80000000#32;
      d.unsettled 0 = false ∧ (d.due 0 0 x.1).any (fun a => ((fired0 d a).radio 0).st == sIDLER) = true) ∧
    (let d := armed0 (inState tb1 0 sRX) 0 2 0;
      (d.due 0 0 2).any (fun a => ((fired0 d a).radio 0).st == sRX) = true) := by decide +kernel

theorem witness_GateEnds :
    (let d := armed0 tb1 17 6 3;
      d.unsettled 17 = false ∧ (d.due 17 0 6).isSome = true) ∧
    ((inState d0 0 sTURN).radio 0).st = sTURN ∧ ((inState d0 0 sTURN).radio 0).until_ ≤ d0.clk ∧
    ((inState d0 0 sRETUNE).radio 0).st = sRETUNE := by decide +kernel

/-- Serves TimebaseEvents and GateRequests: an edge of PPS_IN in and against the direction PPSIN_POL selects; a disarm in time, of a
frame checked and not checked, beside the late one. -/
theorem witness_Edges :
    d0.b R.TBG_CTRL 4 = false ∧ (d0.setB R.TBG_CTRL 4 true).b R.TBG_CTRL 4 = true ∧
    (∀ c ∈ [true, false], let d := armed0 (tb1.setF R.RIMX_TOKEN 0 2 0) 17 6 3;
      let d := d.setSlot 17 0 { d.slot 17 0 with arm := some { id := 1, cls := 6, fire := 320, param := 3, checked := c } };
      (d.gate 64 (R.GU_DISARM 17) true).isGo = true ∧ d.unsettled 17 = false ∧ d.unitOpen (.mp .a) 17 = true ∧
        d.pdRun (guPd 17) = true ∧ (d.armOf 17 (fld 0x00000000#32 0 4)).any (fun a => d.count + 320 == a.fire) = true) ∧
    (let d := armed0 (tb1.setF R.RIMX_TOKEN 0 2 0) 17 6 3; d.unitOpen (.mp .a) 17 = true ∧ d.pdRun (guPd 17) = true ∧
      (d.armOf 17 0).any (fun a => decide (a.fire < d.count + 320)) = true) ∧
    (let w : Word := 0x00060005#32; let d := tb1.setReg (bankKey 64 (R.GU_FIRE_LO 0)) 159#32;
      d.armed 0 = [] ∧ d.pair (bankKey 64 (R.GU_FIRE_LO 0)) (bankKey 64 (R.GU_FIRE_HI 0)) = 159 ∧
      159 < d.count + d.leadOf (fld w 16 3)) := by decide +kernel

/-- Serves LaneGates: RTN of lane 0 to a usable word (63), to one not marked usable, and with PARAM 64; of the trunk transceiver; every
class on GU16. -/
theorem witness_Retunes :
    (∀ x ∈ [(63, true), (62, false), (64, false)],
      let d := (armed0 (inState tb1 0 sIDLER) 0 2 x.1).setReg (R.LAN_CHW 0 63) 0x826E8F00#32;
      d.unsettled 0 = false ∧ (d.due 0 0 2).any (fun a => a.param == x.1 && ((fired0 d a).radio 0).st == sIDLER &&
        (decide (a.param < 64) && chUsable 0 ((fired0 d a).reg (R.LAN_CHW 0 a.param))) == x.2) = true) ∧
    (∀ x ∈ [(0, sRX), (1, sIDLER), (2, sIDLER), (2, sRX), (3, sIDLER), (4, sIDLER)],
      let d := armed0 (inState tb1 16 x.2) 16 x.1 0;
      d.unsettled 16 = false ∧ (d.due 16 0 x.1).any (fun a =>
        ((((d.beforeGate 16).fired 16 0 a).noteFired 16 a).radio 16).st == x.2 && (((d.beforeGate 16).fired 16 0 a).radio 16).rx == none) =
        true) := by decide +kernel

/-- Lane 0 in IDLE_T with a frame of transaction 9, its TXS due at count `320`, checked or not; half A leads. -/
def txs0 (c : Bool) : Dev :=
  let d := (inState tb1 0 sIDLET).setF R.RIMX_TOKEN 0 2 0
  let d := { d with txents := tput txDflt d.txents 0 { fill := 2, phy := 0x40000000#32, lsn := 9 } }
  d.setSlot 0 0 { d.slot 0 0 with arm := some { id := 1, cls := 5, fire := 320, param := 0, checked := c } }

/-- With that transaction in state `st`, and at count 320. -/
def sending (d : Dev) (st : Nat) : Dev :=
  { d with tb := { d.tb with count := 320 }, msg := { d.msg with tcbs := [
      { lsn := 9, linkq := 0, tag := 7#32, opc := 1, cls := 0, flow := 0, group := false, target := 1, len := 1, state := st
        fetched := true }] } }

/-- With a Seal that permits every frequency. -/
def sealed (d : Dev) : Dev := { d with fw := { d.fw with sealed := some ⟨1, 1, List.replicate 16 { ranges := [(0, 10 ^ 9)] }⟩ } }

/-- Serves GateEnds: the check of a frame that is ready and may start, and of one that is not; a checked TXS that radiates, one of a
transaction that may not start, and one of a half that does not lead. -/
theorem witness_Sends :
    (let d := sending (txs0 false) 1;
      (d.armOf 0 0).any (fun a => a.cls == 5 && !a.checked && decide (a.fire ≤ d.count + 320) && d.mayStart a
        (d.txent 0 (handleEntry a.param)).lsn) = true ∧ d.unsettled 0 = false ∧ d.entryReady 0 0 = true ∧
      ({ d with txents := [] } : Dev).entryReady 0 0 = false) ∧
    (∀ st ∈ [1, 0], let s := sealed (sending (txs0 true) st); let d := s.beforeGate 0; let e := d.txent 0 0;
      s.unsettled 0 = false ∧ (s.due 0 0 5).any (fun a => d.armOf 0 0 == some a && a.checked && a.param == 0 &&
        d.mayStart a e.lsn == (st == 1)) = true ∧ (d.radio 0).st = sIDLET ∧ d.pinControl = false ∧
      d.leadsFrame (laneHalf 0) e = true ∧ ((s.setF R.RIMX_TOKEN 0 2 1).beforeGate 0).leadsFrame (laneHalf 0) e = false) ∧
    (let d := (sealed (sending (txs0 true) 1)).beforeGate 0; let e := d.txent 0 0;
      d.sealCheck 0 (chFreq (d.radio 0).chw - chHalf (d.radio 0).chw) (chFreq (d.radio 0).chw + chHalf (d.radio 0).chw) e.level
        e.airtime = none) := by decide +kernel

/-- Serves AddSub, LogicAndShifts, ComparesAndDivides, Immediates and GeneralRegisters: an engine, a Main Processor and Custody issue. -/
theorem witness_ready : (up d0 (.eng 0)).ready (.eng 0) ∧ (up d0 (.eng 63)).ready (.eng 63) ∧ (up d0 (.mp .a)).ready (.mp .a) ∧
    (up d0 (.mp .b)).ready (.mp .b) ∧ (up d0 .custody).ready .custody ∧ ((up d0 .custody).cpu 66).sup = true := by
  unfold Dev.ready; decide +kernel

theorem witness_Divides : (withReg (up d0 (.eng 0)) (.eng 0) 2 7#32).ready (.eng 0) ∧
    ((withReg (up d0 (.eng 0)) (.eng 0) 2 7#32).cpu 0).get 2 ≠ 0#32 ∧ ((up d0 (.eng 0)).cpu 0).get 2 = 0#32 := by
  unfold Dev.ready; decide +kernel

theorem witness_BitCounts :
    (let a : Word := 0x00000001#32; a.getLsbD (31 - 31) = true ∧ ∀ i, i < 31 → a.getLsbD (31 - i) = false) ∧
    (let a : Word := 0x80000000#32; a.getLsbD 31 = true ∧ ∀ i, i < 31 → a.getLsbD i = false) ∧
    -- R95: the selectors 0x0001_0203 reverse the octets
    (let a : Word := 0x11223384#32; let b : Word := 0x00010203#32; let r : Word := 0x84332211#32;
      ∀ i, i < 4 → byteOf r i = if b.getLsbD (8 * i + 2) then 0x00#8
        else if b.getLsbD (8 * i + 3) then (if (byteOf a (fld b (8 * i) 2)).msb then 0xFF#8 else 0x00#8)
        else byteOf a (fld b (8 * i) 2)) := by decide +kernel

theorem witness_BitFields : (0 + 31 ≤ 31 ∧ 31 + 0 ≤ 31) ∧ 31 < 31 + 1 := by decide

/-- A device whose Engine 0 runs with the start of its data memory in g1 and a frame pointer in g30, g31 inside its stack. -/
def eng0 : Dev :=
  (withReg (withReg (withReg (up d0 (.eng 0)) (.eng 0) 1 0x10000#32) (.eng 0) 31 0x13000#32) (.eng 0) 30 0x12000#32).setReg
    (R.WEN_STKHI 0) 0x13FFC#32

/-- Serves Loads, Stores, StoreFrame and PairsAndCas, at the first and the last place of an engine's data memory. -/
theorem witness_Memory : eng0.ready (.eng 0) ∧
    (∀ n ∈ [1, 2, 4], ∀ k ∈ [kLoad, kStore],
      (eng0.place (.eng 0) false 0x10000#32 n k).toOption = some (.mem (engBase 0 + 0x4000)) ∧
      (eng0.place (.eng 0) false (0x14000#32 - wd n) n k).toOption = some (.mem (engBase 0 + 0x8000 - n))) ∧
    (eng0.place (.eng 0) false 0x10004#32 4 kCas).toOption = some (.mem (engBase 0 + 0x4004)) ∧
    (eng0.cpu 0).get 1 + (0#16).signExtend 32 = 0x10000#32 ∧ eng0.eccBad (engBase 0 + 0x4000) 4 = false ∧ eng0.ecc1 = [] ∧
    ((eng0.cpu 0).get 1 + (1#16).signExtend 32).toNat % 2 ≠ 0 ∧
    eng0.rd32 (engBase 0 + 0x4000) = (eng0.cpu 0).get 0 ∧ eng0.rd32 (engBase 0 + 0x4000) ≠ (eng0.cpu 0).get 1 := by
  unfold Dev.ready; decide +kernel

theorem witness_Calls : ((eng0.cpu 0).get 31).toNat % 4 = 0 ∧
    eng0.stackLow (.eng 0) + (12 + 4 * (maskRegs 0xFFFF#16).length) ≤ ((eng0.cpu 0).get 31).toNat ∧
    ((eng0.cpu 0).get 0).toNat % 4 = 0 ∧
    (withReg (eng0.setReg (R.WEN_STKLO 0) 0x12FFC#32) (.eng 0) 31 0x13000#32).stackLow (.eng 0) + 0 <
      ((eng0.cpu 0).get 31).toNat ∧
    ((eng0.cpu 0).get 31).toNat <
      (eng0.setReg (R.WEN_STKLO 0) 0x12FFC#32).stackLow (.eng 0) + (12 + 4 * (maskRegs 0#16).length) ∧
    ((eng0.cpu 0).get 30).toNat % 4 = 0 ∧ ((eng0.cpu 0).get 30).toNat + 12 ≤ eng0.stackHigh (.eng 0) ∧
    (match eng0.storeWords (.eng 0) (callFrame (eng0.cpu 0) 0#32 0x13000#32 0#16) with | .ok _ _ => true | _ => false) = true ∧
    (match eng0.loadWords (.eng 0) [0x12004#32] with | .ok _ [x] => fld x 16 16 != 0xA500 | _ => false) = true ∧
    (match (eng0.wr32 (engBase 0 + 0x6004) 0xA5000000#32).loadWords (.eng 0) [0x12004#32] with
      | .ok _ [x] => x == 0xA5000000#32 | _ => false) = true := by decide +kernel

/-- Serves Calls too. -/
theorem witness_Frames_of_calls :
    -- every word of a frame of sixteen registers lies in memory the view permits; so do those of the frame RETM takes down
    ((callFrame (eng0.cpu 0) 0#32 0x13000#32 0xFFFF#16).all fun x => match eng0.place (.eng 0) false x.1 4 kStore with
      | .ok (.mem _) => true | _ => false) = true ∧
    (let d := eng0.wr32 (engBase 0 + 0x6004) 0xA5008001#32; let g : Word := 0x12000#32;
      d.ecc1 = [] ∧ d.ecc2 = [] ∧ (d.place (.eng 0) false (g + 4#32) 4 kLoad).toOption = some (.mem (engBase 0 + 0x6004)) ∧
      d.rd32 (engBase 0 + 0x6004) = 0xA500#16 ++ 0x8001#16 ∧
      ((maskRegs 0x8001#16).mapIdx fun i _ => g - 4#32 - wd (4 * i)) ++ [g + 8#32, g] =
        [0x11FFC#32, 0x11FF8#32, 0x12008#32, 0x12000#32]) ∧
    (∀ x ∈ [(0x11FFC#32, 0x5FFC), (0x11FF8#32, 0x5FF8), (0x12008#32, 0x6008), (0x12000#32, 0x6000)],
      ((eng0.wr32 (engBase 0 + 0x6004) 0xA5008001#32).place (.eng 0) false x.1 4 kLoad).toOption =
        some (.mem (engBase 0 + x.2))) ∧
    (let d := eng0.wr32 (engBase 0 + 0x6004) 0xA5000000#32;
      (match d.loadWords (.eng 0) [0x12008#32, 0x12000#32] with | .ok _ [_, _] => true | _ => false) = true) := by
  decide +kernel

theorem witness_Branches : ([false, true, false, true, false, true, false, true, false, true, true, false, true, false,
      true])[(14 : Fin 16).val]? = some true ∧
    ((eng0.cpu 0).get 1).toNat % 4 = 0 ∧ ((withReg eng0 (.eng 0) 2 2#32).cpu 0).get 2 = 2#32 := by decide +kernel

/-- Engine 0 runs lane 0's role and half A leads. -/
def seqA : Dev := up ((tb1.setReg (R.WEN_ROLE 0) 0x100#32).setF R.RIMX_TOKEN 0 2 0) (.eng 0)

theorem witness_GateInstructions :
    -- ARMG and DISG before the unit takes them, by a later request or its domain's Prepare; and taken, at the last unit too
    (let d := (up seqA (.mp .a)); d.overtaken (.eng 0) 0 = false ∧ d.pdPrep (guPd 0) = false ∧ d.overtaken (.eng 0) 31 = false ∧
      (d.noteJudged (.eng 1) 0).overtaken (.eng 0) 0 = true ∧
      (d.setB (R.PWR_PD_STAT (guPd 0)) 30 true).pdPrep (guPd 0) = true ∧
      d.executing 0 = true ∧ d.executing 64 = true ∧ (1 : Reg).val % 2 = 1 ∧ isEng (.mp .a) = false ∧
      (∀ n ∈ [0, 64], (d.cpu n).wait = .none)) ∧
    -- WAITG: a unit beyond GU17, one not open, one whose domain is in Stop, one that prepares, a free slot, an armed slot
    (∀ imm ∈ [18, 31, 32], 18 ≤ imm) ∧ (seqA.settle 4).unitOpen (.eng 0) 4 = false ∧
    ((seqA.setB (R.PWR_PD_STAT (guPd 0)) 31 false).settle 0).pdRun (guPd 0) = false ∧
    ((seqA.setB (R.PWR_PD_STAT (guPd 0)) 30 true).settle 0).pdPrep (guPd 0) = true ∧
    (∀ u ∈ [0, 17], (seqA.settle u).unitOpen (.eng 0) u = true ∧ (seqA.settle u).pdRun (guPd u) = true ∧
      (seqA.settle u).pdPrep (guPd u) = false ∧ (seqA.settle u).armOf u 15 = none) ∧
    ((armed0 seqA 17 6 0).settle 17).armOf 17 0 ≠ none := by decide +kernel

theorem witness_GateWaits :
    -- the outcome of arming 1 is known, or not
    (∀ x ∈ [(seqA.setOutcome 1 3, some 3), (seqA, none)],
      let e := x.1.setCpu 0 { x.1.cpu 0 with wait := .gate 5 1 };
      (e.cpu 0).wait = .gate 5 1 ∧ (e.forEach (List.range 18) (fun d u => d.settle u)).outcome 1 = x.2) ∧
    (seqA.cpu 0).wait = .none ∧
    -- SWP: no handover pending, one pending, with its resume address inside and outside instruction memory
    seqA.hoPending 0 = none ∧ (seqA.setWen 0 { seqA.wen 0 with ho := some ⟨0, 1, false, 0⟩ }).hoPending 0 = some ⟨0, 1, false, 0⟩ ∧
    (0x3FF8#32 + (1#16).signExtend 32 * 4#32 : Word).toNat < 0x4000 ∧
    0x4000 ≤ (0x3FFC#32 + (1#16).signExtend 32 * 4#32 : Word).toNat := by decide +kernel

/-- Engine 0 runs as lane 0's sequencer. -/
def seq0 : Dev := up (d0.setReg (R.WEN_ROLE 0) 0x100#32) (.eng 0)

theorem witness_PortsAndEvents :
    -- EVPOST of a channel granted and not; EVWAIT of one it does not consume, not latched, latched, and latched again
    (let d := up d0 (.eng 0); let e := d.setReg (R.EVR_CH_CONS 3 0) 0xFFFF0000#32;
      d.b (R.EVR_CH_CFG 3) (19 + engHalf 0) = false ∧ (d.setReg (R.EVR_CH_CFG 3) 0x80080000#32).b (R.EVR_CH_CFG 3) 19 = true ∧
      (∀ j < 8, d.consumer 3 j ≠ 0) ∧ e.consumer 3 0 = 0 ∧ e.latched 0 3 = false ∧ (e.setLatch 0 3 true).latched 0 3 = true ∧
      (e.setLatch 0 3 true).furtherEvent 0 3 = false ∧
      (let f := e.setLatch 0 3 true; ({ f with skein := { f.skein with more := f.skein.latch } } : Dev).furtherEvent 0 3 = true)) ∧
    (256 ≤ (256#16).toNat ∧ (255#16).toNat < 256) ∧
    -- LIN and LOUT of lane 0's sequencer: a descriptor waits, or none; of an engine without a role; a Main Processor
    (let d := seq0.onRadio 0 fun r => { r with rxq := [7#32], filled := [8#32], capq := [[9#32]] };
      d.roleKind 0 = 1 ∧ d.roleRes 0 = 0 ∧ d.pdPrep 16 = false ∧ (d.radio 0).rxq = 7#32 :: [] ∧ (d.radio 0).filled = 8#32 :: [] ∧
      (d.radio 0).capq = (9#32 :: []) :: [] ∧ (seq0.radio 0).rxq = [] ∧ (seq0.radio 0).filled = [] ∧ (seq0.radio 0).capq = []) ∧
    ((withReg seq0 (.eng 0) 4 0x1000#32).cpu 0).get 4 + (0#16).signExtend 32 = 0x1000#32 ∧
    ((withReg seq0 (.eng 0) 4 0x0FFF#32).cpu 0).get 4 + (1#16).signExtend 32 = 0x1000#32 ∧
    (up d0 (.eng 0)).roleKind 0 = 0 ∧ isEng (.mp .a) = false ∧
    -- what the port functions answer: a word, a wait, none
    (match (seq0.onRadio 0 fun r => { r with rxq := [7#32] }).portIn 0 0x1000 with | .ok _ v => v == 7#32 | _ => false) = true ∧
    (match seq0.portIn 0 0x1000 with | .wait => true | _ => false) = true ∧
    (match seq0.portOut 0 0x4001 9#32 with | .ok _ _ => true | _ => false) = true ∧
    (match seq0.portIn 0 0x5000 with | .ioport => true | _ => false) = true := by decide +kernel

/-- Engine 0 of half A runs role `kind` for resource 0, and half A leads. -/
def roleA (kind : Nat) : Dev := up ((d0.setReg (R.WEN_ROLE 0) (pack [(8, kind)])).setF R.RIMX_TOKEN 0 2 0) (.eng 0)

/-- Serves PortsAndEvents: the ports of the ACR post-processing, MAC timing and trunk roles. -/
theorem witness_RolePorts :
    (let d := { roleA 2 with acrq := tput nilDflt [] 0 [7#32] }; d.roleKind 0 = 2 ∧ d.roleRes 0 = 0 ∧ engHalf 0 = 0 ∧
      d.pdPrep (portPd 2 0) = false ∧ d.acrQueue 0 0 = 7#32 :: [] ∧ (roleA 2).acrQueue 0 0 = []) ∧
    (let d := roleA 3; let b := roleBank 0 0; d.roleKind 0 = 3 ∧ d.roleRes 0 = 0 ∧ d.pdPrep 4 = false ∧ d.evq 0 = [] ∧
      (d.setEvq 0 [[1#32, 2#32]]).evq 0 = (1#32 :: [2#32]) :: [] ∧ tget nilDflt d.mac.ntrq (b - 70) = [] ∧
      tget nilDflt (tput nilDflt d.mac.ntrq (b - 70) [5#32]) (b - 70) = 5#32 :: [] ∧ d.planRoom 0 0 = true ∧
      (d.setWen 0 { d.wen 0 with markers := [(3, 0, 0)], hold := List.replicate 64 ⟨3, 0, 0, .plan []⟩ }).planRoom 0 0 = false) ∧
    (∀ lead ∈ [0, 1], let d := (roleA 4).setF R.RIMX_TOKEN 0 2 lead; d.roleKind 0 = 4 ∧ d.pdPrep 12 = false ∧
      decide (d.leader = engHalf 0) = (lead == 0) ∧ d.trunk.txc = [] ∧ d.trunk.rxr = [] ∧ d.trunk.txd.length < 32 ∧
      d.trunk.rxb.length < 32 ∧ d.partWords 8 = [] ∧ d.partWords 9 = [] ∧
      ((d.setPart 8 [1#32, 2#32, 3#32]).partWords 8 ++ [4#32]).length = 4 ∧ (d.setPart 9 [1#32]).partWords 9 = 1#32 :: []) ∧
    -- a wait that ends, and one that does not
    (let d := (roleA 4).setCpu 0 { (roleA 4).cpu 0 with wait := .portOut 0xA002 9#32 };
      (d.cpu 0).wait = .portOut 0xA002 9#32 ∧ (match d.portOut 0 0xA002 9#32 with | .ok _ _ => true | _ => false) = true ∧
      (let e := { d with trunk := { d.trunk with rxb := List.replicate 32 (0#32, 64#32) } };
        (match e.portOut 0 0xA002 9#32 with | .wait => true | _ => false) = true)) ∧
    (let d := seq0.setCpu 0 { seq0.cpu 0 with wait := .portIn 3 0x1000 }; (d.cpu 0).wait = .portIn 3 0x1000 ∧
      (match d.portIn 0 0x1000 with | .wait => true | _ => false) = true ∧
      (match (d.onRadio 0 fun r => { r with rxq := [7#32] }).portIn 0 0x1000 with | .ok _ _ => true | _ => false) = true) ∧
    (seq0.cpu 0).wait = .none := by decide +kernel

theorem witness_SystemGroup : ((up d0 (.mp .a)).cpu 64).sup = true ∧ (up d0 (.mp .a)).anyEnabled 64 = false ∧
    (((up d0 (.mp .a)).cpu 64).setCreg 0 0#32).sup = false ∧ bitOf (((up d0 (.mp .a)).cpu 64).creg 1) 4 = false ∧
    bitOf ((((up d0 (.mp .a)).cpu 64).setCreg 1 0x10#32).creg 1) 4 = true ∧ (0#32 : Word).extractLsb' 26 6 = 0#6 := by
  decide +kernel

theorem witness_RimCallInstructions :
    (let d := up d0 (.mp .a); (d.cpu 64).sup = true ∧
      (d.setReg R.RIMX_MBPEND 0x1#32).freeTags 0 = [1, 2, 3, 4, 5, 6, 7] ∧
      (d.setReg R.RIMX_MBPEND 0x7F#32).freeTags 0 = [7] ∧ (d.setReg R.RIMX_MBPEND 0xFF#32).freeTags 0 = [] ∧
      (d.setReg R.RIMX_MBPEND 0x10000#32).b R.RIMX_MBPEND (16 + (8 * 0 + 0)) = true ∧
      (d.setReg R.RIMX_MBPEND 0x1#32).b R.RIMX_MBPEND (8 * 0 + 0) = true) ∧
    (let d := (up d0 (.mp .a)).setCpu 64 ((((d0.cpu 64).setCreg 0 0x430#32).setCreg 12 0xFFFFFFFF#32).setCreg 16 0xFFFFFFFF#32);
      let e := (up (d.setReg R.MGN_NOTICE 1#32) (.mp .a)); e.executing 64 = true ∧ e.eligible 64 = some 55) := by decide +kernel

/-- Engine 0 in state `st`. -/
def engIn (d : Dev) (st : Nat) : Dev := d.setEngState 0 st

theorem witness_EngineCommands :
    (d0.gate 64 (R.WEN_CMD 0) true).isGo = true ∧ d0.engState 0 = 0 ∧
    (let d := ((d0.setReg (R.WEN_LOADSRC 0) 0x41400000#32).setReg (R.WEN_LOADDST 0) 0#32).setReg (R.WEN_LOADLEN 0) 0x4000#32;
      (d.reg (R.WEN_LOADSRC 0)).toNat % 4 = 0 ∧ 0x41000000 ≤ (d.reg (R.WEN_LOADSRC 0)).toNat ∧
      (d.reg (R.WEN_LOADSRC 0)).toNat ≤ 0x41FFFFFF ∧ d.f (R.WEN_LOADLEN 0) 0 15 = 16384 ∧
      fld (d.reg (R.WEN_LOADDST 0)) 0 14 + d.f (R.WEN_LOADLEN 0) 0 15 ≤ 16384) ∧
    (let d := ((engIn d0 2).setReg (R.WEN_ROLE 0) 0x100#32).setReg (R.WEN_BUDGET 0) 0x0001FFFF#32;
      d.engState 0 = 2 ∧ (d.reg (R.WEN_ENTRY 0)).toNat < 0x4000 ∧ (d.reg (R.WEN_SP 0)).toNat ≤ (d.reg (R.WEN_STKHI 0)).toNat ∧
      roleFits 0 (d.roleKind 0) (d.roleRes 0) = true ∧ d.roleTaken 0 = false ∧ d.engAvail 0 = true) ∧
    (∀ st ∈ [3, 4, 5, 6], (engIn d0 st).engState 0 = st) ∧
    (let d := d0.setWen 0 { d0.wen 0 with loads := [(0, 0x41400000, 0#32, 4)] };
      (engIn d 1).engState 0 = 1 ∧ (d.wen 0).loads.find? (fun x => x.1 == 0) = some (0, 0x41400000, 0#32, 4) ∧
      d.loadBad 0 0x1400000 4 = false ∧ (winPlace 0 0x1400000).isSome = true ∧
      (loadOctets 0 4 0x1400000 d).2.length = 4) := by decide +kernel

theorem witness_Handovers :
    (let d := ((engIn d0 3).setEngState 1 2).setReg (R.WEN_ROLE 0) 0x100#32;
      let e := d.setReg (R.WEN_ROLE 1) 0x100#32;
      (e.gate 64 (R.WENH_HOCMD 0) true).isGo = true ∧ (e.wen 0).ho = none ∧ engHalf 0 = 0 ∧ engHalf 1 = 0 ∧
      roleFits 1 (e.roleKind 0) (e.roleRes 0) = true ∧ e.engState 1 = 2 ∧ e.roleKind 1 = e.roleKind 0 ∧
      e.roleRes 1 = e.roleRes 0 ∧ e.memPart (engBase 0) 0x4000 = e.memPart (engBase 1) 0x4000 ∧ e.engState 0 = 3 ∧
      (engIn e 5).engState 0 = 5) ∧
    (let d := { d0.setWen 0 { d0.wen 0 with ho := some ⟨0, 1, false, 0⟩, markers := [(1, 0, 0), (1, 0, 1)] } with
        tb := { d0.tb with count := 1 } };
      (d.wen 0).ho = some ⟨0, 1, false, 0⟩ ∧ 0 < d.count ∧ (d.wen 0).markers = (1, 0, 0) :: (1, 0, 1) :: []) ∧
    (let d := (up d0 (.eng 0)).setReg (R.WEN_WDOG 0) 0x00010001#32;
      let e := { d.setCpu 0 { d.cpu 0 with units := 1025, wait := .wfi } with clk := 160001 };
      e.executing 0 = true ∧ e.f (R.WEN_WDOG 0) 0 16 * 1024 < (e.cpu 0).units ∧ (e.cpu 0).wait ≠ .none ∧
      (e.cpu 0).waitAt + e.f (R.WEN_WDOG 0) 16 16 * 160000 < e.clk) := by decide +kernel

/-- Serves EngineCommands and Handovers: a LOAD at its limits; a third engine that runs the role, or none does; a drain marker with
another of its role to pass and as the last, after a handover of the role. -/
theorem witness_Markers :
    (let d := (((engIn d0 3).setEngState 2 3).setReg (R.WEN_ROLE 0) 0x100#32).setReg (R.WEN_ROLE 2) 0x100#32;
      d.roleRuns 0 1 = true ∧ (d.setEngState 2 0).roleRuns 0 1 = false ∧ (d.gate 64 (R.WENH_HOCMD 0) true).isGo = true ∧
      (d.wen 0).ho = none) ∧
    (let x : Held := { kind := 1, res := 0, gen := 0, what := .plan [] };
      let d := d0.setWen 0 { d0.wen 0 with markers := [(1, 0, 0), (1, 0, 1)], hold := [x, { x with gen := 1 }] };
      (d.wen 0).markers = (1, 0, 0) :: [(1, 0, 1)] ∧
      (let e := d.setWen 0 { d.wen 0 with markers := [(1, 0, 1)] }; (e.wen 0).oldest 1 0 = some 1 ∧
        e.trailTakes 0 [{ x with gen := 1 }] = true) ∧
      (let e := d.setWen 0 { d.wen 0 with markers := [] }; (e.wen 0).oldest 1 0 = none ∧ e.trailTakes 0 [x] = true)) ∧
    (let d := (d0.setReg (R.WENH_HOSTAT 0) 0x80000100#32).setWen 0 { d0.wen 0 with markers := [(1, 0, 0)], ended := (1, 0, 0) };
      (d.wen 0).markers = [(1, 0, 0)] ∧ (d.wen 0).ended = (1, 0, 0) ∧ (d0.wen 0).ended ≠ (1, 0, 0) ∧
      (let e := (d.setWen 0 { d.wen 0 with markers := [] }).showHoldcnt 0; e.b (R.WENH_HOSTAT 0) 31 = true ∧
        e.f (R.WENH_HOSTAT 0) 24 3 = 0 ∧ (e.wen 0).ended = (1, 0, 0))) := by decide +kernel

theorem witness_LaneStates :
    (d0.gate 64 (R.LAN_CMD 0) true).isGo = true ∧ (d0.gate 65 (R.LAN_CMD 15) true).isGo = true ∧
    (d0.radio 0).st = sOFF ∧ d0.tbState = 0 ∧ tb1.tbState ≠ 0 ∧ tb1.pdRun (50 + laneQuad 0) = true ∧ d0.fw.recov ≠ 1 ∧
    ({ d0 with fw := { d0.fw with recov := 1 } } : Dev).fw.recov = 1 ∧
    ((inState d0 0 sIDLER).radio 0).st ≠ sOFF ∧ sWARM < ((inState d0 0 sIDLER).radio 0).st ∧
    ((inState d0 0 sWARM).radio 0).st = sWARM ∧ ((inState d0 0 sWARM).radio 0).calPend = 0 ∧
    (let d := (inState d0 0 sIDLER).setPend 0 15;
      ((d.beforeGate 0).radio 0).st = sIDLER ∧ ((d.beforeGate 0).radio 0).calPend ≠ 0 ∧
      ((d.beforeGate 0).radio 0).draining = false ∧ (d.beforeGate 0).armed 0 = []) ∧
    (let d := (inState d0 0 sCAL); (d.radio 0).st = sCAL ∧ (d.radio 0).until_ ≤ d.clk ∧ (d.radio 0).calRun ≠ 15) ∧
    ((d0.onRadio 0 fun r => { r with offAt := some 0 }).radio 0).offAt = some 0 ∧
    (let d := (inState d0 0 sTX).onRadio 0 fun r => { r with tx := some 3 };
      (d.radio 0).st = sTX ∧ (d.radio 0).until_ ≤ d.clk ∧ (d.radio 0).tx = some 3) := by decide +kernel

/-- Serves LaneStates: DISABLE of a lane not OFF; armed slots beside a pending calibration; OFF with a frame still offered, and of
the trunk transceiver. -/
theorem witness_LaneEnds :
    (d0.gate 64 (R.LAN_CMD 0) true).isGo = true ∧ ((inState d0 0 sRX).radio 0).st ≠ sOFF ∧
    ((inState d0 0 sWARM).radio 0).until_ ≤ d0.clk ∧ ((inState d0 0 sWARM).radio 0).draining = false ∧
    (let d := (armed0 ((inState d0 0 sIDLER).setPend 0 1) 0 6 3).beforeGate 0; (d.radio 0).st = sIDLER ∧
      (d.radio 0).calPend ≠ 0 ∧ (∀ ka ∈ d.armed 0, ka.2.cls = 6)) ∧
    (let d := (inState d0 0 sIDLER).setPend 0 1;
      let d := (d.setSlot 0 0 { d.slot 0 0 with arm := some { id := 1, cls := 5, fire := calTicks 1 + 3200, param := 0 } }).beforeGate 0;
      ∀ ka ∈ d.armed 0, d.count + calTicks (d.radio 0).calPend + 3200 ≤ ka.2.fire) ∧
    (∀ n ∈ [0, 16], let d := d0.onRadio n fun r => { r with offAt := some 0, offers := [] };
      (d.radio n).offAt = some 0 ∧ (d.radio n).offers = []) ∧
    (let d := (inState d0 0 sOFF).onRadio 0 fun r => { r with offers := [⟨0, 9, 0#32, 0#32⟩] }; (d.radio 0).st = sOFF ∧
      (d.radio 0).offers ≠ []) := by decide +kernel

/-- Lane 0 in RX under PHY entry `phy`, its window open since clock period 0. -/
def rx (d : Dev) (phy : Word) : Dev :=
  (inState d 0 sRX).onRadio 0 fun r => { r with win := some (0, 0), searchPhy := phy }

/-- Measures of no sample. -/
def m0 : Measures := { window := [], signal := 0, error := 0, devs := [], clipped := false }

/-- A frame on lane 0 under 2-FSK of 50 kbit/s, its SFD found or not. -/
def sfd0 (b : Bool) : RxFrame := { phy := 0x40000000#32, sfd := b }

theorem witness_Reception :
    (let d := rx tb1 0x40000000#32; d.searching (.lane 0) = true ∧ bitOf (d.laneProfile 0) 31 = false ∧
      d.pathThr (.lane 0) = 96) ∧
    (∀ b ∈ [true, false], let d := (rx tb1 0#32).setPathRx (.lane 0) (some (sfd0 b));
      d.pathRx (.lane 0) = some (sfd0 b) ∧ (sfd0 b).sfd = b ∧ 95 < d.pathThr (.lane 0) ∧ (d.radio 0).rx = some (sfd0 b) ∧
      (d.radio 0).closeAfter = false) ∧
    -- R191: the uncoded SFD with one bit wrong matches, with two it does not
    sfdMatch (sfd0 false).phy (.fsk (sfdWord 0x40000000#32 false ^^^ 1#16)) = some false ∧
    sfdMatch (sfd0 false).phy (.fsk (sfdWord 0x40000000#32 false ^^^ 3#16)) = none ∧
    -- a frame of one octet ends, its 2-octet FCS (PHR [12] = 1) good or not
    (∀ l ∈ [withFcs 0x40000000#32 [7#8], [7#8, 0#8, 0#8]],
      let e : RxEnd := { phr := 0x1003#16, phrOk := true, onAir := l, m := m0, chain := [] };
      e.abandons (sfd0 true).phy = false ∧ e.fcsGood (sfd0 true).phy = (l.drop 1 != [0#8, 0#8])) ∧
    -- diversity: before the dwell's end and at it, searching and with a detection on the first aerial
    (let d := ((rx tb1 0x40000000#32).setReg (R.LAN_WPROF 0 0) 0x80000000#32);
      (d.radio 0).divEnded = false ∧ bitOf (d.laneProfile 0) 31 = true ∧ d.clk < (d.radio 0).dwellAt + d.dwellTicks 0 ∧
      (let e := { d with clk := (d.radio 0).dwellAt + d.dwellTicks 0 }; (e.radio 0).dwellAt + e.dwellTicks 0 ≤ e.clk ∧
        (e.radio 0).rx = none) ∧
      (let e := (d.setPathRx (.lane 0) (some (sfd0 false))).onRadio 0 fun r => { r with divAer := some 7 };
        (e.radio 0).rx = some (sfd0 false) ∧ (sfd0 false).sel = false ∧ (e.radio 0).divAer = some 7)) ∧
    -- lane timer 0 at its compare value, and at the value replaced in this tick; lane timer 1 at its
    (let d := { (inState tb1 0 sRX).onRadio 0 fun r => { r with ltctl := 3, lt0 := 1#32, lt1 := 1#32 } with clk := 1 };
      (d.radio 0).st ≠ sOFF ∧ (d.radio 0).ltctl.testBit 0 = true ∧ (d.radio 0).ltctl.testBit 1 = true ∧
      d.laneTimer 0 = (if (d.radio 0).lt0At = d.clk then (d.radio 0).lt0Old else (d.radio 0).lt0).toNat ∧
      d.laneTimer 0 = (if (d.radio 0).lt1At = d.clk then (d.radio 0).lt1Old else (d.radio 0).lt1).toNat ∧
      (let e := d.onRadio 0 fun r => { r with lt0 := 9#32, lt0At := 1, lt0Old := 1#32 };
        e.laneTimer 0 = (if (e.radio 0).lt0At = e.clk then (e.radio 0).lt0Old else (e.radio 0).lt0).toNat)) := by
  decide +kernel

/-- ACR-S in state `st`. -/
def acrIn (d : Dev) (st : Nat) : Dev := d.setAcrState 0 st

/-- ACR-S with a receiver record of its own. -/
def acrWith (d : Dev) (f : AcrRx → AcrRx) : Dev := d.setAcr 0 (f (d.acr 0))

theorem witness_AcrStates :
    (d0.gate 64 (R.ACR_CMD 0) true).isGo = true ∧ (d0.gate 65 (R.ACR_CMD 1) true).isGo = true ∧
    d0.acrState 0 = 0 ∧ d0.f (R.ACR_CFG 0) 0 2 = 0 ∧ d0.f (R.ACR_CFG 0) 6 2 ≠ 0 ∧
    (d0.setF (R.ACR_CFG 0) 0 2 1).f (R.ACR_CFG 0) 0 2 = 1 ∧ (d0.setF (R.ACR_CFG 0) 6 2 0).f (R.ACR_CFG 0) 6 2 = 0 ∧
    (∀ st ∈ [1, 2, 3, 4], (acrIn d0 st).acrState 0 = st) ∧ (acrIn tb1 1).acrStartCheck 0 = none ∧
    (((acrIn d0 3).acrAbandonAll 0).acr 0).fades = [] ∧
    (let d := acrWith d0 fun x => { x with busy := true }; (d.acr 0).busy = true ∧ (d.acr 0).until_ ≤ d.clk) ∧
    (∀ fail ∈ [0, 7], let s := acrWith (acrIn d0 2) fun x => { x with back := 1 };
      let d := (s.setF (R.ACR_CALSTAT 0) 29 3 fail).forEach [0, 1] (fun d p => d.setAcrDig 0 p { d.acrDig 0 p with
        dc := if fail.testBit 2 then (d.acrDig 0 p).dc else (d.acrDig 0 p).newDc
        image := if fail.testBit 1 then (d.acrDig 0 p).image else (d.acrDig 0 p).newImage });
      let e := if fail.testBit 0 then d else d.setReg (R.ACR_SKEW 0) (wd (patt 16 5));
      s.acrState 0 = 2 ∧ (s.acr 0).until_ ≤ s.clk ∧ ((((e.setAcr 0 { e.acr 0 with calTemp := e.acrTemp 0 + 1000 }).setB
        (R.ACR_STATUS 0) 26 false).acrDone 0).acr 0).back = 1) ∧
    (d0.gate 64 (R.ACR_CENTRE 0) true).isGo = true ∧ windowOk (d0.acrFront 0) 0 = false ∧
    windowOk (d0.acrFront 0) 36000 = true ∧ (d0.setReg (R.ACR_CENTRE 0) 36000#32).acrState 0 < 3 ∧
    ((acrIn d0 4).acr 0).until_ ≤ d0.clk := by decide +kernel

theorem witness_AcrChannels :
    (d0.gate 64 (R.ACRK_CFG 0 0) true).isGo = true ∧ (d0.gate 65 (R.ACRK_CFG 0 127) true).isGo = true ∧
    (let v : Word := 0x80000000#32; bitOf v 31 = true ∧ d0.b (R.ACRK_CFG 0 0) 31 = false ∧
      acrFits 0 0 (d0.acrFront 0) v = true ∧ acrFits 0 0 (d0.acrFront 0) 0xB0000000#32 = false ∧
      ((d0.setF (R.ACR_ALLOW 0) 0 8 128).acrEnabled 0).length + 1 ≤ (d0.setF (R.ACR_ALLOW 0) 0 8 128).acrLimit 0 ∧
      (d0.acrPath 0 0 0).rx = none) ∧
    (d0.gate 64 (R.ACRK_FIRCMD 0 0) true).isGo = true ∧ d0.fading 0 0 = false ∧
    (d0.setB (R.ACRK_STATUS 0 0) 29 true).fading 0 0 = true ∧ d0.acrFull 0 = false ∧
    (d0.setF (R.ACR_CFG 0) 0 2 2).acrFull 0 = true ∧ d0.b (R.ACRK_FIRPEND 0 0) 15 = false ∧
    firTaps (d0.reg (R.ACRK_FIRPEND 0 0)) ≤ 64 ∧ 3 ≤ (acrIn d0 3).acrState 0 ∧
    (d0.gate 64 (R.ACRK_PDLY 0 0) true).isGo = true ∧
    (let d := (acrIn d0 3).setReg (R.ACRK_CFG 0 0) 0x80000000#32; (d.acrPath 0 0 0).settled = false ∧
      d.b (R.ACRK_CFG 0 0) 31 = true ∧ d.acrHasPath 0 0 0 = true ∧ (d.acrPath 0 0 0).ovl = false ∧
      (d.acrPath 0 0 0).e + frontSpan (d.acrFront 0) + (d.acrH 0 0 - 1) * d.acrTs 0 0 ≤ ({ d with clk := 10 ^ 6 } : Dev).clk) ∧
    (let d := (acrIn d0 3).setB (R.ACR_AGC 0 0) 31 true; d.b (R.ACR_AGC 0 0) 31 = true ∧ (d.acrDig 0 0).ordered = none ∧
      ((d.setAcrDig 0 0 { d.acrDig 0 0 with ordered := some 0 }).acrDig 0 0).ordered = some 0 ∧ d.acrFrozen 0 = false) ∧
    (let d := { (acrIn d0 3).setF (R.ACR_AGC 0 0) 24 3 7 with clk := 10 ^ 9 }; d.b (R.ACR_AGC 0 0) 31 = false ∧
      0 < d.attn 0 0 ∧ (d.acrDig 0 0).lastStrong + d.upHold 0 0 ≤ d.clk ∧ (d.acr 0).paths = []) := by decide +kernel

/-- Serves AcrStates and AcrChannels: a START before the Timebase runs, a centre written in RUN and in RETUNE; a width refused with
FIT, an enable that fits (the last channel of ACR-W); SWAP with a cross-fade of 0 and of 255 samples; samples in range and over it;
an ordered step that is due in RUN, in MANUAL and while a freezing lane transmits. -/
theorem witness_AcrMore :
    (acrIn d0 1).tbState = 0 ∧ (d0.gate 64 (R.ACR_CENTRE 0) true).isGo = true ∧
    (∀ st ∈ [3, 4], 3 ≤ ((acrIn d0 st).setReg (R.ACR_CENTRE 0) (36000#32 &&& 0xFFFF#32)).acrState 0) ∧
    (let d := d0.setReg (R.ACRK_CFG 0 0) 0x30000000#32; let w : Word := 0xB0000000#32; let v := w &&& 0xF7FFFFFF#32;
      (d.gate 64 (R.ACRK_CFG 0 0) true).isGo = true ∧ bitOf v 31 = true ∧ d.b (R.ACRK_CFG 0 0) 31 = false ∧
      acrFits 0 0 (d.acrFront 0) v = false ∧ fld (d.reg (R.ACRK_CFG 0 0)) 16 14 = fld (setBit v 31 false) 16 14 ∧
      bitOf (setBit v 31 false) 31 = false ∧ bitOf (setBit v 31 false) 30 = false) ∧
    (let d := d0.setF (R.ACR_ALLOW 1) 0 8 16; let v : Word := 0x80000000#32 &&& 0xC000FFFF#32;
      (d.gate 64 (R.ACRK_CFG 1 15) true).isGo = true ∧ bitOf v 31 = true ∧ d.b (R.ACRK_CFG 1 15) 31 = false ∧
      acrFits 1 15 (d.acrFront 1) v = true ∧ (d.acrEnabled 1).length + 1 ≤ d.acrLimit 1 ∧ (d.acrPath 1 15 0).rx = none ∧
      (d.acrPath 1 15 1).rx = none) ∧
    (let d := acrIn d0 3; (d.gate 64 (R.ACRK_FIRCMD 0 127) true).isGo = true ∧ d.fading 0 127 = false ∧ d.acrFull 0 = false ∧
      firTaps (d.reg (R.ACRK_FIRPEND 0 127)) ≤ 64 ∧ 3 ≤ (d.setF (R.ACRK_STATUS 0 127) 23 3 0).acrState 0 ∧
      (let e := d.setB (R.ACRK_STATUS 0 127) 29 true; e.fading 0 127 = true ∧
        (tget pairDflt (e.acr 0).fades 127).1 ≤ e.clk)) ∧
    (let d := d0.setReg (R.ACRK_PDLY 0 0) 0x00FF0001#32; (d.gate 64 (R.ACRK_PDLY 0 0) true).isGo = true ∧
      ((fld (d.reg (R.ACRK_PDLY 0 0)) 0 8 : Int) - fld 0x00FE0002#32 0 8).natAbs ≤ 1 ∧
      ((fld (d.reg (R.ACRK_PDLY 0 0)) 16 8 : Int) - fld 0x00FE0002#32 16 8).natAbs ≤ 1) ∧
    ((acrIn d0 3).setReg (R.ACRK_CFG 0 0) 0x80000000#32).acrRuns 0 0 = true ∧
    (∀ a ∈ [0, 1], clampCode a ⟨2047, -2047⟩ = ⟨2047, -2047⟩ ∧ clampCode a ⟨-8192, 0⟩ ≠ ⟨-8192, 0⟩) ∧
    (let d := (acrIn d0 3).setAcrDig 0 1 { d0.acrDig 0 1 with ordered := some 0 };
      (d.acrDig 0 1).ordered = some 0 ∧ 0 ≤ d.clk ∧
      (let e := d.setAcrDig 0 1 { d.acrDig 0 1 with ordered := none }; e.acrFrozen 0 = false ∧ e.b (R.ACR_AGC 0 1) 31 = false ∧
        e.acrState 0 = 3) ∧
      (let e := (d.setB (R.ACR_AGC 0 1) 31 true).setAcrDig 0 1 { d.acrDig 0 1 with ordered := none };
        e.b (R.ACR_AGC 0 1) 31 = true)) ∧
    (let d := (acrIn d0 3).setF (R.ACR_AGC 0 0) 24 3 7; (((d.setF (R.ACR_AGC 0 0) 24 3 6).setAcrDig 0 0 { d.acrDig 0 0 with
      lastStrong := d.clk }).acr 0).paths = []) ∧
    (let d := (((acrIn d0 3).setB (R.ACR_AGC 0 0) 31 true).setB (R.ACR_OVR 0) 30 true).frontSample 0 0 (clampCode 0 ⟨-8192, 0⟩);
      d.b (R.ACR_AGC 0 0) 31 = true ∧ (d.acrDig 0 0).ordered = none) := by decide +kernel

/-- Half A holds the device lead. -/
def leadA : Dev := d0.setF R.RIMX_TOKEN 0 2 0

/-- The trunk transceiver in state `st`, its station in role `role`. -/
def trunkIn (d : Dev) (role st : Nat) : Dev := (d.setSt 16 st).setRole role

theorem witness_Trunk :
    (leadA.gate 64 R.TRK_CMD true).isGo = true ∧ d0.role = 0 ∧ d0.fw.recov ≠ 1 ∧ d0.tbState = 0 ∧ tb1.tbState ≠ 0 ∧
    (∀ r ∈ [1, 2, 3, 4], (trunkIn d0 r sIDLER).role = r) ∧
    (let d := { d0 with trunk := { d0.trunk with winEnd := some 0, ownResign := true } };
      d.trunk.entries = [] ∧ d.trunk.coordKnown = false) ∧
    (let d := { trunkIn d0 2 sIDLER with trunk := { d0.trunk with sfNext := some 0 } };
      let e := (d.endTurn 16 sTURN).txEnd 16;
      e.trunk.sfNext = some 0 ∧ 0 ≤ e.cluster ∧ e.role = 2 ∧
      min 255 (e.f R.TRK_STATUS 8 8 + 1) < max 1 ((e.setF R.TRK_CFG 2 3 3).f R.TRK_CFG 2 3)) ∧
    (let d := { (trunkIn d0 2 sRX).setReg (R.TRK_PEER_CTRL 0) 0x80000007#32 with
        trunk := { d0.trunk with rxb := [(0#32, 64#32)], mapDefer := [5] } };
      (d.radio 16).st = sRX ∧ d.peerOf 7 = some 0 ∧ d.trunk.rxb = (0#32, 64#32) :: [] ∧
      d.trunk.mapDefer.contains 5 = true ∧ d.mapHeld 5 = true) ∧
    (leadA.gate 64 (R.TRK_PEER_CTRL 0) true).isGo = true ∧ (leadA.gate 64 (R.TRK_PEER_CTRL 5) true).isGo = true := by
  decide +kernel

/-- A data frame of station 7 to every station, of one octet, its checks good. -/
def trunkData : TrunkRx :=
  { header := 0x01FFC00000#40, crc8 := 0x3E#8, soundings := [], m := m0, energyA := 0
    -- R197: the octet and its CRC-32, 0xD202EF8D, scrambled from 0x7F
    scrambled := bitOctets (scramble 0x7F (bitsLow [0#8, 0x8D#8, 0xEF#8, 0x02#8, 0xD2#8]))
    energyB := 0, startAgo := 0 }

/-- Serves Trunk: DISABLE of a member; a resignation nobody claims after; a superframe of a member; a frame
that ends with a buffer and with none; a peer entry written in each of the three ways. -/
theorem witness_TrunkMore :
    (leadA.gate 64 R.TRK_CMD true).isGo = true ∧ (trunkIn d0 2 sRX).role ≠ 0 ∧
    (let d := { d0 with trunk := { d0.trunk with winEnd := some 0, ownResign := true, resigned := true, coordKnown := true } };
      d.trunk.winEnd = some 0 ∧ 0 ≤ d.count ∧ d.trunk.entries = [] ∧ d.trunk.resigned = true ∧ d.trunk.ownResign = true) ∧
    trunkData.headerOk = true ∧ trunkData.crcOk = true ∧ trunkData.type = 0 ∧ trunkData.src = 7 ∧ trunkData.dst = 255 ∧
    trunkData.mgen = 0 ∧ trunkData.payload.length ≤ (64#32 : Word).toNat ∧
    (let d := ((trunkIn d0 2 sRX).setReg (R.TRK_PEER_CTRL 0) 0x80000007#32).onRadio 16 fun r => { r with rx := some (sfd0 true) };
      (d.radio 16).rx = some (sfd0 true) ∧
      (let d0 := d.onRadio 16 (fun r => { r with rx := none, heard := some d.clk }); (d0.radio 16).st = sRX ∧
        d0.peerOf trunkData.src = some 0 ∧ ((d0.capture 16 1).trunk.rxb = []) ∧
        (((d0.capture 16 1).bumpF R.TRK_CNT 0 16 1).radio 16).closeAfter = false ∧
        (let e := { d0 with trunk := { d0.trunk with rxb := [(0#32, 64#32)] } }.capture 16 1; e.trunk.rxb = (0#32, 64#32) :: [] ∧
          (((({ e with trunk := { e.trunk with rxb := [] } } : Dev).trkRecord (sfd0 true) trunkData 0 0#32).radio 16).closeAfter = false)))) ∧
    (trunkIn d0 2 sRX |>.radio 16).rx = none ∧
    (let d := d0.setReg (R.TRK_PEER_CTRL 5) 0x80000007#32; fld (d.reg (R.TRK_PEER_CTRL 5)) 0 8 = fld 0x00000007#32 0 8 ∧
      bitOf (d.reg (R.TRK_PEER_CTRL 5)) 31 = true ∧ fld (d.reg (R.TRK_PEER_CTRL 5)) 0 8 ≠ fld 0x80000008#32 0 8 ∧
      bitOf (d0.reg (R.TRK_PEER_CTRL 5)) 31 = false) := by decide +kernel

/-- A USER frame to every station, and a station that is enabled with it to send. -/
def user0 : BusFrame := { type := 6, addr := 255, data := [] }
def asb0 (f : Asb → Asb) : Dev :=
  let d := { d0.setReg R.ASB_CFG 0xC0010000#32 with clk := 11 * us }
  { d with asb := f { d.asb with txq := [(user0, 0)], quiet := some 0 } }

theorem witness_SyncBus :
    (d0.gate 64 R.ASB_TXCMD true).isGo = true ∧ fld (0x06FF0010#32 : Word) 24 4 = 6 ∧ fld (0x06FF0010#32 : Word) 0 5 ≤ 16 ∧
    fld (0x07FF0010#32 : Word) 24 4 = 7 ∧ (d0.asb.txq.filter fun e => busClass e.1.type == 2).length < 8 ∧
    8 ≤ ((List.replicate 8 (user0, 0)).filter fun e => busClass e.1.type == 2).length ∧
    -- idle for 11 bit times, nothing sent; a rival's CLAIM wins over this frame, another USER frame's later octet loses
    (let d := asb0 id; d.asbIdle = true ∧ d.pdRun 2 = true ∧ d.asb.sending = none ∧ d.asbNext = some 0 ∧
      d.asb.txq.getD 0 default = (user0, 0) ∧
      losesTo (frameBitsOf (d.asbFill user0)) (frameBitsOf { type := 3, addr := 255, data := [] }) = true ∧
      losesTo (frameBitsOf (d.asbFill user0)) (frameBitsOf { type := 6, addr := 255, data := [0xFF#8] }) = false) := by
  decide +kernel

theorem witness_SyncBusEnds :
    -- an own frame acknowledged, and one that is not at its first try and its last
    (∀ t ∈ [0, 1], let d := asb0 fun a => { a with txq := [(user0, t)], cur := some 0, sending := some user0 };
      d.asbEn = true ∧ d.pdRun 2 = true ∧ d.asb.cur = some 0 ∧ d.asb.sending = some user0 ∧
      d.asb.txq.getD 0 default = (user0, t) ∧ (t < d.f R.ASB_CFG 16 4 ∨ d.f R.ASB_CFG 16 4 ≤ t)) ∧
    (asb0 id).f R.ASB_CFG 16 4 = 1 ∧ user0.addr = 255 ∧ user0.type = 6 ∧
    -- the time master's interval of 1 ms; a received frame
    (let d := (asb0 id).setF R.ASB_SYNCINT 0 16 1; d.b R.ASB_CFG 30 = true ∧ d.f R.ASB_SYNCINT 0 16 = 1 ∧
      d.asb.nextSync ≤ d.clk) ∧
    (d0.gate 64 R.ASB_RXPOP true).isGo = true ∧ (asb0 fun a => { a with rxq := [user0] }).asb.rxq = user0 :: [] := by
  decide +kernel

/-- Node 1 prepared for INSERT: short address 1, SEC 5, slot 256, kind 1 on the sub-GHz band, whose PHY 0 is SUN FSK. -/
def node1 : Dev :=
  ((((d0.ntPut 1 8 2 1).ntPut 1 0x0A 2 0x1000).ntPut 1 0x0C 2 256).ntPut 1 0x0E 1 5).setReg (R.MAC_PHY 0) 0x40000000#32

/-- Node 1 valid, its slot's key active for decryption. -/
def node1v : Dev := ((node1.ntInsert 1 7 true).setSlotState 256 1).wr8 (slotAddr 256 + 2) 0x03#8

/-- A frame of node 1 with counter 8, received on lane 0. -/
def frame1 : FrameIn :=
  { path := .lane 0, half := .a, source := .short 1, fc := 8, header := [], payload := [], lqw0 := 0#32, lqw1 := 0#32
    rxCount := 0, rxWord2 := 0#32, csl := none, ended := 0, ackReq := false, fsk := true }

/-- Its copy, held and waiting for its decryption. -/
def copy1 : Copy := { id := 3, node := 1, inn := frame1, held := true }

/-- With a list of copies. -/
def copies (d : Dev) (l : List Copy) : Dev := { d with mac := { d.mac with copies := l } }

theorem witness_NodeTable :
    (let d := up node1 (.mp .a);
      (d.place (.mp .a) (d.cpu 64).sup (wd (0x41000000 + 0x50)) 4 kStore).toOption =
        some (.win (ntBase 0 + 0x50) 40 (0x1000000 + 0x50)) ∧ d.pdRun 40 = true ∧ d.pdPrep 40 = false ∧
      (d.gate 64 R.MAC_NTCMD true).isGo = true ∧ d.insertCheck 0 1 = 0 ∧ d.insertCheck 0 0 = 3 ∧
      d.insertCheck 0 16383 = 3) ∧
    (node1v.ntField 0 1 0x0A 2).testBit 15 = true ∧ (node1v.plan 1 (10 ^ 9)).1 = 0 ∧ (node1v.plan 1 (10 ^ 9)).2.isSome = true ∧
    (node1v.validNodes 0).find? (fun m => node1v.ntField 0 m 0x08 2 == 1) = some 1 ∧
    (d0.validNodes 0).find? (fun m => d0.ntField 0 m 0x08 2 == 1) = none ∧
    (List.range 4).map (fun k => d0.reg (bankKey 64 (R.MAC_NTARG k))) = [0#32, 0#32, 0#32, 0#32] := by decide +kernel

theorem witness_ReceivedCopies :
    node1v.findNode frame1.source = some 1 ∧ node1v.capacity = false ∧ node1v.replayOk 1 8 = true ∧
    node1v.replayOk 1 7 = false ∧ node1v.ratHas 1 8 = none ∧
    (node1v.setRat [{ node := 1, fc := 7, commit := some 0, tag := 0 }]).ratHas 1 7 =
      some { node := 1, fc := 7, commit := some 0, tag := 0 } ∧
    (let c : Copy := { copy1 with id := node1v.mac.copySeq, held := false };
      let d := { copies node1v [c] with mac := { (copies node1v [c]).mac with copySeq := node1v.mac.copySeq + 1 } };
      ((d.holdCopy c).copy c.id).any Copy.held = true) ∧
    (let d := copies node1v [copy1]; d.copy 3 = some copy1 ∧ copy1.verified = none ∧ copy1.stale = false ∧
      (d.pmcEvent 0x09).rxNoKey 1 = false ∧ ((copies d0 [copy1]).pmcEvent 0x09).rxNoKey 1 = true) ∧
    (let c := { copy1 with verified := some 0 }; let d := copies node1v [c];
      d.copy 3 = some c ∧ d.ratHas 1 8 = none ∧ d.mac.rat.length < 512 ∧ d.replayOk 1 8 = true ∧ c.delivers = false ∧
      d.twins c = [] ∧ d.lowerFirst c = false ∧
      -- a twin on lane 1 goes with it, and finds the better twin when it is filtered itself; counter 9 waits for it
      (let w : Copy := { c with id := 4, inn := { c.inn with path := .lane 1 } };
        (copies node1v [c, w]).twins c = [w] ∧
        ((copies node1v [c, w]).twins w).any (fun x => decide (pathRank x.inn.path < pathRank w.inn.path)) = true) ∧
      (let w : Copy := { c with id := 4, inn := { c.inn with fc := 9 } }; (copies node1v [c, w]).lowerFirst w = true)) := by decide +kernel

/-- Half A's security ring holds one descriptor of operation `op`, slot 256 active for every use. -/
def ring1 (op level alen mlen : Nat) : Dev :=
  let d := ((((d0.setReg (R.SEC_RING_SIZE 0) 8#32).setReg (R.SEC_RING_TAIL 0) 1#32).setB R.SEC_STATUS 29 true).setSlotState
    256 1).wr8 (slotAddr 256 + 2) 0xFF#8
  let d := { d with sec := { d.sec with
    owner := tput zeroDflt d.sec.owner 0 65
    fcLim := tput zeroDflt d.sec.fcLim 256 1000
    gcmLim := tput zeroDflt d.sec.gcmLim 256 1000 } }
  d.wrWords (d.ringBase 0) [pack [(28, op), (25, level), (0, 256)], pack [(16, alen), (0, mlen)], 0x100#32, 0x200#32, 0x300#32,
    0x400#32, 0#32, 0#32]

theorem witness_SecurityRings :
    (∀ x ∈ [(1, 5, 4, 8), (2, 5, 4, 8), (3, 0, 4, 8), (4, 0, 4, 8)],
      let d := ring1 x.1 x.2.1 x.2.2.1 x.2.2.2;
      d.secWait 0 = .none ∧ (d.ringFront 0).any (fun e => e.op == x.1 && (d.refusal 0 e).isNone && (d.bound 0 e).isNone &&
        d.slotState e.slot != 2 && decide (tget zeroDflt d.sec.fc e.slot < tget zeroDflt d.sec.fcLim e.slot) &&
        decide (tget zeroDflt d.sec.gcm e.slot < tget zeroDflt d.sec.gcmLim e.slot) &&
        (d.takeHold 0 (holdBlocks e.mlen)).isSome) = true ∧ d.oldOf 0 = none) ∧
    (let d := (((ring1 2 5 4 8).setWait 0 .hold).keepOld 256).setWait 0 .none; d.secWait 0 = .none ∧
      (d.ringFront 0).any (fun e => e.op == 2) = true ∧ (d.oldOf 0).isSome = true) ∧
    (let d := ring1 1 5 0 8; (d.ringFront 0).any (fun e => d.refusal 0 e == some 4) = true) ∧
    (let d := (ring1 1 5 4 8).setWait 0 (.reservation 0); d.secWait 0 = .reservation 0 ∧ (d.ringFront 0).isSome = true ∧
      0 ≤ d.clk ∧ d.sec.acks = []) ∧
    (let d := (ring1 1 5 4 8).setWait 0 (.fill 0); d.secWait 0 = .fill 0 ∧ (d.ringFront 0).isSome = true ∧
      d.sec.acks = []) ∧
    (let d := (ring1 2 5 4 8).setWait 0 .hold; d.holdCopies.secWait 0 = .hold ∧
      (d.holdCopies.ringFront 0).any (fun e => (d.holdCopies.takeHold 0 (holdBlocks e.mlen)).isSome) = true) ∧
    (d0.grantLimit 256 false).secWait 0 = .none ∧ (d0.grantLimit 256 false).secWait 1 = .none ∧
    (d0.grantLimit 256 false).sec.acks = [] ∧
    (d0.gate 64 (R.SEC_RING_TAIL 0) true).isGo = true ∧ d0.ringSize 0 ≤ fld (0#32 : Word) 0 12 := by decide +kernel

/-- Serves ReceivedCopies: a copy whose decryption ends, of each kind. Whether its MIC verifies rests on `Config.aesBlock`, which has
no body: both answers of `openCopy` are hypotheses on its value alone. -/
theorem witness_Decryptions :
    copy1.held = true ∧ copy1.old = none ∧ copy1.verified = none ∧ copy1.inn.path = .lane 0 ∧ copy1.stale = false ∧
    (let d := ((copies node1v [copy1]).pmcEvent 0x09).loadKey ((copies node1v [copy1]).ntSlot 1); d.rxNoKey 1 = false) ∧
    (let d := ((copies d0 [copy1]).pmcEvent 0x09).loadKey ((copies d0 [copy1]).ntSlot 1); d.rxNoKey 1 = true) ∧
    (copies node1v [{ copy1 with stale := true }]).copy 3 = some { copy1 with stale := true } := by decide +kernel

/-- With a binding of the other half for the descriptor at the front of half A's ring, late or not. -/
def boundBy (d : Dev) (late : Bool) : Dev :=
  let x := d.headDesc 0
  { d with sec := { d.sec with bindings := [⟨x.node, x.dir, d.matchOf x, 1, 0, late, 0, 9, [1#8]⟩] } }

/-- Serves SecurityRings: an OP the engine does not know; no limit left; no hold block left; a binding of the other half, late or
not; a slot changed while a decryption waited; a fill that finds room; the ends of the waits. -/
theorem witness_RingAnswers :
    (∀ op ∈ [0, 6, 15], let d := ring1 op 5 4 8; (d.ringFront 0).any (fun x => x.op == op && d.refusal 0 x == some 4) = true) ∧
    (let d := ring1 2 4 4 8; d.secWait 0 = .none ∧ d.oldOf 0 = none ∧
      (d.ringFront 0).any (fun x => x.op == 2 && d.refusal 0 x == some 4) = true) ∧
    (let d := ring1 1 5 4 8; let e := { d with sec := { d.sec with fcLim := [] } }; e.secWait 0 = .none ∧
      (e.ringFront 0).any (fun x => x.op == 1 && (e.refusal 0 x).isNone && (e.bound 0 x).isNone && e.slotState x.slot != 2 &&
        decide (tget zeroDflt e.sec.fc x.slot < 0xFFFFFFFF ∧ tget zeroDflt e.sec.fcLim x.slot ≤ tget zeroDflt e.sec.fc x.slot)) =
        true) ∧
    (∀ op ∈ [2, 4], let d := ring1 op (if op = 2 then 5 else 0) 4 8;
      let e := { d with sec := { d.sec with hold := (List.range 4).map fun b => ⟨b, 0, 256, 0⟩ } };
      (e.ringFront 0).any (fun x => x.op == op && (e.refusal 0 x).isNone && (e.bound 0 x).isNone && (e.oldOf 0).isNone &&
        (e.takeHold 0 (holdBlocks x.mlen)).isNone) = true) ∧
    (∀ x ∈ [(2, false), (2, true), (1, true)], let d := boundBy (ring1 x.1 5 4 8) x.2; d.secWait 0 = .none ∧ d.oldOf 0 = none ∧
      (d.ringFront 0).any (fun e => e.op == x.1 && (d.refusal 0 e).isNone &&
        (d.bound 0 e).any (fun b => b.late == x.2 && b.status == 0)) = true) ∧
    (∀ op ∈ [2, 4], let d := (((ring1 op 5 4 8).setWait 0 .hold).keepOld 256).setWait 0 .none; d.secWait 0 = .none ∧
      (d.ringFront 0).any (fun x => x.op == op) = true ∧ (d.oldOf 0).isSome = true) ∧
    (let d := (ring1 5 5 4 8).setReg (R.MAC_PHY 0) 0x40000000#32;
      let d := (d.wr32 (d.ringBase 0 + 16) 0#32); d.secWait 0 = .none ∧
      (d.ringFront 0).any (fun x => x.op == 5 && (d.refusal 0 x).isNone && (d.bound 0 x).isNone && d.slotState x.slot != 2 &&
        decide (tget zeroDflt d.sec.fc x.slot < 0xFFFFFFFF ∧ tget zeroDflt d.sec.fc x.slot < tget zeroDflt d.sec.fcLim x.slot) &&
        ((d.loadKey x.slot).opReads x x.mlen).txPlace x.lane (d.fillLen x) == some 0 &&
        ((d.loadKey x.slot).opReads x x.mlen).fillFirst x.lane ((d.loadKey x.slot).fillUntil 0) 0) = true ∧ d.sec.acks = []) ∧
    (∀ w ∈ [SecWait.reservation 0, .fill 0], let d := (ring1 1 5 4 8).setWait 0 w; d.pdRun 6 = true ∧ 0 ≤ d.clk ∧ d.secWait 0 = w ∧
      (d.ringResult 0 (d.headDesc 0) 3 0 0 0).sec.acks = []) ∧
    (let d := (ring1 2 5 4 8).setWait 0 .hold; d.holdCopies.secWait 0 = .hold ∧
      (d.holdCopies.takeHold 0 (holdBlocks (d.holdCopies.headDesc 0).mlen)).isSome = true ∧ d.holdCopies.pdRun 6 = true ∧
      (d.holdCopies.oldOf 0).isNone = true) ∧ d0.restarting = false := by
  decide +kernel

theorem witness_Alarms :
    (d0.gate 66 R.SEC_ALARM true).isGo = true ∧ node1v.slotState 256 = 1 ∧
    ({ d0 with fw := { d0.fw with a2Pending := true } } : Dev).fw.a2Pending = true := by decide +kernel

/-- The message block runs, with pool 0 of 256 blocks and link queue 0 on it. -/
def msgOn : Dev :=
  ((node1v.setReg (R.MSG_POOL_SIZE 0) 0x10000#32).setReg (R.MSG_POOL_CFG 0) 0x80000000#32).setB R.MSG_CTRL 0 true

/-- A submission of operation `op` in class `cls` to node 1: 10 octets, deadline 5 ms. -/
def subOf (op cls len : Nat) : Sub := ⟨[pack [(28, op), (26, cls), (0, 1)], 7#32, wd len, 5#32]⟩

/-- With transactions. -/
def tcbs (d : Dev) (l : List Tcb) : Dev := { d with msg := { d.msg with tcbs := l } }

/-- A send of class S to node 1, undecided. -/
def tcb1 : Tcb :=
  { lsn := 9, linkq := 0, tag := 7#32, opc := 1, cls := 0, flow := 0, group := false, target := 1, len := 10
    deadline := 0, waitUntil := some 0, ledger := some 0 }

theorem witness_Submissions :
    msgOn.pdRun 5 = true ∧ msgOn.b R.MSG_CTRL 0 = true ∧ (State.reset).dev.power.inReset = false ∧
    msgOn.canAccept (subOf 1 0 10) = true ∧ msgOn.canAccept (subOf 3 1 0) = true ∧
    (tcbs msgOn ((List.range 4096).map fun i => { tcb1 with lsn := i })).canAccept (subOf 1 0 10) = false ∧
    (let d := msgOn.setB R.MSG_STATUS 31 false;
      d.malformed (subOf 1 3 10) = true ∧ (∀ op ∈ [1, 3], ∀ cls ∈ [0, 2],
        d.malformed (subOf op cls (if op = 3 then 0 else 10)) = false) ∧
      (d.ledGet (d.newTcb 0 (subOf 1 0 10) 0 []).dom).isSome = true) := by decide +kernel

theorem witness_Transactions :
    (let d := tcbs msgOn [tcb1];
      d.poolQueue 0 = tcb1 :: [] ∧ d.poolResv 0 + tcb1.need ≤ d.poolFree 0 ∧ tcb1.waitUntil = some 0 ∧ 0 ≤ d.clk ∧
      d.tcb 9 = some tcb1 ∧ tcb1.state ≠ 2 ∧ tcb1.deadline ≤ d.clk ∧ tcb1.radiated = false ∧ d.capacity = false ∧
      (∀ b ∈ [true, false], (tcbs msgOn [{ tcb1 with radiated := true, deadlinePosted := b }]).tcb 9 =
        some { tcb1 with radiated := true, deadlinePosted := b }) ∧
      d.pdRun 5 = true ∧ (d.setF R.RIMX_TOKEN 0 2 0).leader = 0 ∧ d.undecided 9 = some tcb1 ∧ d.undecided 8 = none ∧
      roleStatus tcb1.group 2 = true ∧
      -- the roles' generations: no marker; an older one's marker (gen 0) with the role at gen 1
      (d.wen 0).markers.contains (3, 0, 0) = false ∧ 0 = tget zeroDflt (d.wen 0).gen 96 ∧ d.markerOf 0 3 0 = false ∧
      1 ≠ tget zeroDflt (d.wen 0).gen 96 ∧
      (let e := d.setWen 0 { d.wen 0 with markers := [(3, 0, 0)], gen := tput zeroDflt [] 96 1 };
        (e.wen 0).markers.contains (3, 0, 1) = false ∧ (e.wen 0).markers.contains (3, 0, 0) = true ∧
        1 = tget zeroDflt (e.wen 0).gen 96 ∧ e.markerOf 0 3 0 = true ∧ (e.wen 0).hold.length < 256)) ∧
    (let c : Reasm := { node := 1, tag := 2, size := 10, pool := 0, blocks := 1, cls := 0, flow := 0, linkq := 0, last := 0 };
      let d := { msgOn with msg := { msgOn.msg with reasm := [c] }, clk := 65535 * 160000 };
      d.context 1 2 = some c ∧ c.last + d.f R.MSG_REASM 0 16 * ms ≤ d.clk) ∧
    (msgOn.gate 64 R.MSG_CMD true).isGo = true ∧ msgOn.poolEn 0 = true ∧ msgOn.poolResv 0 + 2 ≤ msgOn.poolFree 0 ∧
    msgOn.poolFree 0 < msgOn.poolResv 0 + 65535 ∧
    (let d := { msgOn with msg := { msgOn.msg with carves := tput nilDflt msgOn.msg.carves 0 [(0, 2)] } };
      d.carves 0 = (0, 2) :: []) ∧
    (msgOn.argDom 1#32 false = some ⟨false, 1, msgOn.ntHome 1, 0, false, 0⟩) ∧
    (let x : Dom := ⟨false, 1, msgOn.ntHome 1, 0, false, 0⟩;
      msgOn.ledFind x = none ∧ msgOn.tcbFree = true ∧ msgOn.ledRoom x = true ∧
      ((msgOn.ledGet x).any fun e => (e.1.ledFind x).isSome) = true) ∧
    (msgOn.gate 66 (R.MSG_POOL_CFG 3) true).isGo = true := by decide +kernel

/-- Serves Submissions: an AMP submission to the domain at this tick, and none; a fenced domain. -/
theorem witness_Fences :
    (let x := subOf 1 0 10; let d := { msgOn with host := { msgOn.host with ampNow := [(msgOn.clk, x.w)] } };
      d.ampAhead x = true ∧ msgOn.ampAhead x = false ∧ msgOn.canAccept x = true) ∧
    (∀ fenced ∈ [true, false],
      let d := msgOn; let t := d.newTcb 0 (subOf 1 0 10) 0 [];
      (d.ledGet t.dom).any (fun e =>
        let h := e.1.ledHalf t.group t.home;
        let d := e.1.ledPut t.group t.home e.2 0 (setBit (e.1.ledWord h e.2 0) 30 fenced);
        bitOf (d.ledWord h e.2 0) 30 == fenced && (d.ledFind t.dom).isSome) = true) := by decide +kernel

/-- A record of the MAC timing role 1, generation 0, of transaction 9. -/
def rec9 (r : Report) : ResultRec := { kind := 3, res := 1, gen := 0, lsn := 9, report := r, lqw0 := 0#32, lqw1 := 0#32 }

/-- Half A leads a message block with one transaction, changed by `f`. -/
def msg9 (f : Tcb → Tcb) : Dev := tcbs (msgOn.setF R.RIMX_TOKEN 0 2 0) [f tcb1]

/-- Serves Transactions: records of the leading half (unknown, of a status no role may give, before and after the deadline event, of a
fragment acknowledged before), of the trailing half, of the generation a marker waits for, of a new and of a passed placement. -/
theorem witness_Records :
    (∀ f ∈ [msg9 id, msg9 fun t => { t with radiated := true, deadlinePosted := true, acked := [3] }],
      f.leader = 0 ∧ f.capacity = false ∧ f.pdRun 5 = true ∧ (f.undecided 9).isSome = true ∧ f.undecided 8 = none ∧
      (f.wen 0).oldest 3 1 = none ∧ (f.wen 0).markers.contains (3, 1, 0) = false ∧
      (rec9 .idle).gen = tget zeroDflt (f.wen 0).gen 97 ∧ f.markerOf 0 3 1 = false) ∧
    roleStatus false 3 = false ∧ roleStatus false 4 = true ∧ roleStatus true 4 = false ∧ roleStatus true 6 = true ∧
    (msg9 fun t => { t with deadlinePosted := true, acked := [3] }).undecided 9 =
      some { tcb1 with deadlinePosted := true, acked := [3] } ∧ [3].contains 3 = true ∧ (msg9 id).leader ≠ 1 ∧
    (let d := (msg9 id).setWen 0 { (msg9 id).wen 0 with markers := [(3, 1, 0)], gen := tput zeroDflt [] 97 1 };
      (d.wen 0).oldest 3 1 = some 0 ∧ some 0 ≠ some 1 ∧ (d.wen 0).markers.contains (3, 1, 1) = false ∧
      1 = tget zeroDflt (d.wen 0).gen (32 * 3 + 1) ∧ d.markerOf 0 3 1 = true ∧ (d.wen 0).hold.length < 256 ∧
      (d.wen 0).markers.contains (3, 1, 2) = false ∧ 2 ≠ tget zeroDflt (d.wen 0).gen (32 * 3 + 1)) ∧
    (let d := (msg9 id).setWen 0 { (msg9 id).wen 0 with markers := [(3, 1, 0), (3, 1, 1)], gen := tput zeroDflt [] 97 2 };
      (d.wen 0).oldest 3 1 ≠ some 1 ∧ (d.wen 0).markers.contains (3, 1, 1) = true) := by decide +kernel

/-- Serves Transactions: QUERY and LIFT of a domain with a record and without, with and without a free entry; pools enabled, refused
and disabled. -/
theorem witness_MessageCommands :
    (let x : Dom := ⟨false, 1, msgOn.ntHome 1, 0, false, 0⟩; let d := msgOn.setReg (bankKey 64 (R.MSG_CMDARG 0)) 1#32;
      (d.gate 64 R.MSG_CMD true).isGo = true ∧ d.argDom (d.msgArg 64 0) (bitOf (d.msgArg 64 0) 27) = some x ∧
      d.argDom (d.msgArg 64 0) false = some x ∧ d.ledFind x = none ∧
      (d.ledGet x).any (fun e => e.1.ledFind x == some e.2 && e.1.tcbFree) = true) ∧
    (let d := tcbs (msgOn.setF R.MSG_TCBCNT 0 15 1024) ((List.range 1024).map fun i => { tcb1 with lsn := i });
      d.tcbFree = false) ∧
    (let d := (msgOn.setReg (R.MSG_POOL_BASE 15) 0xBF0000#32).setReg (R.MSG_POOL_SIZE 15) 0x10000#32; let w : Word := 0x80000000#32;
      (d.gate 66 (R.MSG_POOL_CFG 15) true).isGo = true ∧ bitOf w 31 = true ∧ d.poolEn 15 = false ∧ d.poolEn 0 = true ∧
      (d.reg (R.MSG_POOL_BASE 15)).toNat % 4096 = 0 ∧ (d.reg (R.MSG_POOL_SIZE 15)).toNat % 4096 = 0 ∧
      (d.reg (R.MSG_POOL_BASE 15)).toNat + (d.reg (R.MSG_POOL_SIZE 15)).toNat = 0xC00000 ∧
      (∀ q < 16, q ≠ 15 → d.poolEn q = true → overlaps 0xBF0000 0x10000 (d.reg (R.MSG_POOL_BASE q)).toNat
        (d.reg (R.MSG_POOL_SIZE q)).toNat = false) ∧
      (let e := (d.setReg R.MSG_TCBBASE 0x400000#32).setReg R.MSG_UPTBASE 0x500000#32;
        overlaps 0xBF0000 0x10000 (e.reg R.MSG_TCBBASE).toNat (64 * e.tcbCount) = false ∧
        overlaps 0xBF0000 0x10000 (e.reg R.MSG_UPTBASE).toNat 0x10000 = false) ∧
      (d.setReg (R.MSG_POOL_SIZE 15) 0xF000#32 |>.reg (R.MSG_POOL_SIZE 15)).toNat < 0x10000) := by decide +kernel

/-- Half A leads, after the first GRANT, both halves eligible. -/
def led : Dev := ((d0.setReg R.RIMX_TOKEN 0x0CB0#32).setB R.RIMX_TOKEN 15 true).setReg R.RIMX_TKSW_LO 16000#32

theorem witness_Token :
    (led.gate 66 R.RIMX_TKCMD true).isGo = true ∧ led.restarting = false ∧ led.leader = 0 ∧ led.failed 0 = false ∧
    led.capacity = false ∧ (led.setF R.RIMX_TOKEN 0 2 2).leader = 2 ∧ (led.setB R.RIMX_TOKEN 13 true).restarting = true ∧
    led.pair R.RIMX_TKSW_LO R.RIMX_TKSW_HI = led.count + 16000 ∧ led.elig (1 - led.leader) = true ∧
    (led.setReg R.RIMX_TKSW_LO 15999#32).pair R.RIMX_TKSW_LO R.RIMX_TKSW_HI < led.count + 16000 ∧
    (let d := led.setReg R.RIMX_TOKEN 0x8000#32; d.resynced 1 = false ∧ (d.tkRes 1).elig 1 = false ∧ d.leader ≠ 1 ∧
      d.tok.resync = none) ∧
    ((led.setB R.RIMX_TOKEN 13 true).tokBit 13 false).posted 0 = false ∧
    ({ led with tok := { led.tok with resync := some 1 } } : Dev).tok.resync = some 1 ∧
    (let d := led.setB R.RIMX_TOKEN 11 false; d.switchBar ≠ none ∧ ((d.tokBit 12 false).tkRes 2).leader = d.leader) ∧
    (led.gate 64 (R.RIMX_HB 0) true).isGo = true ∧
    (let d := { led with tok := { led.tok with watchA := true }, clk := 10 ^ 12 };
      d.watched 0 = true ∧ d.failed 0 = false ∧ d.lastBeat 0 + d.hbSpan ≤ d.clk) ∧
    (let d := { (up d0 .custody) with fw := { d0.fw with step := 8, recov := 0 }, tok := { d0.tok with rolesA := true } };
      d.fw.recov = 0 ∧ d.rimRuns = true ∧ d.fw.step = 8 ∧ d.rolesOf (d.rimOctet 1 % 2) = true) := by decide +kernel

/-- Serves Token: the end of a restart with no call posted; one second without a leader; a trial's end, of both halves and of one. -/
theorem witness_TokenEnds :
    (let d := ((led.setB R.RIMX_TOKEN 13 true).tokBit 13 false).bumpF R.RIMX_CRCNT 0 8 1;
      d.reg R.RIMX_MBPEND = 0#32 ∧ d.tok.latched = []) ∧
    (∀ k : Nat, bitOf (0#32 : Word) k = false) ∧
    (let d := { led with tok := { led.tok with noLead := some 5 }, clk := 160000005 };
      d.tok.noLead = some 5 ∧ 5 + 160000000 ≤ d.clk) ∧
    (led.gate 66 R.RIMX_TKCMD true).isGo = true ∧ led.pdRun 41 = true ∧ led.capacity = false ∧
    (∀ b ∈ [true, false], let f : Fw := { d0.fw with weave := { d0.fw.weave with trial := true } };
      let d := { d0 with fw := { f with trialEnd := some 5, byHalf := b }, clk := 5 };
      d.fw.trialEnd = some 5 ∧ 5 ≤ d.clk ∧ d.fw.weave.trial = true ∧ d.fw.byHalf = b) := by
  refine ⟨by decide +kernel, fun k => by simp [bitOf], by decide +kernel, by decide +kernel, by decide +kernel,
    by decide +kernel, by decide +kernel⟩

/-- Custody runs Rim, and a call of function `fn` is posted in slot `k`. -/
def posted (k fn : Nat) (args : List Word) : Dev := (up { d0 with fw := { d0.fw with step := 10 } } .custody).postCall k fn args

/-- What `calls` asks, for a call of function `fn` in slot `k`. -/
def serves (d : Dev) (k fn : Nat) (args : List Nat) : Bool :=
  d.rimRuns && decide (d.fw.recov = 0) && d.headCall == some k && d.callFn k == fn &&
    [1, 2, 3, 4, 5, 6].all fun i => args.contains i || d.callArg k i == 0#32

theorem witness_RimServices :
    (∀ x ∈ [(0, 1, ([] : List Nat)), (0, 2, []), (8, 2, []), (15, 0x19, []), (3, 0x21, [])],
      serves (posted x.1 x.2.1 []) x.1 x.2.1 x.2.2 = true) ∧
    serves (posted 0 3 [0#32, 0xC00000#32, 0#32]) 0 3 [1, 2, 3] = true ∧
    (let d := posted 0 4 [0#32, 0#32, 65#32]; serves d 0 4 [1, 2, 3, 4, 5] = true ∧ (d.callArg 0 1).toNat = d.setGen ∧
      65 ≤ (d.callArg 0 3).toNat ∧ d.fw.weave.trial = false) ∧
    (let d := posted 0 4 [1#32, 0#32, 65536#32]; serves d 0 4 [1, 2, 3, 4, 5] = true ∧
      (d.callArg 0 1).toNat ≠ d.setGen) ∧
    (let d := { posted 0 0x19 [] with fw := { (posted 0 0x19 []).fw with sealed := some ⟨1, 2, []⟩ } };
      serves d 0 0x19 [] = true ∧ d.fw.sealed = some ⟨1, 2, []⟩) ∧ (posted 0 0x19 []).fw.sealed = none ∧
    (let d := posted 0 0x20 [0#32, 0#32]; serves d 0 0x20 [1, 2] = true ∧ d.stopDenied 0 = true ∧ d.stopDenied 10 = false ∧
      (prerequisites 53).filter (fun m => !d.pdRun m) = []) ∧
    (serves (posted 0 0x20 [53#32, 1#32]) 0 0x20 [1, 2] = true) ∧
    (let d := posted 0 0x22 [4095#32, 0xBFFFFF#32, 1#32]; serves d 0 0x22 [1, 2, 3] = true ∧
      bitOf (d.callArg 0 1) 31 = false ∧ fld (d.callArg 0 1) 0 12 + 1 ≤ 4096) ∧
    (let d := posted 0 0x23 [256#32, 0#32, 256#32, 0xFFFFFFFF#32]; serves d 0 0x23 [1, 2, 3, 4] = true ∧
      caOnePage 256 256 = true ∧ caOnePage 257 256 = false ∧
      ((d.caFirst false).caTurn false 1 ((d.caFirst false).caPage 256 (d.rdBytes storeBase 256)) 1).2 = 0 ∧
      ((d.caFirst false).caTurn false 1 ((d.caFirst false).caPage 256 (d.rdBytes storeBase 256)) 2).2 ≠ 0) ∧
    serves (posted 0 0x28 [1#32]) 0 0x28 [1] = true ∧ serves (posted 0 0x30 [255#32]) 0 0x30 [1] = true ∧
    ((posted 0 1 []).gate 66 (R.RIMX_MB_DONE 0) true).isGo = true ∧ (posted 0 1 []).posted 0 = true := by decide +kernel

/-! A signature or a digest that verifies and a key that unwraps cannot be shown: those functions of Config have no body.
Both outcomes of each are hypotheses on their values alone. -/

theorem witness_RimFirmware :
    (let d := posted 0 5 [1#32]; serves d 0 5 [1] = true ∧ 1 ≠ d.fw.weave.active ∧ d.fw.weave.trial = false) ∧
    serves (posted 0 5 [0#32]) 0 5 [1] = true ∧ (posted 0 5 [0#32]).fw.weave.active = 0 ∧
    (let d := posted 0 6 [1#32]; serves d 0 6 [1] = true ∧ d.closeWindow.verifyWeave 1 true = 9 ∧
      d.closeWindow.verifyWeave 1 false = 1) ∧
    -- on trial slot 1 is active and slot 0 CONFIRMED
    (let p := posted 0 5 [0#32]; let d := { p with fw := { p.fw with weave := { p.fw.weave with active := 1, trial := true } } };
      serves d 0 5 [1] = true ∧ 0 ≠ d.fw.weave.active ∧ d.fw.weave.trial = true ∧ 0 = d.fw.weave.confirmed) ∧
    (let d := posted 0 7 [1#32]; serves d 0 7 [1] = true ∧ bitOf (d.callArg 0 1) 1 = false ∧ d.stagedOk 1 = false ∧
      (d.setStaged 1 true).stagedOk 1 = true) ∧
    (let d := posted 0 8 [1#32]; serves d 0 8 [1] = true ∧ d.fw.weave.trial = false) ∧
    (let d := posted 0 9 [0#32, 0x80000#32]; serves d 0 9 [1, 2] = true ∧
      (d.clearMem (rimBase 1) 0x80000).verifyRim 1 = 1) ∧
    (let d := posted 0 0xA [3#32]; serves d 0 0xA [1] = true ∧
      (d.rd8 (weaveBase d.fw.weave.confirmed + 0x14)).toNat ≠ 3 ∧ (d.rd8 (rimBase d.fw.rim.confirmed + 0x14)).toNat ≠ 3) ∧
    serves (posted 0 0x11 [16640#32, 0#32, 0#32, 0#32]) 0 0x11 [1, 4] = true ∧
    serves (posted 0 0x12 [16640#32]) 0 0x12 [1] = true ∧ serves (posted 0 0x12 [16639#32]) 0 0x12 [1] = true ∧
    (let d := (((posted 0 0x10 [16639#32, 255#32, 0xBFFFE8#32, 0x700#32]).setSlotState 255 1).wr8 (slotAddr 255 + 2)
        0x08#8);
      serves d 0 0x10 [1, 2, 3, 4] = true ∧ d.slotState 255 = 1 ∧ (d.slotUsage 255).testBit 3 = true ∧
      (d.callArg 0 3).toNat + 24 = 0xC00000 ∧ usageForbidden 16639 (fld (d.callArg 0 4) 8 5) = false ∧
      d.callArg 0 4 &&& ~~~ 0x1F01#32 = 0#32 ∧ bitOf (d.callArg 0 4) 0 = false) ∧
    (let d := posted 0 0x11 [255#32, 0#32, 0#32, 0x1F01#32]; serves d 0 0x11 [1, 4] = true ∧
      usageForbidden 255 (fld (d.callArg 0 4) 8 5) = false) ∧
    (let d := posted 0 0x13 [256#32, 31#32]; serves d 0 0x13 [1, 2] = true ∧ usageForbidden 256 31 = true ∧
      usageForbidden 255 31 = false) ∧
    (let d := posted 0 0x18 [0#32, 0x2000#32];
      let e := (((((d.wr32 storeBase 0x5345414C#32).wrBytes (storeBase + 4) (natBytes 2 1)).wr32 (storeBase + 8)
        0x64000000#32)).wr32 (storeBase + 0x0C) 0x1000#32);
      serves d 0 0x18 [1, 2] = true ∧ d.hdr storeBase 0 ≠ 0x5345414C ∧ serves e 0 0x18 [1, 2] = true ∧
      e.hdr storeBase 0 = 0x5345414C ∧ (e.rd16 (storeBase + 4)).toNat = 1 ∧ e.hdr storeBase 8 / 2 ^ 16 = 0x6400 ∧
      e.hdr storeBase 8 % 2 ^ 16 ≤ e.f R.DEV_ID 0 16 ∧ e.hdr storeBase 0x0C = 4096 ∧ e.sealReserved storeBase = false ∧
      e.fw.sealed = none) := by decide +kernel

/-- A posted call of a durable function, with the call journal written (R289). -/
def jrn (k fn : Nat) (args : List Word) : Dev := (posted k fn args).journal k fn

/-- Serves RimServices and RimFirmware: after the journal is written the same checks stand. What a signature, a digest or an unwrapped
key gives rests on functions of Config that have no body. -/
theorem witness_Journalled :
    (let e := jrn 15 4 [1#32, 0#32, 65#32]; (e.callArg 15 1).toNat ≠ e.setGen) ∧
    (∀ n ∈ [65, 65536], let e := jrn 15 4 [0#32, 0#32, wd n]; (e.callArg 15 1).toNat = e.setGen ∧ (e.callArg 15 3).toNat = n ∧
      (e.callArg 15 2).toNat + n ≤ 0xC00000 ∧ e.fw.weave.trial = false) ∧
    (Settings.mk 1 [(0, List.replicate 65 0#8)]).fits = true ∧
    -- on trial of an image of another format, two copies
    (let p := posted 15 4 [0#32, 0#32, 65#32, 100#32, 65#32];
      let e := { p with fw := { p.fw with weave := { p.fw.weave with trial := true, setfmt := 1 } } }.journal 15 4;
      (e.callArg 15 1).toNat = e.setGen ∧ e.fw.weave.trial = true ∧ e.setfmtOf e.fw.weave.active ≠ e.fw.weave.setfmt ∧
      (e.callArg 15 5).toNat = 65 ∧ (e.callArg 15 4).toNat + 65 ≤ 0xC00000) ∧
    (let e := jrn 0 7 [1#32]; bitOf (e.callArg 0 1) 1 = false ∧ fld (e.callArg 0 1) 0 1 = 1 ∧ e.stagedOk 1 = false ∧
      (e.setStaged 1 true).stagedOk 1 = true) ∧
    (let e := jrn 0 8 [1#32]; (e.callArg 0 1).toNat = 1 ∧ e.fw.weave.trial = false) ∧
    (let p := posted 0 8 [1#32]; let e := { p with fw := { p.fw with weave := { p.fw.weave with trial := true } } }.journal 0 8;
      e.fw.weave.trial = true ∧ e.fw.settings = none) ∧
    (let e := jrn 0 9 [0#32, 0x80000#32]; (e.callArg 0 2).toNat = 0x80000 ∧ (e.callArg 0 1).toNat + 0x80000 ≤ 0xC00000) ∧
    (let e := jrn 0 0xA [3#32]; (e.callArg 0 1).toNat = 3 ∧ (e.rd8 (weaveBase e.fw.weave.confirmed + 0x14)).toNat ≠ 3 ∧
      (e.rd8 (rimBase e.fw.rim.confirmed + 0x14)).toNat ≠ 3) ∧
    (let p := (posted 0 0x10 [16639#32, 255#32, 0xBFFFE8#32, 0x700#32]).setSlotState 255 1 |>.wr8 (slotAddr 255 + 2) 0x08#8;
      let e := p.journal 0 0x10; (e.callArg 0 1).toNat = 16639 ∧ e.slotState 255 = 1 ∧ (e.slotUsage 255).testBit 3 = true ∧
      (e.callArg 0 2).toNat = 255 ∧ (e.callArg 0 3).toNat + 24 = 0xC00000 ∧
      usageForbidden 16639 (fld (e.callArg 0 4) 8 5) = false ∧ e.callArg 0 4 &&& ~~~ 0x1F01#32 = 0#32 ∧
      bitOf (e.callArg 0 4) 0 = false) := by
  decide +kernel

set_option maxRecDepth 100000 in
/-- Serves RimFirmware and RimServices: the same of the calls from KEY_GENERATE on. -/
theorem witness_JournalledKeys :
    (let e := jrn 0 0x11 [255#32, 0#32, 0#32, 0x1F01#32]; (e.callArg 0 1).toNat = 255 ∧
      usageForbidden 255 (fld (e.callArg 0 4) 8 5) = false ∧ e.callArg 0 4 &&& ~~~ 0x1F01#32 = 0#32) ∧
    (let e := jrn 0 0x12 [16640#32]; 16639 < (e.callArg 0 1).toNat) ∧
    (∀ x ∈ [(256, true), (255, false)], let e := jrn 0 0x13 [wd x.1, 31#32]; (e.callArg 0 1).toNat = x.1 ∧
      (e.callArg 0 2).toNat = 31 ∧ usageForbidden x.1 31 = x.2) := by
  decide +kernel

set_option maxRecDepth 100000 in
/-- Serves RimFirmware and RimServices: a Seal. -/
theorem witness_SealFits :
    (let p := posted 0 0x18 [0#32, 0x2000#32];
      let p := ((((p.wr32 storeBase 0x5345414C#32).wrBytes (storeBase + 4) (natBytes 2 1)).wr32 (storeBase + 8)
        0x64000000#32)).wr32 (storeBase + 0x0C) 4096#32;
      let e := p.journal 0 0x18; (e.callArg 0 2).toNat = 0x2000 ∧ e.hdr storeBase 0 = 0x5345414C ∧
      (e.rd16 (storeBase + 4)).toNat = 1 ∧ e.sealReserved storeBase = false ∧ e.hdr storeBase 8 / 2 ^ 16 = 0x6400 ∧
      e.hdr storeBase 8 % 2 ^ 16 ≤ e.f R.DEV_ID 0 16 ∧ e.hdr storeBase 0x0C = 4096 ∧ e.fw.sealed = none) := by
  decide +kernel

set_option maxRecDepth 100000 in
/-- Serves RimFirmware and RimServices: writes of the commissioning area. -/
theorem witness_JournalledArea :
    (let e := jrn 0 0x23 [256#32, 0#32, 256#32, 0xFFFFFFFF#32]; bitOf (e.callArg 0 1) 31 = false ∧
      fld (e.callArg 0 1) 0 12 = 256 ∧ (e.callArg 0 2).toNat + (e.callArg 0 3).toNat ≤ 0xC00000 ∧
      e.callArg 0 4 = 0xFFFFFFFF#32) ∧
    (let e := jrn 0 0x23 [256#32, 0#32, 256#32, 7#32]; e.callArg 0 4 ≠ 0xFFFFFFFF#32 ∧ e.callArg 0 4 ≠ wd (e.caFirst false).caGen) ∧
    -- the area is free, or another's write keeps it for more than 50 ms
    (let e := (jrn 0 0x23 [256#32, 0#32, 256#32, 0xFFFFFFFF#32]).caFirst false; e.caFree ≤ e.clk + 50 * ms ∧
      (let d := e.setClp { e.clp with wrs := [{ start := 42000 * us + 1 }] }; d.clk + 50 * ms < d.caFree)) := by
  decide +kernel

/-- A copy of 65,536 octets does not fit the settings area with its header (serves RimServices). -/
theorem witness_SettingsTooLong (l : List Byte) (h : l.length = 65536) : (Settings.mk 1 [(0, l)]).fits = false := by
  simp [Settings.fits, Settings.octets, h]

theorem witness_FlashCommands :
    (d0.gate 66 R.FWU_CMD true).isGo = true ∧ d0.b R.FWU_STATUS 30 = false ∧
    (d0.setB R.FWU_STATUS 30 true).b R.FWU_STATUS 30 = true ∧
    (∀ op ∈ [1, 2, 3, 4], (d0.setReg R.FWU_LEN 0x10000#32).fwuCheck 66 (setFld 0#32 0 4 op) = 0) ∧
    (d0.setReg R.FWU_LEN 4#32).fwuCheck 66 (setFld 0#32 0 4 3) = 2 ∧
    (∀ op ∈ [2, 3, 4], let d := { d0 with fw := { d0.fw with cmd := some (wd op, 0, 0, 0x10000) } };
      d.fw.cmd = some (wd op, 0, 0, 0x10000) ∧ fld (wd op) 0 4 = op ∧
      (({ d with fw := { d.fw with cmd := none } }.fwuResult 0 true).setB R.FWU_STATUS 30 false).fw.recov = 0) := by
  decide +kernel

/-- Serves FlashCommands: a command of Custody in range, at the top of the flash and of the store. -/
theorem witness_FlashRanges :
    (let d := ((d0.setReg R.FWU_LEN 0x10000#32).setReg R.FWU_SRC 0x1FF0000#32).setReg R.FWU_DST 0x1F0000#32;
      Req.custody.num = 66 ∧ (d.gate 66 R.FWU_CMD true).isGo = true ∧ d.b R.FWU_STATUS 30 = false ∧ d.fw.recov = 0 ∧
      (d.reg R.FWU_SRC).toNat + d.f R.FWU_LEN 0 25 = 0x2000000 ∧ (d.reg R.FWU_SRC).toNat % 65536 = 0 ∧
      d.f R.FWU_LEN 0 25 % 65536 = 0 ∧ (d.reg R.FWU_DST).toNat % 4 = 0 ∧
      (d.reg R.FWU_DST).toNat + d.f R.FWU_LEN 0 25 = 0x200000 ∧
      d.fw.weave.trial = false ∧
      (∀ op ∈ [1, 2, 3, 4], bitOf (setFld 0#32 0 4 op) 10 = false ∧ bitOf (setFld 0#32 0 4 op) 11 = false ∧
        d.fwuCheck 66 (setFld 0#32 0 4 op) = 0) ∧
      -- on trial of slot 1, a program below the CONFIRMED slot 1 and above the CONFIRMED slot 0
      (∀ c ∈ [(1, 0x0FF0000), (0, 0x1000000)], c.2 + 0x10000 ≤ c.1 * 0x1000000 ∨ (c.1 + 1) * 0x1000000 ≤ c.2)) := by decide +kernel

/-- Queue pair 3 is enabled, of 16 entries each way, with two submissions waiting. -/
def qp3 : Dev :=
  let d := d0.setReg (R.HPC_QP_CFG 3) 0x80448000#32
  d.setQp 3 { d.qp 3 with sqTail := 2, unsignalled := 1 }

/-- A datagram of stream 5 with some flags and octets. -/
def ampOf (seq flags : Nat) (body : List Byte) : AmpIn :=
  { ver := 1, stream := 5, src := 0x0A000001, port := 4000, seq := seq, ack := 0, flags := flags, window := 4, body := body }

/-- Stream 5 is open to that peer. -/
def amp5 : Dev :=
  (((d0.setReg R.ETH_CTRL 1#32).setReg (R.ETH_AMP_CTRL 5) 0x80000FA0#32).setReg (R.ETH_AMP_PEER 5 3) 0x0A000001#32).setAmp 5 1

theorem witness_HostQueues :
    d0.qpOn 3 = false ∧ qp3.qpOn 3 = true ∧ qp3.sqSize 3 = 16 ∧ qp3.cqSize 3 = 16 ∧ d0.pdRun 13 = true ∧
    ((qp3.pmcOctets 0 1 4).qpOn 3 = true ∧ (qp3.pmcOctets 0 1 4).sqSize 3 = 16 ∧ (qp3.pmcOctets 0 1 4).cqSize 3 = 16) ∧
    -- the next queue with work is the next after the last served, or the last before it
    (∀ x ∈ [(3, 0), (4, 63)], (x.1 + x.2) % 64 = 3 ∧
      ((List.range x.2).all fun j => !qp3.qpOn ((x.1 + j) % 64)) = true) ∧ (qp3.qp 3).sqHead ≠ (qp3.qp 3).sqTail ∧
    -- COAL_US: before and at its end, the vector masked (after reset) or not; no entry unsignalled
    (∀ x ∈ [(qp3, true), (qp3.setReg R.HPC_COAL 0#32, false)],
      decide (x.1.clk < (x.1.qp 3).firstAt + x.1.f R.HPC_COAL 16 16 * us) = x.2 ∧ 0 < (x.1.qp 3).unsignalled ∧
      bitOf (x.1.msixWord (4 * x.1.f (R.HPC_QP_CFG 3) 24 6 + 3)) 0 = true) ∧
    bitOf (({ qp3 with host := { qp3.host with msix := tput msixDflt [] 3 0#32 } } : Dev).msixWord 3) 0 = false ∧
    (d0.qp 3).unsignalled = 0 := by decide +kernel

/-- Serves HostQueues: a queue pair's configuration while enabled and not, with sizes at and beyond their limits; DISCARD; the link. -/
theorem witness_QueuePairs :
    (d0.gate 67 (R.HPC_QP_CFG 3) true).isGo = true ∧ d0.b (R.HPC_QP_CFG 3) 31 = false ∧ qp3.b (R.HPC_QP_CFG 3) 31 = true ∧
    ([((0x80448000 : Word), true), (0x80CCC000, true), (0x80348000, false), (0x80D48000, false), (0x80447800, false),
        (0x8044C800, false), (0x00448000, true)].all fun x =>
      (decide (4 ≤ fld x.1 20 4 ∧ fld x.1 20 4 ≤ 12) && decide (4 ≤ fld x.1 16 4 ∧ fld x.1 16 4 ≤ 12) &&
        decide (16 ≤ fld x.1 11 5 ∧ fld x.1 11 5 ≤ 24)) == x.2) = true ∧
    (d0.gate 67 R.HPC_QCMD true).isGo = true ∧ d0.pdRun 13 = true := by decide +kernel

/-- Serves HostQueues: no queue with work; a submission behind one of the AMP and not; reads that end for a transaction that stands
and one that does not; no read outstanding as the link goes down. -/
theorem witness_HostReads :
    (∀ q < 64, d0.qpOn q = false) ∧
    (let x := subOf 1 0 10; let d := { qp3 with host := { qp3.host with ampNow := [(qp3.clk, x.w)] } };
      d.qpOn 3 = true ∧ d.ampAhead ⟨x.w⟩ = true ∧ qp3.ampAhead ⟨x.w⟩ = false) ∧
    (let d := (((qp3.setB R.MSG_CTRL 0 true).emit (.read 0 64)).pmcOctets 0 1 64);
      d.canAccept ⟨[]⟩ = true ∧ (d.setB R.MSG_CTRL 0 false).canAccept ⟨[]⟩ = false) ∧ d0.host.reads.contains 9 = false ∧
    (let d := tcbs { d0 with host := { d0.host with reads := [9, 8] } } [tcb1]; d.host.reads.contains 9 = true ∧
      d.host.reads.contains 8 = true ∧
      ((d.updTcb 9 fun u => { u with fetched := true, payload := [1#8].take u.len }).tcb 9).isSome = true ∧
      (d.updTcb 8 fun u => { u with fetched := true, payload := [1#8].take u.len }).tcb 8 = none ∧
      (d.bump R.HPC_CNT_ERR).undecided 9 ≠ none ∧ (d.bump R.HPC_CNT_ERR).undecided 8 = none) ∧
    ((List.range 64).foldl (fun d q => if d.b (R.HPC_QP_CFG q) 31 then d.setB (R.HPC_QP_CFG q) 31 false else d)
      qp3).host.reads = [] := by decide +kernel

theorem witness_EthernetPeer :
    amp5.ethOn = true ∧ amp5.pdRun 14 = true ∧ amp5.tagOk (ampOf 1 0 []).tag = true ∧
    (ampOf 1 0 []).dport = amp5.f R.ETH_PORT 0 16 ∧
    (let d := amp5.pmcOctets 1 1 (amp5.ampOctets 0); d.fromPeer (ampOf 1 0 []) = true ∧
      d.fromPeer { ampOf 1 0 [] with port := 4001 } = false) ∧ (ampOf 1 0 []).ver = 1 ∧
    (ampOf 1 3 [1#8, 2#8, 3#8, 4#8]).flags.testBit 2 = false ∧
    (let d := amp5.ampAck (ampOf 1 1 [1#8]); d.ampOpen 5 = true ∧ (ampOf 1 1 [1#8]).seq = (d.stream 5).rxNext ∧
      seqBefore 0 (d.stream 5).rxNext = true ∧ seqBefore 2 (d.stream 5).rxNext = false ∧
      (ampOf 1 1 [1#8]).flags.testBit 0 = true ∧ (ampOf 1 1 [1#8]).flags.testBit 1 = false) ∧
    (let d := amp5.setStream 5 { amp5.stream 5 with rtoAt := some 0, ackAt := some 0, unacked := [⟨1, 2, 0, []⟩] };
      (d.stream 5).rtoAt = some 0 ∧ (d.stream 5).unacked = ⟨1, 2, 0, []⟩ :: [] ∧ d.ampOpen 5 = true ∧
      (d.stream 5).ackAt = some 0 ∧ (d.setReg R.ETH_AMPCFG 0#32).f R.ETH_AMPCFG 0 8 ≤ (d.stream 5).retries ∧
      (d.stream 5).retries < (d.setReg R.ETH_AMPCFG 3#32).f R.ETH_AMPCFG 0 8) ∧
    d0.host.ptp.length < 32 ∧ (List.replicate 32 ((0#32, 0#32, 0#32, 0#32) : Word × Word × Word × Word)).length = 32 ∧
    ((d0.setF R.RIMX_TOKEN 0 2 0).gate 64 R.ETH_PTPPOP true).isGo = true ∧
    -- a raw frame; one that the hardware terminates (R322)
    (let d := amp5.setReg R.ETH_RAWRX_CTL 0x00000004#32; let l : List Byte := List.replicate 60 0#8;
      d.f R.ETH_RAWRX_CTL 0 12 ≠ 0 ∧ d.tagOk (frameTag l).1 = true ∧ d.terminated l = false ∧
      d.terminated (List.replicate 12 0#8 ++ [0x88#8, 0xF7#8]) = true) ∧
    -- the segment that completes a submission
    (let d := { (amp5.setB R.MSG_CTRL 0 true).ampAck (ampOf 1 3 []) with host := { amp5.host with ethReady := true } };
      d.canAccept (ampSub []).1 = true ∧ (d.setB R.MSG_CTRL 0 false).canAccept (ampSub []).1 = false) := by decide +kernel

theorem witness_Resets :
    d0.power.inReset = false ∧ ({ d0 with power := { d0.power with inReset := true } } : Dev).power.inReset = true ∧
    (let d := d0.setF R.DEV_RSTCAUSE 0 8 3; d.f R.DEV_RSTCAUSE 0 8 ≤ 4 ∧ 2 < d.f R.DEV_RSTCAUSE 0 8) := by decide +kernel

theorem witness_Supply :
    d0.b R.SUP_STATUS 27 = false ∧ d0.sup.freqAt = none ∧ d0.b R.SUP_STATUS 25 = false ∧
    10 ≤ ({ d0 with sup := { d0.sup with freqBad := 10 } } : Dev).sup.freqBad ∧
    (let d := { d0.setB R.SUP_RTSTAT 31 true with sup := { d0.sup with okSince := some 0, avsSent := some 0 }, clk := 10 ^ 10 };
      d.sup.okSince = some 0 ∧ d.b R.SUP_RTSTAT 31 = true ∧ d.b R.SUP_RTSTAT 29 = false ∧
      0 + d.f R.SUP_RTRECOV 0 16 * ms ≤ d.clk ∧ d.sup.avsSent = some 0 ∧ 0 + 100 * us ≤ d.clk) ∧
    (d0.gate 66 R.SUP_EVPOP true).isGo = true ∧
    (d0.setB R.SUP_AVS 30 true).b R.SUP_AVS 30 = true := by
  decide +kernel

/-- Domain `n` is in Prepare, voter `v` asked. -/
def preparing (d : Dev) (n v : Nat) : Dev :=
  { (d.setReg (R.PWR_PD_VOTES n) 0#32).setB (R.PWR_PD_STAT n) 30 true with power := { d.power with prep := tput pairDflt d.power.prep n (v, 1) }, clk := 10 ^ 10 }

theorem witness_PowerDomains :
    (d0.gate 66 (R.PWR_PD_SWV 12) true).isGo = true ∧ (d0.gate 66 (R.PWR_PD_SWV 63) true).isGo = true ∧
    swvBit 66 = some 31 ∧ swvBit 67 = none ∧
    (let d := preparing d0 11 0; d.pdPrep 11 = true ∧ (tget pairDflt d.power.prep 11).1 = 0 ∧ d.voterAnswer 11 0 = none ∧
      d.reg (R.PWR_PD_VOTES 11) = 0#32 ∧ d0.reg (R.PWR_PD_VOTES 11) ≠ 0#32 ∧ hwVoters 11 ≤ 0 + 1 ∧ 0 + 1 < hwVoters 2 ∧
      1 + d.f R.PWR_PREPTMO 0 16 * us ≤ d.clk) ∧
    (let d := preparing { d0 with msg := { d0.msg with reasm := [{ node := 1, tag := 2, size := 3, pool := 0, blocks := 1, cls := 0, flow := 0, linkq := 0, last := 0 }] } } 5 0;
      (d.voterAnswer 5 0).isSome = true) ∧
    (let d := { d0.setB (R.PWR_PD_STAT 12) 29 true with
        power := { d0.power with refuser := tput zeroDflt d0.power.refuser 12 1 } };
      d.b (R.PWR_PD_STAT 12) 29 = true ∧ d.pdPrep 12 = false ∧ tget zeroDflt d.power.refuser 12 = 0 + 1 ∧
      d.voterAnswer 12 0 = none) ∧
    (let d := { d0.setB (R.PWR_PD_STAT 12) 31 false with
        power := { d0.power with entry := tput zeroDflt d0.power.entry 12 1 } };
      tget zeroDflt d.power.entry 12 ≠ 0 ∧ d.pdRun 12 = false ∧
      (((({ d with power := { d.power with entry := tdel 12 d.power.entry } }.clearRegs 12).setB (R.PWR_PD_STAT 12) 31
        true).enterRun 12 false).ringsStart 12).reg (R.PWR_PD_VOTES 12) ≠ 0#32) := by decide +kernel

/-- Serves PowerDomains: a domain that no vote holds as its Run entry ends. -/
theorem witness_RunEntries :
    (let d := { (d0.setReg (R.PWR_PD_VOTES 12) 0#32).setB (R.PWR_PD_STAT 12) 31 false with
        power := { d0.power with entry := tput zeroDflt d0.power.entry 12 1 } };
      tget zeroDflt d.power.entry 12 ≠ 0 ∧ d.pdRun 12 = false ∧
      (((({ d with power := { d.power with entry := tdel 12 d.power.entry } }.clearRegs 12).setB (R.PWR_PD_STAT 12) 31
        true).enterRun 12 false).ringsStart 12).reg (R.PWR_PD_VOTES 12) = 0#32) := by decide +kernel

theorem witness_Margin :
    d0.pdRun (ringPd 0) = true ∧ d0.pdRun (ringPd 95) = true ∧
    (d0.ring 95).began + 65535 ≤ ({ d0 with clk := 65535 } : Dev).clk ∧
    d0.mgn.onTicks < (d0.mgn.week + 1) * 96768000000000 ∧
    (let d := { d0 with mgn := { d0.mgn with onTicks := 96768000000000 } };
      (d.mgn.week + 1) * 96768000000000 ≤ d.mgn.onTicks) ∧
    (let d := { (d0.setB R.SUP_AVS 28 true).setB R.MGN_FLOOR 0 true with
        mgn := { d0.mgn with highSince := some 0 }, clk := 255 * 160000000 };
      d.mgn.highSince = some 0 ∧ 0 + max 1 (d.f R.MGN_POLICY 0 8) * 160000000 ≤ d.clk ∧ d.mgn.noLower ≤ d.clk ∧
      d.vmin + 5 ≤ d.setpoint ∧ d.stepBarred = false) := by decide +kernel

theorem witness_RealTimeClock :
    (d0.gate 66 R.RTC_FRAC false).isGo = true ∧ (d0.gate 66 R.RTC_SETSEC_HI true).isGo = true ∧
    (d0.gate 66 R.RTC_SHIFT true).isGo = true ∧ d0.rtcSync.rtc.shiftAt ≠ some d0.clk ∧ d0.rtc.setAt ≠ some d0.clk ∧
    -- a shift with no seconds write waiting for its crystal cycle, and with one
    ((d0.setF R.RTC_STATUS 28 3 0).rtcSync).rtc.setTo = none ∧
    (({ d0 with rtc := { d0.rtc with setTo := some (1, 0, 0) } }.setF R.RTC_STATUS 28 3 0).rtcSync).rtc.setTo = some (1, 0, 0) ∧
    (let d := d0.setB R.RTC_STATUS 31 false; d.b R.RTC_STATUS 31 = false ∧ d.b R.RTC_CTRL 0 = false) ∧
    (d0.setB R.RTC_CTRL 0 true).b R.RTC_CTRL 0 = true ∧
    sfld (16384#32 : Word) 0 17 = 16384 ∧ sfld (16385#32 : Word) 0 17 = 16385 ∧ sfld (0x1C000#32 : Word) 0 17 = -16384 ∧
    ((d0.setB R.RTC_STATUS 31 true).rtcSync.b R.RTC_STATUS 31 = true ∧ (d0.setB R.RTC_STATUS 31 true).rtcSync.rtc.hold = 0 ∧
      (d0.setB R.RTC_STATUS 31 true).rtcSync.rtc.setTo = none) ∧
    (let d := { d0.setB R.RTC_STATUS 31 true with rtc := { d0.rtc with hold := 5 } }; d.rtcSync.rtc.hold ≠ 0 ∧
      d.rtcSync.b R.RTC_STATUS 31 = true) ∧
    (let d := { d0 with clk := 10 ^ 11 }; d.xtalFail = false ∧ d.rtc.winAt + 2 ^ 20 ≤ d.xtal) := by decide +kernel

theorem witness_Timers :
    (d0.gate 66 (R.TMR_CTL 31) true).isGo = true ∧ bitOf (0x80000000#32 : Word) 31 = true ∧
    bitOf ((d0.tmrSync 31).reg (R.TMR_CTL 31)) 31 = false ∧
    bitOf (((d0.setReg (R.TMR_CTL 31) 0x80000000#32).tmrSync 31).reg (R.TMR_CTL 31)) 31 = true ∧
    (∀ x ∈ [((some 0 : Option Nat), (none : Option Nat)), (none, some 0)],
      let d := ((d0.setReg (R.TMR_CTL 0) 0x90000000#32).setTimer 0 { d0.timer 0 with advAt := x.1, wrAt := x.2 }).tmrSync 0;
      d.pdRun 3 = true ∧ d.b (R.TMR_CTL 0) 28 = true ∧ ((d.timer 0).advAt = some d.clk ∨ (d.timer 0).wrAt = some d.clk) ∧
      (d.timer 0).count = d.tmrCmp 0) ∧
    (∀ div ∈ [0, 1], let d := ((tb1.setReg (R.TMR_CTL 2) 0x80004000#32).setF (R.TMR_CTL 2) 12 2 div).setF (R.PIO_GP_CFG 0) 0 4 1;
      d.tmrRuns 2 = true ∧ bitOf (d.reg (R.TMR_CTL 2)) 11 = false ∧ bitOf (d.reg (R.TMR_CTL 2)) 14 = true ∧
      d.f (R.PIO_GP_CFG (fld (d.reg (R.TMR_CTL 2)) 0 3)) 0 4 = 1 ∧
      (((d.tmrSync 2).timer 2).edges + 1) % 2 ^ d.f (R.TMR_CTL 2) 12 2 = div) ∧
    (d0.gate 64 R.TMR_SNAPCMD true).isGo = true ∧ (d0.gate 64 (R.TMR_CAP_LO 31) false).isGo = true := by decide +kernel

theorem witness_EventFabric :
    d0.pdRun 3 = true ∧
    (let d := { d0 with skein := { d0.skein with held := tput falseDflt d0.skein.held 255 true } };
      tget falseDflt d.skein.held 255 = true ∧ tget falseDflt d0.skein.held 255 = false) ∧
    (let d := { d0 with skein := { d0.skein with filt := tput zeroDflt d0.skein.filt 31 4 }, clk := 4 };
      tget zeroDflt d.skein.filt 31 ≠ 0 ∧ tget zeroDflt d.skein.filt 31 ≤ d.clk) ∧
    (d0.gate 64 R.EVR_LATCHCLR true).isGo = true ∧
    (let d := d0.setF (R.PMC_CFG 63) 0 3 2; d.f (R.PMC_CFG 63) 0 3 = 2 ∧ d.count % 2 ^ d.pmcK 63 = 0 ∧
      d.b R.PMC_CTRL 0 = false ∧ tget zeroDflt d.skein.wins 63 ≠ d.count + 1) ∧
    (let d := { d0 with skein := { d0.skein with due := tput zeroDflt d0.skein.due 63 9 } };
      tget zeroDflt d.skein.due 63 ≠ 0 ∧ d.b (R.PMC_SAMP 63) 31 = false) ∧
    (d0.gate 66 (R.PMC_CFG 63) true).isGo = true ∧ (d0.gate 66 (R.PMC_CNT_LO 63) false).isGo = true := by decide +kernel

/-- MRAM holds a first copy of the tag configuration record: generation 1, TAG_EN = 1, WP = 2, and its CRC-32. -/
def tagRec : Dev :=
  { d0 with mem := [(caCfgAt 0, 1#8), (caCfgAt 0 + 4, 1#8), (caCfgAt 0 + 6, 2#8), (caCfgAt 0 + 28, 0x53#8),
    (caCfgAt 0 + 29, 0x26#8), (caCfgAt 0 + 30, 0xB0#8), (caCfgAt 0 + 31, 0x2E#8)] }

/-- MRAM holds a first copy of the selector: generation 7, STATE 1, page 3, and its CRC-32. -/
def selRec : Dev :=
  { d0 with mem := [(caSelAt 0, 7#8), (caSelAt 0 + 4, 1#8), (caSelAt 0 + 5, 3#8), (caSelAt 0 + 28, 0xA0#8),
    (caSelAt 0 + 29, 0xD8#8), (caSelAt 0 + 30, 0xB9#8), (caSelAt 0 + 31, 0x73#8)] }

/-- The two records' CRC-32 hold (R122), and an erased second copy's does not. -/
theorem crc_records :
    crc32 (natBytes 4 1 ++ fit 24 [1#8, 0#8, 2#8]) = 0x2EB02653#32 ∧ crc32 (natBytes 4 7 ++ fit 24 [1#8, 3#8]) = 0x73B9D8A0#32 ∧
    crc32 (List.replicate 28 0#8) ≠ 0#32 := by decide +kernel

theorem read_records :
    tagRec.rdBytes (caCfgAt 0) 28 = natBytes 4 1 ++ fit 24 [1#8, 0#8, 2#8] ∧
    tagRec.rd32 (caCfgAt 0 + 28) = 0x2EB02653#32 ∧ tagRec.rdBytes (caCfgAt 0 + 32) 28 = List.replicate 28 0#8 ∧
    tagRec.rd32 (caCfgAt 0 + 32 + 28) = 0#32 ∧
    selRec.rdBytes (caSelAt 0) 28 = natBytes 4 7 ++ fit 24 [1#8, 3#8] ∧
    selRec.rd32 (caSelAt 0 + 28) = 0x73B9D8A0#32 ∧ selRec.rdBytes (caSelAt 0 + 32) 28 = List.replicate 28 0#8 ∧
    selRec.rd32 (caSelAt 0 + 32 + 28) = 0#32 := by decide +kernel

theorem valid_records :
    tagRec.newestCopy (caCfgAt 0) = some 0 ∧ selRec.newestCopy (caSelAt 0) = some 0 := by
  obtain ⟨c1, c2, c3⟩ := crc_records
  obtain ⟨h1, h2, h3, h4, h5, h6, h7, h8⟩ := read_records
  have z : (crc32 (List.replicate 28 0#8) == 0#32) = false := by
    rw [beq_eq_false_iff_ne]; exact c3
  constructor
  · unfold Dev.newestCopy Dev.newestAt Dev.recValid
    simp only [Nat.mul_zero, Nat.mul_one, Nat.add_zero, Nat.reduceSub, h1, h2, h3, h4, c1, z]; rfl
  · unfold Dev.newestCopy Dev.newestAt Dev.recValid
    simp only [Nat.mul_zero, Nat.mul_one, Nat.add_zero, Nat.reduceSub, h5, h6, h7, h8, c2, z]; rfl

theorem values_records : tagRec.tagCfg = (true, 2) ∧ selRec.caSel = (7, 1, 3) := by
  unfold Dev.tagCfg Dev.caSel
  rw [valid_records.1, valid_records.2]
  decide +kernel

/-- The tag front end in state `st`, in a field, WP = 2. -/
def tag (st : Nat) : Dev :=
  let d := d0
  d.setClp { d.clp with field := true, st := st, wp := 2, uid := [8#8, 1#8, 2#8, 3#8] }

theorem witness_TagActivation :
    tagRec.clp.field = false ∧ tagRec.rdField = false ∧ selRec.clp.firstDone = false ∧ selRec.clp.wrs = [] ∧
    -- the field lost with no tag write in progress, and within its fifth step
    (tag 5).clp.wrs = [] ∧ ({ tag := true } : CaWr).step (4200 * us) ≠ 0 ∧ ({ tag := true } : CaWr).step (8000 * us) = 0 ∧
    -- the reader's own field; a tag that its configuration disables
    (d0.setB R.CLP_RDSTAT 31 true).rdField = true ∧ d0.tagCfg.1 = false ∧
    (tag 1).clp.field = true ∧ (tag 1).clp.lockout = false ∧ (∀ st ∈ [1, 2, 3, 4, 5], (tag st).clp.st = st) ∧
    (let d := (tag 1).setClp { (tag 1).clp with lockout := true, field := false }; let e := { d with clk := 100 * ms };
      d.clp.lockout = true ∧ e.clp.field = false ∧ e.clp.fieldLost + 100 * ms ≤ e.clk) ∧
    (airBits ((tag 2).clp.uid ++ [bcc (tag 2).clp.uid])).take [false, false, false, true].length =
      [false, false, false, true] ∧
    (let d := (tag 5).setClp { (tag 5).clp with chain := [[2#8]] }; d.clp.chain = [2#8] :: []) := by decide +kernel

/-- Serves TagActivation: an S(WTX) that waits for its answer, a tag that has chosen (RATS), and the first access with and without a
shadow page in force. -/
theorem witness_FirstAccess :
    (let d := (tag 5).setClp { (tag 5).clp with wtx := [12, 12] }; d.clp.wtx = 12 :: [12] ∧ d.clp.lockout = false ∧ d.clp.st = 5) ∧
    (d0.setClp { d0.clp with firstDone := true }).clp.firstDone = true ∧ d0.clp.firstDone = false ∧ d0.caSel.2.1 ≠ 1 := by
  decide +kernel

/-- An open session, authenticated to degree `n`. -/
def session (n : Nat) : Dev := (tag 5).setClp { (tag 5).clp with authed := n }

/-! Whether AUTH2's message is right, and to what an authenticated tag's message opens, rest on `Config.aesBlock`, which has no
body: both are hypotheses on its value alone. Some message of every length opens. -/

theorem ccmOpen_own_mic (key nonce a c : List Byte) (n : Nat) :
    ccmOpen key nonce 5 n a (c ++ ccmMic key nonce a (ccmCrypt key nonce c) n) = (ccmCrypt key nonce c, true) := by
  have h : (ccmMic key nonce a (ccmCrypt key nonce c) n).length = n := by
    simp only [ccmMic, fit, List.length_take, List.length_append, List.length_replicate]; omega
  simp only [ccmOpen, List.length_append, h, Nat.add_sub_cancel, List.take_left', List.drop_left', beq_self_eq_true,
    Nat.reduceLeDiff, if_true]

theorem witness_TagCommands :
    (session 0).clp.lockout = false ∧ (session 0).clp.st = 5 ∧ (session 0).clp.authed ≠ 2 ∧ (session 1).clp.authed = 1 ∧
    (session 2).clp.authed = 2 ∧ (List.replicate 18 0#8).length = 18 ∧ (session 0).clp.part = [] ∧
    -- the longest block taken, and one octet more
    (0x20#8 :: List.replicate 60 0#8 : List Byte).length = 61 ∧ 61 < (0x20#8 :: List.replicate 61 0#8 : List Byte).length ∧
    (((session 1).setSlotState 0 1).wr8 (slotAddr 0 + 2) 0x10#8).authSlot 0 = true ∧ (session 1).authSlot 0 = false ∧
    (let m : List Byte := natBytes 2 4095 ++ natBytes 2 1; m.length = 4 ∧ leNat (m.take 2) + leNat ((m.drop 2).take 2) = 4096) ∧
    (let m : List Byte := natBytes 2 511 ++ natBytes 2 1 ++ [9#8];
      (m.drop 4).length = leNat ((m.drop 2).take 2) ∧ caOnePage (leNat (m.take 2)) 1 = true ∧
      (session 2).clp.wp.testBit (leNat (m.take 2) / 256) = true ∧
      (session 2).clp.wp.testBit ((leNat (m.take 2) + 1) / 256) = false) ∧ caOnePage 511 2 = false ∧
    (0x70#8 : Byte) ∉ [0x10#8, 0x20#8, 0x21#8, 0x30#8, 0x40#8, 0x50#8, 0x60#8] ∧
    (up (session 2) .custody).rimRuns = true := by decide +kernel

/-- Serves TagCommands: a write of the last octet of page 1 that succeeds, at once and after programming again, one that fails, and
Rim running or not. -/
theorem witness_TagWrites :
    (∀ x ∈ [(0, true), (1, true), (2, false)],
      let c := { (session 2).clp with wp := 0 }; let d := ((session 2).setClp c).caFirst false;
      let e := d.askWtx (writeAsks ((d.caFree - d.clk) / us) 0 x.1); let l : List Byte := [9#8];
      l.length = 1 ∧ caOnePage 511 1 = true ∧ c.wp.testBit (511 / 256) = false ∧
      ((e.caTurn true (511 / 256) (e.caPage 511 l) x.1).2 == 0) = x.2 ∧
      (e.caTurn true (511 / 256) (e.caPage 511 l) x.1).1.rimRuns = false) ∧
    (let d := (up ((session 2).setClp { (session 2).clp with wp := 0 }) .custody).caFirst false;
      let e := d.askWtx (writeAsks 0 0 0);
      (e.caTurn true 1 (e.caPage 511 [9#8]) 0).2 = 0 ∧ (e.caTurn true 1 (e.caPage 511 [9#8]) 0).1.rimRuns = true) ∧
    2 ≤ ((session 0).setClp { (session 0).clp with fails := 2 }).clp.fails := by decide +kernel

/-- The reader is enabled, with one command block of operation `op` for tag `t`. -/
def reader (op t : Nat) : Dev :=
  let d := (d0.setReg R.CLP_RDCTRL 0xC0000002#32).setF R.CLP_RDCAP 0 16 1000
  d.setClp { d.clp with rdCmds := [[BitVec.ofNat 8 op, BitVec.ofNat 8 t]], rdTags := [[8#8, 1#8, 2#8, 3#8]] }

/-- With the reader's field on. -/
def fieldOn (d : Dev) : Dev := d.setB R.CLP_RDSTAT 31 true

theorem witness_Reader :
    (reader 1 0).rdEnabled = true ∧ (reader 1 0).b R.CLP_RDCTRL 30 = true ∧ (reader 1 0).rdField = false ∧
    (reader 1 0).clp.nextMeas ≤ (reader 1 0).clk ∧
    (∀ x ∈ [(1011, true), (1010, false), (990, false), (989, true)],
      let d := (((reader 1 0).setF R.CLP_RDWAKE 16 16 10).setClp { (reader 1 0).clp with nextMeas := 5 }).setF R.CLP_RDCAP 16
        16 x.1;
      decide (d.f R.CLP_RDWAKE 16 16 < ((x.1 : Int) - (reader 1 0).f R.CLP_RDCAP 0 16).natAbs) = x.2) ∧
    (∀ op ∈ [1, 2, 3, 4], (reader op 0).rdFront op = some (0, [])) ∧ (fieldOn (reader 1 0)).rdField = true ∧
    (fieldOn (reader 1 0)).clp.rdActive = none ∧ (reader 1 0).clp.rdWake = false ∧
    ([[8#8, 1#8, 2#8, 3#8], [8#8, 0#8, 2#8, 3#8], [8#8, 9#8, 9#8, 9#8]].foldl (fun l u => walkInsert u l) []).length = 3 ∧
    max 1 ((reader 1 0).f R.CLP_RDCTRL 0 8) = 2 ∧
    (reader 2 0).clp.rdTags.length = 1 ∧
    (let d := (reader 2 0).setClp { (reader 2 0).clp with rdActive := some 0, rdWait := some 0 };
      d.clp.rdActive = some 0 ∧ d.clp.rdWait = some 0 ∧ 0 ≤ d.clk ∧ d.clp.rdNaks = 0) ∧ (reader 4 0).pdRun 15 = true ∧
    (let d := { (reader 1 0).setB R.CLP_RDSTAT 30 true with clk := 5 * ms }; d.b R.CLP_RDSTAT 30 = true ∧
      d.clp.field = false ∧ d.clp.fieldLost + 5 * ms ≤ d.clk ∧ d.rdEnabled = true) ∧
    (d0.gate 66 R.CLP_TAGCFG true).isGo = true := by decide +kernel

/-- Serves Reader: the field comes on, or an external field defers it; a poll of a measurement at 5 ms and before; the commands'
tags; an S(WTX) within the limits and beyond each. -/
theorem witness_Polls :
    (reader 1 0).rdOn.2 = true ∧ ((reader 1 0).setClp { (reader 1 0).clp with field := true }).rdOn.2 = false ∧
    (∀ x ∈ [(5 * ms, false), (5 * ms - 1, true)],
      let d := { (fieldOn (reader 1 0)).setClp { (reader 1 0).clp with rdWake := true } with clk := x.1 };
      d.rdOn.2 = true ∧ d.clp.rdWake = true ∧ decide (d.rdOn.1.clk < d.rdOn.1.clp.rdOnAt + 5 * ms) = x.2) ∧
    -- one tag of the two that the reader may find, and two
    (∀ x ∈ [([[8#8, 1#8, 2#8, 3#8]], 1), ([[8#8, 1#8, 2#8, 3#8], [8#8, 0#8, 2#8, 3#8], [8#8, 9#8, 9#8, 9#8]], 2)],
      ((x.1.foldl (fun l u => walkInsert u l) []).take
        (max 1 ((reader 1 0).rdOn.1.rdPopCmd.f R.CLP_RDCTRL 0 8))).length = x.2) ∧
    -- an exchange with the tag activated before, activated now, and not found
    (∀ t ∈ [0, 1], let d := (reader 2 t).rdOn.1.rdPopCmd; (reader 2 t).rdFront 2 = some (t, []) ∧
      decide (d.clp.rdTags.length ≤ t) = (t == 1) ∧ d.clp.rdRats.contains t = false) ∧
    ((reader 2 0).setClp { (reader 2 0).clp with rdRats := [0] }).rdOn.1.rdPopCmd.clp.rdRats.contains 0 = true ∧
    -- WTXMAX 1 and EXMAX 1 ms
    (let d := (reader 2 0).setReg R.CLP_RDTMO 0x00010100#32; let c := { d.clp with rdActive := some 0 };
      c.rdWtx < d.f R.CLP_RDTMO 8 8 ∧ ¬ 1 < d.f R.CLP_RDTMO 8 8 ∧ d.clk + ms ≤ c.rdWaitFrom + d.f R.CLP_RDTMO 16 16 * ms ∧
      c.rdWaitFrom + d.f R.CLP_RDTMO 16 16 * ms < d.clk + (ms + 1)) := by decide +kernel

theorem witness_TestAccess :
    d0.pdRun 7 = true ∧ pinOpcode 0x20 = false ∧
    (∀ ir ∈ [5, 6, 0x20], let d : Dev := { d0 with tap := { d0.tap with ir := ir, tlr := false } };
      d.tap.ir = ir ∧ d.tap.tlr = false) ∧
    (d0.setB R.TST_DBGCTL 0 false).b R.TST_DBGCTL 0 = false ∧ ((d0.setB R.TST_DBGCTL 0 true).b R.TST_DBGCTL 0 = true) ∧
    (d0.setB R.TST_DBGCTL 0 true).gate 68 0xFFFFFC true = .unassigned ∧
    ((d0.setB R.TST_DBGCTL 0 true).gate 68 R.DEV_ID false).isGo = true ∧ R.DEV_ID % 4 = 0 := by decide +kernel

/-- The TAP selects DBG, access to half A's processors is enabled, and its Main Processor is `r`. -/
def dbg (r : Run) : Dev :=
  let d := (d0.setB R.TST_DBGCTL 1 true).setCpu 64 { d0.cpu 64 with run := r }
  { d with tap := { d.tap with ir := 0x21 } }

theorem witness_DebugAccess :
    (dbg .running).pdRun 7 = true ∧ (dbg .running).tap.ir = 0x21 ∧ (dbg .running).b R.TST_DBGCTL 1 = true ∧
    (d0.setB R.TST_DBGCTL 1 false).b R.TST_DBGCTL 1 = false ∧ ((dbg .running).cpu 64).run ≠ .halted ∧ ((dbg .running).cpu 64).run = .running ∧
    ((dbg .halted).cpu 64).run = .halted ∧ (mtcMask (32 - 32)).isSome = true ∧
    ((dbg .halted).place (dbgProc 0) true 0x1000#32 4 kLoad).toOption = some (.mem (sramBase 0 + 0x1000)) ∧
    ((dbg .halted).place (dbgProc 0) true 0x1000#32 4 kStore).toOption = some (.mem (sramBase 0 + 0x1000)) ∧
    (dbg .halted).eccBad (sramBase 0 + 0x1000) 4 = false := by
  refine ⟨?_, ?_, ?_, ?_, ?_, ?_, ?_, ?_, ?_, ?_, ?_⟩ <;> decide +kernel

theorem witness_RegisterAccess :
    d0.gate 64 0xB0240 true = .undefined ∧ (d0.gate 66 R.TMR_SNAPCMD true).isGo = true ∧
    (d0.setB (R.PWR_PD_STAT 3) 31 false).gate 66 R.TMR_SNAPCMD true = .stopped ∧
    d0.gate 67 R.PWR_PREPTMO true = .denied ∧ d0.lockedAt R.PWR_PREPTMO = false ∧
    (d0.setB (R.PWR_PD_STAT 3) 30 true).gate 66 R.TMR_SNAPCMD true = .waits ∧
    d0.gate 67 0xFFFFFC false = .unassigned ∧ (d0.gate 67 R.DEV_ID false).isGo = true ∧
    (d0.gate 66 (lockOff (.channel 255)) true).isGo = true ∧ (d0.gate 66 (lockOff (.cell 31)) true).isGo = true := by
  decide +kernel

/-- Serves TestAccess: CSACC to no register, a read of one and a write of a pin's configuration; the domain in Stop. -/
theorem witness_CrossAccess :
    (let d : Dev := { d0.setB R.TST_DBGCTL 0 true with tap := { d0.tap with ir := 0x20, tlr := false } };
      d.tap.ir = 0x20 ∧ d.b R.TST_DBGCTL 0 = true ∧ d.gate 68 (0xFFFFFC#24).toNat false = .unassigned ∧
      (d.gate 68 (0x000000#24).toNat false).isGo = true ∧ (d.gate 68 (0xB00000#24).toNat true).isGo = true) ∧
    (d0.setB (R.PWR_PD_STAT 7) 31 false).pdRun 7 = false := by decide +kernel

/-- Serves RegisterAccess: the host's accesses of the MSI-X table in BAR2, at its first and last word, with nothing pending there. -/
theorem witness_Bar2 :
    Req.host.num = 67 ∧ d0.pdRun 13 = true ∧ (d0.pmcOctets 0 1 4).host.msixPend.contains 63 = false ∧
    (∀ i ∈ [0, 255], (BitVec.ofNat 26 (0x2001000 + 4 * i)).toNat = 0x2001000 + 4 * i ∧ i / 4 ≤ 63) ∧
    0x2000000 ≤ 0x2001FFC ∧ 0x2001FFC < 0x2002000 ∧ 0x2001FFC % 4 = 0 := by decide +kernel

/-- Serves RegisterAccess: a gate command whose domain is in Stop, of a Main Processor and of another requester; a locked event
register; the host's reads. -/
theorem witness_Refusals :
    gateCmdUnit (R.GU_ARMCMD 5) = some 5 ∧
    (let d := d0.setB (R.PWR_PD_STAT (pdOf (R.GU_ARMCMD 5))) 31 false;
      d.gate 64 (R.GU_ARMCMD 5) true = .stopped ∧ gateCmdUnit R.TMR_SNAPCMD = none) ∧
    (let d := d0.setB (R.EVR_CH_CFG 0) 30 true; d.gate 64 (R.EVR_CH_CFG 0) true = .denied ∧ d.lockedAt (R.EVR_CH_CFG 0) = true ∧
      0xB0000 ≤ R.EVR_CH_CFG 0 ∧ R.EVR_CH_CFG 0 < 0xC0000) ∧
    d0.gate 67 0xB0240 false = .undefined ∧ 0xB0240 % 4 = 0 ∧
    (d0.setB (R.PWR_PD_STAT 3) 31 false).gate 67 (R.TMR_CTL 0) false = .stopped ∧ R.TMR_CTL 0 % 4 = 0 := by decide +kernel

/-! ## Ill-formed commands are refused, one for each check -/

/-- Measures of a frame. -/
def rx0 : RxEnd := { phr := 4#16, phrOk := true, onAir := List.replicate 4 0#8, m := m0, chain := [] }

/-- A received trunk frame. -/
def trunk0 : TrunkRx :=
  { header := 0#40, crc8 := 0#8, scrambled := List.replicate 5 0#8, soundings := [], m := m0, energyA := 0, energyB := 0, startAgo := 0 }

/-- A received copy, and an AMP datagram. -/
def copy0 : FrameIn :=
  { path := .lane 0, half := .a, source := .short 1, fc := 8, header := [], payload := [], lqw0 := 0#32, lqw1 := 0#32
    rxCount := 0, rxWord2 := 0#32, csl := none, ended := 0, ackReq := false, fsk := true }
def amp0 : AmpIn := { ver := 1, stream := 5, src := 1, port := 1, seq := 1, ack := 0, flags := 0, window := 1, body := [] }

theorem test_wellFormed_lanes :
    (∀ i ∈ [Instr.rxc 16 0 32767, .trn 16 15 (-32768), .calibrationEnd 16 0 (-128) [0#32, 0#32, 0#32, 0#32],
      .receivedFrameEnd (.lane 15) { rx0 with phr := 0xFFFF#16, onAir := List.replicate 2047 0#8 } 0, .acrCalEnd .s 0 32767,
      .receivedFrameEnd (.lane 15) { rx0 with phr := 0xFFFF#16, onAir := List.replicate 127 0#8, chain := [⟨32767, -32768⟩] } 0,
      .sfdFound (.lane 0) (.fsk 0#16) (2 ^ 32 - 1), .acrskCfg (.mp .a) .w 15 0#32, .pathSettled .s 127 0,
      .detectionGivenUp (.lane 0) (List.replicate 8 256), .overrangedSample .s 0 ⟨-8192, 8191⟩], i.wellFormed = true) ∧
    (∀ i ∈ [Instr.rxc 0 0 32768, .trn 16 15 (-32769), .calibrationEnd 16 0 128 [0#32, 0#32, 0#32, 0#32],
      .calibrationEnd 16 0 0 [0#32], .receivedFrameEnd (.lane 15) { rx0 with onAir := [] } 0,
      .receivedFrameEnd (.lane 0) { rx0 with chain := [⟨32769, 0⟩] } 0, .receivedFrameEnd (.lane 0) rx0 32768,
      .acrCalEnd .s 0 32768, .sfdFound (.lane 0) (.fsk 0#16) (2 ^ 32), .acrskCfg (.mp .a) .w 16 0#32, .swap (.mp .a) .w 16 0,
      .crossFadeEnd .w 127, .acrskPdly (.mp .a) .w 16 0#32, .pathSettled .w 16 0, .detectionGivenUp (.lane 0) [],
      .detectionGivenUp (.lane 0) (List.replicate 8 257), .overrangedSample .s 0 ⟨0, -8193⟩], i.wellFormed = false) := by
  decide +kernel

theorem test_wellFormed_links :
    (∀ i ∈ [Instr.trunkFrameEnd { trunk0 with header := 1#40, soundings := [List.replicate 48 (-1)] } 0, .asbTxStart [⟨15, 255, [1#8]⟩],
      .asbFrameComplete (.own true false), .nodeTableWrite (.mp .a) 0x1FFFFC 4 0#32, .frameCopy copy0,
      .sendNode 0 (List.replicate 16 0#32) [], .submissionFetch (List.replicate 16 0#32), .ampOpen amp0,
      .ptpEventMessage true 0 0 (2 ^ 32 - 1)], i.wellFormed = true) ∧
    (∀ i ∈ [Instr.trunkFrameEnd { trunk0 with header := 0x100#40 } 0, .trunkFrameEnd { trunk0 with scrambled := [] } 0,
      .trunkFrameEnd { trunk0 with header := 1#40, soundings := [[1]] } 0, .trunkFrameEnd trunk0 32768, .asbTxStart [⟨16, 0, []⟩],
      .asbFrameComplete (.other 256 ⟨0, 0, []⟩ 0), .asbFrameComplete (.other 0 ⟨0, 0, List.replicate 17 0#8⟩ 0),
      .nodeTableWrite (.mp .a) 0x200000 4 0#32, .nodeTableWrite (.mp .a) 2 4 0#32, .nodeTableWrite (.mp .a) 0 3 0#32,
      .frameCopy { copy0 with fc := 2 ^ 32 }, .frameCopy { copy0 with source := .short 65536 }, .sendNode 0 [] [],
      .sendGroup 0 [] [], .liftFence 0 [] [], .submissionFetch [], .ampOpen { amp0 with ver := 256 },
      .ampSubmit { amp0 with seq := 2 ^ 32 }, .ampAck { amp0 with window := 256 }, .ptpEventMessage true 0 0 (2 ^ 32)],
      i.wellFormed = false) := by decide +kernel

theorem test_wellFormed_ports :
    (∀ i ∈ [Instr.rimSealInstall 0 ⟨1, 1, List.replicate 17 {}⟩, .sentinelBurst 0 65535 1023 127,
      .anticollision (List.replicate 40 false), .select [8#8, 0#8, 0#8, 0#8, 8#8], .poll [[8#8, 0#8, 0#8, 0#8]],
      .updateIr 2 (List.replicate 140 false)], i.wellFormed = true) ∧
    (∀ i ∈ [Instr.rimSealInstall 0 ⟨1, 1, []⟩, .sentinelBurst 0 0 0 0, .sentinelBurst 0 1 1024 0, .sentinelBurst 0 1 0 128,
      .anticollision (List.replicate 41 false), .select [], .poll [[8#8]], .updateIr 2 []], i.wellFormed = false) := by
  decide +kernel

/-! ## Values worked in the manual -/

/-- Chapter 3, "a call on an engine": CALLM with displacement 99 and mask 0x000F at 0x0418, g31 at 0x0001_3F00. -/
def call0 : Dev :=
  let d := withReg (withReg (up d0 (.eng 0)) (.eng 0) 31 0x13F00#32) (.eng 0) 17 0x17#32
  d.setCpu 0 { withReg d (.eng 0) 14 0x14#32 |>.cpu 0 with pc := 0x418#32 }

theorem test_callm_example :
    (let d := call0.issue (.eng 0) (callmBody (.eng 0) 99#10 0xF#16);
      (d.cpu 0).pc = 0xA40#32 ∧ (d.cpu 0).get 30 = 0x13EF4#32 ∧ (d.cpu 0).get 31 = 0x13EE4#32 ∧
      d.rd32 (engBase 0 + 0x4000 + 0x3EFC) = 0x41C#32 ∧ d.rd32 (engBase 0 + 0x4000 + 0x3EF8) = 0xA500000F#32 ∧
      d.rd32 (engBase 0 + 0x4000 + 0x3EF0) = 0x17#32 ∧ d.rd32 (engBase 0 + 0x4000 + 0x3EE4) = 0x14#32) := by decide +kernel

/-- Chapter 3, the worked encodings. -/
theorem test_worked_words :
    decodeWale (.eng 0) 0x04A63C00#32 = some (.add (.eng 0) 5 6 7 true) ∧
    decodeWale .custody 0x246440C0#32 = some (.extu .custody 3 4 8 3) ∧
    decodeWale (.mp .a) 0x807FFFFD#32 = some (.bc (.mp .a) 1 (-3)) ∧
    decodeWale (.eng 63) 0x94000000#32 = some (.retm (.eng 63) 0#26) ∧
    decodeWale (.mp .b) 0x08000000#32 = some (.addi (.mp .b) 0 0 0#16) := by
  simp [decodeWale, decodeAlu, decodeBitf, fld, regAt, bitsAt, bitOf] <;> decide

/-- A reserved opcode, condition 15 and a function code of the register group above the last spell no instruction. -/
theorem test_reserved_words : decodeWale (.eng 0) 0x00000000#32 = none ∧ decodeWale (.eng 0) 0xFC000000#32 = none ∧
    decodeWale (.eng 0) 0x83C00000#32 = none ∧ decodeWale (.eng 0) 0x040003FF#32 = none := by
  simp [decodeWale, decodeAlu, fld]

/-- Chapter 4, "Byte order of a short address": BPERM with selector word 0x0404_0001. -/
theorem test_bperm_example : aluResult 0x1B 0x00000A14#32 0x04040001#32 ⟨false, false, false, false⟩ = some 0x0000140A#32 := by
  decide +kernel

/-- Chapter 9: a wake-up frame at 2-FSK and 50 kbit/s with a 4-octet FCS takes 512,000 ticks. -/
theorem test_wake_up_frame : wufAirtime 0x40200000#32 = 512000 := by decide

/-- Chapter 8: 4,000 octets at rate 2/3 with one sounding symbol over the example's map take 106,880 ticks. -/
theorem test_trunk_airtime :
    trunkAir 4000 1 1 (List.replicate 20 8 ++ List.replicate 20 6 ++ List.replicate 6 4 ++ List.replicate 2 0) =
      some 106880 := by decide

/-- Chapter 14: ASB_DLY 20, capture 3,400,000,000 and FOLLOW 5,000,000,460 give CLOFS 1,600,000,000 and r = 480. -/
theorem test_follow_example :
    (let d := { ((d0.setReg R.ASB_DLY 20#32).setF R.ASB_CFG 8 8 1) with asb := { d0.asb with syncCaps := [(1, some 3400000000)] } };
      (d.asbFollow 1 5000000460).pair R.ASB_CLOFS_LO R.ASB_CLOFS_HI = 1600000000 ∧
      (d.asbFollow 1 5000000460).reg R.ASB_SYNCERR = 480#32) := by decide +kernel

/-! ## The whole machine -/

/-- Serves SoundKept: the state after reset is sound, and so is one with a register, memory and a command. -/
theorem witness_SoundKept : State.reset.sound = true ∧
    ({ dev := (eng0.setReg R.DEV_RSTCNT 1#32).wr8 (engBase 3) 7#8, pending := [.trstN] } : State).sound = true := by
  decide +kernel

/-- Serves ResetHolds: a device in reset, and a command that has no effect there. -/
theorem witness_ResetHolds :
    ({ d0 with power := { d0.power with inReset := true } } : Dev).power.inReset = true ∧ actsInReset .trstN = false ∧
    ([] : List Instr).head? ≠ some .resetRelease := by decide +kernel

/-- Serves InstructionFrame and StoreFrame: what an instruction completes to, a store of each width that goes, and both with
nothing left for the device to do, or with a held submission that can go on. -/
theorem witness_Frames : eng0.power.inReset = false ∧ eng0.ready (.eng 0) ∧
    (eng0.completes (.eng 0) (eng0.cpu 0) 1 4#32).served = true ∧
    ((eng0.stored (engBase 0 + 0x4000) (natBytes 4 0)).completes (.eng 0) (eng0.cpu 0) 1 4#32).served = true ∧
    (({ eng0 with msg := { eng0.msg with stalled := [0] } } : Dev).completes (.eng 0) (eng0.cpu 0) 1 4#32).served = false ∧
    (∀ n ∈ [1, 2, 4], (eng0.place (.eng 0) (eng0.cpu 0).sup ((eng0.cpu 0).get 1 + (0#16).signExtend 32) n kStore).toOption =
      some (.mem (engBase 0 + 0x4000))) := by
  unfold Dev.ready; decide +kernel

/-- Serves ExceptionEntry: processors outside and inside a handler, a fault and an interrupt, in user and supervisor mode. -/
theorem witness_ExceptionEntry :
    isEng (.mp .a) = false ∧ isEng .custody = false ∧ ((up d0 (.mp .a)).cpu 64).exl = false ∧
    (((up d0 (.mp .a)).cpu 64).setCreg 0 0x40#32).exl = true ∧
    (((up d0 (.mp .a)).cpu 64).enter 0#32 4#32 0#32 none).spOk = true ∧
    ((((up d0 (.mp .a)).cpu 64).put 31 2#32).enter 0#32 4#32 0#32 none).spOk = false ∧
    bitOf (((up d0 (.mp .a)).cpu 64).creg 0) 4 = true ∧ bitOf (0#32 : Word) 4 = false ∧
    ((up d0 (.mp .a)).cpu 64).sup = true ∧ (up d0 (.mp .a)).ready (.mp .a) := by
  unfold Dev.ready; decide +kernel

end Sys2Proof.Tests
end

/-! # Proofs: branches, and exception entry and return (R71, R83, R84, R102, R114) -/

namespace Sys2Proof.Machine

/-! ## What a ready processor's instruction comes to -/

/-- Outside reset a ready processor's instruction is its body's outcome, applied. -/
theorem acted_issue {s : State} {p : Proc} (hl : s.live) (hr : s.dev.ready p) (body : Dev → Ex) :
    acted s (fun d => d.issue p body) = .next (s.goes (s.dev.finish p (body s.dev))) := by
  rw [acted_live hl, Dev.issue_ready hr]

section Ready
variable {s : State} {p : Proc} (hl : s.live) (hr : s.dev.ready p)
include hl hr

theorem exec_bc_ready (cond : Fin 16) (off : BitVec 22) :
    exec (.bc p cond off) s = .next (s.goes (s.dev.finish p (bcBody p cond off s.dev))) := acted_issue hl hr _

theorem exec_jmp_ready (off : BitVec 26) :
    exec (.jmp p off) s = .next (s.goes (s.dev.finish p (jmpBody p off s.dev))) := acted_issue hl hr _

theorem exec_jmpr_ready (rd ra : Reg) (rest : BitVec 16) :
    exec (.jmpr p rd ra rest) s = .next (s.goes (s.dev.finish p (jmprBody p rd ra rest.toNat s.dev))) :=
  acted_issue hl hr _

theorem exec_eret_ready (rd ra : Reg) (cnum : Fin 64) :
    exec (.eret p rd ra cnum) s = .next (s.goes (s.dev.finish p (eretBody p rd ra cnum s.dev))) := acted_issue hl hr _

end Ready

@[simp] theorem Dev.finish_fault (d : Dev) (p : Proc) (f : Flt) : d.finish p (.fault f) = d.takeFault p f := rfl

/-! ## Branches: what each body comes to -/

/-- The conditions of R71 in the order of their codes; code 15 has none, and nothing lies past it. -/
theorem condHolds_eq_getElem? (f : Nzcv) : ∀ cond : Nat, condHolds f cond =
    [f.z, !f.z, f.c, !f.c, f.n, !f.n, f.v, !f.v, f.c && !f.z, !f.c || f.z, f.n == f.v, f.n != f.v, !f.z && f.n == f.v,
      f.z || f.n != f.v, true][cond]?
  | 0 | 1 | 2 | 3 | 4 | 5 | 6 | 7 | 8 | 9 | 10 | 11 | 12 | 13 | 14 => rfl
  | _ + 15 => rfl

/-- A branch whose condition is one of R71's goes to its target or to the next instruction. -/
theorem finish_bcBody (d : Dev) (p : Proc) (cond : Nat) (off : BitVec 22) (holds : Bool)
    (h : condHolds (d.cpu p.num).flags cond = some holds) :
    d.finish p (bcBody p cond off d) = (d.retire p.num 1 (if holds then (d.cpu p.num).pc + off.signExtend 32 * 4#32
      else (d.cpu p.num).pc + 4#32)).stepEnd p.num := by
  unfold bcBody
  rw [h]
  cases holds <;> rfl

theorem bcBody_of_condHolds_none {d : Dev} {p : Proc} {cond : Nat} (off : BitVec 22)
    (h : condHolds (d.cpu p.num).flags cond = none) : bcBody p cond off d = .fault ILLEGAL := by
  unfold bcBody
  rw [h]

theorem badTarget_eq_false {t : Word} (h : t.toNat % 4 = 0) : badTarget t = false := by simp [badTarget, h]

theorem badTarget_eq_true {t : Word} (h : t.toNat % 4 ≠ 0) : badTarget t = true := by simp [badTarget, h]

/-- `JMPR` to an aligned target writes the link and goes there. -/
theorem jmprBody_aligned (d : Dev) (p : Proc) (rd ra : Nat) (h : ((d.cpu p.num).get ra).toNat % 4 = 0) :
    jmprBody p rd ra 0 d = .jump (d.setCpu p.num ((d.cpu p.num).put rd ((d.cpu p.num).pc + 4#32)))
      ((d.cpu p.num).get ra) 1 := by
  simp only [jmprBody, badTarget_eq_false h]
  rfl

/-- `JMPR` to any other target faults with ALIGN at the jump (R102). -/
theorem jmprBody_misaligned (d : Dev) (p : Proc) (rd ra : Nat) (h : ((d.cpu p.num).get ra).toNat % 4 ≠ 0) :
    jmprBody p rd ra 0 d = .fault { code := 3, fetch := true, addr := (d.cpu p.num).get ra } := by
  simp only [jmprBody, badTarget_eq_true h]
  rfl

/-- A reserved field that is not 0 comes before the target's alignment (log 117). -/
theorem jmprBody_reserved (d : Dev) (p : Proc) (rd ra : Nat) {rest : Nat} (h : rest ≠ 0) :
    jmprBody p rd ra rest d = .fault ILLEGAL := if_pos h

/-- Settles O22: a ready processor's instruction is its body's outcome, and each body has one equation per case. That a nonzero
reserved field of JMPR is ILLEGAL whatever the target is the model's priority (log 117). -/
theorem branches : Obligations.Branches := by
  unfold Obligations.Branches
  rintro s p c f hl hr rfl rfl
  refine ⟨fun cond off holds h => ?_, fun off => ?_, fun off => ?_, fun rd ra h => ?_, fun rd ra h => ?_,
    fun rd ra rest h => ?_⟩
  · rw [exec_bc_ready hl hr, finish_bcBody _ _ _ _ holds ((condHolds_eq_getElem? _ cond).trans h)]
  · rw [exec_bc_ready hl hr, bcBody_of_condHolds_none off rfl, Dev.finish_fault]
  · exact exec_jmp_ready hl hr off
  · rw [exec_jmpr_ready hl hr, BitVec.toNat_zero, jmprBody_aligned _ _ _ _ h, Dev.finish_jump]
  · rw [exec_jmpr_ready hl hr, BitVec.toNat_zero, jmprBody_misaligned _ _ _ _ h, Dev.finish_fault]
  · have h0 : rest.toNat ≠ 0 := fun e => h (BitVec.eq_of_toNat_eq e)
    rw [exec_jmpr_ready hl hr, jmprBody_reserved _ _ _ _ h0, Dev.finish_fault]

/-! ## STATUS and the registers at exception entry (R83) -/

/-- A bit of STATUS after entry: supervisor, interrupts off, EXL, the source's priority in IPL, the rest as before. -/
theorem bitOf_entryStatus (w : Word) (ipl : Option Nat) (i : Nat) : bitOf (entryStatus w ipl) i =
    if i = 4 ∨ i = 6 then true else if i = 5 then false
    else if i = 8 ∨ i = 9 then ipl.elim (bitOf w i) (·.testBit (i - 8)) else bitOf w i := by
  cases ipl with
  | none =>
    simp only [entryStatus, bitOf_setFld, Option.elim]
    grind
  | some l =>
    simp only [entryStatus, bitOf_setFld, Option.elim]
    grind

/-- An interrupt's entry puts the source's priority in IPL. -/
theorem fld_entryStatus_some (w : Word) (l : Fin 4) : fld (entryStatus w (some l.val)) 8 2 = l.val := by
  have hl : l.val % 2 ^ 2 = l.val := Nat.mod_eq_of_lt l.isLt
  rw [entryStatus, fld_setFld_same _ _ _ _ (by decide), hl]

/-- A fault's entry leaves IPL. -/
theorem fld_entryStatus_none (w : Word) : fld (entryStatus w none) 8 2 = fld w 8 2 := by
  simp only [entryStatus]
  rw [fld_setFld_apart _ _ _ _ _ _ (by decide), fld_setFld_apart _ _ _ _ _ _ (by decide),
    fld_setFld_apart _ _ _ _ _ _ (by decide)]

theorem Cpu.creg_setCreg (c : Cpu) (k j : Nat) (w : Word) :
    (c.setCreg k w).creg j = if j = k then w else c.creg j := by
  simp [Cpu.creg, Cpu.setCreg, tget_tput]

@[simp] theorem Cpu.get_setCreg (c : Cpu) (k r : Nat) (w : Word) : (c.setCreg k w).get r = c.get r := rfl

@[simp] theorem Cpu.creg_put (c : Cpu) (r k : Nat) (w : Word) : (c.put r w).creg k = c.creg k := by simp [Cpu.creg]

theorem Cpu.creg_swapSp (c : Cpu) (k : Nat) : c.swapSp.creg k = if k = 6 then c.get 31 else c.creg k := by
  simp [Cpu.swapSp, Cpu.creg_setCreg]

theorem Cpu.get_swapSp (c : Cpu) (r : Nat) : c.swapSp.get r = if r = 31 then c.creg 6 else c.get r := by
  rw [Cpu.swapSp, Cpu.get_setCreg, Cpu.get_put _ _ _ _ (by decide)]
  by_cases h : r = 0
  · subst h; rfl
  · rw [if_neg h]

section Enter
variable (c : Cpu) (epc cause bad : Word) (ipl : Option Nat)

/-- Exception entry before its new pc: the control registers as saved, exchanged and written (R83). -/
theorem Cpu.creg_enter (k : Nat) : (c.enter epc cause bad ipl).creg k =
    if k = 0 then entryStatus (c.creg 0) ipl else if k = 1 then c.creg 0 else if k = 2 then epc
    else if k = 3 then cause else if k = 4 then bad
    else if k = 6 ∧ bitOf (c.creg 0) 4 = false then c.get 31 else c.creg k := by
  change (Cpu.setCreg (Cpu.setCreg (Cpu.setCreg _ 0 _) 3 cause) 4 bad).creg k = _
  cases hs : bitOf (c.creg 0) 4
  · simp only [Cpu.creg_setCreg, Cpu.creg_swapSp, Cpu.get_setCreg, Bool.false_eq_true, if_false]
    grind
  · simp only [Cpu.creg_setCreg, if_true]
    grind

theorem Cpu.get_enter (r : Nat) : (c.enter epc cause bad ipl).get r =
    if r = 31 ∧ bitOf (c.creg 0) 4 = false then c.creg 6 else c.get r := by
  change Cpu.get (if bitOf (c.creg 0) 4 then (c.setCreg 1 (c.creg 0)).setCreg 2 epc
    else ((c.setCreg 1 (c.creg 0)).setCreg 2 epc).swapSp) r = _
  cases bitOf (c.creg 0) 4
  · simp [Cpu.get_swapSp, Cpu.creg_setCreg]
  · simp

theorem Cpu.pc_enter : (c.enter epc cause bad ipl).pc =
    (c.creg 5 &&& 0xFFFFFF00#32) + (if ipl.isSome then 0x80#32 else 0#32) := by
  have h5 : (c.enter epc cause bad ipl).creg 5 = c.creg 5 := by simp [Cpu.creg_enter]
  rw [← h5]
  rfl

end Enter

theorem Cpu.spOk_iff (c : Cpu) : c.spOk = true ↔ (c.get 31).toNat % 4 = 0 ∧ (c.creg 7).toNat ≤ (c.get 31).toNat ∧
    (c.get 31).toNat ≤ (c.creg 8).toNat := by simp [Cpu.spOk]

/-! ## Taking a fault or an interrupt (R83 to R85) -/

theorem Dev.enterExc_of_spOk {d : Dev} {n : Nat} {epc cause bad : Word} {ipl : Option Nat}
    (h : ((d.cpu n).enter epc cause bad ipl).spOk = true) :
    d.enterExc n epc cause bad ipl = d.setCpu n ((d.cpu n).enter epc cause bad ipl) := if_pos h

/-- A failed check of the stack pointer keeps what entry has written (log 69). -/
theorem Dev.enterExc_of_spOk_false {d : Dev} {n : Nat} {epc cause bad : Word} {ipl : Option Nat}
    (h : ((d.cpu n).enter epc cause bad ipl).spOk = false) :
    d.enterExc n epc cause bad ipl = (d.setCpu n ((d.cpu n).enter epc cause bad ipl)).doubleFault n :=
  if_neg (by simp [h])

section NotEngine
variable {d : Dev} {p : Proc} (hp : isEng p = false) (f : Flt)
include hp

/-- A fault outside a handler is entered. -/
theorem Dev.takeFault_of_exl_false (h : (d.cpu p.num).exl = false) : d.takeFault p f =
    (d.enterExc p.num (if f.code = 11 then (d.cpu p.num).pc + 4#32 else (d.cpu p.num).pc)
      (pack [(30, b2n f.fetch), (0, f.code)]) f.addr none).stepEnd p.num := by
  cases p with
  | eng n => cases hp
  | mp h' => simp [Dev.takeFault, h]
  | custody => simp [Dev.takeFault, h]

/-- A fault inside a handler is a double fault (R84). -/
theorem Dev.takeFault_of_exl (h : (d.cpu p.num).exl = true) : d.takeFault p f = d.doubleFault p.num := by
  cases p with
  | eng n => cases hp
  | mp h' => exact if_pos h
  | custody => exact if_pos h

end NotEngine

/-- No interrupt is taken inside a handler. -/
theorem Dev.eligible_of_exl {d : Dev} {n : Nat} (h : (d.cpu n).exl = true) : d.eligible n = none := by
  simp [Dev.eligible, h]

@[simp] theorem Dev.writeSkid_cpu (d : Dev) (h n : Nat) : (d.writeSkid h).cpu n = d.cpu n := by
  refine Dev.forEach_cpu (fun d k => ?_) _ d
  split <;> rfl

/-- An interrupt is entered with the processor's own state, whatever records source 56 reports. -/
theorem Dev.takeInterrupt_eq {d d1 : Dev} {n src : Nat} (h1 : d1 = if src = 56 ∧ n < 66 then d.writeSkid (n - 64) else d) :
    d1.cpu n = d.cpu n ∧ d.takeInterrupt n src = (d1.enterExc n (d.cpu n).pc (pack [(31, 1), (0, src)]) 0#32
      (some ((d.cpu n).prio src))).stepEnd n := by
  have hc : d1.cpu n = d.cpu n := by
    rw [h1]
    split
    · exact Dev.writeSkid_cpu d _ n
    · rfl
  refine ⟨hc, ?_⟩
  rw [← hc, h1]
  rfl

/-- A Main Processor's double fault is lockup, reported as class H cause 0. -/
theorem Dev.doubleFault_mp (d : Dev) (h : Half) : d.doubleFault (Proc.mp h).num =
    (d.onCpu (Proc.mp h).num fun c => { c with run := .lockup, wait := .none }).declareH h.toNat 0 := by
  have hn : (Proc.mp h).num ≠ 66 := by cases h <;> decide
  have ht : (Proc.mp h).num - 64 = h.toNat := Nat.add_sub_cancel_left ..
  simp only [Dev.doubleFault, if_neg hn, ht]

/-- Custody's double fault is a restart of Custody with cause 0, without A1 (log 90). -/
theorem Dev.doubleFault_custody (d : Dev) : d.doubleFault Proc.custody.num =
    (d.onCpu Proc.custody.num fun c => { c with run := .lockup, wait := .none }).custodyRestart 0 := by
  have hn : Proc.custody.num = 66 := rfl
  simp only [Dev.doubleFault, if_pos hn]

/-! ## Return (R84, R114) -/

theorem Cpu.eret_to_supervisor {c : Cpu} (h : bitOf (c.creg 1) 4 = true) : c.eret = c.setCreg 0 (c.creg 1) := by
  simp [Cpu.eret, Cpu.sup, h]

theorem Cpu.eret_to_user {c : Cpu} (h : bitOf (c.creg 1) 4 = false) :
    c.eret = ((c.setCreg 0 (c.creg 1)).put 31 (c.creg 6)).setCreg 6 (c.get 31) := by
  simp [Cpu.eret, Cpu.sup, Cpu.swapSp, Cpu.creg_setCreg, h]

theorem eretBody_supervisor {d : Dev} {p : Proc} (hp : isEng p = false) (hs : (d.cpu p.num).sup = true) :
    eretBody p 0 0 0 d = .jump (d.setCpu p.num (d.cpu p.num).eret) ((d.cpu p.num).creg 2) 1 := by
  have hf : privFault p d (sysRes 0 0 0) = none := by simp [privFault, sysRes, hp, hs]
  unfold eretBody
  rw [hf]
  rfl

theorem exec_eret_supervisor {s : State} {p : Proc} (hl : s.live) (hr : s.dev.ready p) (hp : isEng p = false)
    (hs : (s.dev.cpu p.num).sup = true) : exec (.eret p 0 0 0) s =
      .next (s.goes (s.dev.completes p (s.dev.cpu p.num).eret 1 ((s.dev.cpu p.num).creg 2))) := by
  rw [exec_eret_ready hl hr]
  exact congrArg (fun x => Host.Outcome.next (s.goes (s.dev.finish p x))) (eretBody_supervisor hp hs)

/-- Settles O7: each register of a processor after entry has one equation, entry is kept or is a double fault as its stack
pointer says, and ERET has one equation per restored mode. A failed check keeps what entry has written (log 69), and Custody's
double fault restarts Custody without A1 (log 90): both are the model's deductions. -/
theorem exceptionEntry : Obligations.ExceptionEntry := by
  unfold Obligations.ExceptionEntry
  refine ⟨?_, ?_, Cpu.spOk_iff, ?_⟩
  · rintro c e epc cause bad ipl rfl
    refine ⟨?_, ?_, ?_, ?_, fun hu => ?_, fun hs => ?_, fun r hr => ?_, ?_, ?_, ?_, ?_, ?_, fun i h4 h5 h6 h8 h9 => ?_,
      fun k hk => ?_⟩
    · simp [Cpu.creg_enter]
    · simp [Cpu.creg_enter]
    · simp [Cpu.creg_enter]
    · simp [Cpu.creg_enter]
    · simp [Cpu.creg_enter, Cpu.get_enter, hu]
    · simp [Cpu.creg_enter, Cpu.get_enter, hs]
    · rw [Cpu.get_enter, if_neg (by omega)]
    · simp [Cpu.creg_enter, bitOf_entryStatus]
    · simp [Cpu.creg_enter, bitOf_entryStatus]
    · simp [Cpu.creg_enter, bitOf_entryStatus]
    · rintro l rfl
      simp [Cpu.creg_enter, Cpu.pc_enter, fld_entryStatus_some]
    · rintro rfl
      simp [Cpu.creg_enter, Cpu.pc_enter, fld_entryStatus_none]
    · simp [Cpu.creg_enter, bitOf_entryStatus, h4, h5, h6, h8, h9]
    · rw [Cpu.creg_enter]
      grind
  · rintro d p c n hp rfl rfl
    refine ⟨?_, fun f h => ⟨Dev.takeFault_of_exl hp f h, Dev.eligible_of_exl h⟩, ?_, ?_, ?_⟩
    · rintro f e h rfl
      rw [Dev.takeFault_of_exl_false hp f h]
      exact ⟨fun hok => by rw [Dev.enterExc_of_spOk hok], fun hno => by rw [Dev.enterExc_of_spOk_false hno]⟩
    · rintro src d1 e h1 rfl
      obtain ⟨hc, ht⟩ := Dev.takeInterrupt_eq h1
      rw [ht, ← hc]
      exact ⟨fun hok => by rw [Dev.enterExc_of_spOk hok], fun hno => by rw [Dev.enterExc_of_spOk_false hno]⟩
    · rintro h rfl
      exact Dev.doubleFault_mp d h
    · rintro rfl
      exact Dev.doubleFault_custody d
  · rintro s p c r hl hr rfl hp hs rfl
    rw [exec_eret_supervisor hl hr hp hs]
    exact ⟨fun h => by rw [Cpu.eret_to_supervisor h], fun h => by rw [Cpu.eret_to_user h]⟩

end Sys2Proof.Machine

/-! # Proofs: bit counts, immediate forms and bit fields (R93, R95 to R97) -/

namespace Sys2Proof.Machine

/-! ## A ready processor's instruction that completes, and one that faults -/

section Issued
variable {s : State} {p : Proc} {body : Dev → Ex} (hl : s.live) (hr : s.dev.ready p)
include hl hr

/-- A body that answers with the processor's registers, its pc as it was, completes at the next instruction. -/
theorem acted_issue_ok {c : Cpu} {cost : Nat} (h : body s.dev = .ok (s.dev.setCpu p.num c) cost)
    (hpc : c.pc = (s.dev.cpu p.num).pc) : acted s (fun d => d.issue p body) =
      .next (s.goes (s.dev.completes p c cost ((s.dev.cpu p.num).pc + 4#32))) := by
  rw [acted_issue hl hr, h, Dev.finish_ok, hpc]

theorem acted_issue_fault {f : Flt} (h : body s.dev = .fault f) :
    acted s (fun d => d.issue p body) = .next (s.goes (s.dev.takeFault p f)) := by
  rw [acted_issue hl hr, h, Dev.finish_fault]

/-- A function of the ALU group that sets no flags and does not divide, where rb is g0 if it is unary. -/
theorem exec_alu_flagless (fn : Nat) {rd ra rb : Reg} {r : Word}
    (h : aluResult fn ((s.dev.cpu p.num).get ra) ((s.dev.cpu p.num).get rb) (s.dev.cpu p.num).flags = some r)
    (hu : aluUnary fn = true → rb = 0) (hd : aluDivides fn = false) :
    acted s (fun d => d.issue p (aluBody p fn rd ra rb false)) = .next (s.goes (s.dev.completes p
      ((s.dev.cpu p.num).put rd r) (aluCost fn) ((s.dev.cpu p.num).pc + 4#32))) :=
  exec_alu fn hl hr h hu (fun ht => absurd ht (by simp [hd])) nofun

/-- The immediate forms that write rd (R96). -/
theorem exec_imm (rd ra : Nat) (f : Word → Word) : acted s (fun d => d.issue p (immBody p rd ra f)) =
    .next (s.goes (s.dev.completes p ((s.dev.cpu p.num).put rd (f ((s.dev.cpu p.num).get ra))) 1
      ((s.dev.cpu p.num).pc + 4#32))) :=
  acted_issue_ok hl hr rfl (Cpu.put_pc ..)

/-- `BITF` of a field inside the word (R97). -/
theorem exec_bitf (fn rd ra : Nat) {pos wm1 : Nat} (h : pos + wm1 ≤ 31) :
    acted s (fun d => d.issue p (bitfBody p fn rd ra pos wm1)) = .next (s.goes (s.dev.completes p
      ((s.dev.cpu p.num).put rd (bitfResult fn ((s.dev.cpu p.num).get rd) ((s.dev.cpu p.num).get ra) pos wm1)) 1
      ((s.dev.cpu p.num).pc + 4#32))) :=
  acted_issue_ok hl hr (if_neg (Nat.not_lt.2 h)) (Cpu.put_pc ..)

/-- `BITF` of a field that passes bit 31 (R70). -/
theorem exec_bitf_past_end (fn rd ra : Nat) {pos wm1 : Nat} (h : 31 < pos + wm1) :
    acted s (fun d => d.issue p (bitfBody p fn rd ra pos wm1)) = .next (s.goes (s.dev.takeFault p ILLEGAL)) :=
  acted_issue_fault hl hr (if_pos h)

end Issued

/-- A unary function with another rb than g0 faults (R93). -/
theorem aluBody_unary_rb_ne (p : Proc) {fn rb : Nat} (rd ra : Nat) (sf : Bool) (d : Dev) (hu : aluUnary fn = true)
    (h : rb ≠ 0) : aluBody p fn rd ra rb sf d = .fault ILLEGAL := by
  have hg : (aluUnary fn && rb != 0) = true := by simp [hu, h]
  simp only [aluBody, hg, Bool.or_true, if_true]
  split
  · rfl
  · rfl

/-! ## The counts of bits (R95) -/

/-- The highest set bit of a word is where its logarithm says. -/
theorem log2_eq_of_highest {a : Word} {k : Nat} (hk : a.getLsbD k = true) (hz : ∀ i, k < i → a.getLsbD i = false) :
    a.toNat.log2 = k := by
  have hlo : 2 ^ k ≤ a.toNat := Nat.ge_two_pow_of_testBit hk
  have hhi : a.toNat < 2 ^ (k + 1) := Nat.lt_pow_two_of_testBit _ hz
  exact (Nat.log2_eq_iff (by have := Nat.two_pow_pos k; omega)).2 ⟨hlo, hhi⟩

theorem aluResult_clz {a : Word} {n : Nat} (b : Word) (f : Nzcv) (hn : n < 32) (h1 : a.getLsbD (31 - n) = true)
    (h0 : ∀ i, i < n → a.getLsbD (31 - i) = false) : aluResult 24 a b f = some (wd n) := by
  have ha : a ≠ 0#32 := by rintro rfl; simp at h1
  have hz : ∀ i, 31 - n < i → a.getLsbD i = false := fun i hi => by
    by_cases h : i < 32
    · have := h0 (31 - i) (by omega)
      rwa [show 31 - (31 - i) = i by omega] at this
    · exact BitVec.getLsbD_of_ge a i (by omega)
  have hc : 32 - (a.toNat.log2 + 1) = n := by rw [log2_eq_of_highest h1 hz]; omega
  simp only [aluResult, if_neg ha, hc]

theorem aluResult_ctz {a : Word} {n : Nat} (b : Word) (f : Nzcv) (hn : n < 32) (h1 : a.getLsbD n = true)
    (h0 : ∀ i, i < n → a.getLsbD i = false) : aluResult 25 a b f = some (wd n) := by
  have hf : (List.range 32).find? (fun i => a.getLsbD i) = some n :=
    List.find?_range_eq_some.2 ⟨h1, List.mem_range.2 hn, fun i hi => by simp [h0 i hi]⟩
  simp only [aluResult, hf, Option.getD_some]

/-! ## The byte permutation (R95) -/

/-- The octet that selector byte `i` of `b` chooses from `a`. -/
def permOctet (a b : Word) (i : Nat) : Byte :=
  if b.getLsbD (8 * i + 2) then 0x00#8
  else if b.getLsbD (8 * i + 3) then (if (byteOf a (fld b (8 * i) 2)).msb then 0xFF#8 else 0x00#8)
  else byteOf a (fld b (8 * i) 2)

/-- A selector's source is its low two bits. -/
theorem fld_eight_mod_four (b : Word) (lo : Nat) : fld b lo 8 % 4 = fld b lo 2 :=
  Nat.mod_mod_of_dvd _ (by decide)

/-- An octet back at its place has the word's bits there and no others. -/
theorem getLsbD_byteOf_shiftLeft (w : Word) (k i : Nat) : ((byteOf w k).setWidth 32 <<< (8 * k)).getLsbD i =
    (decide (8 * k ≤ i ∧ i < 8 * k + 8 ∧ i < 32) && w.getLsbD i) := by
  simp only [byteOf, BitVec.getLsbD_shiftLeft, BitVec.getLsbD_setWidth, BitVec.getLsbD_ushiftRight]
  grind

/-- A word is its four octets, each at its place. -/
theorem word_eq_octets (w : Word) : (byteOf w 0).setWidth 32 <<< (8 * 0) ||| (byteOf w 1).setWidth 32 <<< (8 * 1) |||
    (byteOf w 2).setWidth 32 <<< (8 * 2) ||| (byteOf w 3).setWidth 32 <<< (8 * 3) = w := by
  refine BitVec.eq_of_getLsbD_eq fun i hi => ?_
  simp only [BitVec.getLsbD_or, getLsbD_byteOf_shiftLeft]
  grind

theorem aluResult_bperm {a b r : Word} (f : Nzcv) (h : ∀ i, i < 4 → byteOf r i = permOctet a b i) :
    aluResult 27 a b f = some r := by
  have hone (i : Nat) : (if (fld b (8 * i) 8).testBit 2 then 0#8
      else if (fld b (8 * i) 8).testBit 3 then
        (if (byteOf a (fld b (8 * i) 8 % 4)).msb then 0xFF#8 else 0#8)
      else byteOf a (fld b (8 * i) 8 % 4)) = permOctet a b i := by
    simp only [testBit_fld, fld_eight_mod_four, permOctet, bitOf]
    rfl
  simp only [aluResult, hone, ← h _ (by decide : 0 < 4), ← h _ (by decide : 1 < 4), ← h _ (by decide : 2 < 4),
    ← h _ (by decide : 3 < 4)]
  exact congrArg some (word_eq_octets r)

/-- Settles O16: each count is found from the bit it stops at, and BPERM from its four octets. -/
theorem bitCounts : Obligations.BitCounts := by
  unfold Obligations.BitCounts
  rintro s p rd ra rb c a b done hl hr rfl rfl rfl rfl
  refine ⟨fun n hn h1 h0 => ?_, fun h => ?_, fun n hn h1 h0 => ?_, fun h => ?_, ?_, fun r h => ?_, fun h => ?_⟩
  · exact exec_alu_flagless hl hr 24 (aluResult_clz _ _ hn h1 h0) (fun _ => rfl) rfl
  · exact exec_alu_flagless hl hr 24 (by rw [h]; rfl) (fun _ => rfl) rfl
  · exact exec_alu_flagless hl hr 25 (aluResult_ctz _ _ hn h1 h0) (fun _ => rfl) rfl
  · exact exec_alu_flagless hl hr 25 (by rw [h]; rfl) (fun _ => rfl) rfl
  · exact exec_alu_flagless hl hr 26 rfl (fun _ => rfl) rfl
  · exact exec_alu_flagless hl hr 27 (aluResult_bperm _ h) nofun rfl
  · exact acted_issue_fault hl hr (aluBody_unary_rb_ne p rd ra false s.dev rfl (Fin.val_ne_zero_iff.2 h))

/-! ## The immediate forms (R96) -/

theorem flagsSub_no_borrow (a b : Word) : flagsSub a b 0 =
    ⟨(a - b).msb, a - b == 0#32, decide (b.toNat ≤ a.toNat), a.msb != b.msb && (a - b).msb != a.msb⟩ := by
  simp [flagsSub]

/-- Settles O17: the forms that write rd share one equation, and a reserved field is looked at first. -/
theorem immediates : Obligations.Immediates := by
  unfold Obligations.Immediates
  rintro s p rd ra imm c a done hl hr rfl rfl rfl
  refine ⟨?_, ?_, ?_, ?_, fun n => ?_, fun n => ?_, fun n => ?_, fun n => ?_, fun n res h => ?_, ?_, fun h => ?_,
    fun b r hb hsub => ?_, fun h => ?_⟩
  · exact exec_imm hl hr rd ra (· + sext16 imm)
  · exact exec_imm hl hr rd ra (· &&& zext16 imm)
  · exact exec_imm hl hr rd ra (· ||| zext16 imm)
  · exact exec_imm hl hr rd ra (· ^^^ zext16 imm)
  · exact exec_imm hl hr rd ra (shiResult 0 · n)
  · exact exec_imm hl hr rd ra (shiResult 1 · n)
  · exact exec_imm hl hr rd ra (shiResult 2 · n)
  · exact exec_imm hl hr rd ra (shiResult 3 · n)
  · exact acted_issue_fault hl hr (if_pos (Fin.val_ne_zero_iff.2 h))
  · exact acted_issue_ok hl hr rfl (Cpu.put_pc ..)
  · exact acted_issue_fault hl hr (if_pos (Fin.val_ne_zero_iff.2 h))
  · subst hb hsub
    rw [← flagsSub_no_borrow]
    exact acted_issue_ok hl hr rfl (Cpu.setFlags_pc ..)
  · exact acted_issue_fault hl hr (if_pos (Fin.val_ne_zero_iff.2 h))

/-! ## The bit fields (R97) -/

/-- The mask of a field is 2^n − 1 at its place. -/
theorem fldMask_eq_mul (lo n : Nat) : fldMask lo n = wd ((2 ^ n - 1) * 2 ^ lo) := by
  rw [fldMask, Nat.shiftLeft_eq]

theorem fldMask_zero (n : Nat) : fldMask 0 n = wd (2 ^ n - 1) := by
  rw [fldMask, Nat.shiftLeft_zero]

/-- Settles O18: one equation for a field inside the word, one for a field that passes bit 31. -/
theorem bitFields : Obligations.BitFields := by
  unfold Obligations.BitFields
  rintro s p rd ra pos wm1 c a m x done hl hr rfl rfl rfl rfl rfl
  rw [← fldMask_eq_mul, ← fldMask_zero]
  exact ⟨fun h => ⟨exec_bitf hl hr 0 rd ra h, exec_bitf hl hr 1 rd ra h, exec_bitf hl hr 2 rd ra h,
      exec_bitf hl hr 3 rd ra h⟩,
    fun h => ⟨exec_bitf_past_end hl hr 0 rd ra h, exec_bitf_past_end hl hr 1 rd ra h, exec_bitf_past_end hl hr 2 rd ra h,
      exec_bitf_past_end hl hr 3 rd ra h⟩⟩

end Sys2Proof.Machine

/-! # Proofs: the real-time clock and the timers (R372 to R385) -/

namespace Sys2Proof.Machine

/-! ## Commands that reach the device through a register -/

section Access
variable {s : State} {r : Req} {off : Nat}

theorem always_byWrite (h : s.dev.lets r off) (act : Dev → Dev) :
    always s (fun d => d.byWrite r off act) = .next (s.goes (act s.dev)) := by
  rw [always_goes, Dev.byWrite_lets h]

theorem acted_byWrite (hl : s.live) (h : s.dev.lets r off) (act : Dev → Dev) :
    acted s (fun d => d.byWrite r off act) = .next (s.goes (act s.dev)) := by
  rw [acted_live hl, Dev.byWrite_lets h]

theorem Dev.readReg_latching {d : Dev} {r off : Nat} {x : Dev × Word} (row : RegRow)
    (hx : d.latchingRead r off = some x) : d.readReg r off row = x := by
  simp only [Dev.readReg, hx]

/-- A latching read that is answered leaves what it latches, and its value goes out on the fabric. -/
theorem Dev.byRead_latching {d : Dev} {x : Dev × Word} (h : d.answers r off) (hx : d.latchingRead r.num off = some x) :
    d.byRead r off = { x.1 with bus := some (r.num, off, some x.2) } := by
  obtain ⟨row, hg⟩ := Dev.answers_go h
  rw [Dev.byRead_answers hg, Dev.readReg_latching row hx]

variable {x : Dev × Word} (h : s.dev.answers r off) (hx : s.dev.latchingRead r.num off = some x)
include h hx

theorem always_byRead : always s (fun d => d.byRead r off) =
    .next (s.goes { x.1 with bus := some (r.num, off, some x.2) }) := by
  rw [always_goes, Dev.byRead_latching h hx]

theorem acted_byRead (hl : s.live) : acted s (fun d => d.byRead r off) =
    .next (s.goes { x.1 with bus := some (r.num, off, some x.2) }) := by
  rw [acted_live hl, Dev.byRead_latching h hx]

end Access

theorem Dev.latchingRead_rtcFrac (d : Dev) (r : Nat) : d.latchingRead r R.RTC_FRAC = some (d.rtcFracRead r) := rfl

/-- The capture registers lie in the TMR block. -/
theorem tmrCapLo_ne (n : Fin 32) (k : Nat) (hk : k < 0xA0000 ∨ 0xB0000 ≤ k) : R.TMR_CAP_LO n ≠ k := by
  have hn : R.TMR_CAP_LO n = 0xA010C + 0x20 * n.val := rfl
  omega

theorem idx_add_mul {base stride n k : Nat} (hs : 0 < stride) (hk : k < n) :
    idx base stride n (base + stride * k) = some k := by
  simp [idx, Nat.mul_div_cancel_left k hs, hk]

theorem Dev.latchingRead_tmrCapLo (d : Dev) (r : Nat) (n : Fin 32) :
    d.latchingRead r (R.TMR_CAP_LO n) = some (d.tmrCapRead n r) := by
  have hi : idx (R.TMR_CAP_LO 0) 0x20 32 (R.TMR_CAP_LO n) = some n.val := idx_add_mul (by decide) n.isLt
  have ne := tmrCapLo_ne n
  simp only [Dev.latchingRead, hi, if_neg (ne R.TBG_COUNT_LO (by decide)), if_neg (ne R.RTC_FRAC (by decide)),
    if_neg (ne R.MGN_NOTICE (by decide)), if_neg (ne R.CLP_TAGLOG (by decide)),
    decide_eq_false (ne R.RIMX_TOKEN (by decide)), decide_eq_false (ne R.RIMX_FLTLAST (by decide)),
    decide_eq_false (ne R.ETH_RAWRX_CTL (by decide)), Bool.false_and, Bool.false_eq_true, if_false]

/-! ## The real-time clock (R374 to R378) -/

/-- A seconds write that meets no shift accepted in the same clock period (R374, R376). -/
theorem Dev.rtcSet_uncontended {d e e1 : Dev} {w : Word} (he : e = d.rtcSync.setReg R.RTC_SETSEC_HI (w &&& 0xFFFF#32))
    (h1 : e1 = { e with rtc := { e.rtc with
      setTo := some (e.xtal + 1, ((e.reg R.RTC_SETSEC_LO).toNat + 2 ^ 32 * fld w 0 16) * 2 ^ 15, 0), hold := 0
      setAt := some e.clk } }.setB R.RTC_STATUS 31 false)
    (hs : e1.rtc.shiftAt ≠ some e1.clk) : d.rtcSet w = e1 := by
  subst he h1
  exact if_neg hs

/-- The device notes that a shift was accepted in this clock period (R376). -/
def Dev.noteShift (d : Dev) : Dev := { d with rtc := { d.rtc with shiftAt := some d.clk } }

section Shift
variable {d : Dev} {w : Word}

/-- The first row of R376 that applies answers; a shift that no row refuses moves the fraction. -/
theorem Dev.rtcShift_eq (d : Dev) (w : Word) : d.rtcShift w =
    if 16384 < (sfld w 0 17).natAbs then d.setF R.RTC_STATUS 28 3 4
    else if d.b R.RTC_CTRL 0 then d.setF R.RTC_STATUS 28 3 2
    else if d.b R.RTC_STATUS 31 then d.setF R.RTC_STATUS 28 3 1
    else if d.rtc.setAt = some d.clk then d.setF R.RTC_STATUS 28 3 3
    else ((d.setF R.RTC_STATUS 28 3 0).rtcMove (sfld w 0 17)).noteShift := rfl

theorem Dev.rtcShift_badRange (h : 16384 < (sfld w 0 17).natAbs) : d.rtcShift w = d.setF R.RTC_STATUS 28 3 4 := if_pos h

variable (hr : (sfld w 0 17).natAbs ≤ 16384)
include hr

theorem Dev.rtcShift_denied (hp : d.b R.RTC_CTRL 0 = true) : d.rtcShift w = d.setF R.RTC_STATUS 28 3 2 := by
  rw [Dev.rtcShift_eq, if_neg (Nat.not_lt.2 hr), if_pos hp]

variable (hp : d.b R.RTC_CTRL 0 = false)
include hp

theorem Dev.rtcShift_busy (hb : d.b R.RTC_STATUS 31 = true) : d.rtcShift w = d.setF R.RTC_STATUS 28 3 1 := by
  rw [Dev.rtcShift_eq, if_neg (Nat.not_lt.2 hr), hp, if_pos hb]
  rfl

theorem Dev.rtcShift_ok (hb : d.b R.RTC_STATUS 31 = false) (hs : d.rtc.setAt ≠ some d.clk) :
    d.rtcShift w = ((d.setF R.RTC_STATUS 28 3 0).rtcMove (sfld w 0 17)).noteShift := by
  rw [Dev.rtcShift_eq, if_neg (Nat.not_lt.2 hr), hp, hb, if_neg hs]
  rfl

end Shift

section Move
variable {d e : Dev} {x : Int} (he : e = d.rtcSync)
include he

theorem Dev.rtcMove_zero : d.rtcMove 0 = e := he.symm

/-- Forward the time moves at once (R375). -/
theorem Dev.rtcMove_forward (hx : 0 < x) (hs : e.rtc.setTo = none) :
    d.rtcMove x = { e with rtc := { e.rtc with total := (e.rtc.total + x.toNat) % 2 ^ 63 } } := by
  subst he
  simp only [Dev.rtcMove, if_pos hx, hs]

/-- Forward, with a seconds write that the next crystal cycle puts in force, the time it sets moves (log 67). -/
theorem Dev.rtcMove_forward_of_setTo {c t h : Nat} (hx : 0 < x) (hs : e.rtc.setTo = some (c, t, h)) :
    d.rtcMove x = { e with rtc := { e.rtc with setTo := some (c, (t + x.toNat) % 2 ^ 63, h) } } := by
  subst he
  simp only [Dev.rtcMove, if_pos hx, hs]

/-- Backward the time is held (R375). -/
theorem Dev.rtcMove_backward (hx : x < 0) (hs : e.rtc.setTo = none) :
    d.rtcMove x = { e with rtc := { e.rtc with hold := x.natAbs, since := max e.rtc.since e.xtal } }.setB
      R.RTC_STATUS 31 true := by
  subst he
  simp only [Dev.rtcMove, if_neg (Int.lt_asymm hx), if_pos hx, hs]

end Move

/-- Once the hold has run out and no seconds write waits, SHIFTING clears (R375). -/
theorem Dev.shiftHoldEnd_over {d e : Dev} (he : e = d.rtcSync) (hb : e.b R.RTC_STATUS 31 = true) (hh : e.rtc.hold = 0)
    (hs : e.rtc.setTo = none) : d.shiftHoldEnd = e.setB R.RTC_STATUS 31 false := by
  subst he
  simp only [Dev.shiftHoldEnd, hb, hh, hs]
  rfl

theorem Dev.shiftHoldEnd_holding {d e : Dev} (he : e = d.rtcSync) (h : e.rtc.hold ≠ 0 ∨ e.rtc.setTo ≠ none) :
    d.shiftHoldEnd = e := by
  subst he
  have hg : (d.rtcSync.b R.RTC_STATUS 31 && d.rtcSync.rtc.hold == 0 && d.rtcSync.rtc.setTo.isNone) = false := by
    rcases h with h | h
    · simp [h]
    · simp [Option.isNone_eq_false_iff, Option.isSome_iff_ne_none, h]
  simp only [Dev.shiftHoldEnd, hg, Bool.false_eq_true, if_false]

/-- A trim window that has come to its end begins anew with the trim in RTC_TRIM (R373). -/
theorem Dev.trimWindow_due {d e : Dev} (hf : d.xtalFail = false) (hw : d.rtc.winAt + 2 ^ 20 ≤ d.xtal) (he : e = d.rtcSync) :
    d.trimWindow = { e with rtc := { e.rtc with
      winAt := e.rtc.since, trim := max (-1023) (sfld (e.reg R.RTC_TRIM) 0 11) } } := by
  subst he
  simp only [Dev.trimWindow, hf, Nat.not_lt.2 hw]
  rfl

/-- Settles O52: each command has one equation per case of R372 to R376. That a shift moves the time a waiting seconds write
sets, and that a failed crystal's count is what it was 1 ms before, are the model's deductions (log 67); the crystal's cycle is
counted in clock periods (log 6). -/
theorem realTimeClock : Obligations.RealTimeClock := by
  unfold Obligations.RealTimeClock
  intro s
  refine ⟨fun r h => ?_, fun r w d d1 h hd h1 hs => ?_, ?_, fun d hd hb => ⟨fun hh hs => ?_, fun h => ?_⟩,
    fun d hf hw hd => ?_, rfl⟩
  · exact always_byRead h (Dev.latchingRead_rtcFrac ..)
  · exact (always_byWrite h _).trans (by rw [Dev.rtcSet_uncontended hd h1 hs])
  · rintro r w x h rfl
    have he : exec (.rtcShift r w) s = .next (s.goes (s.dev.rtcShift w)) := always_byWrite h _
    rw [he]
    refine ⟨fun hr => ?_, fun hr hp => ?_, fun hr hp hb => ?_, fun d hr hp hb hs hd => ?_⟩
    · rw [Dev.rtcShift_badRange hr]
    · rw [Dev.rtcShift_denied hr hp]
    · rw [Dev.rtcShift_busy hr hp hb]
    · rw [Dev.rtcShift_ok hr hp hb hs]
      refine ⟨fun hx => ?_, fun hx hn => ?_, fun c t h hx hn => ?_, fun hx hn => ?_⟩
      · rw [hx, Dev.rtcMove_zero hd]; rfl
      · rw [Dev.rtcMove_forward hd hx hn]; rfl
      · rw [Dev.rtcMove_forward_of_setTo hd hx hn]; rfl
      · rw [Dev.rtcMove_backward hd hx hn]; rfl
  · exact (always_goes s _).trans (by rw [Dev.shiftHoldEnd_over hd hb hh hs])
  · exact (always_goes s _).trans (by rw [Dev.shiftHoldEnd_holding hd h])
  · exact (always_goes s _).trans (by rw [Dev.trimWindow_due hf hw hd])

/-! ## The timers (R379 to R385) -/

section Control
variable {d e : Dev} {n : Nat} {w v old : Word} {t : Tmr} (hv : v = w &&& 0xF8FFF8FF#32) (he : e = d.tmrSync n)
  (ho : old = e.reg (R.TMR_CTL n))
  (ht : t = { e.timer n with wrAt := if bitOf v 28 && !bitOf old 28 then some e.clk else (e.timer n).wrAt })
include hv he ho ht

/-- A write that sets EN starts the count at 0 with no residue (R379). -/
theorem Dev.tmrCtl_starts (h1 : bitOf v 31 = true) (h0 : bitOf old 31 = false) : d.tmrCtl n w =
    (e.setTimer n { t with count := 0, res := 0, edges := 0, reload := false, advAt := none }).setReg (R.TMR_CTL n) v := by
  subst ht ho he hv
  simp only [Dev.tmrCtl, h1, h0]
  rfl

/-- A write that finds and leaves EN = 1 changes CMPEN and OWN alone (R380). -/
theorem Dev.tmrCtl_keeps (h1 : bitOf v 31 = true) (h0 : bitOf old 31 = true) : d.tmrCtl n w =
    (e.setTimer n t).setReg (R.TMR_CTL n) (setFld (setFld old 28 1 (fld v 28 1)) 29 2 (fld v 29 2)) := by
  subst ht ho he hv
  simp only [Dev.tmrCtl, h1, h0]
  rfl

/-- A write with EN = 0 applies every field and holds the count (R379, R380). -/
theorem Dev.tmrCtl_stops (h1 : bitOf v 31 = false) : d.tmrCtl n w =
    (e.setTimer n { t with res := 0 }).setReg (R.TMR_CTL n) v := by
  subst ht ho he hv
  simp only [Dev.tmrCtl, h1, Bool.and_false]
  rfl

end Control

theorem Dev.tmrFresh_iff (d : Dev) (n : Nat) : d.tmrFresh n = true ↔
    (d.timer n).advAt = some d.clk ∨ (d.timer n).wrAt = some d.clk := by simp [Dev.tmrFresh]

/-- A match, at an advance or at a write of CMP or CMPEN (R382). -/
theorem Dev.tmrMatch_met {d e : Dev} {n : Nat} (he : e = d.tmrSync n) (hp : e.pdRun 3 = true)
    (hc : e.b (R.TMR_CTL n) 28 = true) (hf : e.tmrFresh n = true) (hm : (e.timer n).count = e.tmrCmp n) : d.tmrMatch n =
    ((e.setTimer n { e.timer n with advAt := none, wrAt := none, reload := e.b (R.TMR_CTL n) 27 }).setB
      (R.TMR_FLAGS n) 0 true).tmrMatchPost n := by
  subst he
  simp only [Dev.tmrMatch, hp, hc, hf, hm, beq_self_eq_true, Bool.and_true, if_true]

/-- A pin edge that the timer's CSRC, EDGE and CIN select is accepted, the pin's function being TINx (R384, R452). -/
theorem Dev.tmrPinEdge_selected {d : Dev} {n : Nat} {rising : Bool} (hr : d.tmrRuns n = true)
    (hs : bitOf (d.reg (R.TMR_CTL n)) 11 = false)
    (he : (if rising then bitOf (d.reg (R.TMR_CTL n)) 14 else bitOf (d.reg (R.TMR_CTL n)) 15) = true)
    (hf : d.f (R.PIO_GP_CFG (fld (d.reg (R.TMR_CTL n)) 0 3)) 0 4 = 1) :
    d.tmrPinEdge n rising = d.tmrEdge n (fld (d.reg (R.TMR_CTL n)) 16 4) := by
  simp only [Dev.tmrPinEdge, hr, hs, he, hf]
  rfl

section Edge
variable {d e e1 : Dev} {n : Nat} (back : Nat) (he : e = d.tmrSync n)
  (h1 : e1 = e.setTimer n { e.timer n with edges := (e.timer n).edges + 1 })
include he h1

/-- Every 2^EPRE-th accepted edge captures; the others are counted (R384). -/
theorem Dev.tmrEdge_counted (hn : ((e.timer n).edges + 1) % 2 ^ e1.f (R.TMR_CTL n) 12 2 ≠ 0) : d.tmrEdge n back = e1 := by
  subst h1 he
  exact if_neg hn

theorem Dev.tmrEdge_captures (hn : ((e.timer n).edges + 1) % 2 ^ e1.f (R.TMR_CTL n) 12 2 = 0) :
    d.tmrEdge n back = e1.tmrCaptureValue n (((e.timer n).count + 2 ^ 48 - back) % 2 ^ 48) := by
  subst h1 he
  exact if_pos hn

end Edge

/-- Settles O53: a control write has one equation per case of EN, a pin edge one for the edges that capture and one for the
others, and the reads and the snapshot are what they latch. -/
theorem timers : Obligations.Timers := by
  unfold Obligations.Timers
  intro s n hl
  refine ⟨fun r w v old d t h hv hd ho ht => ?_, fun d hd hp hc hf hm => ?_, fun rising d d1 hr hs he hf hd h1 => ?_,
    fun r h => ?_, fun r h => ?_⟩
  · have hw : exec (.tmrnCtl r n w) s = .next (s.goes (s.dev.tmrCtl n w)) := acted_byWrite hl h _
    rw [hw]
    refine ⟨fun hn ho' => ?_, fun hn ho' => ?_, fun hn => ?_⟩
    · rw [Dev.tmrCtl_starts hv hd ho ht hn ho']
    · rw [Dev.tmrCtl_keeps hv hd ho ht hn ho']
    · rw [Dev.tmrCtl_stops hv hd ho ht hn]
  · exact (acted_live hl _).trans (by rw [Dev.tmrMatch_met hd hp hc ((Dev.tmrFresh_iff ..).2 hf) hm])
  · have hx : exec (.timerCapture n rising) s = .next (s.goes (s.dev.tmrEdge n (fld (s.dev.reg (R.TMR_CTL n)) 16 4))) :=
      (acted_live hl _).trans (by rw [Dev.tmrPinEdge_selected hr hs he hf])
    rw [hx]
    exact ⟨fun hn => by rw [Dev.tmrEdge_counted _ hd h1 hn], fun hn => by rw [Dev.tmrEdge_captures _ hd h1 hn]⟩
  · exact acted_byWrite hl h _
  · exact acted_byRead h (Dev.latchingRead_tmrCapLo ..) hl

end Sys2Proof.Machine

/-! # Proofs: every step keeps registers and memory in canonical form

`Canon` is the invariant; each operation of the model keeps it, and its lemma's proof names the operations it is made of, in
their order. -/

namespace Sys2Proof.Machine

/-- Registers and memory of the device are in canonical form. -/
def Canon (d : Dev) : Prop := d.canonical = true

/-- The registers that posts and counters act on are in canonical form. -/
def Fab.Canon (f : Fab) : Prop := twf resetOf f.regs = true

/-- The device that an instruction's body leaves, if it leaves one, is in canonical form. -/
def Ex.Sound : Ex → Prop
  | .ok d _ => Canon d
  | .jump d _ _ => Canon d
  | .fault _ => True
  | .stay d => Canon d

/-- The device that an access leaves, if it leaves one, is in canonical form. -/
def Got.Sound : Got → Prop
  | .ok d _ => Canon d
  | .wait => True
  | .fault _ => True

def Gots.Sound : Gots → Prop
  | .ok d _ => Canon d
  | .wait => True
  | .fault _ => True

def Acc1.Sound : Acc1 → Prop
  | .done d _ => Canon d
  | .wait => True
  | .fail d => Canon d

def PortRes.Sound : PortRes → Prop
  | .ioport => True
  | .wait => True
  | .ok d _ => Canon d

section
variable {d e : Dev}

/-! ## Changes of other fields, branches, and results taken apart -/

/-- The canonical form speaks of registers and memory alone. -/
theorem Canon.upd (h : Canon d) {clk freeCtr armSeq : Nat} {ecc1 ecc2 spoilt : List Nat} {unfenced : List (Nat ×
    Byte)} {tb : Tb} {slots : Table Slot} {ghosts : List (Nat × Arming)} {outcomes acrDrops : Table Nat} {cpus : Table
    Cpu} {wenA wenB : Wen} {radios : Table Radio} {txents : Table TxEnt} {acrs : Table AcrRx} {acrq planq : Table
    (List Word)} {trunk : Trunk} {asb : Asb} {mac : Mac} {sec : Sec} {msg : Msg} {tok : Tok} {host : HostLinks} {skein
    : Skein} {timers : Table Tmr} {rtc : Rtc} {fw : Fw} {sup : Sup} {power : Power} {mgn : Mgn} {clp : Clp} {tap :
    Tap} {bus : Option (Nat × Nat × Option Word)} : Canon ⟨clk, freeCtr, d.regs, d.mem, ecc1, ecc2, spoilt, unfenced,
    tb, slots, ghosts, outcomes, armSeq, cpus, wenA, wenB, radios, txents, acrs, acrq, acrDrops, trunk, asb, mac,
    planq, sec, msg, tok, host, skein, timers, rtc, fw, sup, power, mgn, clp, tap, bus⟩ := h

theorem Canon.ite {c : Prop} [Decidable c] (hd : Canon d) (he : Canon e) : Canon (if c then d else e) := by
  split <;> assumption

theorem Canon.ite_fst {α : Type} {c : Prop} [Decidable c] {x y : Dev × α} (hx : Canon x.1) (hy : Canon y.1) :
    Canon (if c then x else y).1 := by
  split <;> assumption

theorem Canon.ite_opt {c : Prop} [Decidable c] {x y : Option Dev} (hx : ∀ e ∈ x, Canon e) (hy : ∀ e ∈ y, Canon e) :
    ∀ e ∈ (if c then x else y), Canon e := by
  split <;> assumption

theorem Canon.ite_optfst {α : Type} {c : Prop} [Decidable c] {x y : Option (Dev × α)} (hx : ∀ e ∈ x, Canon e.1)
    (hy : ∀ e ∈ y, Canon e.1) : ∀ e ∈ (if c then x else y), Canon e.1 := by
  split <;> assumption

theorem Canon.none : ∀ e ∈ (none : Option Dev), Canon e := fun _ he => absurd he (Option.not_mem_none _)

theorem Canon.none_fst {α : Type} : ∀ e ∈ (Option.none : Option (Dev × α)), Canon e.1 :=
  fun _ he => absurd he (Option.not_mem_none _)

theorem Canon.some (h : Canon d) : ∀ e ∈ some d, Canon e := by
  rintro _ ⟨⟩
  exact h

theorem Canon.some_fst {α : Type} {x : Dev × α} (h : Canon x.1) : ∀ e ∈ Option.some x, Canon e.1 := by
  rintro _ ⟨⟩
  exact h

theorem Canon.pair {α : Type} {a : α} (h : Canon d) : Canon (d, a).1 := h

theorem Canon.some_pair {α : Type} {a : α} (h : Canon d) : ∀ e ∈ Option.some (d, a), Canon e.1 := Canon.some_fst h.pair

theorem Canon.of_some {x : Option Dev} (h : ∀ e ∈ x, Canon e) (hx : x = Option.some d) : Canon d := h d hx

theorem Canon.of_some_fst {α : Type} {x : Option (Dev × α)} {a : α} (h : ∀ e ∈ x, Canon e.1) (hx : x = Option.some (d, a)) :
    Canon d := h _ hx

theorem Canon.of_fst {α : Type} {x : Dev × α} {a : α} (h : Canon x.1) (hx : x = (d, a)) : Canon d := by
  rwa [hx] at h

theorem Ex.Sound.ite {c : Prop} [Decidable c] {x y : Ex} (hx : x.Sound) (hy : y.Sound) : (if c then x else y).Sound := by
  split <;> assumption

theorem Got.Sound.ite {c : Prop} [Decidable c] {x y : Got} (hx : x.Sound) (hy : y.Sound) : (if c then x else y).Sound := by
  split <;> assumption

theorem Acc1.Sound.ite {c : Prop} [Decidable c] {x y : Acc1} (hx : x.Sound) (hy : y.Sound) :
    (if c then x else y).Sound := by
  split <;> assumption

theorem PortRes.Sound.ite {c : Prop} [Decidable c] {x y : PortRes} (hx : x.Sound) (hy : y.Sound) :
    (if c then x else y).Sound := by
  split <;> assumption

theorem Got.Sound.of_eq {x : Got} {v : Word} (h : x.Sound) (hx : x = .ok d v) : Canon d := by rwa [hx] at h

theorem Gots.Sound.of_eq {x : Gots} {vs : List Word} (h : x.Sound) (hx : x = .ok d vs) : Canon d := by rwa [hx] at h

theorem Acc1.Sound.of_eq {x : Acc1} {v : Word} (h : x.Sound) (hx : x = .done d v) : Canon d := by rwa [hx] at h

theorem Acc1.Sound.of_fail {x : Acc1} (h : x.Sound) (hx : x = .fail d) : Canon d := by rwa [hx] at h

theorem PortRes.Sound.of_eq {x : PortRes} {v : Word} (h : x.Sound) (hx : x = .ok d v) : Canon d := by rwa [hx] at h

/-- What every step of a fold keeps, the fold keeps. -/
theorem Canon.foldl {α : Type} {g : Dev → α → Dev} {l : List α} (h : Canon d) (hg : ∀ e x, Canon e → Canon (g e x)) :
    Canon (l.foldl g d) :=
  Dev.canonical_forEach hg l h

theorem Canon.foldl_fst {α β : Type} {g : Dev × β → α → Dev × β} (l : List α)
    (hg : ∀ x a, Canon x.1 → Canon (g x a).1) : ∀ {x : Dev × β}, Canon x.1 → Canon (l.foldl g x).1 := by
  induction l with
  | nil => exact id
  | cons a r ih => exact fun h => ih (hg _ a h)

/-! ## The event fabric's registers -/

theorem Fab.Canon.upd {f : Fab} (h : f.Canon) {skein : Skein} : Fab.Canon ⟨f.regs, skein⟩ := h

theorem Fab.Canon.ite {c : Prop} [Decidable c] {f g : Fab} (hf : f.Canon) (hg : g.Canon) :
    Fab.Canon (if c then f else g) := by
  split <;> assumption

theorem Fab.Canon.foldl {α : Type} {g : Fab → α → Fab} (l : List α) (hg : ∀ f x, f.Canon → (g f x).Canon) :
    ∀ {f : Fab}, f.Canon → (l.foldl g f).Canon := by
  induction l with
  | nil => exact id
  | cons a r ih => exact fun h => ih (hg _ a h)

section
variable {f : Fab} (h : f.Canon)
include h

theorem Fab.Canon.setReg {k : Nat} {w : Word} : (f.setReg k w).Canon := twf_tput resetOf h k w

theorem Fab.Canon.setPmc {n v : Nat} : (f.setPmc n v).Canon := h.setReg.setReg

theorem Fab.Canon.pmcAdd {post : Fab → Nat → Fab} (hpost : ∀ f ch, f.Canon → (post f ch).Canon) {n k : Nat} :
    (pmcAdd post f n k).Canon :=
  Fab.Canon.ite h.setPmc (Fab.Canon.ite (hpost _ _ h.setPmc.setReg) h.setPmc.setReg)

theorem Fab.Canon.postWith {cnt : Fab → Nat → Fab} (hcnt : ∀ f sel, f.Canon → (cnt f sel).Canon) {ch : Nat} :
    (postWith cnt f ch).Canon :=
  Fab.Canon.ite (Fab.Canon.ite (hcnt _ _ h.setReg) h.upd) h

end

theorem Fab.Canon.pmcEventN : ∀ {n : Nat} {f : Fab}, f.Canon → ∀ {sel : Nat}, (pmcEventN n f sel).Canon
  | 0, _, h, _ => h
  | _ + 1, _, h, _ =>
    Fab.Canon.ite h (Fab.Canon.foldl _ (fun _ _ h1 => h1.pmcAdd fun _ _ h2 => h2.postWith fun _ _ h3 => h3.pmcEventN) h)

section
variable {f : Fab} (h : f.Canon)
include h

theorem Fab.Canon.fabPost {ch : Nat} : (fabPost f ch).Canon := h.postWith fun _ _ h1 => h1.pmcEventN

theorem Fab.Canon.pmcQueue {occ : Nat → Nat} : (f.pmcQueue occ).Canon :=
  Fab.Canon.ite h (Fab.Canon.foldl _ (fun _ _ h1 => Fab.Canon.ite (h1.pmcAdd fun _ _ h2 => h2.fabPost) h1) h)

theorem Fab.Canon.pmcRetire {m pc : Nat} : (f.pmcRetire m pc).Canon :=
  Fab.Canon.ite (Fab.Canon.foldl _ (fun _ _ h1 => h1.upd) h)
    (Fab.Canon.foldl _ (fun _ _ h1 => Fab.Canon.ite h1.setPmc h1.setPmc.upd) (Fab.Canon.foldl _ (fun _ _ h1 => h1.upd) h))

end

/-! ## Every operation, in the model's order -/


/-! ### Ops -/

theorem Canon.setReg (h : Canon d) {k : Nat} {w : Word} : Canon (d.setReg k w) := Dev.canonical_setReg h k w

theorem Canon.setF (h : Canon d) {k lo n v : Nat} : Canon (d.setF k lo n v) := h.setReg

theorem Canon.setB (h : Canon d) {k i : Nat} {v : Bool} : Canon (d.setB k i v) := h.setReg

theorem Canon.bumpF (h : Canon d) {k lo n by_ : Nat} : Canon (d.bumpF k lo n by_) := h.setF

theorem Canon.bump (h : Canon d) {k : Nat} : Canon (d.bump k) := h.bumpF

theorem Canon.setPair (h : Canon d) {lo hi v : Nat} : Canon (d.setPair lo hi v) := h.setReg.setReg

theorem Canon.resetRange (h : Canon d) {lo hi : Nat} : Canon (d.resetRange lo hi) := Dev.canonical_resetRange h lo hi

theorem Canon.wr8 (h : Canon d) {a : Nat} {v : Byte} : Canon (d.wr8 a v) := Dev.canonical_wr8 h a v

theorem Canon.unmark (h : Canon d) {a : Nat} : Canon (d.unmark a) := h.upd

theorem Canon.wr32 (h : Canon d) {a : Nat} {w : Word} : Canon (d.wr32 a w) := h.wr8.wr8.wr8.wr8.unmark

theorem Canon.wrBytes (h : Canon d) {a : Nat} {l : List Byte} : Canon (d.wrBytes a l) := Dev.canonical_wrBytes l h a

theorem Canon.wrWords (h : Canon d) {a : Nat} {l : List Word} : Canon (d.wrWords a l) := Dev.canonical_wrWords l h a

theorem Canon.clearMem (h : Canon d) {lo n : Nat} : Canon (d.clearMem lo n) := Dev.canonical_clearMem h lo n

theorem Canon.setCpu (h : Canon d) {p : Nat} {c : Cpu} : Canon (d.setCpu p c) := h.upd

theorem Canon.onCpu (h : Canon d) {p : Nat} {g : Cpu → Cpu} : Canon (d.onCpu p g) := h.setCpu

theorem Canon.setRadio (h : Canon d) {n : Nat} {r : Radio} : Canon (d.setRadio n r) := h.upd

theorem Canon.onRadio (h : Canon d) {n : Nat} {g : Radio → Radio} : Canon (d.onRadio n g) := h.setRadio

theorem Canon.setSlot (h : Canon d) {u k : Nat} {s : Slot} : Canon (d.setSlot u k s) := h.upd

theorem Canon.setTxent (h : Canon d) {n m : Nat} {e : TxEnt} : Canon (d.setTxent n m e) := h.upd

theorem Canon.setWen (h : Canon d) {m : Nat} {w : Wen} : Canon (d.setWen m w) := Canon.ite h.upd h.upd

theorem Canon.setAcr (h : Canon d) {a : Nat} {x : AcrRx} : Canon (d.setAcr a x) := h.upd

theorem Canon.fresh (h : Canon d) : Canon d.fresh.2 := h.upd

theorem Canon.forEach {α : Type} (h : Canon d) {l : List α} {g : Dev → α → Dev} (hg : ∀ e x1, Canon e → Canon (g e x1)) :
    Canon (d.forEach l g) := h.foldl hg

/-! ### Skein -/

theorem Canon.onFab (h : Canon d) {g : Fab → Fab} (hg : ∀ f, f.Canon → (g f).Canon) : Canon (d.onFab g) := by
  obtain ⟨hr, hm⟩ := (Dev.canonical_iff d).1 h
  exact (Dev.canonical_iff _).2 ⟨hg ⟨d.regs, d.skein⟩ hr, hm⟩

theorem Canon.pmcEvent (h : Canon d) {sel : Nat} : Canon (d.pmcEvent sel) := h.onFab fun _ h1 => h1.pmcEventN

theorem Canon.post (h : Canon d) {ch : Nat} : Canon (d.post ch) := h.onFab fun _ h1 => h1.fabPost

theorem Canon.hwEvent (h : Canon d) {src : Nat} : Canon (d.hwEvent src) :=
  h.onFab fun _ h1 => Fab.Canon.foldl _ (fun _ _ h2 => h2.fabPost) h1

theorem Canon.pmcOctets (h : Canon d) {port dir n : Nat} : Canon (d.pmcOctets port dir n) :=
  h.onFab fun _ h1 => Fab.Canon.ite h1
    (Fab.Canon.foldl _ (fun _ _ h2 => Fab.Canon.ite (h2.pmcAdd fun _ _ h3 => h3.fabPost) h2) h1)

theorem Canon.msTraffic (h : Canon d) {a n dir : Nat} : Canon (d.msTraffic a n dir) :=
  Canon.ite h (h.forEach (fun _ _ h1 => Canon.ite h1 h1.pmcOctets))

theorem Canon.msWrite (h : Canon d) {a : Nat} {l : List Byte} : Canon (d.msWrite a l) := h.wrBytes.msTraffic

theorem Canon.retireCount (h : Canon d) {p pc : Nat} : Canon (d.retireCount p pc) :=
  Canon.ite h (Canon.ite (h.pmcEvent.onFab fun _ h1 => h1.pmcRetire) h.pmcEvent)

theorem Canon.setLatch (h : Canon d) {p ch : Nat} {v : Bool} : Canon (d.setLatch p ch v) := h.upd

theorem Canon.setFurther (h : Canon d) {p ch : Nat} : Canon (d.setFurther p ch) := h.upd

/-! ### RtcTimers -/

theorem Canon.rtcSync (h : Canon d) : Canon d.rtcSync := Canon.ite h h.upd

theorem Canon.rtcFracRead (h : Canon d) {r : Nat} : Canon (d.rtcFracRead r).1 := h.setPair

theorem Canon.rtcSet (h : Canon d) {w : Word} : Canon (d.rtcSet w) :=
  Canon.ite h.rtcSync.setReg.upd.setB.setF h.rtcSync.setReg.upd.setB

theorem Canon.rtcMove (h : Canon d) {s : Int} : Canon (d.rtcMove s) :=
  Canon.ite h.rtcSync.upd (Canon.ite h.rtcSync.upd.setB h.rtcSync)

theorem Canon.rtcShift (h : Canon d) {w : Word} : Canon (d.rtcShift w) :=
  Canon.ite h.setF (Canon.ite h.setF (Canon.ite h.setF (Canon.ite h.setF h.setF.rtcMove.upd)))

theorem Canon.shiftHoldEnd (h : Canon d) : Canon d.shiftHoldEnd := Canon.ite h.rtcSync.setB h.rtcSync

theorem Canon.trimWindow (h : Canon d) : Canon d.trimWindow := Canon.ite h h.rtcSync.upd

theorem Canon.xtalFails (h : Canon d) : Canon d.xtalFails := h.upd.rtcSync.upd.setB

theorem Canon.discRestart (h : Canon d) : Canon d.discRestart := h.setF.setB.upd

theorem Canon.discMeasure (h : Canon d) : Canon d.discMeasure :=
  (((Canon.ite h.setReg.setF h.setReg.setF.setF).upd).setB).rtcMove

theorem Canon.discEdge (h : Canon d) : Canon d.discEdge :=
  Canon.ite h (Canon.ite h.discMeasure (Canon.ite h.discMeasure h.setF))

theorem Canon.discMiss (h : Canon d) : Canon d.discMiss := Canon.ite h.discRestart h

theorem Canon.setTimer (h : Canon d) {n : Nat} {t : Tmr} : Canon (d.setTimer n t) := h.upd

theorem Canon.tmrSync (h : Canon d) {n : Nat} : Canon (d.tmrSync n) := h.setTimer

theorem Canon.tmrCtl (h : Canon d) {n : Nat} {w : Word} : Canon (d.tmrCtl n w) :=
  Canon.ite h.tmrSync.setTimer.setReg h.tmrSync.setTimer.setReg

theorem Canon.tmrCmpWrite (h : Canon d) {n k : Nat} {w : Word} : Canon (d.tmrCmpWrite n k w) :=
  h.tmrSync.setReg.setTimer

theorem Canon.tmrMatchPost (h : Canon d) {n : Nat} : Canon (d.tmrMatchPost n) := Canon.ite h.post h

theorem Canon.tmrMatch (h : Canon d) {n : Nat} : Canon (d.tmrMatch n) :=
  Canon.ite h.tmrSync.setTimer.setB.tmrMatchPost h.tmrSync

theorem Canon.tmrCaptureValue (h : Canon d) {n v : Nat} : Canon (d.tmrCaptureValue n v) :=
  Canon.ite ((Canon.ite h.setPair.setB h.setPair.setB).post) (Canon.ite h.setPair.setB h.setPair.setB)

theorem Canon.tmrEdge (h : Canon d) {n back : Nat} : Canon (d.tmrEdge n back) :=
  Canon.ite h.tmrSync.setTimer.tmrCaptureValue h.tmrSync.setTimer

theorem Canon.tmrPinEdge (h : Canon d) {n : Nat} {rising : Bool} : Canon (d.tmrPinEdge n rising) :=
  Canon.ite h.tmrEdge h

theorem Canon.tmrEvent (h : Canon d) {n ch : Nat} : Canon (d.tmrEvent n ch) := Canon.ite h.tmrEdge h

theorem Canon.tmrSnap (h : Canon d) {r : Nat} : Canon (d.tmrSnap r) := h.setPair.forEach (fun _ _ h1 => h1.setPair)

theorem Canon.tmrCapRead (h : Canon d) {n r : Nat} : Canon (d.tmrCapRead n r).1 := h.setReg

theorem Canon.tmrHalt (h : Canon d) : Canon d.tmrHalt := by
  unfold Dev.tmrHalt
  dsimp only
  split
  · exact h.forEach (fun _ _ h1 => h1.tmrSync)
  · exact (h.forEach (fun _ _ h2 => h2.tmrSync)).upd

theorem Canon.tmrKeep (h : Canon d) : Canon d.tmrKeep := h.upd

theorem Canon.tmrMakeup (h : Canon d) {m n : Nat} : Canon (d.tmrMakeup m n) :=
  Canon.ite h.setTimer (Canon.ite h.setTimer.setB.setB.tmrMatchPost h.setTimer)

theorem Canon.tmrReturn (h : Canon d) : Canon d.tmrReturn := by
  unfold Dev.tmrReturn
  split
  · exact h
  · exact h.upd.setB.setF.forEach (fun _ _ h1 => h1.tmrMakeup)

theorem Canon.tmrRestore (h : Canon d) : Canon d.tmrRestore := by
  unfold Dev.tmrRestore
  split
  · exact h
  · exact h.upd.forEach (fun _ _ h1 => h1.setReg)

/-! ### Cpu -/

theorem Canon.setEngState (h : Canon d) {n s : Nat} : Canon (d.setEngState n s) := h.setF.setB

theorem Canon.retire (h : Canon d) {p cost : Nat} {next : Word} : Canon (d.retire p cost next) :=
  (Canon.ite h.onCpu.setB h.onCpu).retireCount

theorem Canon.stepEnd (h : Canon d) {p : Nat} : Canon (d.stepEnd p) := Canon.ite h.onCpu h

theorem Canon.finishWait (h : Canon d) {p cost : Nat} {g : Cpu → Cpu} : Canon (d.finishWait p cost g) :=
  h.onCpu.retire.stepEnd

theorem Canon.beginWait (h : Canon d) {p : Nat} {w : Wait} : Canon (d.beginWait p w) := Canon.ite h.onCpu.setB h.onCpu

theorem Canon.takeLatch (h : Canon d) {p ch : Nat} : Canon (d.takeLatch p ch).1 :=
  Canon.ite_fst (by dsimp only; split; exact h.setLatch.setB; exact h.setLatch) h.setLatch

theorem Canon.wakeEvent (h : Canon d) {p ch : Nat} : Canon (d.wakeEvent p ch) := by
  unfold Dev.wakeEvent
  split
  · exact Canon.ite h.takeLatch.finishWait h
  · exact h

theorem Canon.takeReply (h : Canon d) {p tag : Nat} : Canon (d.takeReply p tag) := h.onCpu.setB

theorem Canon.wake (h : Canon d) {p : Nat} : Canon (d.wake p) := by
  unfold Dev.wake
  split
  · exact Canon.ite h.takeReply.finishWait h
  · exact Canon.ite h.finishWait h
  · exact h

theorem Canon.placeMarker (h : Canon d) {n : Nat} : Canon (d.placeMarker n) := Canon.ite h h.setWen

theorem Canon.engineFault (h : Canon d) {n code : Nat} {addr : Word} : Canon (d.engineFault n code addr) :=
  h.placeMarker.setReg.setReg.setReg.setB.onCpu.setEngState

theorem Canon.writeSkid (h : Canon d) {m : Nat} : Canon (d.writeSkid m) :=
  h.forEach (fun _ _ h1 => Canon.ite h1.setF h1)

theorem Canon.eccCorrect (h : Canon d) {f : Nat} : Canon (d.eccCorrect f) := Canon.ite h.upd.bump.pmcEvent h

/-! ### Gates -/

theorem Canon.showLate (h : Canon d) : Canon d.showLate := by
  unfold Dev.showLate
  split <;> exact h.setReg.setPair.setReg

theorem Canon.lateRecord (h : Canon d) {r : LateRec} : Canon (d.lateRecord r) :=
  Canon.ite h.bump.pmcEvent.upd.showLate.hwEvent h.bump.pmcEvent.upd.showLate

theorem Canon.latePop (h : Canon d) : Canon d.latePop := h.upd.showLate

theorem Canon.freeEntry (h : Canon d) {n m : Nat} : Canon (d.freeEntry n m) := h.setTxent

theorem Canon.releaseEntry (h : Canon d) {n handle : Nat} : Canon (d.releaseEntry n handle) :=
  Canon.ite (Canon.ite h.setTxent h.freeEntry) h

theorem Canon.endHold (h : Canon d) {n m : Nat} : Canon (d.endHold n m) :=
  Canon.ite (Canon.ite h.freeEntry h.setTxent) h

theorem Canon.setLead (h : Canon d) {c v : Nat} : Canon (d.setLead c v) := h.upd.setF

theorem Canon.noteJudged (h : Canon d) {p : Proc} {u : Nat} : Canon (d.noteJudged p u) := h.upd

theorem Canon.noteLead (h : Canon d) {c : Nat} : Canon (d.noteLead c) := h.upd

theorem Canon.judge (h : Canon d) {p : Proc} {u cls : Nat} : Canon (d.judge p u cls) := h.noteJudged.noteLead

theorem Canon.setOutcome (h : Canon d) {id o : Nat} : Canon (d.setOutcome id o) := h.upd

theorem Canon.doomDeps (h : Canon d) {u id o at_ : Nat} : Canon (d.doomDeps u id o at_) :=
  h.forEach (fun _ _ h1 => by split; exact Canon.ite h1.setSlot h1; exact h1)

theorem Canon.freeSlot (h : Canon d) {u k o : Nat} : Canon (d.freeSlot u k o) := h.setSlot.setB

theorem Canon.endArming (h : Canon d) {u k : Nat} {a : Arming} {o : Nat} : Canon (d.endArming u k a o) :=
  Canon.ite h.freeSlot.setOutcome h.freeSlot.setOutcome.doomDeps

theorem Canon.settleOnce (h : Canon d) {u : Nat} : Canon (d.settleOnce u) :=
  ((h.forEach
    (fun _ _ h1 => by split; exact Canon.ite ((((Canon.ite h1.endHold h1).freeSlot).upd).doomDeps) h1; exact h1)).forEach
    (fun _ _ h2 => by split; exact h2.setOutcome; exact h2)).upd

theorem Canon.settleN : ∀ {n : Nat} {d : Dev}, Canon d → ∀ {u : Nat}, Canon (settleN n d u)
  | 0, _, h, _ => h
  | _ + 1, _, h, _ => h.settleOnce.settleN

theorem Canon.settle (h : Canon d) {u : Nat} : Canon (d.settle u) := Canon.ite h.settleN h

theorem Canon.arm (h : Canon d) {p : Proc} {u cls fire param : Nat} {pred : Option Nat} :
    Canon (d.arm p u cls fire param pred).1 :=
  Canon.ite_fst h.settle.judge
    (Canon.ite_fst h.settle.judge
      (Canon.ite_fst h.settle.judge
        (Canon.ite_fst h.settle.judge.lateRecord (by split; exact h.settle.judge; exact h.settle.judge.upd.setSlot.setB))))

theorem Canon.disarmSlot (h : Canon d) {u k : Nat} : Canon (d.disarmSlot u k).1 := by
  unfold Dev.disarmSlot
  split
  · split
    · exact Canon.pair (Canon.endArming (Canon.ite h.endHold h))
    · exact h
  · exact h

theorem Canon.disarm (h : Canon d) {p : Proc} {u k : Nat} : Canon (d.disarm p u k).1 :=
  Canon.ite_fst h.settle.noteJudged h.settle.noteJudged.disarmSlot

theorem Canon.fired (h : Canon d) {u k : Nat} {a : Arming} : Canon (d.fired u k a) := h.endArming.pmcEvent

theorem Canon.fireEvt (h : Canon d) {u k : Nat} : Canon (d.fireEvt u k) := by
  unfold Dev.fireEvt
  dsimp only
  split
  · exact h.settle.fired.post
  · exact h.settle

theorem Canon.checkArm (h : Canon d) {u k : Nat} {a : Arming} {ready : Bool} : Canon (d.checkArm u k a ready) :=
  Canon.ite (Canon.ite h.setSlot.setTxent h.setSlot) h.endArming.lateRecord

/-! ### Votes -/

theorem Canon.beginPrepare (h : Canon d) {n : Nat} : Canon (d.beginPrepare n) := h.upd.setB

theorem Canon.beginEntry (h : Canon d) {n : Nat} : Canon (d.beginEntry n) := Canon.ite h.upd h

theorem Canon.vote (h : Canon d) {n v : Nat} {on_ : Bool} : Canon (d.vote n v on_) :=
  Canon.ite h
    (Canon.ite (Canon.ite h.setReg.setF.setB h.setReg.setF.setB.beginEntry)
      (Canon.ite h.setReg.setF.beginPrepare h.setReg.setF))

/-! ### Lanes -/

theorem Canon.setSt (h : Canon d) {n s : Nat} : Canon (d.setSt n s) := Canon.ite h.onRadio.setF h.onRadio.setF

theorem Canon.setAer (h : Canon d) {n a : Nat} : Canon (d.setAer n a) := Canon.ite h.onRadio.setF h.onRadio

theorem Canon.captureAt (h : Canon d) {n src count sub : Nat} : Canon (d.captureAt n src count sub) :=
  Canon.ite (Canon.ite h.setRadio.hwEvent h.setRadio) h.setRadio

theorem Canon.capture (h : Canon d) {n src : Nat} : Canon (d.capture n src) := h.captureAt

theorem Canon.countOne (h : Canon d) {k : Nat} {l : List (Nat × Nat)} : Canon (d.countOne k l) := h.setReg

theorem Canon.countBoth (h : Canon d) {n k : Nat} {l : List (Nat × Nat)} : Canon (d.countBoth n k l) :=
  Canon.ite h.countOne.countOne h.countOne

theorem Canon.refuse (h : Canon d) {n slot cls reason : Nat} : Canon (d.refuse n slot cls reason) :=
  h.countBoth.capture

theorem Canon.deny (h : Canon d) {n reason sub : Nat} : Canon (d.deny n reason sub) := h.countBoth

theorem Canon.mayShut (h : Canon d) {n : Nat} : Canon (d.mayShut n) := Canon.ite h.setRadio h

theorem Canon.endTurn (h : Canon d) {n st : Nat} : Canon (d.endTurn n st) := Canon.ite h.setSt.mayShut h

theorem Canon.txEnd (h : Canon d) {n : Nat} : Canon (d.txEnd n) :=
  Canon.ite
    (((Canon.ite
      (Canon.upd (by split; exact Canon.ite h.setSt.capture.endHold h.setSt.capture.upd; exact h.setSt.capture))
      (by split; exact Canon.ite h.setSt.capture.endHold h.setSt.capture.upd; exact h.setSt.capture)).onRadio).mayShut) h

theorem Canon.beforeGate (h : Canon d) {n : Nat} : Canon (d.beforeGate n) := h.endTurn.endTurn.txEnd

theorem Canon.abandonTrunk (h : Canon d) {x : RxFrame} : Canon (d.abandonTrunk x) :=
  Canon.ite h.fresh.fresh (by split; exact h.fresh.fresh.bumpF; exact h.fresh.fresh.upd.capture)

theorem Canon.abandonRx (h : Canon d) {n : Nat} : Canon (d.abandonRx n) := by
  unfold Dev.abandonRx
  split
  · exact h
  · exact Canon.ite h.onRadio.fresh.onRadio.capture (Canon.ite h.onRadio.abandonTrunk h.onRadio)

theorem Canon.closeWin (h : Canon d) {n : Nat} {peak : Int} : Canon (d.closeWin n peak) := by
  unfold Dev.closeWin
  dsimp only
  split
  · exact h
  · exact h.setRadio

theorem Canon.noteFired (h : Canon d) {n : Nat} {a : Arming} : Canon (d.noteFired n a) := h.setRadio

theorem Canon.fireGate (h : Canon d) {n k cls : Nat} {act : Dev → Arming → Dev} (hact : ∀ e x1, Canon e → Canon (act e x1)) :
    Canon (d.fireGate n k cls act) := by
  unfold Dev.fireGate
  dsimp only
  split
  · exact h.settle
  · exact Canon.mayShut
      (by split; exact h.settle.beforeGate.fired.noteFired.refuse; exact hact _ _ h.settle.beforeGate.fired.noteFired)

theorem Canon.fireRxc (h : Canon d) {n k : Nat} {peak : Int} : Canon (d.fireRxc n k peak) :=
  h.fireGate
    (fun _ _ h1 =>
      Canon.ite (by split; exact Canon.ite h1.setRadio h1.closeWin.onRadio.setSt; exact h1.closeWin.setSt) h1)

theorem Canon.fireAer (h : Canon d) {n k : Nat} : Canon (d.fireAer n k) :=
  h.fireGate (fun _ _ h1 => Canon.ite h1.setAer.onRadio h1.setAer)

theorem Canon.fireRtn (h : Canon d) {n k : Nat} : Canon (d.fireRtn n k) :=
  h.fireGate (fun _ _ h1 => Canon.ite h1.refuse ((Canon.ite h1.onRadio.setF h1.onRadio).setSt))

theorem Canon.paTurn (h : Canon d) {n to_ : Nat} : Canon (d.paTurn n to_) := Canon.ite h (Canon.ite h.upd h.upd)

theorem Canon.fireTrn (h : Canon d) {n k : Nat} {peak : Int} : Canon (d.fireTrn n k peak) :=
  h.fireGate (fun _ _ h1 => (((Canon.ite h1.closeWin.abandonRx h1).paTurn).onRadio).setSt)

theorem Canon.fireRxo (h : Canon d) {n k : Nat} : Canon (d.fireRxo n k) :=
  h.fireGate (fun _ _ h1 => Canon.ite h1.refuse h1.onRadio.setSt)

theorem Canon.chargeOne (h : Canon d) {n lo hi air : Nat} : Canon (d.chargeOne n lo hi air) := h.upd

theorem Canon.charge (h : Canon d) {n lo hi air : Nat} : Canon (d.charge n lo hi air) :=
  Canon.ite h.chargeOne.chargeOne h.chargeOne

theorem Canon.trailRefusal (h : Canon d) {m : Nat} : Canon (d.trailRefusal m) := h.bumpF.pmcEvent

theorem Canon.startTx (h : Canon d) {n air m : Nat} : Canon (d.startTx n air m) := h.onRadio.setSt.capture

theorem Canon.radiate (h : Canon d) {n : Nat} {e : TxEnt} : Canon (d.radiate n e) := h.onRadio

theorem Canon.markRadiated (h : Canon d) {lsn : Nat} {fc : Word} : Canon (d.markRadiated lsn fc) := h.upd

theorem Canon.fireTxsLane (h : Canon d) {n k : Nat} {a : Arming} : Canon (d.fireTxsLane n k a) := by
  unfold Dev.fireTxsLane
  dsimp only
  split
  · exact h.fired.noteFired.refuse.endHold
  · exact Canon.ite h.fired.noteFired.refuse.endHold
      (Canon.ite h.fired.noteFired.trailRefusal.endHold
        (Canon.ite h.endArming.lateRecord.endHold
          (by
            split
            · exact h.endArming.pmcEvent.deny.endHold
            · exact h.fired.noteFired.charge.startTx.radiate.markRadiated.pmcOctets)))

theorem Canon.txsCheckLane (h : Canon d) {n k : Nat} : Canon (d.txsCheckLane n k) := by
  unfold Dev.txsCheckLane
  split
  · exact Canon.ite h.checkArm h
  · exact h

theorem Canon.fireLaneTxs (h : Canon d) {n k : Nat} : Canon (d.fireLaneTxs n k) := by
  unfold Dev.fireLaneTxs
  dsimp only
  split
  · exact h.settle
  · split; exact h.settle.beforeGate.txsCheckLane.fireTxsLane.mayShut; exact h.settle.beforeGate.txsCheckLane

theorem Canon.setPend (h : Canon d) {n m : Nat} : Canon (d.setPend n m) := Canon.ite h.onRadio.setF h.onRadio

theorem Canon.cmdRes (h : Canon d) {n v : Nat} : Canon (d.cmdRes n v) := h.setF

theorem Canon.laneEnable (h : Canon d) {n mask : Nat} : Canon (d.laneEnable n mask) :=
  Canon.ite h.cmdRes (Canon.ite h.cmdRes h.setRadio.setPend.setAer.setF.setF.cmdRes.setSt.vote)

theorem Canon.laneCalibrate (h : Canon d) {n mask : Nat} : Canon (d.laneCalibrate n mask) :=
  Canon.ite h.cmdRes h.setPend.cmdRes

theorem Canon.beginCal (h : Canon d) {n : Nat} : Canon (d.beginCal n) :=
  (Canon.ite h.onRadio.setPend.setB h.onRadio.setPend).setSt

theorem Canon.warmDone (h : Canon d) {n : Nat} : Canon (d.warmDone n) :=
  Canon.ite (Canon.ite h.beginCal h.setSt.mayShut) h

theorem Canon.calStart (h : Canon d) {n : Nat} : Canon (d.calStart n) := Canon.ite h.beforeGate.beginCal h.beforeGate

theorem Canon.calEnd (h : Canon d) {n fail : Nat} {temp : Int} {trims : List Word} :
    Canon (d.calEnd n fail temp trims) :=
  Canon.ite
    (((Canon.ite (((((h.setRadio.forEach (fun _ _ h1 => Canon.ite h1.setReg h1)).setF).setF).setF).setB) h.setRadio).setSt).mayShut)
    h

theorem Canon.closeDrained (h : Canon d) {n : Nat} : Canon (d.closeDrained n) := h.fresh.closeWin

theorem Canon.drain (h : Canon d) {n : Nat} : Canon (d.drain n).1 := by
  unfold Dev.drain
  extract_lets d1 keep out keptRxc d2 d3 frames d4 r e5 d5
  have h3 : Canon d3 := Canon.ite h.settle.beforeGate.onRadio.setB h.settle.beforeGate.onRadio
  have h4 : Canon d4 := h3.forEach fun _ _ h1 => (Canon.ite h1.endHold h1).endArming
  have he : Canon e5 := h4.onRadio.setSt
  have h5 : Canon d5 := by
    refine Canon.ite ?_ (Canon.ite (Canon.ite he.setB he) h4)
    split
    · exact Canon.ite h4.setRadio h4.closeDrained.abandonRx.setSt
    · exact h4.closeDrained.setSt
  exact h5.mayShut.pair

theorem Canon.drainOffer (h : Canon d) {n : Nat} : Canon (d.drainOffer n) := by
  have h1 : Canon (d.drain n).1 := h.drain
  unfold Dev.drainOffer
  split
  next he => exact (Canon.of_fst h1 he).onRadio

theorem Canon.trunkOff (h : Canon d) : Canon d.trunkOff := Canon.ite h h.setF.hwEvent

theorem Canon.laneOff (h : Canon d) {n : Nat} : Canon (d.laneOff n) := by
  unfold Dev.laneOff
  split
  · exact Canon.ite
      (((Canon.ite (((Canon.ite h.onRadio.setB h.onRadio).upd).trunkOff) (Canon.ite h.onRadio.setB h.onRadio)).setSt).vote)
      h
  · exact h

theorem Canon.laneCompare (h : Canon d) {n i : Nat} : Canon (d.laneCompare n i) := Canon.ite h.capture h

/-! ### Acr -/

theorem Canon.setAcrState (h : Canon d) {a s : Nat} : Canon (d.setAcrState a s) := h.setF

theorem Canon.acrCount (h : Canon d) {a : Nat} : Canon (d.acrCount a) := h.setF

theorem Canon.setAcrDig (h : Canon d) {a p : Nat} {g : AcrDig} : Canon (d.setAcrDig a p g) := h.setAcr

theorem Canon.setAcrPath (h : Canon d) {a k p : Nat} {x : AcrPath} : Canon (d.setAcrPath a k p x) := h.setAcr.setB

theorem Canon.disturb (h : Canon d) {a k p e : Nat} {ovl : Bool} : Canon (d.disturb a k p e ovl) := h.setAcrPath

theorem Canon.disturbChan (h : Canon d) {a k e : Nat} : Canon (d.disturbChan a k e) := h.disturb.disturb

theorem Canon.disturbDig (h : Canon d) {a p e : Nat} {ovl : Bool} : Canon (d.disturbDig a p e ovl) :=
  h.forEach (fun _ _ h1 => h1.disturb)

theorem Canon.acrSettling (h : Canon d) {a : Nat} : Canon (d.acrSettling a) := h.setB

theorem Canon.overClean (h : Canon d) {a p e : Nat} : Canon (d.overClean a p e) := h.setReg.bumpF.acrSettling

theorem Canon.overGone (h : Canon d) {a : Nat} {act : Dev → Dev} (hact : ∀ e, Canon e → Canon (act e)) :
    Canon (d.overGone a act) := (hact _ h).forEach (fun _ _ h1 => Canon.ite h1.setAcr.overClean h1)

theorem Canon.acrSearch (h : Canon d) {a k p : Nat} : Canon (d.acrSearch a k p) := h.setAcrPath

theorem Canon.acrPush (h : Canon d) {a k : Nat} {ws : List Word} {m : Nat} : Canon (d.acrPush a k ws m) :=
  Canon.ite h.upd.pmcOctets h.upd.bumpF

theorem Canon.acrDescriptor (h : Canon d) {a k : Nat} {ws : List Word} : Canon (d.acrDescriptor a k ws) :=
  h.acrPush.acrPush

theorem Canon.acrAbandon (h : Canon d) {a k p : Nat} : Canon (d.acrAbandon a k p) := by
  unfold Dev.acrAbandon
  dsimp only
  split
  · exact h
  · exact Canon.ite (((((h.overGone (fun _ h1 => h1.setAcrPath)).acrSearch).fresh).fresh).acrDescriptor)
      ((h.overGone (fun _ h2 => h2.setAcrPath)).acrSearch)

theorem Canon.acrAbandonAll (h : Canon d) {a : Nat} : Canon (d.acrAbandonAll a) :=
  h.forEach (fun _ _ h1 => h1.acrAbandon)

theorem Canon.keepSets (h : Canon d) {a k t : Nat} : Canon (d.keepSets a k t) := h.setAcr

theorem Canon.swapBanks (h : Canon d) {a k : Nat} : Canon (d.swapBanks a k) :=
  h.setReg.setReg.forEach (fun _ _ h1 => h1.setReg.setReg)

theorem Canon.fadeDone (h : Canon d) {a k : Nat} : Canon (d.fadeDone a k) := h.keepSets.setAcr.setB.swapBanks

theorem Canon.acrSwap (h : Canon d) {a k x : Nat} : Canon (d.acrSwap a k x) :=
  Canon.ite h.setF
    (Canon.ite h.setF
      (Canon.ite h.setF
        (Canon.ite h.setF.keepSets.swapBanks.disturbChan (Canon.ite h.setF.swapBanks h.setF.keepSets.setAcr.setB))))

theorem Canon.acrFadeEnd (h : Canon d) {a k : Nat} : Canon (d.acrFadeEnd a k) := Canon.ite h.fadeDone h

theorem Canon.acrRes (h : Canon d) {a v : Nat} {busy : Bool} : Canon (d.acrRes a v busy) := h.setAcr.setF.setB

theorem Canon.acrRefuse (h : Canon d) {a v : Nat} : Canon (d.acrRefuse a v) := h.setF.setB

theorem Canon.acrDone (h : Canon d) {a : Nat} : Canon (d.acrDone a) := Canon.ite h.setAcr.setB h

theorem Canon.acrVote (h : Canon d) {a : Nat} {on_ : Bool} : Canon (d.acrVote a on_) := h.vote.vote

theorem Canon.acrEnable (h : Canon d) {a : Nat} : Canon (d.acrEnable a) :=
  Canon.ite h.acrRefuse (Canon.ite h.acrRefuse h.setAcr.acrRes)

theorem Canon.acrEnableDone (h : Canon d) {a : Nat} : Canon (d.acrEnableDone a) :=
  Canon.ite h.setAcrState.acrDone.acrVote h

theorem Canon.unsettleAll (h : Canon d) {a e : Nat} : Canon (d.unsettleAll a e) :=
  h.forEach (fun _ _ h1 => h1.disturbChan)

theorem Canon.acrBeginCal (h : Canon d) {a back : Nat} : Canon (d.acrBeginCal a back) :=
  Canon.ite h.setAcr.setAcrState.acrRes.unsettleAll h.setAcr.setAcrState.acrRes

theorem Canon.acrStart (h : Canon d) {a : Nat} : Canon (d.acrStart a) :=
  Canon.ite h.acrRefuse (by split; exact h.acrRefuse; exact h.acrBeginCal)

theorem Canon.acrCalibrate (h : Canon d) {a : Nat} : Canon (d.acrCalibrate a) := Canon.ite h.acrRefuse h.acrBeginCal

theorem Canon.acrStop (h : Canon d) {a : Nat} : Canon (d.acrStop a) :=
  Canon.ite h.acrRefuse (((h.acrAbandonAll.forEach (fun _ _ h1 => h1.fadeDone)).setAcrState).acrRes)

theorem Canon.acrDisable (h : Canon d) {a : Nat} : Canon (d.acrDisable a) :=
  Canon.ite h.acrRefuse h.setAcrState.acrRes.acrVote

theorem Canon.acrCalStep (h : Canon d) {a : Nat} : Canon (d.acrCalStep a) :=
  Canon.ite h (h.setAcr.forEach (fun _ _ h1 => Canon.ite h1 h1.fresh.setAcrDig))

theorem Canon.acrCalEnd (h : Canon d) {a fail : Nat} {skew : Int} : Canon (d.acrCalEnd a fail skew) :=
  Canon.ite
    (Canon.ite
      ((((((Canon.ite (h.setF.forEach (fun _ _ h1 => h1.setAcrDig))
        ((h.setF.forEach (fun _ _ h2 => h2.setAcrDig)).setReg)).setAcr).setB).acrDone).setAcrState).unsettleAll)
      (((((Canon.ite (h.setF.forEach (fun _ _ h3 => h3.setAcrDig))
        ((h.setF.forEach (fun _ _ h4 => h4.setAcrDig)).setReg)).setAcr).setB).acrDone).setAcrState)) h

theorem Canon.acrUnfit (h : Canon d) {a k : Nat} : Canon (d.acrUnfit a k) := h.setB.setF

theorem Canon.acrCentre (h : Canon d) {w : Word} : Canon (d.acrCentre w) :=
  Canon.ite h.setB
    (Canon.ite h.setReg
      (((((h.setReg.acrAbandonAll.forEach (fun _ _ h1 => h1.acrUnfit)).setAcr).setAcrState).acrCount).unsettleAll))

theorem Canon.acrRetuneEnd (h : Canon d) : Canon d.acrRetuneEnd := Canon.ite h.setAcrState.unsettleAll h

theorem Canon.acrChanCfg (h : Canon d) {a k : Nat} {w : Word} : Canon (d.acrChanCfg a k w) :=
  (Canon.ite
    ((Canon.ite
      (((((Canon.ite ((Canon.acrAbandon (by split; exact h.setF; exact h)).acrAbandon) (by split; exact h.setF; exact h)).overGone
        (fun _ h1 => h1.setReg)).setB).acrSearch).acrSearch)
      ((Canon.ite ((Canon.acrAbandon (by split; exact h.setF; exact h)).acrAbandon) (by split; exact h.setF; exact h)).overGone
        (fun _ h2 => h2.setReg))).disturbChan)
    (Canon.ite
      ((Canon.ite
        (((((Canon.ite ((Canon.acrAbandon (by split; exact h.setF; exact h)).acrAbandon) (by split; exact h.setF; exact h)).overGone
          (fun _ h3 => h3.setReg)).setB).acrSearch).acrSearch)
        ((Canon.ite ((Canon.acrAbandon (by split; exact h.setF; exact h)).acrAbandon) (by split; exact h.setF; exact h)).overGone
          (fun _ h4 => h4.setReg))).disturb)
      (Canon.ite
        (((((Canon.ite ((Canon.acrAbandon (by split; exact h.setF; exact h)).acrAbandon) (by split; exact h.setF; exact h)).overGone
          (fun _ h5 => h5.setReg)).setB).acrSearch).acrSearch)
        ((Canon.ite ((Canon.acrAbandon (by split; exact h.setF; exact h)).acrAbandon) (by split; exact h.setF; exact h)).overGone
          (fun _ h6 => h6.setReg))))).acrCount

theorem Canon.acrPdly (h : Canon d) {a k : Nat} {w : Word} : Canon (d.acrPdly a k w) :=
  h.setReg.forEach (fun _ _ h1 => Canon.ite h1.disturb h1)

theorem Canon.acrRank (h : Canon d) {a k : Nat} {w : Word} : Canon (d.acrRank a k w) :=
  Canon.ite h.setB (Canon.ite h.setReg h.setReg.disturbChan)

theorem Canon.acrAllow (h : Canon d) {a v : Nat} : Canon (d.acrAllow a v).1 :=
  (h.setF.overGone (fun _ h1 => h1.forEach (fun _ _ h2 => h2.setB.setB))).acrCount

theorem Canon.chainOne (h : Canon d) {a k p : Nat} {s : Sample} : Canon (d.chainOne a k p s) :=
  Canon.ite h.setAcrPath.setB h.setAcrPath

theorem Canon.frontSample (h : Canon d) {a p : Nat} {s : Sample} : Canon (d.frontSample a p s) := by
  unfold Dev.frontSample
  dsimp only
  split
  · exact h.setAcrDig
  · exact h.setAcrDig.forEach (fun _ _ h1 => by split; exact h1.chainOne; exact h1)

theorem Canon.overranged (h : Canon d) {a p : Nat} {s : Sample} : Canon (d.overranged a p s) :=
  Canon.ite h (Canon.ite h.frontSample.setAcrDig h.setB.frontSample.setAcrDig.disturbDig.acrSettling)

theorem Canon.agcDown (h : Canon d) {a p : Nat} : Canon (d.agcDown a p) := by
  unfold Dev.agcDown
  dsimp only
  split
  · exact h
  · exact Canon.ite h (Canon.ite h.setAcrDig h.setAcrDig.setF.bumpF.setAcrDig.disturbDig)

theorem Canon.agcUp (h : Canon d) {a p : Nat} : Canon (d.agcUp a p) :=
  Canon.ite ((h.setF.setAcrDig.forEach (fun _ _ h1 => h1.setAcrPath)).disturbDig) h

theorem Canon.pathSettled (h : Canon d) {a k p : Nat} : Canon (d.pathSettled a k p) :=
  Canon.ite (Canon.ite h.setAcrPath.acrSearch.overClean h.setAcrPath.acrSearch.acrSettling) h

theorem Canon.acrOvrWrite (h : Canon d) {a : Nat} {w : Word} : Canon (d.acrOvrWrite a w) :=
  h.forEach (fun _ _ h1 => Canon.ite h1.setB.setF.setF h1)

theorem Canon.acrAgcWrite (h : Canon d) {a p : Nat} {w : Word} : Canon (d.acrAgcWrite a p w) :=
  Canon.ite (Canon.ite h.setReg.setAcrDig h.setReg.setAcrDig.disturbDig) h.setReg

/-! ### Timebase -/

theorem Canon.setTb (h : Canon d) {s : Nat} : Canon (d.setTb s) := Canon.ite h h.setF.hwEvent

theorem Canon.holdover (h : Canon d) {tcxo : Bool} : Canon (d.holdover tcxo) := h.upd.setTb

theorem Canon.refQualified (h : Canon d) : Canon d.refQualified := Canon.ite h (Canon.ite h.setB.upd.setTb h.setB)

theorem Canon.synthLock (h : Canon d) : Canon d.synthLock := Canon.ite h.upd.setTb h

theorem Canon.refLost (h : Canon d) : Canon d.refLost := Canon.ite h (Canon.ite h.setB.holdover h.setB.upd)

theorem Canon.tcxoPresent (h : Canon d) : Canon d.tcxoPresent :=
  Canon.ite h (Canon.ite h.setB.setTb (Canon.ite (Canon.ite h.setB.setTb h.setB.upd) h.setB))

theorem Canon.tcxoLost (h : Canon d) : Canon d.tcxoLost :=
  Canon.ite h (Canon.ite h.setB.holdover (Canon.ite h.setB.upd h.setB))

theorem Canon.srcChanged (h : Canon d) : Canon d.srcChanged :=
  Canon.ite (Canon.ite h.upd.setTb (Canon.ite h h.holdover)) (Canon.ite h.setTb (Canon.ite h.setTb h))

theorem Canon.slew (h : Canon d) {e : Int} : Canon (d.slew e) := h.upd.setB

theorem Canon.ppsAlign (h : Canon d) {first : Bool} {e : Int} : Canon (d.ppsAlign first e) := by
  unfold Dev.ppsAlign
  split
  · exact h.slew
  · exact Canon.ite h.upd.slew.setB h.slew
  · exact h

theorem Canon.ppsEdge (h : Canon d) {rising : Bool} : Canon (d.ppsEdge rising) :=
  Canon.ite h (Canon.ite h.setPair.setReg h.setPair.setReg.setB.setF.upd.hwEvent.ppsAlign.discEdge)

theorem Canon.ppsJudge (h : Canon d) : Canon d.ppsJudge :=
  Canon.ite ((Canon.ite h.setF.upd.setB h.setF.upd).discMiss) h

theorem Canon.ppsOutArm (h : Canon d) : Canon d.ppsOutArm := h.upd

theorem Canon.ppsRise (h : Canon d) : Canon d.ppsRise := Canon.ite h.upd h

theorem Canon.ppsFalls (h : Canon d) : Canon d.ppsFalls := Canon.ite h.upd h

theorem Canon.tbgCtrl (h : Canon d) {w : Word} : Canon (d.tbgCtrl w) :=
  Canon.ite ((Canon.ite h.setReg h.setReg.srcChanged).upd)
    (Canon.ite (Canon.ite h.setReg h.setReg.srcChanged) ((Canon.ite h.setReg h.setReg.srcChanged).ppsOutArm))

theorem Canon.countRead (h : Canon d) {r : Nat} : Canon (d.countRead r).1 := h.setReg

theorem Canon.armResult (h : Canon d) {m u slot code : Nat} : Canon (d.armResult m u slot code) := h.setReg

theorem Canon.gunArm (h : Canon d) {m : Half} {u : Nat} {w : Word} : Canon (d.gunArm m u w) := h.arm.armResult

theorem Canon.gunDisarm (h : Canon d) {m : Half} {u : Nat} {w : Word} : Canon (d.gunDisarm m u w) :=
  h.disarm.armResult

/-! ### Asb -/

theorem Canon.asbPend (h : Canon d) : Canon d.asbPend := h.setB

theorem Canon.asbQueue (h : Canon d) {f : BusFrame} : Canon (d.asbQueue f) := h.upd.asbPend

theorem Canon.asbTxcmd (h : Canon d) {w : Word} : Canon (d.asbTxcmd w) :=
  Canon.ite h.setReg (Canon.ite h.setReg h.setReg.asbQueue)

theorem Canon.asbSof (h : Canon d) {f : BusFrame} : Canon (d.asbSof f) := Canon.ite h.upd h

theorem Canon.asbStart (h : Canon d) {rivals : List BusFrame} : Canon (d.asbStart rivals) :=
  Canon.ite h (by split; exact h; exact by dsimp only; split; exact h.upd.upd.asbSof; exact h.upd.upd.bumpF)

theorem Canon.asbShow (h : Canon d) : Canon d.asbShow := by
  unfold Dev.asbShow
  dsimp only
  split
  · exact (h.setF.forEach (fun _ _ h1 => h1.setReg)).setReg
  · exact h.setF.setReg.forEach (fun _ _ h2 => h2.setReg)

theorem Canon.asbPop (h : Canon d) : Canon d.asbPop := h.upd.asbShow

theorem Canon.asbDeliver (h : Canon d) {f : BusFrame} : Canon (d.asbDeliver f) := Canon.ite h.upd.asbShow h.bumpF

theorem Canon.asbFollow (h : Canon d) {src value : Nat} : Canon (d.asbFollow src value) := by
  unfold Dev.asbFollow
  split
  · exact h
  · exact Canon.ite h (Canon.ite h.upd.setPair.setReg.slew h.upd.setPair.setReg)

theorem Canon.asbDone (h : Canon d) {k : Nat} : Canon (d.asbDone k) := h.upd.asbPend

theorem Canon.syncInterval (h : Canon d) : Canon d.syncInterval := Canon.ite h.upd.asbQueue.asbQueue h

theorem Canon.asbCfg (h : Canon d) {w : Word} : Canon (d.asbCfg w) :=
  Canon.ite ((Canon.ite (Canon.ite h.setReg.setF h.setReg.setF.upd) h.setReg.setF.upd).setPair)
    (Canon.ite (Canon.ite h.setReg.setF h.setReg.setF.upd) h.setReg.setF.upd)

/-! ### Sec -/

theorem Canon.setSlotState (h : Canon d) {k v : Nat} : Canon (d.setSlotState k v) := h.wr8

theorem Canon.loadKey (h : Canon d) {k : Nat} : Canon (d.loadKey k) := Canon.ite h h.upd

theorem Canon.flushKey (h : Canon d) {k : Nat} : Canon (d.flushKey k) := h.upd

theorem Canon.showHold (h : Canon d) : Canon d.showHold := h.setF

theorem Canon.takeHold (h : Canon d) {owner n : Nat} : ∀ e ∈ d.takeHold owner n, Canon e := by
  unfold Dev.takeHold
  split
  · exact Canon.some h
  · intro e he
    obtain ⟨r, -, rfl⟩ := Option.map_eq_some_iff.1 he
    exact h.upd.showHold

theorem Canon.freeHold (h : Canon d) {owner : Nat} : Canon (d.freeHold owner) := h.upd.showHold

theorem Canon.askLimit (h : Canon d) {key : Nat} : Canon (d.askLimit key) := Canon.ite h h.upd

theorem Canon.useFc (h : Canon d) {k : Nat} : Canon (d.useFc k) :=
  Canon.ite ((Canon.ite h.upd.askLimit h.upd).setSlotState) (Canon.ite h.upd.askLimit h.upd)

theorem Canon.useGcm (h : Canon d) {k : Nat} : Canon (d.useGcm k) := Canon.ite h.upd.askLimit h.upd

theorem Canon.logLimit (h : Canon d) {k : Nat} {gcm : Bool} {lim : Nat} : Canon (d.logLimit k gcm lim) := h.wrBytes

theorem Canon.putLimit (h : Canon d) {k : Nat} {gcm : Bool} {lim : Nat} : Canon (d.putLimit k gcm lim) :=
  Canon.ite h.wrBytes h.wr32

theorem Canon.replayLog (h : Canon d) : Canon d.replayLog := h.forEach (fun _ _ h1 => Canon.ite h1.putLimit h1)

theorem Canon.grantLimit (h : Canon d) {k : Nat} {gcm : Bool} : Canon (d.grantLimit k gcm) :=
  Canon.ite h.upd.logLimit.putLimit.upd h.upd.logLimit.putLimit.upd

theorem Canon.secRestart (h : Canon d) : Canon d.secRestart :=
  (h.forEach (fun _ _ h1 => (Canon.ite h1.grantLimit.grantLimit.setSlotState h1.grantLimit.grantLimit).upd)).setB

theorem Canon.fillEntry (h : Canon d) {n m : Nat} {e : TxEnt} : Canon (d.fillEntry n m e).1 := h.setTxent.onRadio

theorem Canon.opReads (h : Canon d) {x : Desc} {n : Nat} : Canon (d.opReads x n) := h.msTraffic.msTraffic

theorem Canon.showResv (h : Canon d) : Canon d.showResv := h.setB

theorem Canon.setWait (h : Canon d) {m : Nat} {w : SecWait} : Canon (d.setWait m w) := h.upd.showResv

theorem Canon.putSlot (h : Canon d) {i : SlotImage} : Canon (d.putSlot i) := h.flushKey.wrBytes.wrBytes.upd

theorem Canon.sameOld (h : Canon d) {i j : SlotImage} : Canon (d.sameOld i j) := h.upd

theorem Canon.underOld (h : Canon d) {o : Option SlotImage} {f : Dev → Dev} (hf : ∀ e, Canon e → Canon (f e)) :
    Canon (d.underOld o f) := by
  unfold Dev.underOld
  split
  · exact hf _ h
  · exact (((hf _ h.putSlot).upd).sameOld).putSlot

theorem Canon.keepOld (h : Canon d) {k : Nat} : Canon (d.keepOld k) := h.upd

theorem Canon.countEnd (h : Canon d) {status : Nat} : Canon (d.countEnd status) := by
  unfold Dev.countEnd
  split
  · exact h.bump
  · exact h.bump
  · exact h.bump
  · exact h

theorem Canon.ringEnd (h : Canon d) {m : Nat} {x : Desc} {status w1 w2 len : Nat} :
    Canon (d.ringEnd m x status w1 w2 len) := h.upd.msTraffic.wrWords.msTraffic.setReg.setWait.upd.pmcEvent

theorem Canon.ringResult (h : Canon d) {m : Nat} {x : Desc} {status w1 w2 len : Nat} :
    Canon (d.ringResult m x status w1 w2 len) := h.countEnd.ringEnd

theorem Canon.unbind (h : Canon d) {node dir m : Nat} : Canon (d.unbind node dir m) := h.upd

theorem Canon.bind (h : Canon d) {m : Nat} {x : Desc} {status fc : Nat} {out : List Byte} :
    Canon (d.bind m x status fc out) := Canon.ite h h.unbind.upd

theorem Canon.bindingExpiry (h : Canon d) {node dir m : Nat} : Canon (d.bindingExpiry node dir m) := h.upd

theorem Canon.putCounter (h : Canon d) {x : Desc} {fc : Nat} : Canon (d.putCounter x fc) := Canon.ite h.msWrite h

theorem Canon.fillTrain (h : Canon d) {m : Nat} {x : Desc} : Canon (d.fillTrain m x) :=
  Canon.ite h (by split; exact h; exact h.upd.fillEntry)

theorem Canon.deliver (h : Canon d) {m : Nat} {x : Desc} {fc : Nat} {out : List Byte} :
    ∀ e ∈ d.deliver m x fc out, Canon e.1 := by
  unfold Dev.deliver
  split
  · split
    · exact Canon.none_fst
    · split
      · exact Canon.some_pair (Canon.fillTrain (Canon.fillEntry h.putCounter))
      · exact Canon.none_fst
  · exact Canon.some_pair h.putCounter.msWrite

theorem Canon.encMatched (h : Canon d) {m : Nat} {x : Desc} {b : Binding} : Canon (d.encMatched m x b) :=
  Canon.ite h.unbind.ringEnd
    (by
      split
      · exact h.setWait
      · next he0 => exact ((Canon.of_some_fst h.deliver he0).unbind).ringEnd)

theorem Canon.encFresh (h : Canon d) {m : Nat} {x : Desc} : Canon (d.encFresh m x) := by
  unfold Dev.encFresh
  extract_lets k c lim d1 out
  have h1 : Canon d1 := h.loadKey.opReads
  refine Canon.ite h.ringResult (Canon.ite h.askLimit.setWait ?_)
  split
  · exact h1.setWait
  · next he =>
      have h2 := Canon.of_some_fst h1.deliver he
      exact Canon.ringResult (Canon.bind (Canon.ite h2.useFc h2.useGcm))

theorem Canon.encrypt (h : Canon d) {m : Nat} {x : Desc} : Canon (d.encrypt m x) := by
  unfold Dev.encrypt
  split
  · exact h.ringResult
  · split; exact h.encMatched; exact h.encFresh

theorem Canon.decMatched (h : Canon d) {m : Nat} {x : Desc} {b : Binding} : Canon (d.decMatched m x b) :=
  Canon.ite h.unbind.ringEnd (Canon.ite h.unbind.msWrite.ringEnd h.unbind.ringEnd)

theorem Canon.decFresh (h : Canon d) {m : Nat} {x : Desc} : Canon (d.decFresh m x) := by
  unfold Dev.decFresh
  dsimp only
  split
  · exact h.bumpF.setWait
  · next he0 =>
      exact Canon.ite (((((((Canon.of_some h.takeHold he0).loadKey).opReads).bind).msWrite).freeHold).ringResult)
        ((((((Canon.of_some h.takeHold he0).loadKey).opReads).bind).freeHold).ringResult)

theorem Canon.decrypt (h : Canon d) {m : Nat} {x : Desc} : Canon (d.decrypt m x) := by
  unfold Dev.decrypt
  split
  · exact h.ringResult
  · split; exact h.decMatched; exact h.decFresh

theorem Canon.secEncrypt (h : Canon d) {m op : Nat} : Canon (d.secEncrypt m op) := by
  unfold Dev.secEncrypt
  split
  · exact h.encrypt
  · exact h

theorem Canon.secDecrypt (h : Canon d) {m op : Nat} : Canon (d.secDecrypt m op) := by
  unfold Dev.secDecrypt
  split
  · exact h.underOld (fun _ h1 => h1.decrypt)
  · exact h

theorem Canon.retryEnc (h : Canon d) {m : Nat} : Canon (d.retryEnc m) :=
  Canon.ite (h.underOld (fun _ h1 => h1.encrypt)) h

theorem Canon.reservation (h : Canon d) {k : Nat} {gcm : Bool} : Canon (d.reservation k gcm) :=
  h.grantLimit.forEach (fun _ _ h1 => by split; exact Canon.ite h1.retryEnc h1; exact h1)

theorem Canon.endWait (h : Canon d) {m t : Nat} : Canon (d.endWait m t) := Canon.ite h.ringResult h

theorem Canon.reservationTimeout (h : Canon d) {m : Nat} : Canon (d.reservationTimeout m) := by
  unfold Dev.reservationTimeout
  split
  · exact h.endWait
  · exact h

theorem Canon.fillTimeout (h : Canon d) {m : Nat} : Canon (d.fillTimeout m) := by
  unfold Dev.fillTimeout
  split
  · exact h.endWait
  · exact h

theorem Canon.secFill (h : Canon d) {m : Nat} : Canon (d.secFill m) := by
  unfold Dev.secFill
  split
  · exact h.retryEnc
  · exact h.retryEnc
  · exact h.secEncrypt

theorem Canon.holdFreed (h : Canon d) {m : Nat} : Canon (d.holdFreed m) := by
  unfold Dev.holdFreed
  split
  · exact Canon.ite (h.setWait.underOld (fun _ h1 => h1.decrypt)) h
  · exact h

theorem Canon.ringTailWrite (h : Canon d) {r m : Nat} {w : Word} : Canon (d.ringTailWrite r m w) := h.upd.setReg

theorem Canon.evPush (h : Canon d) {m : Nat} {ws : List Word} : Canon (d.evPush m ws) := Canon.ite h.upd h.bumpF

theorem Canon.macEvent (h : Canon d) {kind node w1 count : Nat} {word2 : Word} {more : List Word} :
    Canon (d.macEvent kind node w1 count word2 more) := h.evPush.evPush

theorem Canon.noAck (h : Canon d) {n fc count : Nat} {w2 : Word} : Canon (d.noAck n fc count w2) := h.bump.macEvent

theorem Canon.endAck (h : Canon d) {a : AckFill} {status : Nat} : Canon (d.endAck a status) :=
  h.upd.countEnd.pmcEvent.noAck.showResv

theorem Canon.almCause (h : Canon d) {level source : Nat} : Canon (d.almCause level source) := h.setReg

theorem Canon.abortOps (h : Canon d) : Canon d.abortOps :=
  ((((((h.forEach (fun _ _ h1 => by split; exact h1; exact h1.ringResult)).forEach (fun _ _ h2 => h2.endAck)).upd).bumpF).forEach
    (fun _ _ h3 => h3.pmcEvent)).upd).showHold

theorem Canon.alarm1 (h : Canon d) {source : Nat} : Canon (d.alarm1 source) := h.almCause.abortOps

theorem Canon.alarm2 (h : Canon d) {source : Nat} : Canon (d.alarm2 source) := h.almCause.abortOps.upd.setB

theorem Canon.zeroiseKeys (h : Canon d) : Canon d.zeroiseKeys :=
  (((h.forEach (fun _ _ h1 => h1.setSlotState)).clearMem).upd).upd

theorem Canon.a2Done (h : Canon d) : Canon d.a2Done := Canon.ite h.zeroiseKeys.setB h

theorem Canon.slotBad (h : Canon d) {k : Nat} : Canon (d.slotBad k) :=
  Canon.ite h (Canon.ite h.setSlotState.flushKey.upd.alarm2 h.setSlotState.flushKey.upd)

theorem Canon.ackFill (h : Canon d) {a : AckFill} : ∀ e ∈ d.ackFill a, Canon e.1 := by
  unfold Dev.ackFill
  extract_lets
  refine Canon.ite_optfst (Canon.some_pair h) (Canon.ite_optfst (Canon.some_pair h) (Canon.ite_optfst (Canon.some_pair h)
    (Canon.ite_optfst Canon.none_fst (Canon.ite_optfst Canon.none_fst ?_))))
  split
  · exact Canon.none_fst
  · exact Canon.some_pair (Canon.pmcEvent (Canon.useFc (Canon.fillEntry h.loadKey)))

/-! ### HostOut -/

theorem Canon.setQp (h : Canon d) {q : Nat} {x : Qp} : Canon (d.setQp q x) := h.upd

theorem Canon.setStream (h : Canon d) {s : Nat} {x : Machine.Stream} : Canon (d.setStream s x) := h.upd

theorem Canon.emit (h : Canon d) {o : HostOut} : Canon (d.emit o) := h.upd

theorem Canon.hostWrite (h : Canon d) {a : Nat} {l : List Byte} : Canon (d.hostWrite a l) :=
  Canon.ite h ((h.foldl (fun _ _ h1 => h1.emit)).pmcOctets)

theorem Canon.sendMsix (h : Canon d) {v : Nat} : Canon (d.sendMsix v) := Canon.ite h.upd h.emit.pmcOctets

theorem Canon.signal (h : Canon d) {q : Nat} : Canon (d.signal q) := h.setQp.sendMsix

theorem Canon.qpSignal (h : Canon d) {q : Nat} : Canon (d.qpSignal q) := Canon.ite h.setQp.signal h.setQp

theorem Canon.qpWrite (h : Canon d) {q : Nat} {e : Entry} : Canon (d.qpWrite q e) :=
  ((((Canon.ite h.hostWrite.setQp h.hostWrite).hostWrite).setQp).hostWrite).qpSignal

theorem Canon.ampSend (h : Canon d) {s type seq flags : Nat} {body : List Byte} :
    Canon (d.ampSend s type seq flags body) := Canon.ite h.setStream h.setStream.emit.pmcOctets

theorem Canon.ampPump (h : Canon d) {s : Nat} : Canon (d.ampPump s) :=
  Canon.ite h (Canon.ite h (h.setStream.forEach (fun _ _ h1 => h1.ampSend)))

theorem Canon.ampWrite (h : Canon d) {s : Nat} {e : Entry} : Canon (d.ampWrite s e) := h.setStream.ampPump

theorem Canon.showHeld (h : Canon d) {q : Nat} : Canon (d.showHeld q) := h.setF

theorem Canon.setHeld (h : Canon d) {q : Nat} {l : List Entry} : Canon (d.setHeld q l) :=
  Canon.ite h.setQp.showHeld h.setStream

theorem Canon.lqPut (h : Canon d) {q : Nat} {e : Entry} : Canon (d.lqPut q e) := Canon.ite h.qpWrite h.ampWrite

theorem Canon.lqWrite (h : Canon d) {q : Nat} {e : Entry} : Canon (d.lqWrite q e) := Canon.ite h.setHeld h.lqPut

theorem Canon.flushN : ∀ {n : Nat} {d : Dev}, Canon d → ∀ {q : Nat}, Canon (flushN n d q)
  | 0, _, h, _ => h
  | _ + 1, _, h, _ => by
    unfold Machine.flushN
    split
    · exact h
    · exact Canon.ite h.setHeld.lqPut.flushN h

theorem Canon.flushHeld (h : Canon d) {q : Nat} : Canon (d.flushHeld q) := h.flushN

/-! ### Nt -/

theorem Canon.ntPut (h : Canon d) {n off size v : Nat} : Canon (d.ntPut n off size v) :=
  h.forEach (fun _ _ h1 => h1.wrBytes)

/-! ### Ledger -/

theorem Canon.ledPut (h : Canon d) {group : Bool} {home i w : Nat} {v : Word} : Canon (d.ledPut group home i w v) :=
  h.forEach (fun _ _ h1 => h1.wr32)

theorem Canon.setChainHead (h : Canon d) {x : Dom} {v : Nat} : Canon (d.setChainHead x v) :=
  h.forEach (fun _ _ h1 => h1.wrBytes)

theorem Canon.ledAlloc (h : Canon d) {x : Dom} : ∀ e ∈ d.ledAlloc x, Canon e.1 := by
  unfold Dev.ledAlloc
  extract_lets fenced m start
  have hs (i : Nat) (w : Word) : Canon (start d i w) := h.ledPut.ledPut.ledPut.ledPut
  split
  · exact Canon.some_pair (hs _ _)
  · split
    · exact Canon.none_fst
    · exact Canon.some_pair (hs _ _).setChainHead

theorem Canon.ledGet (h : Canon d) {x : Dom} : ∀ e ∈ d.ledGet x, Canon e.1 := by
  unfold Dev.ledGet
  split
  · exact Canon.some_fst h
  · exact h.ledAlloc

theorem Canon.ledRelease (h : Canon d) {x : Dom} {i : Nat} : Canon (d.ledRelease x i) :=
  Canon.foldl (by split; exact h.setChainHead; exact h.ledPut; exact h) (fun _ _ h1 => h1.ledPut)

theorem Canon.setUsed (h : Canon d) {p n : Nat} : Canon (d.setUsed p n) := h.upd

theorem Canon.cleanPlaces (h : Canon d) {l : List Nat} : Canon (d.cleanPlaces l) := h.upd

theorem Canon.putPlaces {l : List Nat} : ∀ {x : List Byte} {d : Dev}, Canon d → ∀ {off : Nat}, Canon (d.putPlaces l off x)
  | [], _, h, _ => h
  | _ :: _, _, h, _ => by
    unfold Dev.putPlaces
    refine Canon.putPlaces ?_
    split
    · exact h.wrBytes
    · exact h

theorem Canon.msPlaces (h : Canon d) {l : List Nat} {off n dir : Nat} : Canon (d.msPlaces l off n dir) :=
  h.forEach (fun _ _ h1 => h1.msTraffic)

theorem Canon.fillPlaces (h : Canon d) {l : List Nat} {off : Nat} {x : List Byte} : Canon (d.fillPlaces l off x) :=
  h.putPlaces.msPlaces

theorem Canon.setTcbs (h : Canon d) {l : List Tcb} : Canon (d.setTcbs l) := h.upd

theorem Canon.updTcb (h : Canon d) {lsn : Nat} {g : Tcb → Tcb} : Canon (d.updTcb lsn g) := h.setTcbs

theorem Canon.present (h : Canon d) {m : Nat} {group : Bool} {home : Nat} : Canon (d.present m group home).1 :=
  Canon.ite_fst h.setReg.pmcEvent h.upd.bumpF

theorem Canon.ticket (h : Canon d) {group : Bool} {home : Nat} : Canon (d.ticket group home).1 :=
  Canon.foldl_fst _ (fun _ _ h1 => Canon.ite_fst h1.present h1) h

theorem Canon.setStalled (h : Canon d) {l : List Nat} : Canon (d.setStalled l) := h.upd.setB

theorem Canon.unstall (h : Canon d) : Canon d.unstall := Canon.ite h.setStalled h

theorem Canon.freeTcb (h : Canon d) {t : Tcb} : Canon (d.freeTcb t) := h.setUsed.upd

theorem Canon.releaseOne (h : Canon d) {t : Tcb} : Canon (d.releaseOne t).1 :=
  Canon.ite_fst h
    (by
      split
      · next he0 => exact (Canon.of_fst h.ticket he0)
      · next he0 =>
          exact (((Canon.ite (((Canon.of_fst h.ticket he0).bump).pmcEvent) (Canon.of_fst h.ticket he0)).msPlaces).lqWrite).freeTcb)

theorem Canon.releaseTurn (h : Canon d) {t : Tcb} : Canon (d.releaseTurn t) :=
  Canon.ite h
    (by
      split
      · exact h.releaseOne
      · exact Canon.ite h
          (by
            split
            · next he0 => exact (Canon.of_fst h.releaseOne he0)
            · next he0 =>
                exact Canon.ite (((Canon.of_fst h.releaseOne he0).ledPut).ledRelease)
                  ((Canon.of_fst h.releaseOne he0).ledPut)))

theorem Canon.decideTcb (h : Canon d) {t : Tcb} {status : Nat} : Canon (d.decideTcb t status) := by
  unfold Dev.decideTcb
  dsimp only
  split
  · exact h.updTcb
  · exact Canon.ite h.updTcb.ledPut.ledPut.setTcbs h.updTcb

theorem Canon.spoil (h : Canon d) {t : Tcb} : Canon (d.spoil t) := Canon.ite h.updTcb.decideTcb h

theorem Canon.releaseAll (h : Canon d) : Canon d.releaseAll :=
  (Canon.ite h (h.forEach (fun _ _ h1 => h1.spoil))).forEach (fun _ _ h2 => h2.releaseTurn)

theorem Canon.tokenRead (h : Canon d) {m : Nat} : Canon (d.tokenRead m).1 := h.upd.releaseAll

theorem Canon.conclude (h : Canon d) {lsn status : Nat} : Canon (d.conclude lsn status) := by
  unfold Dev.conclude
  split
  · exact Canon.ite h.bump h.decideTcb.releaseAll
  · exact h

theorem Canon.takeBlocks (h : Canon d) {t : Tcb} : Canon (d.takeBlocks t) :=
  Canon.ite
    (((Canon.ite h.cleanPlaces.setUsed.updTcb h.cleanPlaces.setUsed.updTcb.fillPlaces).upd).foldl
      (fun _ _ h1 => h1.emit)) (Canon.ite h.cleanPlaces.setUsed.updTcb h.cleanPlaces.setUsed.updTcb.fillPlaces)

theorem Canon.reserve (h : Canon d) {t : Tcb} : Canon (d.reserve t) :=
  Canon.ite h.conclude (Canon.ite h.takeBlocks (Canon.ite h.conclude h.updTcb))

theorem Canon.poolReserve (h : Canon d) {p : Nat} : Canon (d.poolReserve p) := by
  unfold Dev.poolReserve
  split
  · exact Canon.ite h.takeBlocks h
  · exact h

theorem Canon.poolTimeout (h : Canon d) {p : Nat} : Canon (d.poolTimeout p) := by
  unfold Dev.poolTimeout
  split
  · exact h.conclude
  · exact h

theorem Canon.addTcb (h : Canon d) {t : Tcb} : Canon (d.addTcb t) := h.setTcbs

theorem Canon.accept (h : Canon d) {lq : Nat} {s : Machine.Sub} {payload : List Byte} :
    Canon (d.accept lq s payload) :=
  Canon.ite h.addTcb.releaseAll
    (Canon.ite (Canon.ite h.upd.addTcb.conclude h.upd.addTcb.reserve)
      (by
        split
        · exact h.upd
        · next he0 =>
            exact Canon.ite (((((Canon.of_some_fst h.upd.ledGet he0).ledPut).addTcb).ledPut).conclude)
              (Canon.ite ((((Canon.of_some_fst h.upd.ledGet he0).ledPut).addTcb).conclude)
                ((((Canon.of_some_fst h.upd.ledGet he0).ledPut).addTcb).reserve))))

theorem Canon.noteAmp (h : Canon d) {lq : Nat} {s : Machine.Sub} : Canon (d.noteAmp lq s) := Canon.ite h h.upd

theorem Canon.submit (h : Canon d) {lq : Nat} {s : Machine.Sub} {payload : List Byte} :
    Canon (d.submit lq s payload) := Canon.ite h (Canon.ite h.noteAmp.setStalled.accept (Canon.ite h.setStalled h))

theorem Canon.deadline (h : Canon d) {lsn : Nat} : Canon (d.deadline lsn) := by
  unfold Dev.deadline
  split
  · exact Canon.ite (Canon.ite (Canon.ite h h.updTcb.macEvent) h.conclude) h
  · exact h

theorem Canon.report (h : Canon d) {t : Tcb} {r : ResultRec} : Canon (d.report t r) := by
  unfold Dev.report
  dsimp only
  split
  · exact Canon.ite h.bump (Canon.ite h.updTcb.conclude h.updTcb)
  · exact h.updTcb.conclude
  · exact Canon.ite h.conclude h
  · exact Canon.ite h.bump (Canon.ite h h.conclude)

theorem Canon.admitResult (h : Canon d) {r : ResultRec} : Canon (d.admitResult r) := by
  unfold Dev.admitResult
  split
  · exact h.report
  · exact h.bump

theorem Canon.setTrail (h : Canon d) {m : Nat} {l : List ResultRec} : Canon (d.setTrail m l) := h.upd

theorem Canon.trailPut (h : Canon d) {m : Nat} {r : ResultRec} : Canon (d.trailPut m r) :=
  Canon.ite h (Canon.ite h.setTrail (by split; exact h.setTrail; exact h))

theorem Canon.admitRecord (h : Canon d) {m : Nat} {r : ResultRec} : Canon (d.admitRecord m r) :=
  Canon.ite h (Canon.ite (Canon.ite h.admitResult h.trailPut) (by split; exact Canon.ite h.report h.bump; exact h.bump))

theorem Canon.admitTrail (h : Canon d) {m : Nat} : Canon (d.admitTrail m) :=
  h.setTrail.forEach (fun _ _ h1 => h1.admitResult)

theorem Canon.readDone (h : Canon d) {lsn : Nat} {ok : Bool} {data : List Byte} : Canon (d.readDone lsn ok data) :=
  Canon.ite h
    (Canon.ite (by dsimp only; split; exact h.upd.updTcb.fillPlaces.pmcOctets; exact h.upd.updTcb)
      (Canon.ite h.upd.bump.conclude h.upd.bump))

theorem Canon.setReasm (h : Canon d) {l : List Reasm} : Canon (d.setReasm l) := h.upd

theorem Canon.dropContext (h : Canon d) {c : Reasm} : Canon (d.dropContext c) := h.setUsed.setReasm

theorem Canon.sweepWhole (h : Canon d) : Canon d.sweepWhole := h.forEach (fun _ _ h1 => h1.dropContext)

theorem Canon.openContext (h : Canon d) {n tag size : Nat} : Canon (d.openContext n tag size).1 :=
  Canon.ite_fst h (Canon.ite_fst h h.cleanPlaces.setUsed.setReasm)

theorem Canon.deliverUp (h : Canon d) {c : Reasm} : Canon (d.deliverUp c) :=
  Canon.ite h.setReasm.addTcb.releaseAll
    (by
      split
      · exact h.setReasm.setUsed.bump
      · next he0 => exact (((Canon.of_some_fst h.setReasm.ledGet he0).ledPut).addTcb).releaseAll)

theorem Canon.fillContext (h : Canon d) {n tag size off : Nat} {octets : List Byte} {fc dups : Nat} {l0 l1 : Word} {marked : Bool} :
    Canon (d.fillContext n tag size off octets fc dups l0 l1 marked) := by
  unfold Dev.fillContext
  split
  · exact h
  · exact Canon.ite h.dropContext.bump
      (Canon.ite ((Canon.ite h.setReasm h.setReasm.fillPlaces).deliverUp) (Canon.ite h.setReasm h.setReasm.fillPlaces))

theorem Canon.reasmTimeout (h : Canon d) {n tag : Nat} : Canon (d.reasmTimeout n tag) := by
  unfold Dev.reasmTimeout
  split
  · exact Canon.ite (Canon.ite h.dropContext.bump h.dropContext) h
  · exact h

theorem Canon.msgResult (h : Canon d) {r cmd res : Nat} {outs : List Word} : Canon (d.msgResult r cmd res outs) :=
  (h.forEach (fun _ _ h1 => h1.setReg)).setReg

theorem Canon.msgLift (h : Canon d) {r : Nat} : Canon (d.msgLift r) := by
  unfold Dev.msgLift
  split
  · exact h.msgResult
  · refine Canon.ite h.msgResult (Canon.ite h.msgResult ?_)
    extract_lets
    split
    · exact h
    · next he =>
        have h1 := Canon.of_some_fst h.ledGet he
        exact h1.upd.ledPut.addTcb.ledPut.conclude.msgResult

theorem Canon.msgCarve (h : Canon d) {r : Nat} : Canon (d.msgCarve r) :=
  Canon.ite h.msgResult (Canon.ite h.msgResult h.upd.msgResult)

theorem Canon.msgUncarve (h : Canon d) {r : Nat} : Canon (d.msgUncarve r) :=
  Canon.ite h.msgResult (by split; exact Canon.ite h.upd.msgResult h.msgResult; exact h.msgResult)

theorem Canon.msgQuery (h : Canon d) {r : Nat} : Canon (d.msgQuery r) := by
  unfold Dev.msgQuery
  split
  · exact h.msgResult
  · split <;> exact h.msgResult

theorem Canon.msgCmd (h : Canon d) {r : Nat} {w : Word} : Canon (d.msgCmd r w) := by
  unfold Dev.msgCmd
  split
  · exact h.msgLift
  · exact h.msgCarve
  · exact h.msgUncarve
  · exact h.msgQuery
  · exact h.msgResult

theorem Canon.poolCfg (h : Canon d) {p : Nat} {w : Word} : Canon (d.poolCfg p w) :=
  Canon.ite h.setReg.setB (Canon.ite h.setReg (Canon.ite h.setReg.setB h.setReg.setB.setB))

theorem Canon.rebuild (h : Canon d) {x : Dom} {l : List Tcb} : Canon (d.rebuild x l) := by
  unfold Dev.rebuild
  split
  · exact h
  · dsimp only
    split
    · exact h
    · next he0 =>
        exact (Canon.ite (((Canon.of_some_fst (by split; exact Canon.some_fst h; exact h.ledAlloc) he0).ledPut).ledPut)
          (((((Canon.of_some_fst (by split; exact Canon.some_fst h; exact h.ledAlloc) he0).ledPut).ledPut).ledPut).ledPut)).setTcbs

theorem Canon.holeWork (h : Canon d) {p : Tcb → Bool} : Canon (d.holeWork p) := h.setTcbs

theorem Canon.ledgerLoss (h : Canon d) {m : Nat} : Canon (d.ledgerLoss m) :=
  ((h.forEach (fun _ _ h1 => h1.rebuild)).holeWork).releaseAll

theorem Canon.domainLoss (h : Canon d) {x : Dom} : Canon (d.domainLoss x) := h.rebuild.holeWork.releaseAll

/-! ### Mac -/

theorem Canon.ntWrite (h : Canon d) {m off size v : Nat} : Canon (d.ntWrite m off size v) :=
  Canon.ite h.wrBytes h.setB

theorem Canon.commitFc (h : Canon d) {n fc : Nat} : Canon (d.commitFc n fc) :=
  Canon.ite h.ntPut.ntPut.ntPut (Canon.ite h.ntPut.ntPut h.ntPut)

theorem Canon.setRat (h : Canon d) {l : List RatEnt} : Canon (d.setRat l) := h.upd

theorem Canon.dupExpiry (h : Canon d) {n fc : Nat} : Canon (d.dupExpiry n fc) := h.setRat

theorem Canon.ratRoom (h : Canon d) : ∀ e ∈ d.ratRoom, Canon e := by
  unfold Dev.ratRoom
  split
  · exact Canon.some h
  · intro e he
    obtain ⟨r, -, rfl⟩ := Option.map_eq_some_iff.1 he
    exact h.setRat

theorem Canon.dupCount (h : Canon d) {n : Nat} : Canon (d.dupCount n) := h.ntPut

theorem Canon.duplicate (h : Canon d) {e : RatEnt} : Canon (d.duplicate e) := h.dupCount.setReasm

theorem Canon.purge (h : Canon d) {n : Nat} : Canon (d.purge n) := h.upd

theorem Canon.noteTrain (h : Canon d) {m node n : Nat} : Canon (d.noteTrain m node n) := h.upd

theorem Canon.setValid (h : Canon d) {n : Nat} {v : Bool} : Canon (d.setValid n v) :=
  h.forEach (fun _ _ h1 => h1.wr8.unmark)

theorem Canon.setFcIn (h : Canon d) {n fc : Nat} {fcv : Bool} {state : Nat} : Canon (d.setFcIn n fc fcv state) :=
  h.ntPut.ntPut.ntPut

theorem Canon.ntInsert (h : Canon d) {n fc : Nat} {fcv : Bool} : Canon (d.ntInsert n fc fcv) :=
  h.setFcIn.setValid.ntPut.ntPut.ntPut.ntPut.ntPut.purge

theorem Canon.ntExec (h : Canon d) {m cmd : Nat} {a : List Word} : Canon (d.ntExec m cmd a).1 := by
  unfold Dev.ntExec
  dsimp only
  split
  · exact Canon.ite_fst h (Canon.ite h.ntInsert h)
  · exact Canon.ite_fst h (Canon.ite_fst h h.setValid.purge)
  · exact Canon.ite_fst h (Canon.ite_fst h h.setFcIn.purge)
  · exact Canon.ite_fst h (Canon.ite_fst h h.ntPut.ntPut.ntPut)
  · exact Canon.ite_fst h (by split; exact h.noteTrain; exact h)
  · split <;> exact h
  · exact h

theorem Canon.ntCommand (h : Canon d) {bank m cmd : Nat} : Canon (d.ntCommand bank m cmd) :=
  Canon.ite h
    (Canon.ite ((h.ntExec.forEach (fun _ _ h1 => h1.setReg)).setReg)
      ((h.ntExec.forEach (fun _ _ h2 => h2.setReg)).upd))

theorem Canon.setCopies (h : Canon d) {l : List Copy} : Canon (d.setCopies l) := h.upd

theorem Canon.dropCopy (h : Canon d) {id : Nat} : Canon (d.dropCopy id) := h.freeHold.setCopies

theorem Canon.stranger (h : Canon d) {x : FrameIn} : Canon (d.stranger x) :=
  Canon.ite (((Canon.ite h h.upd).upd).macEvent) ((Canon.ite h h.upd).bump)

theorem Canon.holdCopy (h : Canon d) {c : Copy} : Canon (d.holdCopy c) := by
  unfold Dev.holdCopy
  split
  · next he0 => exact (Canon.of_some h.takeHold he0).setCopies
  · exact h

theorem Canon.frameCopy (h : Canon d) {x : FrameIn} : Canon (d.frameCopy x) :=
  Canon.ite h
    (by
      split
      · exact h.stranger
      · exact Canon.ite h.bump
          (Canon.ite (by split; exact h.duplicate; exact h.bump.macEvent) (Canon.ite h.upd.holdCopy h.upd.bumpF)))

theorem Canon.holdCopies (h : Canon d) : Canon d.holdCopies := h.forEach (fun _ _ h1 => h1.holdCopy)

theorem Canon.ackWaits (h : Canon d) {a : AckFill} : Canon (d.ackWaits a) := ((Canon.ite h.askLimit h).upd).showResv

theorem Canon.tryAck (h : Canon d) {a : AckFill} : Canon (d.tryAck a) :=
  h.underOld
    (fun _ h1 =>
      by
        split
        · exact h1.ackWaits
        · next he0 =>
            exact Canon.ite ((((Canon.of_some_fst h1.ackFill he0).upd).showResv).onRadio)
              ((Canon.of_some_fst h1.ackFill he0).endAck))

theorem Canon.retryAcks (h : Canon d) : Canon d.retryAcks := h.forEach (fun _ _ h1 => h1.tryAck)

theorem Canon.expireAcks (h : Canon d) {counter : Bool} : Canon (d.expireAcks counter) :=
  h.forEach (fun _ _ h1 => h1.endAck)

theorem Canon.uplinkAck (h : Canon d) {c : Copy} {first : Bool} : Canon (d.uplinkAck c first) := by
  unfold Dev.uplinkAck
  split
  · exact Canon.ite (by split; exact h.noAck; exact h.tryAck) h
  · exact h

theorem Canon.decryptDone (h : Canon d) {id : Nat} {datagram : Bool} : Canon (d.decryptDone id datagram) := by
  unfold Dev.decryptDone
  split
  · exact h
  · exact Canon.ite h
      (Canon.ite h.pmcEvent.loadKey.dropCopy.bump
        (Canon.ite h.pmcEvent.loadKey.dropCopy.bump
          (Canon.ite h.pmcEvent.loadKey.dropCopy.bump
            (((Canon.ite_fst h.pmcEvent.loadKey.openContext h.pmcEvent.loadKey).setCopies).uplinkAck))))

theorem Canon.lqsUpdate (h : Canon d) {n : Nat} {lqw0 : Word} : Canon (d.lqsUpdate n lqw0) := h.ntPut.ntPut

theorem Canon.contact (h : Canon d) {n fc r q : Nat} {word2 : Word} : Canon (d.contact n fc r q word2) :=
  (((((Canon.ite ((Canon.ite h.macEvent h).ntPut) h).ntPut).ntPut).ntPut).ntPut).macEvent

theorem Canon.store (h : Canon d) {c : Copy} {dups : Nat} : Canon (d.store c dups) :=
  Canon.ite h (Canon.ite ((Canon.ite_fst h h.openContext).fillContext) ((Canon.ite_fst h h.openContext).bump))

theorem Canon.duplicateFilter (h : Canon d) {id : Nat} : Canon (d.duplicateFilter id) := by
  unfold Dev.duplicateFilter
  split
  · exact h
  · exact Canon.ite h
      (Canon.ite h.dropCopy.bump
        (by
          split
          · exact h.dropCopy.duplicate
          · exact Canon.ite h.dropCopy.duplicate
              (Canon.ite h
                (by
                  split
                  · exact h
                  · next he0 =>
                      exact Canon.ite (((Canon.of_some h.ratRoom he0).dropCopy).bump)
                        (((Canon.forEach
                          (by
                            split
                            · exact ((((Canon.of_some h.ratRoom he0).setRat).commitFc).lqsUpdate).contact
                            · exact (((Canon.of_some h.ratRoom he0).setRat).commitFc).lqsUpdate)
                          (fun _ _ h1 => h1.dropCopy.dupCount)).store).dropCopy)))))

/-! ### Host -/

theorem Canon.linkEvent (h : Canon d) : Canon d.linkEvent := Canon.ite h.sendMsix h

theorem Canon.bar2Write (h : Canon d) {off : Nat} {w : Word} : Canon (d.bar2Write off w) :=
  Canon.ite h (Canon.ite h.upd.upd.sendMsix h.upd)

theorem Canon.sqDoorbell (h : Canon d) {q v : Nat} : Canon (d.sqDoorbell q v) :=
  Canon.ite (Canon.ite h.pmcOctets h) (Canon.ite ((Canon.ite h.pmcOctets h).setB) ((Canon.ite h.pmcOctets h).setQp))

theorem Canon.cqDoorbell (h : Canon d) {q v : Nat} : Canon (d.cqDoorbell q v) :=
  Canon.ite (Canon.ite h.pmcOctets h)
    (Canon.ite ((Canon.ite h.pmcOctets h).setB) ((((Canon.ite h.pmcOctets h).setQp).flushHeld).releaseAll))

theorem Canon.fetch (h : Canon d) {words : List Word} : Canon (d.fetch words) := by
  unfold Dev.fetch
  split
  · exact h
  · exact Canon.ite h (Canon.ite h.emit.pmcOctets.upd.setQp.submit h.emit.pmcOctets.upd.submit)

theorem Canon.coalesce (h : Canon d) {q : Nat} : Canon (d.coalesce q) := Canon.ite h.signal h

theorem Canon.qpCfg (h : Canon d) {q : Nat} {w : Word} : Canon (d.qpCfg q w) :=
  Canon.ite h (Canon.ite h.setReg.setQp.flushHeld.releaseAll h.setReg)

theorem Canon.linkDown (h : Canon d) {down : Bool} : Canon (d.linkDown down) :=
  Canon.ite ((((h.forEach (fun _ _ h1 => Canon.ite h1.setB h1)).forEach (fun _ _ h2 => h2.readDone)).releaseAll).setB)
    (((h.forEach (fun _ _ h3 => Canon.ite h3.setB h3)).forEach (fun _ _ h4 => h4.readDone)).releaseAll)

theorem Canon.discard (h : Canon d) {q : Nat} : Canon (d.discard q) := h.setHeld.bumpF

theorem Canon.linkUp (h : Canon d) {rate width : Nat} : Canon (d.linkUp rate width) :=
  Canon.ite h h.setF.setF.setB.linkEvent

theorem Canon.setAmp (h : Canon d) {s v : Nat} : Canon (d.setAmp s v) := h.setF

theorem Canon.ampTaken (h : Canon d) {s ack : Nat} : Canon (d.ampTaken s ack) := h.setStream

theorem Canon.ampAck (h : Canon d) {x : AmpIn} : Canon (d.ampAck x) :=
  Canon.ite h h.ampTaken.setStream.ampPump.flushHeld.releaseAll

theorem Canon.ampLost (h : Canon d) {s : Nat} : Canon (d.ampLost s) := h.setAmp.releaseAll

theorem Canon.ampIn (h : Canon d) {x : AmpIn} {g : Dev → Dev} (hg : ∀ e, Canon e → Canon (g e)) :
    Canon (d.ampIn x g) := Canon.ite h (Canon.ite h.pmcOctets.bump (Canon.ite h.pmcOctets (hg _ h.pmcOctets)))

theorem Canon.ackSoon (h : Canon d) {s : Nat} : Canon (d.ackSoon s) := Canon.ite h h.setStream

theorem Canon.ampSegment (h : Canon d) {x : AmpIn} {take : Dev → Dev} (htake : ∀ e, Canon e → Canon (take e)) :
    Canon (d.ampSegment x take) := Canon.ite h (Canon.ite (htake _ h) (Canon.ite h.bump.ackSoon h))

theorem Canon.ampNext (h : Canon d) {s : Nat} {partial_ : List Byte} : Canon (d.ampNext s partial_) :=
  h.setStream.ackSoon

theorem Canon.ampSubmit (h : Canon d) {x : AmpIn} : Canon (d.ampSubmit x) :=
  h.ampIn
    (fun _ h1 =>
      h1.ampAck.ampSegment (fun _ h2 => Canon.ite (Canon.ite h2.upd.ampNext.submit h2.upd.submit) h2.upd.ampNext))

theorem Canon.ampComplete (h : Canon d) {x : AmpIn} : Canon (d.ampComplete x) :=
  h.ampIn (fun _ h1 => h1.ampAck.ampSegment (fun _ h2 => h2.ampNext))

theorem Canon.ampHeader (h : Canon d) {x : AmpIn} : Canon (d.ampHeader x) := h.ampIn (fun _ h1 => h1.ampAck)

theorem Canon.ampClose (h : Canon d) {x : AmpIn} : Canon (d.ampClose x) := h.ampIn (fun _ h1 => h1.ampTaken.ampLost)

theorem Canon.ampOpenIn (h : Canon d) {x : AmpIn} : Canon (d.ampOpenIn x) :=
  h.ampIn
    (fun _ h1 =>
      Canon.ite h1
        (Canon.ite
          ((((h1.ampTaken.setStream.setAmp.ampSend.forEach (fun _ _ h2 => h2.ampSend)).ampPump).flushHeld).releaseAll)
          h1.ampTaken.setStream.bumpF.setAmp.ampSend.releaseAll))

theorem Canon.ampRto (h : Canon d) {s : Nat} : Canon (d.ampRto s) := by
  unfold Dev.ampRto
  dsimp only
  split
  · exact Canon.ite h (Canon.ite h.setStream.ampLost h.setStream.ampSend)
  · exact h

theorem Canon.ampAckTimer (h : Canon d) {s : Nat} : Canon (d.ampAckTimer s) := by
  unfold Dev.ampAckTimer
  split
  · exact Canon.ite h.ampSend h
  · exact h

theorem Canon.showPtp (h : Canon d) : Canon d.showPtp := h.setReg.setReg.setReg.setReg

theorem Canon.ptpEvent (h : Canon d) {tx : Bool} {type seq back : Nat} : Canon (d.ptpEvent tx type seq back) :=
  Canon.ite h (by dsimp only; split; exact h.upd.showPtp; exact h)

theorem Canon.ptpPop (h : Canon d) : Canon d.ptpPop := h.upd.showPtp

theorem Canon.rawReceive (h : Canon d) {frame : List Byte} : Canon (d.rawReceive frame) :=
  Canon.ite h h.msWrite.setF.pmcOctets.upd

theorem Canon.rawSend (h : Canon d) {w : Word} : Canon (d.rawSend w) :=
  Canon.ite h.setReg (h.setReg.forEach (fun _ _ h1 => h1.fresh.emit.msTraffic.pmcOctets))

theorem Canon.ethLink (h : Canon d) {up : Bool} {speed : Nat} {an : Bool} : Canon (d.ethLink up speed an) :=
  Canon.ite h h.setReg.linkEvent

/-! ### Reset -/

theorem Canon.loseStores : ∀ {l : List (Nat × Byte)} {done : List Nat} {d : Dev}, Canon d → Canon (loseStores l done d)
  | [], _, _, h => h
  | _ :: _, _, _, h => Canon.ite h.loseStores (Canon.ite h.fresh.loseStores h.fresh.wr8.loseStores)

theorem Canon.powerLoss (h : Canon d) : Canon d.powerLoss := h.loseStores.upd

theorem Canon.wiped (h : Canon d) : Canon d.wiped := Dev.canonical_wiped h

theorem Canon.enterReset (h : Canon d) {code arg : Nat} : Canon (d.enterReset code arg) :=
  Canon.ite (Canon.ite h.setF.setF h) (((((Canon.ite h.powerLoss h).wiped).setReg).setReg).bump)

theorem Canon.aonReset (h : Canon d) : Canon d.aonReset := h.powerLoss.wiped.resetRange.resetRange.upd

theorem Canon.leaveReset (h : Canon d) : Canon d.leaveReset := Canon.ite h.resetRange.upd h

/-! ### Token -/

theorem Canon.judgeLead (h : Canon d) : Canon d.judgeLead := Canon.ite h.upd (Canon.ite h.upd h)

theorem Canon.setToken (h : Canon d) {w : Word} : Canon (d.setToken w) :=
  Canon.ite h (Canon.ite h.setReg.upd.judgeLead.setPair.hwEvent.linkEvent h.setReg.upd.judgeLead)

theorem Canon.tokBit (h : Canon d) {i : Nat} {v : Bool} : Canon (d.tokBit i v) := h.setToken

theorem Canon.faultRecord (h : Canon d) {cls m cause : Nat} {latched : Bool} :
    Canon (d.faultRecord cls m cause latched) := h.setReg.upd

theorem Canon.takeLead (h : Canon d) {m : Nat} : Canon (d.takeLead m) := h.admitTrail.releaseAll

theorem Canon.shutLanes (h : Canon d) {m : Nat} : Canon (d.shutLanes m).1 :=
  Canon.foldl_fst _ (fun _ _ h1 => Canon.ite_fst h1 (h1.drain.forEach fun _ _ h2 => h2.releaseEntry)) h

theorem Canon.actH (h : Canon d) {m cause : Nat} : Canon (d.actH m cause) :=
  Canon.ite
    (Canon.ite
      ((((((Canon.ite h.setToken.upd h.setToken).shutLanes).faultRecord).ledgerLoss).forEach
        (fun _ _ h1 => Canon.ite h1.conclude h1)).takeLead)
      (((((Canon.ite h.setToken.upd h.setToken).shutLanes).faultRecord).ledgerLoss).forEach
        (fun _ _ h2 => Canon.ite h2.conclude h2)))
    (Canon.ite (Canon.ite h.setToken.upd.shutLanes.faultRecord.takeLead h.setToken.faultRecord)
      h.setToken.shutLanes.setTrail.faultRecord)

theorem Canon.declareH (h : Canon d) {m cause : Nat} : Canon (d.declareH m cause) :=
  Canon.ite h (Canon.ite h.bumpF.upd.faultRecord h.bumpF.actH)

theorem Canon.setWatch (h : Canon d) {m : Nat} {v : Bool} : Canon (d.setWatch m v) := h.upd

theorem Canon.beat (h : Canon d) {m : Nat} : Canon (d.beat m) := h.upd

theorem Canon.hbLapse (h : Canon d) {m : Nat} : Canon (d.hbLapse m) := Canon.ite h.setWatch.declareH h

theorem Canon.mpReleased (h : Canon d) {m : Nat} : Canon (d.mpReleased m) := h.setWatch.beat

theorem Canon.heartbeat (h : Canon d) {m : Nat} : Canon (d.heartbeat m) := h.beat

theorem Canon.yieldHalf (h : Canon d) {m : Nat} : Canon (d.yieldHalf m) := h.beat.declareH

theorem Canon.tkRes (h : Canon d) {code : Nat} : Canon (d.tkRes code) := h.setReg

theorem Canon.tkGrant (h : Canon d) {m : Nat} : Canon (d.tkGrant m) := Canon.ite h.tkRes h.setToken.takeLead.tkRes

theorem Canon.tkSwitch (h : Canon d) : Canon d.tkSwitch :=
  Canon.ite h.tkRes (Canon.ite h.tkRes (by split; exact h.tkRes; exact h.setReg.tokBit.upd))

theorem Canon.plannedSwitch (h : Canon d) : Canon d.plannedSwitch := by
  unfold Dev.plannedSwitch
  split
  · exact h
  · exact Canon.ite h
      (by dsimp only; split; exact h.upd.tokBit.tkRes; exact Canon.ite h.upd.tokBit.tkRes h.upd.setToken.takeLead.tkRes)

theorem Canon.tkRevoke (h : Canon d) {m : Nat} : Canon (d.tkRevoke m) :=
  Canon.ite h.tkRes ((Canon.ite h.setToken.takeLead h.setToken).tkRes)

theorem Canon.tkEligible (h : Canon d) {m : Nat} {set : Bool} : Canon (d.tkEligible m set) :=
  Canon.ite h.tkRes h.tokBit.tkRes

theorem Canon.tkResync (h : Canon d) {m : Nat} : Canon (d.tkResync m) := Canon.ite h.tkRes h.upd.tokBit.tkRes

theorem Canon.copyMem (h : Canon d) {src dst n : Nat} : Canon (d.copyMem src dst n) :=
  h.clearMem.foldl (fun _ _ h1 => h1.wr8)

theorem Canon.copyMirrors (h : Canon d) {s m : Nat} : Canon (d.copyMirrors s m) :=
  Canon.ite h
    (Canon.ite h.copyMem.copyMem
      (h.copyMem.forEach (fun _ _ h1 => Canon.ite (h1.forEach (fun _ _ h2 => h2.copyMem)) h1.wr32)))

theorem Canon.resyncDone (h : Canon d) : Canon d.resyncDone := by
  unfold Dev.resyncDone
  split
  · exact h
  · exact h.upd.copyMirrors.setToken

theorem Canon.tkCancel (h : Canon d) : Canon d.tkCancel := Canon.ite h.tkRes h.upd.tokBit.tkRes

theorem Canon.mpDomainLost (h : Canon d) {m : Nat} : Canon (d.mpDomainLost m) :=
  ((((Canon.ite h.setWatch.upd h.setWatch).upd).setTrail).setToken).declareH

theorem Canon.mbReply (h : Canon d) {s : Nat} {res : List Word} : Canon (d.mbReply s res) :=
  (((h.foldl (fun _ _ h1 => h1.setReg)).setB).setB).wake

theorem Canon.tkResume (h : Canon d) : Canon d.tkResume :=
  Canon.ite h.tkRes
    ((((h.tokBit.bumpF.forEach (fun _ _ h1 => Canon.ite h1.mbReply h1)).upd).forEach
      (fun _ _ h2 => Canon.ite h2 h2.actH)).tkRes)

theorem Canon.classD (h : Canon d) {cause code : Nat} : Canon (d.classD cause code) := h.faultRecord.enterReset

theorem Canon.noLeader (h : Canon d) : Canon d.noLeader := by
  unfold Dev.noLeader
  split
  · exact Canon.ite h.classD h
  · exact h

theorem Canon.custodyStart (h : Canon d) : Canon d.custodyStart := h.setCpu

theorem Canon.recordLost (h : Canon d) {m i : Nat} : Canon (d.recordLost m i) :=
  Canon.ite (h.forEach (fun _ _ h1 => h1.ledPut)) (by split; exact h.ledRelease; exact h.forEach (fun _ _ h2 => h2.wr32))

theorem Canon.mirrorRepair (h : Canon d) {a : Nat} : Canon (d.mirrorRepair a) := by
  refine Canon.ite h (Canon.ite h.wr32.bumpF (Canon.ite h.upd.setValid.faultRecord ?_))
  extract_lets i owner d1
  have h1 : Canon d1 := h
  cases owner with
  | some x => exact h1.domainLoss
  | none => exact h1.recordLost

/-! ### Image -/

theorem Canon.putAt (h : Canon d) {at_ : Nat → Nat} {n gen : Nat} {body : List Byte} :
    Canon (d.putAt at_ n gen body) := h.wrBytes

theorem Canon.putUpsett (h : Canon d) : Canon d.putUpsett := Canon.ite h h.putAt

theorem Canon.getUpsett (h : Canon d) : Canon d.getUpsett := by
  unfold Dev.getUpsett
  split
  · exact h.upd
  · exact h

theorem Canon.showBoot (h : Canon d) : Canon d.showBoot := h.putUpsett.setReg.setReg.setReg

theorem Canon.setWeave (h : Canon d) {b : Boot} : Canon (d.setWeave b) := h.upd.showBoot

theorem Canon.startHalf (h : Canon d) {m : Nat} : Canon (d.startHalf m) :=
  h.upd.copyMem.copyMem.msTraffic.setCpu.mpReleased

theorem Canon.returnHalf (h : Canon d) {m : Nat} : Canon (d.returnHalf m) := Canon.ite h.startHalf h

theorem Canon.restartHalf (h : Canon d) {m : Nat} : Canon (d.restartHalf m) := h.upd.setB.vote

/-! ### Power -/

theorem Canon.loseDomain (h : Canon d) {n : Nat} : Canon (d.loseDomain n) :=
  Canon.ite h.discMiss.upd
    (Canon.ite h.tmrKeep.upd
      (Canon.ite h.upd
        (Canon.ite h.upd
          (Canon.ite h.upd
            (Canon.ite h.upd
              (Canon.ite h.upd
                (Canon.ite h.upd
                  (Canon.ite h.upd
                    (Canon.ite h.upd
                      (Canon.ite h.upd
                        (Canon.ite h.linkDown.upd
                          (Canon.ite h.upd
                            (Canon.ite h.upd
                              (Canon.ite h.upd
                                (Canon.ite h.clearMem
                                  (Canon.ite h.clearMem.clearMem.clearMem.setWen.upd (Canon.ite h.clearMem.upd h)))))))))))))))))

theorem Canon.setRing (h : Canon d) {k : Nat} {r : Machine.Ring} : Canon (d.setRing k r) := h.upd

theorem Canon.clearRegs (h : Canon d) {n : Nat} : Canon (d.clearRegs n) := by
  obtain ⟨hr, hm⟩ := (Dev.canonical_iff d).1 h
  exact (Dev.canonical_iff _).2 ⟨twf_filter resetOf hr _, hm⟩

theorem Canon.stopDomain (h : Canon d) {n : Nat} : Canon (d.stopDomain n) :=
  Canon.ite
    (Canon.ite (((((((((Canon.ite h.tmrHalt h).setF).loseDomain).clearRegs).upd).mpDomainLost).upd).setB).vote)
      ((((((Canon.ite h.tmrHalt h).setF).loseDomain).clearRegs).upd).mpDomainLost))
    (((((Canon.ite h.tmrHalt h).setF).loseDomain).clearRegs).upd)

theorem Canon.note (h : Canon d) {l : List Nat} : Canon (d.note l) := h.forEach (fun _ _ h1 => h1.setB)

theorem Canon.noteAll (h : Canon d) : Canon d.noteAll := h.note

theorem Canon.recordRefusal (h : Canon d) {n v reason : Nat} : Canon (d.recordRefusal n v reason) := by
  unfold Dev.recordRefusal
  dsimp only
  split <;> exact h.setReg.setB.note

theorem Canon.endPrepare (h : Canon d) {n : Nat} {retry : Bool} : Canon (d.endPrepare n retry) := h.upd.setB.setB

theorem Canon.refuseStop (h : Canon d) {n v reason : Nat} : Canon (d.refuseStop n v reason) :=
  Canon.ite h.recordRefusal.endPrepare.upd h.recordRefusal.endPrepare

theorem Canon.prepareAnswer (h : Canon d) {n : Nat} : Canon (d.prepareAnswer n) := by
  refine Canon.ite h ?_
  extract_lets v
  split
  · exact h.refuseStop
  · exact Canon.ite h.refuseStop (Canon.ite h.upd h.endPrepare.stopDomain)

theorem Canon.prepareTimeout (h : Canon d) {n : Nat} : Canon (d.prepareTimeout n) := Canon.ite h.refuseStop h

theorem Canon.stopRetry (h : Canon d) {n : Nat} : Canon (d.stopRetry n) := Canon.ite h.upd.beginPrepare h

theorem Canon.swvWrite (h : Canon d) {r n : Nat} {w : Word} : Canon (d.swvWrite r n w) := by
  unfold Dev.swvWrite
  split
  · exact Canon.ite h.setB.vote h
  · exact h

theorem Canon.rimVote (h : Canon d) {n : Nat} {on_ : Bool} : Canon (d.rimVote n on_) := h.setB.vote

theorem Canon.endRide (h : Canon d) : Canon d.endRide := Canon.ite h.setB h

theorem Canon.tbReturn (h : Canon d) {tcxo : Bool} : Canon (d.tbReturn tcxo) := by
  unfold Dev.tbReturn
  split
  · exact h
  · exact Canon.ite h.upd.setB.setTb h.upd

theorem Canon.enterRun (h : Canon d) {n : Nat} {tcxo : Bool} : Canon (d.enterRun n tcxo) :=
  Canon.ite (Canon.ite h.tbReturn.tmrReturn h.tbReturn)
    (Canon.ite (Canon.ite h.tmrRestore.tmrReturn h.tmrRestore)
      (Canon.ite h.secRestart.setB
        (Canon.ite (h.forEach (fun _ _ h1 => Canon.ite h1 h1.showHeld)) (Canon.ite h.returnHalf h))))

theorem Canon.ringsStart (h : Canon d) {n : Nat} : Canon (d.ringsStart n) :=
  Canon.ite ((h.forEach (fun _ _ h1 => h1.setReg.setRing)).setF)
    (Canon.ite ((h.forEach (fun _ _ h2 => h2.setReg.setRing)).setF) (h.forEach (fun _ _ h3 => h3.setReg.setRing)))

theorem Canon.runEntryDone (h : Canon d) {n : Nat} {tcxo : Bool} : Canon (d.runEntryDone n tcxo) :=
  Canon.ite h
    (Canon.ite h.upd.clearRegs.setB.enterRun.ringsStart.beginPrepare h.upd.clearRegs.setB.enterRun.ringsStart)

/-! ### Margin -/

theorem Canon.mgnNotice (h : Canon d) {i : Nat} : Canon (d.mgnNotice i) := h.setB

theorem Canon.mgnRecord (h : Canon d) {kind obj before after : Nat} : Canon (d.mgnRecord kind obj before after) :=
  Canon.ite h.bumpF.mgnNotice h.upd

theorem Canon.mgnDrain (h : Canon d) : Canon d.mgnDrain := by
  unfold Dev.mgnDrain
  split
  · exact h
  · exact h.upd.wrWords

theorem Canon.putLead (h : Canon d) {arm c : Nat} : Canon (d.putLead arm c) :=
  Canon.ite h (Canon.ite h.upd (Canon.ite h.setLead.mgnRecord.mgnNotice h.setLead.mgnRecord))

theorem Canon.putLeads (h : Canon d) : Canon d.putLeads := Canon.ite (h.forEach (fun _ _ h1 => h1.putLead)) h

theorem Canon.putAllow (h : Canon d) {a v : Nat} : Canon (d.putAllow a v) :=
  Canon.ite h.acrAllow (Canon.ite h.acrAllow.mgnRecord.mgnNotice h.acrAllow.mgnRecord)

theorem Canon.outputs (h : Canon d) {k : Nat} : Canon (d.outputs k) :=
  Canon.ite h.setF (Canon.ite h.setF (Canon.ite h.putAllow (Canon.ite h.putAllow (Canon.ite h.putLeads h))))

theorem Canon.engShort (h : Canon d) {n : Nat} : Canon (d.engShort n) :=
  Canon.ite h.setB.mgnRecord (Canon.ite h.setB.mgnRecord.mgnNotice h)

theorem Canon.mpShort (h : Canon d) {m : Nat} : Canon (d.mpShort m) :=
  Canon.ite h.upd.mgnRecord (Canon.ite h.upd.mgnRecord.mgnNotice h)

theorem Canon.avsSend (h : Canon d) {mv : Nat} : Canon (d.avsSend mv) := h.setF.setB.upd.mgnRecord.mgnNotice

theorem Canon.planVoltage (h : Canon d) : Canon d.planVoltage :=
  Canon.ite h.upd
    (Canon.ite h.upd.avsSend
      (Canon.ite h.upd.avsSend (Canon.ite h.upd.upd (Canon.ite h.upd ((Canon.ite h.upd.upd h.upd).avsSend)))))

theorem Canon.setpointLower (h : Canon d) : Canon d.setpointLower := by
  unfold Dev.setpointLower
  split
  · exact h
  · exact Canon.ite h.upd.avsSend h

theorem Canon.avsResponse (h : Canon d) : Canon d.avsResponse := Canon.ite h h.setF.setB.upd

theorem Canon.avsTimeout (h : Canon d) : Canon d.avsTimeout := by
  unfold Dev.avsTimeout
  split
  · exact Canon.ite h.setB.setB.upd.mgnRecord.mgnNotice h
  · exact h

theorem Canon.calNotice (h : Canon d) {k : Nat} : Canon (d.calNotice k) := h.mgnRecord.mgnNotice

theorem Canon.laneTemp (h : Canon d) {n : Nat} {temp : Int} : Canon (d.laneTemp n temp) := Canon.ite h.setPend h

theorem Canon.acrTempDue (h : Canon d) {a : Nat} {temp : Int} : Canon (d.acrTempDue a temp) :=
  Canon.ite h.setB.mgnNotice h

theorem Canon.replan (h : Canon d) {k : Nat} : Canon (d.replan k) :=
  (Canon.ite h.outputs.engShort (Canon.ite h.outputs.mpShort h.outputs)).planVoltage

theorem Canon.sentinelBurst (h : Canon d) {k burst mv : Nat} {temp : Int} : Canon (d.sentinelBurst k burst mv temp) :=
  Canon.ite h
    (Canon.ite h.setReg.setReg.setRing.replan.laneTemp
      (Canon.ite h.setReg.setReg.setRing.replan.acrTempDue h.setReg.setReg.setRing.replan))

theorem Canon.burstTimeout (h : Canon d) {k : Nat} : Canon (d.burstTimeout k) :=
  Canon.ite h.setF.setB.setRing.mgnRecord.mgnNotice.replan h

theorem Canon.minute (h : Canon d) : Canon d.minute := h.forEach (fun _ _ h1 => Canon.ite h1 h1.setRing)

theorem Canon.ageTrigger (h : Canon d) {k : Nat} : Canon (d.ageTrigger k) :=
  Canon.ite h
    (Canon.ite (Canon.ite h.calNotice.setPend h.calNotice)
      (Canon.ite h.calNotice (Canon.ite h.calNotice.setB h.calNotice)))

theorem Canon.calComplete (h : Canon d) {k : Nat} : Canon (d.calComplete k) := h.setRing

theorem Canon.weekMean (h : Canon d) {k : Nat} : Canon (d.weekMean k) :=
  Canon.ite h (((Canon.ite h.wrWords h).setReg).setRing)

theorem Canon.weekRing (h : Canon d) {k : Nat} : Canon (d.weekRing k) :=
  (Canon.ite h.weekMean (Canon.ite h.weekMean.setRing.mgnRecord.mgnNotice h.weekMean.setRing)).ageTrigger

theorem Canon.putSummary (h : Canon d) : Canon d.putSummary := h.putAt

theorem Canon.weekly (h : Canon d) : Canon d.weekly :=
  ((Canon.ite (h.forEach (fun _ _ h1 => h1.weekRing)) ((h.forEach (fun _ _ h2 => h2.weekRing)).setReg)).upd).putSummary

theorem Canon.leadFloor (h : Canon d) {c v : Nat} : Canon (d.leadFloor c v) :=
  Canon.ite h.setF.mgnRecord.setLead h.setF.mgnRecord

theorem Canon.floorWrite (h : Canon d) {k : Nat} {w : Word} : Canon (d.floorWrite k w) := h.setReg.mgnRecord

/-! ### Rx -/

theorem Canon.setPathRx (h : Canon d) {p : Sys2Proof.Path} {x : Option RxFrame} : Canon (d.setPathRx p x) := by
  unfold Dev.setPathRx
  split
  · exact h.onRadio
  · exact h.onRadio
  · exact h.setAcrPath

theorem Canon.preamble (h : Canon d) {p : Sys2Proof.Path} {r1 r2 : Nat} : Canon (d.preamble p r1 r2) :=
  Canon.ite (Canon.setPathRx (by split; exact h.onRadio; exact h; exact h.setAcrPath)) h

theorem Canon.newSearch (h : Canon d) {p : Sys2Proof.Path} : Canon (d.newSearch p) := by
  unfold Dev.newSearch
  split
  · exact h.onRadio
  · exact h
  · exact h.acrSearch

theorem Canon.giveUp (h : Canon d) {p : Sys2Proof.Path} {l : List Nat} : Canon (d.giveUp p l) := by
  unfold Dev.giveUp
  split
  · exact Canon.ite h h.setPathRx.newSearch
  · exact h

theorem Canon.sfdFound (h : Canon d) {p : Sys2Proof.Path} {seen : SfdSeen} {back : Nat} :
    Canon (d.sfdFound p seen back) := by
  unfold Dev.sfdFound
  split
  · exact Canon.ite h (by split; exact h.setPathRx.fresh.onRadio.captureAt; exact h.setPathRx.captureAt; exact h.setPathRx)
  · exact h

theorem Canon.dwell (h : Canon d) {n energy : Nat} : Canon (d.dwell n energy) :=
  Canon.ite h (by split; exact h.setRadio; exact Canon.ite h (by split <;> exact h.setRadio))

theorem Canon.laneFrameEnd (h : Canon d) {n : Nat} {x : RxFrame} {e : RxEnd} {peak : Int} :
    Canon (d.laneFrameEnd n x e peak) :=
  Canon.ite h.setRadio.capture.setAer.pmcOctets.closeWin.setSt.mayShut h.setRadio.capture.setAer.pmcOctets

theorem Canon.acrFrameEnd (h : Canon d) {a k p : Nat} {x : RxFrame} {e : RxEnd} : Canon (d.acrFrameEnd a k p x e) :=
  (((Canon.ite h.setB h).overGone (fun _ h1 => h1.setAcrPath)).acrSearch).acrDescriptor

theorem Canon.frameEnd (h : Canon d) {p : Sys2Proof.Path} {e : RxEnd} {peak : Int} : Canon (d.frameEnd p e peak) := by
  unfold Dev.frameEnd
  split
  · exact h
  · exact Canon.ite h (by split; exact h.laneFrameEnd; exact h; exact h.acrFrameEnd)

/-! ### Trunk -/

theorem Canon.setRole (h : Canon d) {v : Nat} : Canon (d.setRole v) := Canon.ite h h.setF.hwEvent

theorem Canon.trkRes (h : Canon d) {v : Nat} {done : Bool} : Canon (d.trkRes v done) := h.setF.setB

theorem Canon.trkEnable (h : Canon d) : Canon d.trkEnable :=
  Canon.ite h.trkRes (Canon.ite h.trkRes h.onRadio.setF.trkRes.setSt.vote)

theorem Canon.trkReady (h : Canon d) : Canon d.trkReady := Canon.ite h.setRole.setB h

theorem Canon.trkDisable (h : Canon d) : Canon d.trkDisable := Canon.ite h.trkRes h.upd.drain.setB.trkRes

theorem Canon.trkClaim (h : Canon d) : Canon d.trkClaim := Canon.ite h.trkRes h.upd.asbQueue.setRole.trkRes

theorem Canon.trkResign (h : Canon d) : Canon d.trkResign := Canon.ite h.trkRes h.upd.asbQueue.trkRes

theorem Canon.openWindow (h : Canon d) : Canon d.openWindow := by
  unfold Dev.openWindow
  split
  · exact h
  · exact h.upd

theorem Canon.claimSeen (h : Canon d) {e prio eui : Nat} {own : Bool} : Canon (d.claimSeen e prio eui own) :=
  Canon.ite (Canon.ite ((Canon.ite h.upd.setRole h.upd).trkRes) h)
    (by dsimp only; split; exact Canon.ite h.openWindow.upd h.openWindow; exact h.openWindow)

theorem Canon.resignSeen (h : Canon d) {e : Nat} : Canon (d.resignSeen e) := Canon.ite h h.openWindow.upd

theorem Canon.claimEnd (h : Canon d) : Canon d.claimEnd := by
  unfold Dev.claimEnd
  split
  · exact h
  · exact Canon.ite h
      (by
        dsimp only
        split
        · exact Canon.ite h.upd.upd.trkRes h.upd.upd
        · exact Canon.ite h.upd.upd.setReg.setF.setB
            (Canon.ite
              (Canon.ite h.upd.upd.setReg.setF.setB.setF.setRole.trkRes h.upd.upd.setReg.setF.setB.setF.setRole)
              (Canon.ite
                ((Canon.ite h.upd.upd.setReg.setF.setB.setRole
                  (Canon.ite h.upd.upd.setReg.setF.setB.setRole h.upd.upd.setReg.setF.setB)).trkRes)
                (Canon.ite
                  ((Canon.ite h.upd.upd.setReg.setF.setB.setRole
                    (Canon.ite h.upd.upd.setReg.setF.setB.setRole h.upd.upd.setReg.setF.setB)).trkRes)
                  (Canon.ite h.upd.upd.setReg.setF.setB.setRole
                    (Canon.ite h.upd.upd.setReg.setF.setB.setRole h.upd.upd.setReg.setF.setB))))))

theorem Canon.setMap (h : Canon d) {base : Nat} {m : List Nat} : Canon (d.setMap base m) :=
  h.forEach (fun _ _ h1 => h1.setReg)

theorem Canon.resetMaps (h : Canon d) {p : Nat} : Canon (d.resetMaps p) := h.setMap.setMap.upd.setReg

theorem Canon.peerCtrl (h : Canon d) {p : Nat} {w : Word} : Canon (d.peerCtrl p w) :=
  Canon.ite h.setReg.resetMaps (Canon.ite h.setReg.resetMaps h.setReg)

theorem Canon.peerEui (h : Canon d) {p k : Nat} {w : Word} : Canon (d.peerEui p k w) :=
  Canon.ite h.setReg.resetMaps h.setReg

theorem Canon.queueMap (h : Canon d) {p : Nat} : Canon (d.queueMap p) := h.upd

theorem Canon.sounding (h : Canon d) {p : Nat} {snr : List Int} : Canon (d.sounding p snr) :=
  Canon.ite h.upd (Canon.ite h.upd.upd.setMap.setF.queueMap h.upd.upd.setMap.setF.upd)

theorem Canon.mapQueue (h : Canon d) {p : Nat} : Canon (d.mapQueue p) := Canon.ite h.queueMap h

theorem Canon.dropTxd (h : Canon d) {tag : Nat} : Canon (d.dropTxd tag) := h.upd

theorem Canon.pushTxc (h : Canon d) {res tag : Nat} : Canon (d.pushTxc res tag) := h.upd

theorem Canon.trkTxsCheck (h : Canon d) {k : Nat} : Canon (d.trkTxsCheck k) := by
  unfold Dev.trkTxsCheck
  split
  · exact Canon.ite (Canon.ite h.checkArm h.checkArm.pushTxc) h
  · exact h

theorem Canon.fireTxsTrunk (h : Canon d) {k : Nat} {a : Arming} : Canon (d.fireTxsTrunk k a) := by
  unfold Dev.fireTxsTrunk
  dsimp only
  split
  · exact h.fired.noteFired.refuse
  · exact Canon.ite h.fired.noteFired.refuse
      (by
        split
        · exact h.fired.noteFired
        · split
          · exact h.fired.noteFired.refuse
          · exact Canon.ite h.fired.noteFired.refuse
              (by
                split
                · exact h.endArming.pmcEvent.deny.dropTxd.pushTxc
                · exact (((((((Canon.fired (by split; exact h; exact h.upd)).noteFired).charge).upd).dropTxd).startTx).pmcOctets).msTraffic))

theorem Canon.fireTrkTxs (h : Canon d) {k : Nat} : Canon (d.fireTrkTxs k) := by
  unfold Dev.fireTrkTxs
  dsimp only
  split
  · exact h.settle
  · split; exact h.settle.beforeGate.trkTxsCheck.fireTxsTrunk.mayShut; exact h.settle.beforeGate.trkTxsCheck

theorem Canon.sendOwn (h : Canon d) {air : Nat} {x : TrunkTx} {octets : Nat} {act : Dev → Dev} (hact : ∀ e, Canon e → Canon (act e)) :
    Canon (d.sendOwn air x octets act) :=
  Canon.ite h (by split; exact h.deny; exact (hact _ h.charge.upd.onRadio.setSt.capture).pmcOctets)

theorem Canon.sendBeacon (h : Canon d) : Canon d.sendBeacon := h.sendOwn (fun _ h1 => h1.upd.setB)

theorem Canon.mapSlot (h : Canon d) : Canon d.mapSlot :=
  Canon.ite h (by dsimp only; split; exact h; exact h.sendOwn (fun _ h1 => h1.upd))

theorem Canon.superframe (h : Canon d) {heard : Bool} : Canon (d.superframe heard) :=
  Canon.ite h.endTurn.txEnd
    (Canon.ite h.endTurn.txEnd.upd.setF.sendBeacon
      (Canon.ite h.endTurn.txEnd.upd
        (Canon.ite (Canon.ite h.endTurn.txEnd.upd.setF.upd.setRole h.endTurn.txEnd.upd.setF.upd)
          h.endTurn.txEnd.upd.setF)))

theorem Canon.takeMap (h : Canon d) {p : Nat} {l : List Byte} : Canon (d.takeMap p l) := Canon.ite h h.setMap.setF

theorem Canon.takeBeacon (h : Canon d) {x : TrunkRx} : Canon (d.takeBeacon x) :=
  Canon.ite h
    (Canon.ite (((((Canon.ite h.setReg h.setF).upd).setF).setB).setRole)
      ((((Canon.ite h.setReg h.setF).upd).setF).setB))

theorem Canon.trkRecord (h : Canon d) {f : RxFrame} {x : TrunkRx} {status : Nat} {buf : Word} :
    Canon (d.trkRecord f x status buf) := h.upd

theorem Canon.takeData (h : Canon d) {f : RxFrame} {x : TrunkRx} {abandoned : Bool} :
    Canon (d.takeData f x abandoned) := by
  unfold Dev.takeData
  split
  · exact h.bumpF
  · exact Canon.ite h.upd.trkRecord h.upd.msWrite.trkRecord.pmcOctets

theorem Canon.takeTrunk (h : Canon d) {p : Nat} {f : RxFrame} {x : TrunkRx} : Canon (d.takeTrunk p f x) :=
  Canon.ite (h.forEach (fun _ _ h1 => h1.sounding))
    (Canon.ite
      (Canon.ite ((((h.forEach (fun _ _ h2 => h2.sounding)).bumpF).queueMap).takeData)
        (((h.forEach (fun _ _ h3 => h3.sounding)).bumpF).queueMap))
      (by
        split
        · exact (h.forEach (fun _ _ h4 => h4.sounding)).takeData
        · exact Canon.ite ((h.forEach (fun _ _ h5 => h5.sounding)).takeMap) (h.forEach (fun _ _ h6 => h6.sounding))
        · exact Canon.ite ((h.forEach (fun _ _ h7 => h7.sounding)).takeBeacon) (h.forEach (fun _ _ h8 => h8.sounding))))

theorem Canon.trunkFrame (h : Canon d) {x : TrunkRx} {peak : Int} : Canon (d.trunkFrame x peak) := by
  unfold Dev.trunkFrame
  split
  · exact h
  · exact Canon.ite h
      (Canon.ite
        ((((Canon.ite h.onRadio (by split; exact h.onRadio; exact h.onRadio.capture.takeTrunk)).closeWin).setSt).mayShut)
        (Canon.ite h.onRadio (by split; exact h.onRadio; exact h.onRadio.capture.takeTrunk)))

theorem Canon.roleMessage (h : Canon d) {f : BusFrame} {own : Bool} : Canon (d.roleMessage f own) :=
  Canon.ite h.claimSeen h.resignSeen

theorem Canon.asbReceive (h : Canon d) {src : Nat} {f : BusFrame} : Canon (d.asbReceive src f) :=
  Canon.ite h
    (by
      split
      · exact h.upd.asbDeliver
      · exact h.upd.asbDeliver.asbFollow
      · exact h.upd.roleMessage
      · exact h.upd.roleMessage
      · exact h.upd.asbDeliver
      · exact h.upd.asbDeliver
      · exact h.upd)

theorem Canon.asbSent (h : Canon d) {ok : Bool} : Canon (d.asbSent ok) := by
  unfold Dev.asbSent
  split
  · exact Canon.ite (Canon.ite h.asbDone.roleMessage (Canon.ite h.asbDone.setReg h.asbDone))
      (Canon.ite h.upd (Canon.ite h.asbDone.setReg h.asbDone))
  · exact h

theorem Canon.asbComplete (h : Canon d) {x : BusEnd} : Canon (d.asbComplete x) := by
  refine Canon.ite h ?_
  extract_lets since asb d1
  have h1 : Canon d1 := h
  split
  · exact h1.bumpF
  · exact h1.bumpF
  · exact Canon.asbReceive (Canon.ite h1.upd h1)
  · exact h1.asbSent

/-! ### Supply -/

theorem Canon.showSup (h : Canon d) : Canon d.showSup := by
  unfold Dev.showSup
  dsimp only
  split <;> exact h.setReg.setPair.setReg

theorem Canon.supEvent (h : Canon d) {kind start began extreme : Nat} : Canon (d.supEvent kind start began extreme) :=
  h.upd.showSup

theorem Canon.supPop (h : Canon d) : Canon d.supPop := h.upd.showSup

theorem Canon.rideSup (h : Canon d) : Canon d.rideSup :=
  Canon.ite
    (Canon.ite
      ((Canon.ite (h.noteAll.acrAllow.forEach (fun _ _ h1 => Canon.ite h1 h1.drainOffer))
        ((h.noteAll.acrAllow.forEach (fun _ _ h2 => Canon.ite h2 h2.drainOffer)).trkDisable)).acrStop)
      (Canon.ite (h.noteAll.acrAllow.forEach (fun _ _ h3 => Canon.ite h3 h3.drainOffer))
        ((h.noteAll.acrAllow.forEach (fun _ _ h4 => Canon.ite h4 h4.drainOffer)).trkDisable)))
    ((Canon.ite
      ((Canon.ite (h.noteAll.acrAllow.forEach (fun _ _ h5 => Canon.ite h5 h5.drainOffer))
        ((h.noteAll.acrAllow.forEach (fun _ _ h6 => Canon.ite h6 h6.drainOffer)).trkDisable)).acrStop)
      (Canon.ite (h.noteAll.acrAllow.forEach (fun _ _ h7 => Canon.ite h7 h7.drainOffer))
        ((h.noteAll.acrAllow.forEach (fun _ _ h8 => Canon.ite h8 h8.drainOffer)).trkDisable))).acrDisable)

theorem Canon.rideRim (h : Canon d) : Canon d.rideRim :=
  (Canon.setB
    (by
      split
      · exact ((h.forEach (fun _ _ h1 => h1.reservation.retryAcks)).copyMem).upd
      · exact h.forEach (fun _ _ h2 => h2.reservation.retryAcks))).forEach (fun _ _ h3 => Canon.ite h3 h3.rimVote)

theorem Canon.rideServe (h : Canon d) : Canon d.rideServe :=
  Canon.ite h
    (Canon.ite (Canon.ite h h.rideRim)
      (Canon.ite ((h.upd.forEach (fun _ _ h1 => Canon.ite h1 h1.rimVote)).endRide) h.endRide))

theorem Canon.rideTrigger (h : Canon d) {cause : Nat} : Canon (d.rideTrigger cause) :=
  Canon.ite h (Canon.ite h.bumpF (((Canon.ite h.bumpF.setB.setB h.bumpF.setB.setB.setB.setF).upd).rideSup))

theorem Canon.exitCheck (h : Canon d) : Canon d.exitCheck := h.upd

theorem Canon.exitReady (h : Canon d) : Canon d.exitReady := by
  unfold Dev.exitReady
  split
  · exact h
  · exact Canon.ite h.setB.setB.note.upd h

theorem Canon.setClass (h : Canon d) {new : Nat} {p : Option Nat} : Canon (d.setClass new p) :=
  Canon.ite (by split; exact h.upd; exact h)
    ((Canon.ite
      (((((Canon.upd (by split; exact Canon.ite h.fresh.supEvent h.supEvent; exact h)).setF).hwEvent).noteAll).rideTrigger)
      ((((Canon.upd (by split; exact Canon.ite h.fresh.supEvent h.supEvent; exact h)).setF).hwEvent).noteAll)).exitCheck)

theorem Canon.halfCycle (h : Canon d) {code freq : Nat} : Canon (d.halfCycle code freq) := by
  unfold Dev.halfCycle
  extract_lets d1 bad sup d2 sup2 d3 d4
  have h2 : Canon d2 := h.setReg.upd
  have h4 : Canon d4 := by
    unfold d4
    split
    · exact Canon.ite h2.upd h2.upd.setB.supEvent
    · exact h2
  exact h4.setClass

theorem Canon.lineLoss (h : Canon d) : Canon d.lineLoss := h.setClass

theorem Canon.freqErr (h : Canon d) : Canon d.freqErr := Canon.ite h.upd.setB.noteAll h

theorem Canon.pfwLow (h : Canon d) : Canon d.pfwLow := Canon.ite h h.setB.noteAll.rideTrigger.exitCheck

theorem Canon.pfwHigh (h : Canon d) : Canon d.pfwHigh := h.setB.exitCheck

theorem Canon.coreUv (h : Canon d) : Canon d.coreUv := h.setB.noteAll.rideTrigger.upd.exitCheck

/-! ### Rim -/

theorem Canon.answerUnknownN : ∀ {n : Nat} {d : Dev}, Canon d → Canon (answerUnknownN n d)
  | 0, _, h => h
  | _ + 1, _, h => by
    unfold Machine.answerUnknownN
    split
    · exact Canon.ite h h.mbReply.answerUnknownN
    · exact h

theorem Canon.journal (h : Canon d) {s fn : Nat} : Canon (d.journal s fn) := Canon.ite h h.putAt

theorem Canon.serve (h : Canon d) {s fn : Nat} {args : List Nat} {body : Dev → Dev × List Word} (hbody : ∀ e, Canon e → Canon (body e).1) :
    Canon (d.serve s fn args body) :=
  Canon.ite h
    (Canon.ite
      (Canon.ite h.answerUnknownN.mbReply
        (Canon.ite (hbody _ h.answerUnknownN.journal) ((hbody _ h.answerUnknownN.journal).mbReply))) h.answerUnknownN)

theorem Canon.rimInfo (h : Canon d) {s : Nat} : Canon (d.rimInfo s) := h.serve (fun _ h1 => h1)

theorem Canon.rimRolesRunning (h : Canon d) {s : Nat} : Canon (d.rimRolesRunning s) := h.serve (fun _ h1 => h1.upd)

theorem Canon.putSettings (h : Canon d) {x : Settings} : Canon (d.putSettings x) := by
  unfold Dev.putSettings
  extract_lets i fw d1
  have h1 : Canon d1 := h.upd.wrBytes
  exact h1.putAt

theorem Canon.getSettings (h : Canon d) : Canon d.getSettings := by
  unfold Dev.getSettings
  dsimp only
  split
  · exact h.upd
  · exact h.upd
  · exact h.upd
  · exact h

theorem Canon.rimSettingsRead (h : Canon d) {s : Nat} : Canon (d.rimSettingsRead s) :=
  h.serve (fun _ h1 => Canon.ite_fst h1 h1.msWrite)

theorem Canon.rimSettingsWrite (h : Canon d) {s : Nat} : Canon (d.rimSettingsWrite s) :=
  h.serve (fun _ h1 => Canon.ite_fst h1 (Canon.ite_fst h1 (Canon.ite_fst h1 h1.putSettings)))

theorem Canon.setStaged (h : Canon d) {k : Nat} {v : Bool} : Canon (d.setStaged k v) := h.upd

theorem Canon.rimFwWindow (h : Canon d) {s : Nat} : Canon (d.rimFwWindow s) :=
  h.serve (fun _ h1 => Canon.ite_fst h1 (Canon.ite_fst h1 h1.setReg.setStaged))

theorem Canon.closeWindow (h : Canon d) : Canon d.closeWindow := Canon.ite h.setReg.setStaged.setStaged h

theorem Canon.rimFwStage (h : Canon d) {s : Nat} {readErr : Bool} : Canon (d.rimFwStage s readErr) :=
  h.serve (fun _ h1 => Canon.ite_fst h1 (Canon.ite_fst h1.closeWindow.setStaged h1.closeWindow.setStaged))

theorem Canon.setRun (h : Canon d) {m k : Nat} : Canon (d.setRun m k) := h.upd

theorem Canon.rimFwActivate (h : Canon d) {s : Nat} : Canon (d.rimFwActivate s) :=
  h.serve
    (fun _ h1 =>
      Canon.ite_fst h1
        (Canon.ite_fst h1 (Canon.ite_fst h1.setWeave (Canon.ite_fst h1 h1.upd.setWeave.setRun.restartHalf))))

theorem Canon.dropTrial (h : Canon d) : Canon d.dropTrial := h.upd.setWeave

theorem Canon.backTo (h : Canon d) {k : Nat} : Canon (d.backTo k) :=
  Canon.ite h.upd.setRun.restartHalf (Canon.ite h.upd.setRun.restartHalf h)

theorem Canon.abandonTrial (h : Canon d) : Canon d.abandonTrial :=
  Canon.ite h.dropTrial.enterReset h.dropTrial.upd.backTo

theorem Canon.halfwiseSwitched (h : Canon d) : Canon d.halfwiseSwitched :=
  Canon.ite h h.upd.setRun.restartHalf.showBoot

theorem Canon.halfwiseEligible (h : Canon d) : Canon d.halfwiseEligible := Canon.ite h h.upd.showBoot

theorem Canon.rimConfirm (h : Canon d) {s : Nat} : Canon (d.rimConfirm s) :=
  h.serve
    (fun _ h1 =>
      by
        split
        · exact Canon.ite_fst h1.abandonTrial h1
        · exact Canon.ite_fst h1 (Canon.setWeave (by split; exact Canon.ite h1.upd h1.upd.putSettings; exact h1.upd))
        · exact h1)

theorem Canon.trialTimeout (h : Canon d) : Canon d.trialTimeout := by
  unfold Dev.trialTimeout
  split
  · exact Canon.ite h.abandonTrial h
  · exact h

theorem Canon.rimRimStage (h : Canon d) {s : Nat} : Canon (d.rimRimStage s) :=
  h.serve
    (fun _ h1 =>
      Canon.ite_fst h1 (Canon.ite_fst h1.clearMem.copyMem.msTraffic h1.clearMem.copyMem.msTraffic.upd.showBoot))

theorem Canon.rimSignerRevoke (h : Canon d) {s : Nat} : Canon (d.rimSignerRevoke s) :=
  h.serve (fun _ h1 => Canon.ite_fst h1 (Canon.ite_fst h1 h1.upd.putUpsett))

theorem Canon.settleSlot (h : Canon d) {k : Nat} : Canon (d.settleSlot k) :=
  (h.forEach (fun _ _ h1 => h1.reservation.retryAcks)).keepOld

theorem Canon.installKey (h : Canon d) {k usage : Nat} {key : List Byte} : Canon (d.installKey k usage key) :=
  h.settleSlot.flushKey.clearMem.wrBytes.logLimit.logLimit.wrBytes.upd

theorem Canon.rimKeyUnwrap (h : Canon d) {s : Nat} : Canon (d.rimKeyUnwrap s) :=
  h.serve
    (fun _ h1 =>
      Canon.ite_fst h1 (Canon.ite_fst h1 (Canon.ite_fst h1 (Canon.ite_fst h1 (by split; exact h1.installKey; exact h1)))))

theorem Canon.rimKeyGenerate (h : Canon d) {s : Nat} : Canon (d.rimKeyGenerate s) :=
  h.serve (fun _ h1 => Canon.ite_fst h1 (Canon.ite_fst h1 (Canon.ite_fst h1 h1.upd.installKey)))

theorem Canon.rimKeyErase (h : Canon d) {s : Nat} : Canon (d.rimKeyErase s) :=
  h.serve (fun _ h1 => Canon.ite_fst h1 h1.settleSlot.flushKey.clearMem.setSlotState)

theorem Canon.rimKeyUsage (h : Canon d) {s : Nat} : Canon (d.rimKeyUsage s) :=
  h.serve (fun _ h1 => Canon.ite_fst h1 (Canon.ite_fst h1 (Canon.ite_fst h1 h1.wrBytes)))

theorem Canon.putSeal (h : Canon d) {b : Nat} {x : Seal} : Canon (d.putSeal b x) := by
  unfold Dev.putSeal
  extract_lets i fw d1
  have h1 : Canon d1 := h
  exact h1.putAt

theorem Canon.installSeal (h : Canon d) {x : Seal} : Canon (d.installSeal x) := h.upd

/-- The definition is unfolded where it stands unapplied, so that no check computes the newest copy of the Seal. -/
theorem Canon.getSeal (h : Canon d) : Canon d.getSeal := by
  obtain ⟨f, hf⟩ : ∃ f, f = Dev.getSeal := ⟨_, rfl⟩
  rw [← hf]
  delta Dev.getSeal at hf
  rw [hf]
  dsimp only
  generalize d.newestAt sealAt 0x2000 = o
  cases o with
  | none => exact h
  | some i =>
    dsimp only
    split
    · exact Canon.ite h h.installSeal
    · exact h

theorem Canon.rimSealInstall (h : Canon d) {s : Nat} {profile : Seal} : Canon (d.rimSealInstall s profile) :=
  h.serve
    (fun _ h1 =>
      Canon.ite_fst h1
        (Canon.ite_fst h1
          (Canon.ite_fst h1
            (Canon.ite_fst h1
              (Canon.ite_fst h1 (Canon.ite_fst h1 (Canon.ite_fst h1 (Canon.ite_fst h1 h1.putSeal.installSeal))))))))

theorem Canon.rimSealQuery (h : Canon d) {s : Nat} : Canon (d.rimSealQuery s) :=
  h.serve (fun _ h1 => by split <;> exact h1)

theorem Canon.rimPdSwitch (h : Canon d) {s : Nat} : Canon (d.rimPdSwitch s) :=
  h.serve
    (fun _ h1 =>
      by
        split
        · exact Canon.ite_fst h1 (Canon.ite_fst h1 h1.rimVote)
        · exact Canon.ite_fst h1 ((h1.forEach (fun _ _ h2 => h2.rimVote)).rimVote)
        · exact h1)

theorem Canon.rimNtSnapshot (h : Canon d) {s : Nat} : Canon (d.rimNtSnapshot s) :=
  h.serve (fun _ h1 => h1.copyMem.upd)

theorem Canon.rimAlarm (h : Canon d) {s : Nat} : Canon (d.rimAlarm s) :=
  h.serve (fun _ h1 => Canon.ite_fst h1.alarm1 h1)

theorem Canon.rimReset (h : Canon d) {s : Nat} : Canon (d.rimReset s) :=
  h.serve (fun _ h1 => Canon.ite_fst h1 h1.enterReset)

theorem Canon.holdRecovery (h : Canon d) {kind : Nat} : Canon (d.holdRecovery kind) := h.upd.setB

theorem Canon.startRim (h : Canon d) {k : Nat} : Canon (d.startRim k) := h.upd.setCpu

theorem Canon.romHold (h : Canon d) : Canon d.romHold := by
  unfold Dev.romHold
  extract_lets d1 d2
  have h1 : Canon d1 := h.holdRecovery.setCpu.setCpu
  have h2 : Canon d2 := h1.forEach fun _ _ h3 => Canon.ite h3 h3.drainOffer
  exact Canon.ite h2 h2.trkDisable

theorem Canon.custodyRestart (h : Canon d) {cause : Nat} : Canon (d.custodyRestart cause) :=
  Canon.ite h.faultRecord.upd.classD
    (by
      split
      · exact h.faultRecord.upd.tokBit.a2Done.custodyStart.getUpsett.romHold
      · exact h.faultRecord.upd.tokBit.a2Done.custodyStart.getUpsett.startRim)

theorem Canon.lockstep (h : Canon d) : Canon d.lockstep := h.alarm1.custodyRestart

theorem Canon.selectWeave (h : Canon d) {e : Nat → Bool} : Canon (d.selectWeave e).1 :=
  Canon.ite_fst ((Canon.ite_fst h.setF.setF h.setF).setWeave)
    (Canon.ite_fst (((Canon.ite_fst h.setF.setF h.setF).setF).setWeave)
      (((Canon.ite_fst h.setF.setF h.setF).setF).setWeave))

theorem Canon.setFloors (h : Canon d) : Canon d.setFloors := by
  unfold Dev.setFloors
  extract_lets d1
  have h1 : Canon d1 := h.forEach fun _ _ h2 => h2.leadFloor
  exact h1.floorWrite.getSeal

theorem Canon.upsettStart (h : Canon d) {e : Nat → Bool} {octal : Bool} : Canon (d.upsettStart e octal) := by
  unfold Dev.upsettStart
  dsimp only
  split
  · exact h.custodyStart.a2Done.getUpsett.upd.romHold.showBoot
  · exact Canon.ite
      h.custodyStart.a2Done.getUpsett.startRim.replayLog.secRestart.setF.getSettings.selectWeave.upd.holdRecovery
      ((((((((Canon.ite
        h.custodyStart.a2Done.getUpsett.startRim.replayLog.secRestart.setF.getSettings.selectWeave.tokBit.setB.setReg
        h.custodyStart.a2Done.getUpsett.startRim.replayLog.secRestart.setF.getSettings.selectWeave.tokBit.setB).setFloors).forEach
        (fun _ _ h1 => h1.setReg)).setRun).setRun).startHalf).startHalf).upd)

theorem Canon.tkEligibleRim (h : Canon d) {m : Nat} {set : Bool} : Canon (d.tkEligibleRim m set) :=
  Canon.ite h.tkEligible.halfwiseEligible h.tkEligible

theorem Canon.firstGrant (h : Canon d) : Canon d.firstGrant :=
  Canon.ite (((Canon.ite h.upd h).upd).showBoot) (Canon.ite h.upd h)

theorem Canon.rimGrant (h : Canon d) {m : Nat} : Canon (d.rimGrant m) := Canon.ite h.tkGrant.firstGrant h.tkGrant

theorem Canon.upsettGrant (h : Canon d) : Canon d.upsettGrant :=
  (Canon.ite (((Canon.ite h.rimGrant.rimGrant h.rimGrant).tkResync).tkEligible)
    ((Canon.ite h.rimGrant.rimGrant h.rimGrant).tkResync)).upd

theorem Canon.upsett (h : Canon d) {e : Nat → Bool} {octal : Bool} : Canon (d.upsett e octal) :=
  Canon.ite h
    (Canon.ite h.upsettStart (Canon.ite h (Canon.ite (Canon.ite h.upsettGrant h) (Canon.ite h.tkEligibleRim h))))

theorem Canon.fwuResult (h : Canon d) {v : Nat} {done : Bool} : Canon (d.fwuResult v done) := h.setF.setB

theorem Canon.fwuCmd (h : Canon d) {r : Nat} {w : Word} : Canon (d.fwuCmd r w) :=
  Canon.ite h.fwuResult (Canon.ite h.fwuResult h.fwuResult.setB.upd)

theorem Canon.recovered (h : Canon d) : Canon d.recovered := Canon.ite h.enterReset h

theorem Canon.fwuEffect (h : Canon d) {w : Word} {src dst len : Nat} : Canon (d.fwuEffect w src dst len) := by
  unfold Dev.fwuEffect
  dsimp only
  split
  · exact ((Canon.ite
      (((Canon.ite (((Canon.ite h.copyMem.msTraffic h).copyMem).msTraffic) (Canon.ite h.copyMem.msTraffic h)).copyMem).msTraffic)
      (Canon.ite (((Canon.ite h.copyMem.msTraffic h).copyMem).msTraffic) (Canon.ite h.copyMem.msTraffic h))).upd).forEach
      (fun _ _ h1 => h1.setReg)
  · exact h.upd.forEach (fun _ _ h2 => h2.setReg)
  · exact h.clearMem
  · exact h.copyMem.msTraffic.recovered

theorem Canon.fwuDone (h : Canon d) {ok : Bool} : Canon (d.fwuDone ok) := by
  unfold Dev.fwuDone
  split
  · exact h
  · exact Canon.ite h.upd.fwuResult.setB.fwuEffect h.upd.fwuResult.setB

/-! ### Contactless -/

theorem Canon.putCopy (h : Canon d) {a gen : Nat} {body : List Byte} : Canon (d.putCopy a gen body) := h.putAt

theorem Canon.caFlip (h : Canon d) {gen state page : Nat} : Canon (d.caFlip gen state page) := h.putCopy

theorem Canon.setTagCfg (h : Canon d) {w : Word} : Canon (d.setTagCfg w) := h.putCopy

theorem Canon.caCopyBack (h : Canon d) : Canon d.caCopyBack := h.wrBytes.caFlip

theorem Canon.wrOpen (h : Canon d) {a n : Nat} : Canon (d.wrOpen a n) := h.forEach (fun _ _ h1 => h1.fresh.wr32)

theorem Canon.caWrite (h : Canon d) {page : Nat} {l : List Byte} {cut mism : Nat} :
    Canon (d.caWrite page l cut mism).1 :=
  Canon.ite_fst h
    (Canon.ite_fst h.wrOpen
      (Canon.ite_fst h.wrBytes
        (Canon.ite_fst (Canon.ite h.wrBytes.fresh.caFlip h.wrBytes.fresh)
          (Canon.ite_fst h.wrBytes.caFlip.wrOpen h.wrBytes.caFlip.caCopyBack))))

theorem Canon.caUndo (h : Canon d) {w : CaWr} {k : Nat} : Canon (d.caUndo w k) := h.wrBytes.wrBytes.caWrite

theorem Canon.caCollapse (h : Canon d) {tag : Bool} {now : Nat} : Canon (d.caCollapse tag now) :=
  (h.forEach (fun _ _ h1 => h1.caUndo)).upd

theorem Canon.caNow (h : Canon d) : Canon d.caNow := h.forEach (fun _ _ h1 => h1.caUndo)

theorem Canon.caLost (h : Canon d) : Canon d.caLost := by
  unfold Dev.caLost
  split
  · exact h.caCollapse
  · exact h

theorem Canon.caFirst (h : Canon d) {cut : Bool} : Canon (d.caFirst cut) :=
  Canon.ite h (Canon.ite h.caLost ((Canon.ite h.caLost.caCopyBack h.caLost).upd))

theorem Canon.caTurn (h : Canon d) {tag : Bool} {page : Nat} {l : List Byte} {mism : Nat} :
    Canon (d.caTurn tag page l mism).1 :=
  Canon.upd (d := (d.caWrite page l 0 mism).1) h.caWrite

theorem Canon.setClp (h : Canon d) {c : Clp} : Canon (d.setClp c) := h.upd

theorem Canon.fieldActivation (h : Canon d) : Canon d.fieldActivation := Canon.ite h (Canon.ite h.setClp h.setClp)

theorem Canon.fieldGone (h : Canon d) : Canon d.fieldGone := Canon.ite ((Canon.ite h.caCollapse.setClp h).setClp) h

theorem Canon.lockoutEnd (h : Canon d) : Canon d.lockoutEnd := Canon.ite h.setClp h

theorem Canon.clpReqa (h : Canon d) {wupa : Bool} : Canon (d.clpReqa wupa) :=
  Canon.ite h (Canon.ite h.setClp (Canon.ite h h.setClp))

theorem Canon.clpAnticoll (h : Canon d) {known : List Bool} : Canon (d.clpAnticoll known) := Canon.ite h.setClp h

theorem Canon.clpSelect (h : Canon d) {uid : List Byte} : Canon (d.clpSelect uid) :=
  Canon.ite h (Canon.ite h.setClp h.setClp)

theorem Canon.clpRats (h : Canon d) {fsdi : Nat} : Canon (d.clpRats fsdi) := Canon.ite h.setClp h

theorem Canon.clpHlta (h : Canon d) : Canon d.clpHlta := Canon.ite h (Canon.ite h.setClp (Canon.ite h.setClp h))

theorem Canon.clpDeselect (h : Canon d) : Canon d.clpDeselect := Canon.ite h.setClp h

theorem Canon.clpRBlock (h : Canon d) {kind : Nat} : Canon (d.clpRBlock kind) :=
  Canon.ite (by split; exact h.setClp; exact h) (Canon.ite (by split; exact h.setClp; exact h) h)

theorem Canon.tagReply (h : Canon d) {status : Nat} {data : List Byte} : Canon (d.tagReply status data) := h.setClp

theorem Canon.authFail (h : Canon d) : Canon d.authFail := (((Canon.ite h h.bumpF).setClp).tagReply).setClp

theorem Canon.clpGetInfo (h : Canon d) {msg : List Byte} : Canon (d.clpGetInfo msg) := Canon.ite h.tagReply h.tagReply

theorem Canon.clpAuth1 (h : Canon d) {msg : List Byte} : Canon (d.clpAuth1 msg) :=
  Canon.ite h.tagReply h.setClp.tagReply.setClp

theorem Canon.clpAuth2 (h : Canon d) {msg : List Byte} : Canon (d.clpAuth2 msg) :=
  Canon.ite h.tagReply (Canon.ite h.tagReply (Canon.ite h.tagReply.setClp h.authFail))

theorem Canon.clpIdent (h : Canon d) {msg : List Byte} : Canon (d.clpIdent msg) := Canon.ite h.tagReply h.tagReply

theorem Canon.clpRead (h : Canon d) {msg : List Byte} : Canon (d.clpRead msg) :=
  Canon.ite h.tagReply h.caFirst.tagReply

theorem Canon.askWtx (h : Canon d) {l : List Nat} : Canon (d.askWtx l) := h.setClp

theorem Canon.clpWrite (h : Canon d) {msg : List Byte} {lowField : Bool} {step mism : Nat} :
    Canon (d.clpWrite msg lowField step mism) :=
  Canon.ite h.tagReply
    (Canon.ite h.tagReply
      (Canon.ite h.caFirst.tagReply
        (Canon.ite ((((Canon.ite h.caFirst h.caFirst.askWtx).caWrite).setClp).fieldGone)
          (Canon.ite h.caFirst.askWtx.caTurn.tagReply
            ((Canon.ite h.caFirst.askWtx.caTurn.setClp.bumpF h.caFirst.askWtx.caTurn).tagReply)))))

theorem Canon.clpGeneration (h : Canon d) {msg : List Byte} : Canon (d.clpGeneration msg) :=
  Canon.ite h.tagReply h.caFirst.tagReply

theorem Canon.tagCmd (h : Canon d) {lowField : Bool} {step mism : Nat} {l : List Byte} :
    Canon (d.tagCmd lowField step mism l) := by
  unfold Dev.tagCmd
  split
  · exact h.authFail.setClp
  · exact h.tagReply
  · exact Canon.ite h.clpGetInfo
      (Canon.ite h.clpAuth1
        (Canon.ite h.clpAuth2
          (Canon.ite h.tagReply
            (Canon.ite h.tagReply (Canon.ite h.clpIdent (Canon.ite h.clpRead (Canon.ite h.clpWrite h.clpGeneration)))))))

theorem Canon.tagBlock (h : Canon d) {code : Byte} {msg : List Byte} {more lowField : Bool} {step mism : Nat} :
    Canon (d.tagBlock code msg more lowField step mism) := Canon.ite h (Canon.ite h.setClp h.setClp.tagCmd)

theorem Canon.showRd (h : Canon d) : Canon d.showRd := h.setF

theorem Canon.rdRecord (h : Canon d) {kind tag : Nat} {l : List Byte} : Canon (d.rdRecord kind tag l) :=
  h.setClp.showRd

theorem Canon.rdOn (h : Canon d) : Canon d.rdOn.1 :=
  Canon.ite_fst h (Canon.ite_fst h.setB (Canon.ite_fst h h.setClp.setB))

theorem Canon.rdOff (h : Canon d) : Canon d.rdOff := h.setClp.setB

theorem Canon.rdRest (h : Canon d) : Canon d.rdRest := Canon.ite h.rdOff h

theorem Canon.wakeMeasure (h : Canon d) {count : Nat} : Canon (d.wakeMeasure count) :=
  Canon.ite h (Canon.ite h.setClp.setF.setClp.rdOn h.setClp.setF.setF)

theorem Canon.rdPopCmd (h : Canon d) : Canon d.rdPopCmd := h.setClp

theorem Canon.rdPoll (h : Canon d) {tags : List (List Byte)} : Canon (d.rdPoll tags) :=
  Canon.ite h
    (Canon.ite h.rdOn
      (((Canon.ite ((((Canon.ite h.rdOn.setClp h.rdOn.rdPopCmd).setClp).forEach (fun _ _ h1 => h1.rdRecord)).rdRecord)
        (((Canon.ite h.rdOn.setClp h.rdOn.rdPopCmd).setClp).forEach (fun _ _ h2 => h2.rdRecord))).setF).rdRest))

theorem Canon.exchangeBlock (h : Canon d) {fwi : Nat} : Canon (d.exchangeBlock fwi) := by
  unfold Dev.exchangeBlock
  split
  · exact h
  · exact Canon.ite h (Canon.ite h.rdOn (Canon.ite h.rdOn.rdPopCmd.rdRecord.rdRest h.rdOn.rdPopCmd.setClp))

theorem Canon.rdRelease (h : Canon d) {t : Nat} : Canon (d.rdRelease t) := h.setClp

theorem Canon.readerReply (h : Canon d) {kind : Nat} {data : List Byte} : Canon (d.readerReply kind data) := by
  unfold Dev.readerReply
  dsimp only
  split
  · exact h
  · exact Canon.ite h.upd.rdRecord.rdRest (Canon.ite (Canon.ite h.setClp h) h.rdRelease.rdRecord.rdRest)

theorem Canon.readerExpiry (h : Canon d) : Canon d.readerExpiry := by
  unfold Dev.readerExpiry
  dsimp only
  split
  · exact Canon.ite h (Canon.ite h.setClp h.rdRecord.rdRelease.rdRest)
  · exact h

theorem Canon.readerRelease (h : Canon d) : Canon d.readerRelease := by
  unfold Dev.readerRelease
  split
  · exact Canon.ite h.rdPopCmd.rdRelease.rdRest h
  · exact h

theorem Canon.readerFieldOff (h : Canon d) : Canon d.readerFieldOff := Canon.ite h.rdPopCmd.rdOff h

theorem Canon.deferralEnd (h : Canon d) : Canon d.deferralEnd := Canon.ite h.setB.rdOn h

theorem Canon.rimCaRead (h : Canon d) {s : Nat} : Canon (d.rimCaRead s) :=
  h.serve
    (fun _ h1 => Canon.ite_fst (Canon.ite_fst h1 h1.msWrite.setClp.showRd) (Canon.ite_fst h1 h1.caFirst.msWrite))

theorem Canon.rimCaWrite (h : Canon d) {s mism : Nat} : Canon (d.rimCaWrite s mism) :=
  h.serve
    (fun _ h1 =>
      Canon.ite_fst h1
        (Canon.ite_fst (Canon.ite_fst h1 (Canon.ite h1.setClp h1))
          (Canon.ite_fst h1
            (Canon.ite_fst h1.caFirst
              (Canon.ite_fst h1.caFirst (Canon.ite_fst h1.caFirst.caTurn h1.caFirst.caTurn.fresh))))))

/-! ### Engines -/

theorem Canon.eccScrub (h : Canon d) {a n : Nat} : Canon (d.eccScrub a n) := h.forEach (fun _ _ h1 => h1.eccCorrect)

theorem Canon.engVote (h : Canon d) {n : Nat} : Canon (d.engVote n) := h.vote

theorem Canon.engTo (h : Canon d) {n s : Nat} : Canon (d.engTo n s) := h.setEngState.engVote

theorem Canon.engClear (h : Canon d) {n : Nat} : Canon (d.engClear n) :=
  h.clearMem.setCpu.setReg.setReg.setReg.setReg.setF.engTo

theorem Canon.newGen (h : Canon d) {n : Nat} : Canon (d.newGen n).1 := h.setWen.setF

theorem Canon.engDone (h : Canon d) {n res : Nat} : Canon (d.engDone n res) := h.setB.setF

theorem Canon.engLoad (h : Canon d) {n : Nat} : Canon (d.engLoad n) := Canon.ite h.engDone h.setWen.engTo

theorem Canon.loadOctet (h : Canon d) {m off : Nat} : Canon (d.loadOctet m off).1 := by
  unfold Dev.loadOctet
  split
  · exact h
  · exact h.fresh

theorem Canon.loadOctets {m : Nat} : ∀ {n off : Nat} {d : Dev}, Canon d → Canon (loadOctets m n off d).1
  | 0, _, _, h => h
  | _ + 1, _, _, h => h.loadOctet.loadOctets

theorem Canon.engLoadDone (h : Canon d) {n : Nat} : Canon (d.engLoadDone n) := by
  unfold Dev.engLoadDone
  extract_lets m w d1
  have h1 : Canon d1 := h.setWen
  split
  · exact h
  · refine Canon.ite h ?_
    extract_lets off
    refine Canon.ite h1.engClear.engDone ?_
    split
    next he =>
      have h2 := Canon.of_fst h1.loadOctets he
      refine Canon.engDone (Canon.engTo (Canon.setReg (Canon.wrBytes ?_)))
      split
      · exact h2.eccScrub.msTraffic
      · exact h2

theorem Canon.engRun (h : Canon d) {n : Nat} {c : Cpu} : Canon (d.engRun n c) := h.setCpu.engTo

theorem Canon.engStart (h : Canon d) {n : Nat} : Canon (d.engStart n) :=
  Canon.ite h.engDone (Canon.ite h.engDone (Canon.ite h.engDone h.newGen.engRun.engDone))

theorem Canon.wenCmd (h : Canon d) {n code : Nat} : Canon (d.wenCmd n code) :=
  Canon.ite h.setB.engLoad
    (Canon.ite h.setB.engStart
      (Canon.ite h.setB.placeMarker.onCpu.engTo.engDone (Canon.ite h.setB.engClear.engDone h.setB.engDone)))

theorem Canon.hoStat (h : Canon d) {m : Nat} {done : Bool} {res src tgt gen : Nat} :
    Canon (d.hoStat m done res src tgt gen) := h.setReg

theorem Canon.hoEnd (h : Canon d) {m : Nat} {x : Handover} {res gen : Nat} : Canon (d.hoEnd m x res gen) :=
  h.setWen.setB.setB.hoStat

theorem Canon.hoDisarm (h : Canon d) {u mask : Nat} : Canon (d.hoDisarm u mask).1 := by
  refine Canon.foldl_fst _ (fun x a h1 => ?_) h.settle
  have h2 : Canon (x.1.disarmSlot u a).1 := h1.disarmSlot
  exact Canon.ite_fst h1 (Canon.ite_fst h2.pair h2.pair)

theorem Canon.hoBack (h : Canon d) {m : Nat} {x : Handover} {force : Bool} {res : Nat} :
    Canon (d.hoBack m x force res) := (Canon.ite h h.onCpu.engTo).hoEnd

theorem Canon.hoMove (h : Canon d) {m : Nat} {x : Handover} {force carried : Bool} :
    Canon (d.hoMove m x force carried) :=
  (((((Canon.ite (((Canon.ite_fst h.hoDisarm h).setReg).newGen)
    ((((Canon.ite_fst h.hoDisarm h).setReg).newGen).placeMarker)).engRun).engClear).hoEnd).setWen).setB

theorem Canon.hoRun (h : Canon d) {m : Nat} {x : Handover} {force : Bool} : Canon (d.hoRun m x force) :=
  Canon.ite h.hoBack
    (Canon.ite ((Canon.ite h h.eccScrub.copyMem).hoBack)
      (Canon.ite ((Canon.ite h h.eccScrub.copyMem).hoBack) ((Canon.ite h h.eccScrub.copyMem).hoMove)))

theorem Canon.hoCmd (h : Canon d) {m : Nat} {w : Word} : Canon (d.hoCmd m w) :=
  Canon.ite h.hoStat
    (Canon.ite h.hoStat
      (Canon.ite h.hoStat (Canon.ite h.hoStat (Canon.ite h.setWen.setB.setB.hoStat.hoRun h.setWen.setB.setB.hoStat))))

theorem Canon.hoTimeout (h : Canon d) {m : Nat} : Canon (d.hoTimeout m) := by
  unfold Dev.hoTimeout
  split
  · exact Canon.ite h.hoEnd h
  · exact h

theorem Canon.park (h : Canon d) {n : Nat} {x : Handover} {resume : Word} : Canon (d.park n x resume) :=
  h.setReg.engTo.hoRun

theorem Canon.planDeliver (h : Canon d) {m : Nat} {l : List Word} : Canon (d.planDeliver m l) :=
  Canon.ite h.bump (Canon.ite h.onRadio h.onRadio.onRadio)

theorem Canon.showHoldcnt (h : Canon d) {m : Nat} : Canon (d.showHoldcnt m) := h.setF

theorem Canon.holdResult (h : Canon d) {m : Nat} {x : Held} : Canon (d.holdResult m x) := h.setWen.showHoldcnt

theorem Canon.holdRecord (h : Canon d) {m : Nat} {r : ResultRec} : Canon (d.holdRecord m r) :=
  Canon.ite h.holdResult h

theorem Canon.resultRecord (h : Canon d) {m : Nat} {r : ResultRec} : Canon (d.resultRecord m r) :=
  Canon.ite h
    (Canon.ite h.admitRecord (Canon.ite h.holdRecord (Canon.ite h.bump (Canon.ite h.admitRecord h.holdRecord))))

theorem Canon.planWord (h : Canon d) {m res gen : Nat} {v : Word} : Canon (d.planWord m res gen v) :=
  Canon.ite h.upd (Canon.ite h.upd.holdResult h.upd.planDeliver)

theorem Canon.drainMarker (h : Canon d) {m : Nat} : Canon (d.drainMarker m) := by
  unfold Dev.drainMarker
  dsimp only
  split
  · exact h
  · exact Canon.ite h.setWen.setWen
      (Canon.ite
        (((h.setWen.setWen.forEach (fun _ _ h1 => by split; exact h1.planDeliver; exact h1.admitRecord)).showHoldcnt).setB)
        ((h.setWen.setWen.forEach (fun _ _ h2 => by split; exact h2.planDeliver; exact h2.admitRecord)).showHoldcnt))

theorem Canon.runWatchdog (h : Canon d) {n : Nat} : Canon (d.runWatchdog n) := Canon.ite h.engineFault.engVote h

theorem Canon.waitWatchdog (h : Canon d) {n : Nat} : Canon (d.waitWatchdog n) := Canon.ite h.engineFault.engVote h

/-! ### Events -/

theorem Canon.scChange (h : Canon d) {c : Nat} {q : Bool} : Canon (d.scChange c q) :=
  Canon.ite h.upd (Canon.ite h.upd.post h.upd.upd)

theorem Canon.scDeliver (h : Canon d) {c i : Nat} : Canon (d.scDeliver c i) :=
  Canon.ite h
    (Canon.ite (Canon.ite (Canon.ite h.setB h) (((Canon.ite h.setB h).setB).scChange))
      (Canon.ite ((Canon.ite h.setB h).post) (Canon.ite h.setB h)))

theorem Canon.filterExpiry (h : Canon d) {c : Nat} : Canon (d.filterExpiry c) := Canon.ite h.upd.post h

theorem Canon.latchSlot (h : Canon d) {ch j : Nat} : Canon (d.latchSlot ch j) :=
  Canon.ite (Canon.ite h.setFurther.setB.pmcEvent h.setLatch) h

theorem Canon.pmcDeliver (h : Canon d) {n : Nat} : Canon (d.pmcDeliver n) :=
  h.onFab fun _ h1 => Fab.Canon.ite (h1.pmcAdd fun _ _ h2 => h2.fabPost) h1

theorem Canon.actSlot (h : Canon d) {ch j : Nat} : Canon (d.actSlot ch j) :=
  Canon.ite h.wakeEvent (Canon.ite h.tmrEvent (Canon.ite h.scDeliver (Canon.ite h.pmcDeliver h)))

theorem Canon.eventStep (h : Canon d) {ch : Nat} : Canon (d.eventStep ch) :=
  Canon.ite h ((h.upd.forEach (fun _ _ h1 => h1.latchSlot)).forEach (fun _ _ h2 => h2.actSlot))

theorem Canon.latchClear (h : Canon d) {r : Nat} {w : Word} : Canon (d.latchClear r w) := h.setLatch

theorem Canon.cfgErr (h : Canon d) : Canon d.cfgErr := h.setB

theorem Canon.evrCons (h : Canon d) {k m : Nat} {w : Word} : Canon (d.evrCons k m w) := Canon.ite h.cfgErr h.setReg

theorem Canon.evrScCfg (h : Canon d) {c : Nat} {w : Word} : Canon (d.evrScCfg c w) := Canon.ite h.cfgErr h.setReg

theorem Canon.evrChCfg (h : Canon d) {k : Nat} {w : Word} : Canon (d.evrChCfg k w) := h.setReg

theorem Canon.pmcCfg (h : Canon d) {n : Nat} {w : Word} : Canon (d.pmcCfg n w) := h.setReg.setPair.upd

theorem Canon.pmcCntRead (h : Canon d) {n r : Nat} : Canon (d.pmcCntRead n r).1 := h.setReg

theorem Canon.pmcWindowEnd (h : Canon d) {n : Nat} : Canon (d.pmcWindowEnd n) :=
  Canon.ite h.setReg.setReg.setPair.upd h

theorem Canon.pmcSample (h : Canon d) {n : Nat} : Canon (d.pmcSample n) :=
  Canon.ite h (((Canon.ite h.upd.setB h.upd).setB).setReg)

theorem Canon.sampleWatch (h : Canon d) : Canon d.sampleWatch :=
  h.forEach (fun _ _ h1 => Canon.ite h1 (h1.forEach (fun _ _ h2 => Canon.ite h2.upd h2)))

/-! ### RegAccess -/

theorem Canon.accErr (h : Canon d) {r off reason : Nat} {write : Bool} : Canon (d.accErr r off reason write) :=
  (Canon.ite h h.setReg.setReg).bumpF

theorem Canon.gpIn (h : Canon d) {n : Nat} : Canon (d.gpIn n).1 := Canon.ite_fst h h.fresh

theorem Canon.latchingRead (h : Canon d) {r off : Nat} : ∀ e ∈ d.latchingRead r off, Canon e.1 := by
  unfold Dev.latchingRead
  refine Canon.ite_optfst (Canon.some_fst h.countRead) (Canon.ite_optfst (Canon.some_fst h.rtcFracRead)
    (Canon.ite_optfst (Canon.some_fst h.tokenRead) (Canon.ite_optfst ?_ (Canon.ite_optfst ?_ (Canon.ite_optfst ?_
      (Canon.ite_optfst ?_ ?_))))))
  · exact Canon.some_pair h.upd
  · exact Canon.some_pair h.upd
  · exact Canon.some_pair h.upd.setReg
  · exact Canon.some_pair h.upd.setReg
  · split
    · exact Canon.some_fst h.tmrCapRead
    · exact Canon.some_fst h.pmcCntRead
    · exact Canon.some_pair h.gpIn.pair
    · exact Canon.none_fst

theorem Canon.readReg (h : Canon d) {r off : Nat} {row : RegRow} : Canon (d.readReg r off row).1 := by
  unfold Dev.readReg
  split
  · next hx => exact h.latchingRead _ hx
  · split
    · exact h
    · exact Canon.ite_fst h (Canon.ite h h.setReg)

theorem Canon.regRead (h : Canon d) {r off : Nat} : Acc1.Sound (d.regRead r off) := by
  unfold Dev.regRead
  split
  · exact h
  · exact h
  · exact h.accErr
  · exact trivial
  · exact h
  · exact h.readReg

theorem Canon.storeReg (h : Canon d) {r off : Nat} {row : RegRow} {w : Word} : Canon (d.storeReg r off row w) :=
  h.setReg

theorem Canon.mbDone (h : Canon d) {s : Nat} : Canon (d.mbDone s) := Canon.ite h.mbReply h

theorem Canon.tkCmd (h : Canon d) {w : Word} : Canon (d.tkCmd w) := by
  unfold Dev.tkCmd
  dsimp only
  split
  · exact h.rimGrant
  · exact h.tkSwitch
  · exact h.tkRevoke
  · exact h.tkEligibleRim
  · exact h.tkResync
  · exact h.tkCancel
  · exact h.tkResume
  · exact h.tkRes

theorem Canon.hbWrite (h : Canon d) {m : Nat} {w : Word} : Canon (d.hbWrite m w) := Canon.ite h.yieldHalf h.heartbeat

theorem Canon.withdraw (h : Canon d) {n : Nat} {l : List Offer} : Canon (d.withdraw n l) :=
  h.forEach (fun _ _ h1 => h1.admitRecord)

theorem Canon.laneDisable (h : Canon d) {n : Nat} {move : Bool} : Canon (d.laneDisable n move) := by
  have h1 : Canon ((d.cmdRes n 0).drain n).1 := h.cmdRes.drain
  refine Canon.ite h.cmdRes (Canon.ite h.cmdRes.drainOffer ?_)
  split
  next he => exact (Canon.of_fst h1 he).withdraw

theorem Canon.laneShutdown (h : Canon d) {n : Nat} : Canon (d.laneShutdown n) :=
  Canon.ite h.laneOff.onRadio.withdraw h.laneOff

theorem Canon.lanCmd (h : Canon d) {n : Nat} {w : Word} : Canon (d.lanCmd n w) := by
  unfold Dev.lanCmd
  split
  · exact h.laneEnable
  · exact h.laneDisable
  · exact h.laneCalibrate
  · exact h.cmdRes

theorem Canon.acrCmd (h : Canon d) {a : Nat} {w : Word} : Canon (d.acrCmd a w) := by
  unfold Dev.acrCmd
  split
  · exact h.acrEnable
  · exact h.acrStart
  · exact h.acrStop
  · exact h.acrCalibrate
  · exact h.acrDisable
  · exact h.acrRefuse

theorem Canon.trkCmd (h : Canon d) {w : Word} : Canon (d.trkCmd w) := by
  unfold Dev.trkCmd
  split
  · exact h.trkEnable
  · exact h.trkDisable
  · exact h.trkClaim
  · exact h.trkResign
  · exact h.trkRes

theorem Canon.acrStopped (h : Canon d) {a : Nat} {plain : Dev} (h1' : Canon plain) : Canon (d.acrStopped a plain) :=
  Canon.ite h1' h.setB

theorem Canon.acrPend (h : Canon d) {a k : Nat} {plain : Dev} (h1' : Canon plain) : Canon (d.acrPend a k plain) :=
  Canon.ite h.setB h1'

theorem Canon.writeAcr (h : Canon d) {a off : Nat} {w : Word} {plain : Dev} (h1' : Canon plain) :
    Canon (d.writeAcr a off w plain) :=
  Canon.ite
    (Canon.ite h.acrCmd
      (Canon.ite (h.overGone (fun _ h1 => h1.acrStopped h1'))
        (Canon.ite (Canon.ite h.acrCentre h)
          (Canon.ite (h.acrStopped h1')
            (Canon.ite h.acrAgcWrite
              (Canon.ite h.acrAgcWrite (Canon.ite h.acrOvrWrite (Canon.ite (h.acrStopped h1') h1'))))))))
    (Canon.ite h.acrChanCfg
      (Canon.ite h.acrRank
        (Canon.ite (h.acrPend h1')
          (Canon.ite (Canon.ite h.acrSwap h) (Canon.ite h.acrPdly (Canon.ite (h.acrPend h1') h1'))))))

theorem Canon.writeTrk (h : Canon d) {off : Nat} {w : Word} {plain : Dev} (h1' : Canon plain) :
    Canon (d.writeTrk off w plain) :=
  Canon.ite h.trkCmd (Canon.ite (Canon.ite h1' h) (Canon.ite h1' (Canon.ite h.peerEui (Canon.ite h.peerCtrl h1'))))

theorem Canon.writeEvr (h : Canon d) {r off : Nat} {w : Word} {plain : Dev} (h1' : Canon plain) :
    Canon (d.writeEvr r off w plain) :=
  Canon.ite h.latchClear
    (Canon.ite h1'
      (Canon.ite (Canon.ite h.evrScCfg h1') (Canon.ite (Canon.ite h.evrChCfg (Canon.ite h.evrCons h1')) h1')))

theorem Canon.writeWen (h : Canon d) {off : Nat} {w : Word} {plain : Dev} (h1' : Canon plain) :
    Canon (d.writeWen off w plain) :=
  Canon.ite (Canon.ite h.wenCmd (Canon.ite (Canon.ite h1' h) h1')) (Canon.ite h.hoCmd h1')

theorem Canon.writeTime (h : Canon d) {r off : Nat} {w : Word} {plain : Dev} (h1' : Canon plain) :
    Canon (d.writeTime r off w plain) :=
  Canon.ite
    (Canon.ite h.rtcSet
      (Canon.ite (Canon.ite h h1') (Canon.ite h.rtcShift (Canon.ite (Canon.ite h1'.discRestart h1') h1'))))
    (Canon.ite h.tmrSnap (by split; exact h.tmrCtl; exact h.tmrCmpWrite; exact h.tmrCmpWrite; exact h1'))

theorem Canon.writeTbg (h : Canon d) {r off : Nat} {w : Word} {plain : Dev} (h1' : Canon plain) :
    Canon (d.writeTbg r off w plain) :=
  Canon.ite h.tbgCtrl
    (Canon.ite h1'.ppsOutArm
      (Canon.ite h.latePop
        (Canon.ite (by split; exact h.leadFloor; exact h1') (by split; exact h.gunArm; exact h.gunDisarm; exact h1'))))

theorem Canon.writeMsg (h : Canon d) {r off : Nat} {w : Word} {plain : Dev} (h1' : Canon plain) :
    Canon (d.writeMsg r off w plain) :=
  Canon.ite (Canon.ite h1'.setB h1')
    (Canon.ite (Canon.ite h h1')
      (Canon.ite h.msgCmd (Canon.ite h1' (by split; exact Canon.ite h h1'; exact Canon.ite h h1'; exact h.poolCfg; exact h1'))))

theorem Canon.writeLinks (h : Canon d) {off : Nat} {w : Word} {plain : Dev} (h1' : Canon plain) :
    Canon (d.writeLinks off w plain) :=
  Canon.ite (Canon.ite (Canon.ite h.discard h) (Canon.ite h1' (Canon.ite h.qpCfg (Canon.ite h h1'))))
    (Canon.ite (Canon.ite h.ptpPop (Canon.ite h.rawSend h1'))
      (Canon.ite h.asbCfg (Canon.ite h.asbTxcmd (Canon.ite h.asbPop h1'))))

theorem Canon.writeAon (h : Canon d) {r off : Nat} {w : Word} {plain : Dev} (h1' : Canon plain) :
    Canon (d.writeAon r off w plain) :=
  Canon.ite (by split; exact h.mbDone; exact h1')
    (Canon.ite (Canon.ite h.tkCmd (by split; exact h.hbWrite; exact h1'))
      (Canon.ite (by split; exact h.swvWrite; exact h1')
        (Canon.ite (Canon.ite (Canon.ite h.setB h) (Canon.ite h.supPop h1'))
          (Canon.ite h1'.upd (Canon.ite h.floorWrite (Canon.ite (Canon.ite h.floorWrite h.setReg) h1'))))))

theorem Canon.writeEffect (h : Canon d) {r off : Nat} {row : RegRow} {w : Word} : Canon (d.writeEffect r off row w) :=
  Canon.ite (h.writeAon h.storeReg)
    (Canon.ite (h.writeTbg h.storeReg)
      (Canon.ite (h.writeTime h.storeReg)
        (Canon.ite (h.writeEvr h.storeReg)
          (Canon.ite (by split; exact h.pmcCfg; exact h.storeReg)
            (Canon.ite (h.writeWen h.storeReg)
              (Canon.ite (Canon.ite h.lanCmd h.storeReg)
                (Canon.ite (h.writeAcr h.storeReg)
                  (Canon.ite (h.writeAcr h.storeReg)
                    (Canon.ite (h.writeTrk h.storeReg)
                      (Canon.ite (Canon.ite h.ntCommand h.storeReg)
                        (Canon.ite
                          (Canon.ite (by split; exact h.alarm1; exact h.alarm2; exact h)
                            (by split; exact h.ringTailWrite; exact h.storeReg))
                          (Canon.ite (h.writeMsg h.storeReg)
                            (Canon.ite (h.writeLinks h.storeReg)
                              (Canon.ite (Canon.ite h.setTagCfg h.storeReg)
                                (Canon.ite (Canon.ite h.fwuCmd h.storeReg) h.storeReg)))))))))))))))

theorem Canon.writeStopped (h : Canon d) {r off : Nat} : Canon (d.writeStopped r off) := by
  unfold Dev.writeStopped
  split
  · exact Canon.ite h.armResult h.accErr
  · exact h.accErr

theorem Canon.writeWith (h : Canon d) {r off : Nat} {act : RegRow → Dev} (hact : ∀ x0, Canon (act x0)) :
    Acc1.Sound (d.writeWith r off act) := by
  unfold Dev.writeWith
  split
  · exact h
  · exact h
  · exact h.writeStopped
  · exact trivial
  · exact (Canon.ite h.setB h).accErr
  · exact hact _

theorem Canon.regWrite (h : Canon d) {r off : Nat} {w : Word} : Acc1.Sound (d.regWrite r off w) :=
  h.writeWith (fun _ => h.writeEffect)

theorem Acc1.Sound.dev {x : Acc1} (hx : x.Sound) (h : Canon d) : Canon (x.dev d) := by
  cases x with
  | done => exact hx
  | wait => exact h
  | fail => exact hx

/-! ### Ports -/

theorem PortRes.Sound.unless {x : PortRes} (hx : x.Sound) {held : Bool} : (x.unless held).Sound := by
  cases x with
  | ioport => trivial
  | wait => trivial
  | ok => exact PortRes.Sound.ite trivial hx

theorem PortRes.Sound.led {x : PortRes} (hx : x.Sound) {lead word : Bool} : (x.led lead word).Sound := hx.unless

theorem Canon.popWord {l : List Word} {back : List Word → Dev} (hback : ∀ x0, Canon (back x0)) :
    PortRes.Sound (popWord l back) := by
  unfold Machine.popWord
  split
  · exact trivial
  · exact hback _

theorem Canon.popRec {l : List (List Word)} {back : List (List Word) → Dev} (hback : ∀ x0, Canon (back x0)) :
    PortRes.Sound (popRec l back) := by
  unfold Machine.popRec
  split
  · exact trivial
  · exact hback _
  · exact hback _
  · exact hback _

theorem Canon.portReg (h : Canon d) {k : Nat} {clear : Bool} : PortRes.Sound (d.portReg k clear) :=
  Canon.ite h.setReg h

theorem Canon.laneIn (h : Canon d) {n g i : Nat} : PortRes.Sound (d.laneIn n g i) := by
  unfold Dev.laneIn
  dsimp only
  split
  · exact h.portReg
  · exact h.portReg
  · exact h.portReg
  · exact h.fresh
  · exact Canon.popWord (fun _ => h.setRadio)
  · exact h
  · exact Canon.popWord (fun _ => h.setRadio)
  · exact h
  · exact h
  · exact h
  · exact Canon.popRec (fun _ => h.setRadio)
  · exact h
  · exact h
  · exact h
  · exact h
  · exact h
  · exact h
  · exact trivial

theorem Canon.laneOut (h : Canon d) {n g i : Nat} {v : Word} : PortRes.Sound (d.laneOut n g i v) := by
  unfold Dev.laneOut
  dsimp only
  split
  · exact h.releaseEntry
  · exact h.setRadio
  · exact h.setRadio
  · exact h.setRadio
  · exact trivial

theorem Canon.acrIn (h : Canon d) {m grp g i : Nat} : PortRes.Sound (d.acrIn m grp g i) := by
  unfold Dev.acrIn
  dsimp only
  split
  · exact Canon.popWord (fun _ => h.upd)
  · exact h
  · exact h.upd
  · exact h
  · exact h
  · exact PortRes.Sound.ite h trivial
  · exact trivial

theorem Canon.setPart (h : Canon d) {k : Nat} {l : List Word} : Canon (d.setPart k l) := h.upd

theorem Canon.trunkIn (h : Canon d) {i : Nat} : PortRes.Sound (d.trunkIn i) := by
  unfold Dev.trunkIn
  dsimp only
  split
  · exact Canon.popWord (fun _ => h.upd)
  · exact Canon.popRec (fun _ => h.upd)
  · exact h
  · exact h
  · exact trivial

theorem Canon.trunkOut (h : Canon d) {i : Nat} {v : Word} : PortRes.Sound (d.trunkOut i v) := by
  unfold Dev.trunkOut
  dsimp only
  split
  · exact PortRes.Sound.ite trivial (PortRes.Sound.ite h.setPart h.setPart.upd)
  · exact PortRes.Sound.ite trivial (by split; exact h.setPart; exact h.setPart.upd)
  · exact trivial

theorem Canon.setEvq (h : Canon d) {m : Nat} {l : List (List Word)} : Canon (d.setEvq m l) := h.upd

theorem Canon.macIn (h : Canon d) {m res i : Nat} : PortRes.Sound (d.macIn m res i) :=
  PortRes.Sound.ite (Canon.popRec (fun _ => h.setEvq))
    (PortRes.Sound.ite h
      (PortRes.Sound.ite h (PortRes.Sound.ite (Canon.popWord (fun _ => h.upd)) (PortRes.Sound.ite h trivial))))

theorem Canon.macOut (h : Canon d) {m res gen i : Nat} {v : Word} : PortRes.Sound (d.macOut m res gen i v) :=
  PortRes.Sound.ite h.ntCommand
    (PortRes.Sound.ite (PortRes.Sound.ite h.planWord trivial) (PortRes.Sound.ite h.setReg trivial))

theorem Canon.portIn (h : Canon d) {n p : Nat} : (d.portIn n p).Sound := by
  refine PortRes.Sound.unless ?_
  split
  · exact h.laneIn
  · exact h.acrIn
  · exact PortRes.Sound.ite h.macIn trivial
  · exact PortRes.Sound.ite h.trunkIn.led trivial
  · trivial

theorem Canon.portOut (h : Canon d) {n p : Nat} {v : Word} : (d.portOut n p v).Sound := by
  refine PortRes.Sound.unless ?_
  split
  · exact h.laneOut
  · exact PortRes.Sound.ite h.macOut trivial
  · exact PortRes.Sound.ite h.trunkOut.led trivial
  · trivial

/-! ### Access -/

theorem Canon.doubleFault (h : Canon d) {n : Nat} : Canon (d.doubleFault n) :=
  Canon.ite h.onCpu.custodyRestart h.onCpu.declareH

theorem Canon.enterExc (h : Canon d) {n : Nat} {epc cause badaddr : Word} {ipl : Option Nat} :
    Canon (d.enterExc n epc cause badaddr ipl) := Canon.ite h.setCpu h.setCpu.doubleFault

theorem Canon.takeFault (h : Canon d) {p : Proc} {f : Flt} : Canon (d.takeFault p f) := by
  unfold Dev.takeFault
  split
  · exact h.engineFault.engVote
  · exact Canon.ite h.doubleFault h.enterExc.stepEnd

theorem Canon.takeInterrupt (h : Canon d) {n s : Nat} : Canon (d.takeInterrupt n s) :=
  ((Canon.ite h.writeSkid h).enterExc).stepEnd

theorem Canon.loaded (h : Canon d) {f n : Nat} : Canon (d.loaded f n) := h.eccScrub.msTraffic

theorem Canon.memLoad (h : Canon d) {a : Word} {f n : Nat} : Got.Sound (d.memLoad a f n) :=
  Got.Sound.ite trivial h.loaded

theorem Canon.loadAt (h : Canon d) {p : Proc} {a : Word} {n : Nat} {x : Target} : Got.Sound (d.loadAt p a n x) := by
  unfold Dev.loadAt
  split
  · exact h.memLoad
  · split
    · next he0 => exact (Acc1.Sound.of_eq h.regRead he0)
    · exact trivial
    · exact trivial
  · exact Got.Sound.ite h.accErr (Got.Sound.ite trivial ((Canon.ite h.mirrorRepair h).memLoad))

theorem Canon.noteUnfenced (h : Canon d) {f n : Nat} : Canon (d.noteUnfenced f n) := Canon.ite h.upd h

theorem Canon.stored (h : Canon d) {f : Nat} {l : List Byte} : Canon (d.stored f l) := h.noteUnfenced.msWrite

theorem Canon.storeAt (h : Canon d) {p : Proc} {a : Word} {n : Nat} {v : Word} {x : Target} :
    Got.Sound (d.storeAt p a n v x) := by
  unfold Dev.storeAt
  split
  · exact h.stored
  · split
    · next he0 => exact (Acc1.Sound.of_eq h.regWrite he0)
    · exact trivial
    · exact trivial
  · exact Got.Sound.ite h.accErr (Got.Sound.ite trivial (Got.Sound.ite h.ntWrite (Got.Sound.ite h.accErr h.wrBytes)))

theorem Canon.loadAll {p : Proc} : ∀ {l : List (Word × Target)} {d : Dev}, Canon d → (loadAll p l d).Sound
  | [], _, h => h
  | _ :: _, _, h => by
    unfold Machine.loadAll
    split
    · trivial
    · trivial
    · next he =>
      split
      · next he1 => exact Gots.Sound.of_eq (h.loadAt.of_eq he).loadAll he1
      · trivial
      · trivial

theorem Canon.storeAll {p : Proc} : ∀ {l : List (Word × Target)} {vs : List Word} {d : Dev}, Canon d → (storeAll p l vs d).Sound
  | [], _, _, h => by
    unfold Machine.storeAll
    exact h
  | _ :: _, [], _, h => by
    unfold Machine.storeAll
    exact h
  | _ :: _, _ :: _, _, h => by
    unfold Machine.storeAll
    split
    · next he => exact (h.storeAt.of_eq he).storeAll
    · trivial
    · trivial

theorem Canon.loadWords (h : Canon d) {p : Proc} {l : List Word} : Gots.Sound (d.loadWords p l) := by
  unfold Dev.loadWords
  split
  · exact trivial
  · exact h.loadAll

theorem Canon.storeWords (h : Canon d) {p : Proc} {l : List (Word × Word)} : Got.Sound (d.storeWords p l) := by
  unfold Dev.storeWords
  split
  · exact trivial
  · exact h.storeAll

theorem Canon.finish (h : Canon d) {p : Proc} {x : Ex} (hx : x.Sound) : Canon (d.finish p x) := by
  cases x with
  | ok => exact Canon.stepEnd (Canon.retire hx)
  | jump => exact Canon.stepEnd (Canon.retire hx)
  | fault => exact h.takeFault
  | stay => exact hx

theorem Canon.issue (h : Canon d) {p : Proc} {body : Dev → Ex} (hbody : ∀ e, Canon e → Ex.Sound (body e)) :
    Canon (d.issue p body) :=
  Canon.ite h
    (by
      split
      · exact h.takeInterrupt
      · exact Canon.ite h
          (by split; exact h.takeFault; exact by split; exact h.eccCorrect.finish (hbody _ h.eccCorrect); exact h))

/-! ### Isa -/

theorem Canon.putG (h : Canon d) {p : Proc} {rd : Nat} {w : Word} : Canon (d.putG p rd w) := h.onCpu

theorem Canon.aluBody {p : Proc} {fn rd ra rb : Nat} {s : Bool} (h : Canon d) :
    Ex.Sound (aluBody p fn rd ra rb s d) := by
  unfold Machine.aluBody
  dsimp only
  split
  · exact trivial
  · exact Ex.Sound.ite trivial (Ex.Sound.ite trivial h.setCpu)

theorem Canon.immBody {p : Proc} {rd ra : Nat} {f : Word → Word} (h : Canon d) : Ex.Sound (immBody p rd ra f d) :=
  h.putG

theorem Canon.shiBody {p : Proc} {kind rd ra amt res : Nat} (h : Canon d) :
    Ex.Sound (shiBody p kind rd ra amt res d) := Ex.Sound.ite trivial h.immBody

theorem Canon.luiBody {p : Proc} {rd ra : Nat} {imm : BitVec 16} (h : Canon d) : Ex.Sound (luiBody p rd ra imm d) :=
  Ex.Sound.ite trivial h.putG

theorem Canon.cmpiBody {p : Proc} {rd ra : Nat} {imm : BitVec 16} (h : Canon d) : Ex.Sound (cmpiBody p rd ra imm d) :=
  Ex.Sound.ite trivial h.onCpu

theorem Canon.bitfBody {p : Proc} {fn rd ra pos wm1 : Nat} (h : Canon d) : Ex.Sound (bitfBody p fn rd ra pos wm1 d) :=
  Ex.Sound.ite trivial h.putG

theorem Canon.loadBody {p : Proc} {n rd ra : Nat} {imm : BitVec 16} {ext : Word → Word} (h : Canon d) :
    Ex.Sound (loadBody p n rd ra imm ext d) := by
  unfold Machine.loadBody
  dsimp only
  split
  · exact trivial
  · split
    · next he0 => exact Canon.putG (Got.Sound.of_eq h.loadAt he0)
    · exact h
    · exact trivial

theorem Canon.storeBody {p : Proc} {n rd ra : Nat} {imm : BitVec 16} (h : Canon d) :
    Ex.Sound (storeBody p n rd ra imm d) := by
  unfold Machine.storeBody
  dsimp only
  split
  · exact trivial
  · split
    · next he0 => exact (Got.Sound.of_eq h.storeAt he0)
    · exact h
    · exact trivial

theorem Canon.ldpBody {p : Proc} {rd ra : Nat} {imm : BitVec 16} (h : Canon d) : Ex.Sound (ldpBody p rd ra imm d) :=
  Ex.Sound.ite trivial
    (by
      split
      · exact trivial
      · split
        · next he0 => exact Canon.putG (Canon.putG (Gots.Sound.of_eq h.loadAll he0))
        · exact h
        · exact trivial)

theorem Canon.stpBody {p : Proc} {rd ra : Nat} {imm : BitVec 16} (h : Canon d) : Ex.Sound (stpBody p rd ra imm d) :=
  Ex.Sound.ite trivial
    (by
      split
      · exact trivial
      · dsimp only
        split
        · next he0 => exact (Got.Sound.of_eq h.storeAll he0)
        · exact h
        · exact trivial)

theorem Canon.casBody {p : Proc} {rd ra rb : Nat} {s : Bool} {fn : Nat} (h : Canon d) :
    (casBody p rd ra rb s fn d).Sound := by
  refine Ex.Sound.ite trivial ?_
  extract_lets c a
  split
  · trivial
  · split
    · exact h
    · trivial
    · next he =>
      have h1 := Got.Sound.of_eq h.loadAt he
      extract_lets eq
      split
      · exact h
      · trivial
      · next he1 => exact Canon.onCpu (Got.Sound.of_eq (Got.Sound.ite h1.storeAt (y := .ok _ _) h1) he1)

theorem Canon.fenceBody {p : Proc} {rest : Nat} (h : Canon d) : Ex.Sound (fenceBody p rest d) :=
  Ex.Sound.ite trivial (Canon.ite h.upd h)

theorem Canon.synciBody {p : Proc} {rest : Nat} (h : Canon d) : Ex.Sound (synciBody p rest d) :=
  Ex.Sound.ite trivial (Ex.Sound.ite h h.onCpu)

theorem Canon.bcBody {p : Proc} {cond : Nat} {off : BitVec 22} (h : Canon d) : Ex.Sound (bcBody p cond off d) := by
  unfold Machine.bcBody
  split
  · exact trivial
  · exact h
  · exact h

theorem Canon.jmpBody {p : Proc} {off : BitVec 26} (h : Canon d) : Ex.Sound (jmpBody p off d) := h

theorem Canon.jmprBody {p : Proc} {rd ra rest : Nat} (h : Canon d) : Ex.Sound (jmprBody p rd ra rest d) :=
  Ex.Sound.ite trivial (Ex.Sound.ite trivial h.putG)

theorem Canon.callBody {p : Proc} {t : Word} {mask : BitVec 16} (h : Canon d) : Ex.Sound (callBody p t mask d) :=
  Ex.Sound.ite trivial
    (by
      split
      · exact h
      · exact trivial
      · next he0 => exact Canon.onCpu (Got.Sound.of_eq h.storeWords he0))

theorem Canon.callmBody {p : Proc} {disp : BitVec 10} {mask : BitVec 16} (h : Canon d) :
    Ex.Sound (callmBody p disp mask d) := h.callBody

theorem Canon.callmrBody {p : Proc} {ra res : Nat} {mask : BitVec 16} (h : Canon d) :
    Ex.Sound (callmrBody p ra res mask d) := Ex.Sound.ite trivial (Ex.Sound.ite trivial h.callBody)

theorem Canon.retmBody {p : Proc} {rest : Nat} (h : Canon d) : Ex.Sound (retmBody p rest d) :=
  Ex.Sound.ite trivial
    (Ex.Sound.ite trivial
      (by
        split
        · exact h
        · exact trivial
        · next he0 =>
            exact Ex.Sound.ite trivial
              (by
                dsimp only
                split
                · exact h
                · exact trivial
                · next he1 =>
                    exact Canon.onCpu (Gots.Sound.of_eq (Canon.loadWords (Gots.Sound.of_eq h.loadWords he0)) he1))))

theorem Canon.brkBody {code : BitVec 26} {x1 : Dev} (_ : Canon x1) : Ex.Sound (brkBody code x1) := trivial

theorem Canon.armgBody {p : Proc} {rd ra rb cls unit res : Nat} (h : Canon d) :
    Ex.Sound (armgBody p rd ra rb cls unit res d) := Ex.Sound.ite trivial (Ex.Sound.ite h h.arm.putG)

theorem Canon.disgBody {p : Proc} {rd ra rb cls unit res : Nat} (h : Canon d) :
    Ex.Sound (disgBody p rd ra rb cls unit res d) := Ex.Sound.ite trivial (Ex.Sound.ite h h.disarm.putG)

theorem Canon.doneAt (h : Canon d) {p : Proc} {rd : Nat} {w : Word} {cost : Nat} : Ex.Sound (doneAt d p rd w cost) :=
  h.onCpu

theorem Canon.waitgBody {p : Proc} {rd : Reg} {ra : Nat} {imm : BitVec 16} (h : Canon d) :
    Ex.Sound (waitgBody p rd ra imm d) :=
  Ex.Sound.ite trivial
    (Ex.Sound.ite h.settle (Ex.Sound.ite h.settle.doneAt (by split; exact h.settle.doneAt; exact h.settle.beginWait)))

theorem Canon.waitgOutcome (h : Canon d) {n : Nat} : Canon (d.waitgOutcome n) := by
  unfold Dev.waitgOutcome
  split
  · dsimp only
    split
    · exact (h.forEach (fun _ _ h1 => h1.settle)).finishWait
    · exact h.forEach (fun _ _ h2 => h2.settle)
  · exact h

theorem Canon.rdtsBody {p : Proc} {rd rest : Nat} (h : Canon d) : Ex.Sound (rdtsBody p rd rest d) :=
  Ex.Sound.ite trivial h.putG.putG

theorem Canon.swpBody {p : Proc} {rd ra : Nat} {imm : BitVec 16} (h : Canon d) : Ex.Sound (swpBody p rd ra imm d) :=
  Ex.Sound.ite trivial (by split; exact h.doneAt; exact Ex.Sound.ite trivial h.park)

theorem Canon.linBody {p : Proc} {rd : Reg} {ra : Nat} {imm : BitVec 16} (h : Canon d) :
    Ex.Sound (linBody p rd ra imm d) :=
  Ex.Sound.ite trivial
    (by
      split
      · exact trivial
      · exact h.beginWait
      · next he0 => exact Canon.putG (PortRes.Sound.of_eq h.portIn he0))

theorem Canon.loutBody {p : Proc} {rd ra : Nat} {imm : BitVec 16} (h : Canon d) : Ex.Sound (loutBody p rd ra imm d) :=
  Ex.Sound.ite trivial
    (by
      dsimp only
      split
      · exact trivial
      · exact h.beginWait
      · next he0 => exact (PortRes.Sound.of_eq h.portOut he0))

theorem Canon.queueWaitEnd (h : Canon d) {n : Nat} : Canon (d.queueWaitEnd n) := by
  unfold Dev.queueWaitEnd
  split
  · split
    · next he0 => exact Canon.finishWait (PortRes.Sound.of_eq h.portIn he0)
    · exact h
  · split
    · next he0 => exact Canon.finishWait (PortRes.Sound.of_eq h.portOut he0)
    · exact h
  · exact h

theorem Canon.evpostBody {p : Proc} {rd ra : Nat} {imm : BitVec 16} (h : Canon d) :
    Ex.Sound (evpostBody p rd ra imm d) := Ex.Sound.ite trivial (Ex.Sound.ite h.post.putG h.putG)

theorem Canon.evwaitBody {p : Proc} {rd : Reg} {ra : Nat} {imm : BitVec 16} (h : Canon d) :
    Ex.Sound (evwaitBody p rd ra imm d) :=
  Ex.Sound.ite trivial (Ex.Sound.ite h.doneAt (Ex.Sound.ite h.takeLatch.doneAt h.beginWait))

theorem Canon.mfcBody {p : Proc} {rd ra cnum : Nat} (h : Canon d) : Ex.Sound (mfcBody p rd ra cnum d) := by
  unfold Machine.mfcBody
  split
  · exact h.onCpu
  · exact trivial
  · exact trivial

theorem Canon.mtcBody {p : Proc} {rd ra cnum : Nat} (h : Canon d) : Ex.Sound (mtcBody p rd ra cnum d) := by
  unfold Machine.mtcBody
  split
  · exact h.onCpu
  · exact trivial
  · exact trivial

theorem Canon.eretBody {p : Proc} {rd ra cnum : Nat} (h : Canon d) : Ex.Sound (eretBody p rd ra cnum d) := by
  unfold Machine.eretBody
  split
  · exact trivial
  · exact h.onCpu

theorem Canon.wfiBody {p : Proc} {rd ra cnum : Nat} (h : Canon d) : Ex.Sound (wfiBody p rd ra cnum d) := by
  unfold Machine.wfiBody
  split
  · exact trivial
  · exact Ex.Sound.ite h h.beginWait

theorem Canon.syscBody {p : Proc} {rd ra cnum : Nat} {x1 : Dev} (_ : Canon x1) :
    Ex.Sound (syscBody p rd ra cnum x1) := Ex.Sound.ite trivial trivial

theorem Canon.postCall (h : Canon d) {s fn : Nat} {args : List Word} : Canon (d.postCall s fn args) :=
  ((h.setReg.foldl (fun _ _ h1 => h1.setReg)).setB).upd

theorem Canon.pickTag (h : Canon d) {m : Nat} : ∀ e ∈ d.pickTag m, Canon e.1 := by
  unfold Dev.pickTag
  split
  · exact Canon.none_fst
  · exact Canon.some_pair h
  · exact Canon.some_pair h.fresh

theorem Canon.rcallBody {p : Proc} {rd ra : Nat} {imm : BitVec 16} (h : Canon d) :
    Ex.Sound (rcallBody p rd ra imm d) := by
  unfold Machine.rcallBody
  split
  · exact trivial
  · dsimp only
    split
    · next he0 => exact ((Canon.of_some_fst h.pickTag he0).postCall).onCpu
    · exact h.onCpu

theorem Canon.rwaitBody {p : Proc} {rd ra : Nat} {imm : BitVec 16} (h : Canon d) :
    Ex.Sound (rwaitBody p rd ra imm d) := by
  unfold Machine.rwaitBody
  split
  · exact trivial
  · exact Ex.Sound.ite h.takeReply (Ex.Sound.ite h.beginWait h.onCpu)

theorem Canon.illegalBody {x1 : Dev} (_ : Canon x1) : Ex.Sound (illegalBody x1) := trivial

theorem Canon.interruptEntry (h : Canon d) {p : Proc} : Canon (d.interruptEntry p) :=
  Canon.ite (by split; exact h.takeInterrupt; exact h) h

/-! ### Tap -/

theorem Canon.setIr (h : Canon d) {ir : Nat} {tlr : Bool} : Canon (d.setIr ir tlr) :=
  Canon.ite h.upd.setReg
    (Canon.ite (((Canon.ite h.upd.setReg.linkDown h.upd.setReg).setB).linkEvent)
      (Canon.ite h.upd.setReg.linkDown h.upd.setReg))

theorem Canon.updateIr (h : Canon d) {ir : Nat} {cells : List Bool} : Canon (d.updateIr ir cells) :=
  Canon.ite h h.upd.setIr

theorem Canon.trst (h : Canon d) : Canon d.trst := Canon.ite h h.setIr

theorem Canon.runTestIdle (h : Canon d) {edges : Nat} : Canon (d.runTestIdle edges) := Canon.ite h h.upd

theorem Canon.csEnd (h : Canon d) {err : Bool} {data : Word} : Canon (d.csEnd err data) := h.upd

theorem Canon.csAccess (h : Canon d) {write : Bool} {off : Nat} {data : Word} : Canon (d.csAccess write off data) := by
  refine Canon.ite h (Canon.ite h.csEnd ?_)
  extract_lets denied
  have ha : Acc1.Sound (if write then d.regWrite 68 off data else d.regRead 68 off) := Acc1.Sound.ite h.regWrite h.regRead
  split
  · next he => exact (ha.of_eq he).csEnd
  · exact h
  · next he => exact (ha.of_fail he).csEnd

theorem Canon.dbgEnd (h : Canon d) {p : Fin 3} {err : Bool} {data : Word} : Canon (d.dbgEnd p err data) := h.upd

theorem Canon.dbgOp (h : Canon d) {p : Fin 3} {halt : Bool} {op : Dev → Option (Dev × Word)}
    (hop : ∀ d, Canon d → ∀ e ∈ op d, Canon e.1) : Canon (d.dbgOp p halt op) := by
  refine Canon.ite h (Canon.ite h.dbgEnd ?_)
  split
  · next he => exact (Canon.of_some_fst (hop d h) he).dbgEnd
  · exact h.dbgEnd

theorem Canon.dbgHalt (h : Canon d) {p : Fin 3} : Canon (d.dbgHalt p) :=
  h.dbgOp fun _ h1 => Canon.some_pair (Canon.ite h1.onCpu h1)

theorem Canon.dbgResume (h : Canon d) {p : Fin 3} : Canon (d.dbgResume p) :=
  h.dbgOp fun _ h1 => Canon.some_pair h1.onCpu

theorem Canon.dbgStep (h : Canon d) {p : Fin 3} : Canon (d.dbgStep p) :=
  h.dbgOp fun _ h1 => Canon.some_pair h1.onCpu

theorem Canon.dbgReadReg (h : Canon d) {p : Fin 3} {arg : Nat} : Canon (d.dbgReadReg p arg) := by
  refine h.dbgOp fun e h1 => Canon.ite_optfst (Canon.some_pair h1) (Canon.ite_optfst ?_ Canon.none_fst)
  intro x hx
  obtain ⟨v, -, rfl⟩ := Option.map_eq_some_iff.1 hx
  exact h1.onCpu.pair

theorem Canon.dbgWriteReg (h : Canon d) {p : Fin 3} {arg : Nat} {data : Word} : Canon (d.dbgWriteReg p arg data) := by
  refine h.dbgOp fun e h1 => Canon.ite_optfst (Canon.some_pair h1.onCpu) (Canon.ite_optfst ?_ Canon.none_fst)
  intro x hx
  obtain ⟨v, -, rfl⟩ := Option.map_eq_some_iff.1 hx
  exact h1.onCpu.pair

theorem Canon.dbgReadWord (h : Canon d) {p : Fin 3} {a : Word} : Canon (d.dbgReadWord p a) := by
  refine h.dbgOp fun e h1 => ?_
  split
  · exact Canon.none_fst
  · split
    · next he => exact Canon.some_pair (h1.loadAt.of_eq he)
    · exact Canon.none_fst

theorem Canon.dbgWriteWord (h : Canon d) {p : Fin 3} {a data : Word} : Canon (d.dbgWriteWord p a data) := by
  refine h.dbgOp fun e h1 => ?_
  split
  · exact Canon.none_fst
  · split
    · next he => exact Canon.some_pair (h1.storeAt.of_eq he)
    · exact Canon.none_fst

theorem Canon.dbgReadPc (h : Canon d) {p : Fin 3} : Canon (d.dbgReadPc p) :=
  h.dbgOp fun _ h1 => Canon.some_pair h1

/-! ### Tick -/

theorem Canon.scrub (h : Canon d) : Canon d.scrub :=
  Canon.ite h (((h.forEach (fun _ _ h1 => h1.mirrorRepair)).upd).forEach (fun _ _ h2 => h2.declareH))

theorem Canon.tick (h : Canon d) {by_ : Nat} : Canon (d.tick by_) := by
  unfold Dev.tick
  extract_lets d1 t2 d2 t3 d3 d4 d5 d6 e6 m7 d7
  have h1 : Canon d1 := h
  have h2 : Canon d2 := Canon.ite h1 h1.upd
  have h3 : Canon d3 := Canon.ite h2.upd.putLeads h2
  have h4 : Canon d4 := (h3.forEach fun _ _ h1 => h1.settle).forEach fun _ _ h1 => h1.mayShut
  have h5 : Canon d5 := (h4.forEach fun _ _ h1 => h1.acrCalStep).mapSlot
  have h6 : Canon d6 := Canon.ite (h5.onFab fun _ h1 => h1.pmcQueue) h5
  have h7 : Canon d7 := h6.scrub.upd
  exact Canon.ite h1 (Canon.ite h7.mgnDrain h7)

theorem Canon.slewStep (h : Canon d) : Canon d.slewStep := Canon.ite h h.upd.setB.tick

theorem Canon.after (h : Canon d) : Canon d.after :=
  Canon.ite h
    ((((((h.forEach (fun _ _ h1 => h1.wake)).forEach (fun _ _ h2 => h2.mayShut)).sweepWhole).unstall).rideServe).sampleWatch)

/-! ### Commands -/

theorem Canon.byWrite (h : Canon d) {r : Req} {off : Nat} {act : Dev → Dev} (hact : ∀ e, Canon e → Canon (act e)) :
    Canon (d.byWrite r off act) := (h.writeWith (fun _ => hact _ h)).dev h

theorem Canon.anyWrite (h : Canon d) {r : Req} {off : Nat} {w : Word} : Canon (d.anyWrite r off w) :=
  Canon.ite (Canon.ite ((Canon.ite h.pmcOctets h).bar2Write) (Canon.ite h.pmcOctets h))
    (Canon.ite (Canon.ite h.pmcOctets h) (((Canon.ite h.pmcOctets h).regWrite).dev (Canon.ite h.pmcOctets h)))

theorem Canon.byRead (h : Canon d) {r : Req} {off : Nat} : Canon (d.byRead r off) := by
  unfold Dev.byRead
  split
  · next he => exact Canon.upd (h.regRead.of_eq he)
  · exact h
  · next he => exact Canon.upd (h.regRead.of_fail he)

theorem Canon.hostRead (h : Canon d) {off : Nat} {whole : Bool} : Canon (d.hostRead off whole) :=
  Canon.ite ((Canon.ite h.pmcOctets h).upd)
    (Canon.ite ((Canon.ite h.pmcOctets h).upd) ((Canon.ite h.pmcOctets h).byRead))

theorem Canon.windowWrite (h : Canon d) {p : Proc} {off size : Nat} {v : Word} : Canon (d.windowWrite p off size v) := by
  unfold Dev.windowWrite
  dsimp only
  split
  · exact h
  · split
    · next he0 => exact (Got.Sound.of_eq h.storeAt he0)
    · exact h

theorem Canon.lockReg (h : Canon d) {r : Req} {x : LockReg} : Canon (d.lockReg r x) := h.regWrite.dev h

theorem Canon.ntFrom (h : Canon d) {m : Half} {role : Option (Fin 2)} {cmd : Nat} : Canon (d.ntFrom m role cmd) := by
  unfold Dev.ntFrom
  split
  · exact h.byWrite (fun _ h1 => h1.ntCommand)
  · exact h.ntCommand

theorem Canon.fireTxs (h : Canon d) {u k : Nat} : Canon (d.fireTxs u k) := Canon.ite h.fireLaneTxs h.fireTrkTxs

theorem Canon.txsCheck (h : Canon d) {u k : Nat} : Canon (d.txsCheck u k) :=
  Canon.ite h.settle.txsCheckLane h.settle.trkTxsCheck

theorem Canon.radioCalEnd (h : Canon d) {n fail : Nat} {temp : Int} {trims : List Word} :
    Canon (d.radioCalEnd n fail temp trims) :=
  Canon.ite (Canon.ite ((Canon.ite h.calEnd.calComplete h.calEnd).trkReady) (Canon.ite h.calEnd.calComplete h.calEnd))
    h

theorem Canon.acrCalDone (h : Canon d) {a fail : Nat} {skew : Int} : Canon (d.acrCalDone a fail skew) :=
  Canon.ite (Canon.ite h.acrCalEnd.calComplete h.acrCalEnd) h

theorem Canon.send (h : Canon d) {lq opc : Nat} {entry : List Word} {payload : List Byte} :
    Canon (d.send lq opc entry payload) := h.submit

theorem Canon.fillCmd (h : Canon d) {m : Nat} : Canon (d.fillCmd m) := h.secFill.retryAcks

theorem Canon.fillExpiry (h : Canon d) {m : Nat} : Canon (d.fillExpiry m) := h.fillTimeout.expireAcks

theorem Canon.limitExpiry (h : Canon d) {m : Nat} : Canon (d.limitExpiry m) := h.reservationTimeout.expireAcks

theorem Canon.limitArrives (h : Canon d) {k : Nat} {gcm : Bool} : Canon (d.limitArrives k gcm) :=
  Canon.ite h h.reservation.retryAcks

theorem Canon.holdFreedAll (h : Canon d) {m : Nat} : Canon (d.holdFreedAll m) := h.holdCopies.holdFreed

theorem Canon.switchAt (h : Canon d) : Canon d.switchAt := Canon.ite h.plannedSwitch h.plannedSwitch.halfwiseSwitched

theorem Canon.weekEnd (h : Canon d) : Canon d.weekEnd := Canon.ite h.weekly h

theorem Canon.resetAssert (h : Canon d) {rail : Bool} : Canon (d.resetAssert rail) := h.enterReset

theorem Canon.brownout (h : Canon d) : Canon d.brownout := h.enterReset

theorem Canon.act (h : Canon d) {f : Dev → Dev} (hf : ∀ e, Canon e → Canon (f e)) : Canon (d.act f) :=
  Canon.ite h ((hf _ h).after)

/-! ### State -/

/-! ## Commands and steps -/

/-- The outcome is a next state with the same waiting commands and a device in canonical form. -/
def Keeps (s : State) (o : Host.Outcome State Fault Refusal) : Prop := ∃ d, o = .next { s with dev := d } ∧ Canon d

theorem Canon.acted {s : State} {f : Dev → Dev} (h : Canon s.dev) (hf : ∀ d, Canon d → Canon (f d)) : Keeps s (acted s f) :=
  ⟨_, rfl, h.act hf⟩

theorem Canon.always {s : State} {f : Dev → Dev} (h : Canon s.dev) (hf : ∀ d, Canon d → Canon (f d)) :
    Keeps s (always s f) :=
  ⟨_, rfl, (hf _ h).after⟩

end

/-- Every command keeps the canonical form and the queue. -/
theorem Canon.exec {s : State} (h : Canon s.dev) (i : Instr) : Keeps s (exec i s) := by
  cases i with
  | refInQualified => exact h.acted fun _ h1 => h1.refQualified
  | synthLock => exact h.acted fun _ h1 => h1.synthLock
  | refInLost => exact h.acted fun _ h1 => h1.refLost
  | tcxoPresent => exact h.acted fun _ h1 => h1.tcxoPresent
  | tcxoLost => exact h.acted fun _ h1 => h1.tcxoLost
  | ppsInEdge => exact h.acted fun _ h1 => h1.ppsEdge
  | ppsSecondJudgement => exact h.acted fun _ h1 => h1.ppsJudge
  | slewStep => exact h.acted fun _ h1 => h1.slewStep
  | ppsOutRise => exact h.acted fun _ h1 => h1.ppsRise
  | ppsOutFall => exact h.acted fun _ h1 => h1.ppsFalls
  | tbgCountLoRead => exact h.acted fun _ h1 => h1.byRead
  | gunArmcmd => exact h.acted fun _ h1 => h1.byWrite (fun _ h2 => h2.gunArm)
  | gunDisarm => exact h.acted fun _ h1 => h1.byWrite (fun _ h2 => h2.gunDisarm)
  | tbgLatePop => exact h.acted fun _ h1 => h1.byWrite (fun _ h2 => h2.latePop)
  | rxc => exact h.acted fun _ h1 => h1.fireRxc
  | aer => exact h.acted fun _ h1 => h1.fireAer
  | rtn => exact h.acted fun _ h1 => h1.fireRtn
  | trn => exact h.acted fun _ h1 => h1.fireTrn
  | rxo => exact h.acted fun _ h1 => h1.fireRxo
  | txs => exact h.acted fun _ h1 => h1.fireTxs
  | evt => exact h.acted fun _ h1 => h1.fireEvt
  | txsCheck => exact h.acted fun _ h1 => h1.txsCheck
  | turnRoundEnd => exact h.acted fun _ h1 => h1.endTurn
  | retuneEnd => exact h.acted fun _ h1 => h1.endTurn
  | add => exact h.acted fun _ h1 => h1.issue (fun _ h2 => h2.aluBody)
  | sub => exact h.acted fun _ h1 => h1.issue (fun _ h2 => h2.aluBody)
  | adc => exact h.acted fun _ h1 => h1.issue (fun _ h2 => h2.aluBody)
  | sbc => exact h.acted fun _ h1 => h1.issue (fun _ h2 => h2.aluBody)
  | and_ => exact h.acted fun _ h1 => h1.issue (fun _ h2 => h2.aluBody)
  | or_ => exact h.acted fun _ h1 => h1.issue (fun _ h2 => h2.aluBody)
  | xor_ => exact h.acted fun _ h1 => h1.issue (fun _ h2 => h2.aluBody)
  | andn => exact h.acted fun _ h1 => h1.issue (fun _ h2 => h2.aluBody)
  | shl => exact h.acted fun _ h1 => h1.issue (fun _ h2 => h2.aluBody)
  | shr => exact h.acted fun _ h1 => h1.issue (fun _ h2 => h2.aluBody)
  | sar => exact h.acted fun _ h1 => h1.issue (fun _ h2 => h2.aluBody)
  | ror => exact h.acted fun _ h1 => h1.issue (fun _ h2 => h2.aluBody)
  | slt => exact h.acted fun _ h1 => h1.issue (fun _ h2 => h2.aluBody)
  | sltu => exact h.acted fun _ h1 => h1.issue (fun _ h2 => h2.aluBody)
  | min => exact h.acted fun _ h1 => h1.issue (fun _ h2 => h2.aluBody)
  | max => exact h.acted fun _ h1 => h1.issue (fun _ h2 => h2.aluBody)
  | mul => exact h.acted fun _ h1 => h1.issue (fun _ h2 => h2.aluBody)
  | mulhu => exact h.acted fun _ h1 => h1.issue (fun _ h2 => h2.aluBody)
  | mulhs => exact h.acted fun _ h1 => h1.issue (fun _ h2 => h2.aluBody)
  | divu => exact h.acted fun _ h1 => h1.issue (fun _ h2 => h2.aluBody)
  | divs => exact h.acted fun _ h1 => h1.issue (fun _ h2 => h2.aluBody)
  | remu => exact h.acted fun _ h1 => h1.issue (fun _ h2 => h2.aluBody)
  | rems => exact h.acted fun _ h1 => h1.issue (fun _ h2 => h2.aluBody)
  | clz => exact h.acted fun _ h1 => h1.issue (fun _ h2 => h2.aluBody)
  | ctz => exact h.acted fun _ h1 => h1.issue (fun _ h2 => h2.aluBody)
  | popc => exact h.acted fun _ h1 => h1.issue (fun _ h2 => h2.aluBody)
  | bperm => exact h.acted fun _ h1 => h1.issue (fun _ h2 => h2.aluBody)
  | minu => exact h.acted fun _ h1 => h1.issue (fun _ h2 => h2.aluBody)
  | maxu => exact h.acted fun _ h1 => h1.issue (fun _ h2 => h2.aluBody)
  | addi => exact h.acted fun _ h1 => h1.issue (fun _ h2 => h2.immBody)
  | andi => exact h.acted fun _ h1 => h1.issue (fun _ h2 => h2.immBody)
  | ori => exact h.acted fun _ h1 => h1.issue (fun _ h2 => h2.immBody)
  | xori => exact h.acted fun _ h1 => h1.issue (fun _ h2 => h2.immBody)
  | shiShl => exact h.acted fun _ h1 => h1.issue (fun _ h2 => h2.shiBody)
  | shiShr => exact h.acted fun _ h1 => h1.issue (fun _ h2 => h2.shiBody)
  | shiSar => exact h.acted fun _ h1 => h1.issue (fun _ h2 => h2.shiBody)
  | shiRor => exact h.acted fun _ h1 => h1.issue (fun _ h2 => h2.shiBody)
  | lui => exact h.acted fun _ h1 => h1.issue (fun _ h2 => h2.luiBody)
  | cmpi => exact h.acted fun _ h1 => h1.issue (fun _ h2 => h2.cmpiBody)
  | extu => exact h.acted fun _ h1 => h1.issue (fun _ h2 => h2.bitfBody)
  | exts => exact h.acted fun _ h1 => h1.issue (fun _ h2 => h2.bitfBody)
  | ins => exact h.acted fun _ h1 => h1.issue (fun _ h2 => h2.bitfBody)
  | clrf => exact h.acted fun _ h1 => h1.issue (fun _ h2 => h2.bitfBody)
  | ldw => exact h.acted fun _ h1 => h1.issue (fun _ h2 => h2.loadBody)
  | ldh => exact h.acted fun _ h1 => h1.issue (fun _ h2 => h2.loadBody)
  | ldhu => exact h.acted fun _ h1 => h1.issue (fun _ h2 => h2.loadBody)
  | ldb => exact h.acted fun _ h1 => h1.issue (fun _ h2 => h2.loadBody)
  | ldbu => exact h.acted fun _ h1 => h1.issue (fun _ h2 => h2.loadBody)
  | stw => exact h.acted fun _ h1 => h1.issue (fun _ h2 => h2.storeBody)
  | sth => exact h.acted fun _ h1 => h1.issue (fun _ h2 => h2.storeBody)
  | stb => exact h.acted fun _ h1 => h1.issue (fun _ h2 => h2.storeBody)
  | ldp => exact h.acted fun _ h1 => h1.issue (fun _ h2 => h2.ldpBody)
  | stp => exact h.acted fun _ h1 => h1.issue (fun _ h2 => h2.stpBody)
  | cas => exact h.acted fun _ h1 => h1.issue (fun _ h2 => h2.casBody)
  | fence => exact h.acted fun _ h1 => h1.issue (fun _ h2 => h2.fenceBody)
  | synci => exact h.acted fun _ h1 => h1.issue (fun _ h2 => h2.synciBody)
  | bc => exact h.acted fun _ h1 => h1.issue (fun _ h2 => h2.bcBody)
  | jmp => exact h.acted fun _ h1 => h1.issue (fun _ h2 => h2.jmpBody)
  | jmpr => exact h.acted fun _ h1 => h1.issue (fun _ h2 => h2.jmprBody)
  | callm => exact h.acted fun _ h1 => h1.issue (fun _ h2 => h2.callmBody)
  | callmr => exact h.acted fun _ h1 => h1.issue (fun _ h2 => h2.callmrBody)
  | retm => exact h.acted fun _ h1 => h1.issue (fun _ h2 => h2.retmBody)
  | armg => exact h.acted fun _ h1 => h1.issue (fun _ h2 => h2.armgBody)
  | disg => exact h.acted fun _ h1 => h1.issue (fun _ h2 => h2.disgBody)
  | waitg => exact h.acted fun _ h1 => h1.issue (fun _ h2 => h2.waitgBody)
  | waitgOutcome => exact h.acted fun _ h1 => h1.waitgOutcome
  | rdts => exact h.acted fun _ h1 => h1.issue (fun _ h2 => h2.rdtsBody)
  | swp => exact h.acted fun _ h1 => h1.issue (fun _ h2 => h2.swpBody)
  | lin => exact h.acted fun _ h1 => h1.issue (fun _ h2 => h2.linBody)
  | lout => exact h.acted fun _ h1 => h1.issue (fun _ h2 => h2.loutBody)
  | queueWaitEnd => exact h.acted fun _ h1 => h1.queueWaitEnd
  | evpost => exact h.acted fun _ h1 => h1.issue (fun _ h2 => h2.evpostBody)
  | evwait => exact h.acted fun _ h1 => h1.issue (fun _ h2 => h2.evwaitBody)
  | mfc => exact h.acted fun _ h1 => h1.issue (fun _ h2 => h2.mfcBody)
  | mtc => exact h.acted fun _ h1 => h1.issue (fun _ h2 => h2.mtcBody)
  | eret => exact h.acted fun _ h1 => h1.issue (fun _ h2 => h2.eretBody)
  | wfi => exact h.acted fun _ h1 => h1.issue (fun _ h2 => h2.wfiBody)
  | sysc => exact h.acted fun _ h1 => h1.issue (fun _ h2 => h2.syscBody)
  | brk => exact h.acted fun _ h1 => h1.issue (fun _ h2 => h2.brkBody)
  | rcall => exact h.acted fun _ h1 => h1.issue (fun _ h2 => h2.rcallBody)
  | rwait => exact h.acted fun _ h1 => h1.issue (fun _ h2 => h2.rwaitBody)
  | interruptEntry => exact h.acted fun _ h1 => h1.interruptEntry
  | wenLoad => exact h.acted fun _ h1 => h1.byWrite (fun _ h2 => h2.wenCmd)
  | loadDone => exact h.acted fun _ h1 => h1.engLoadDone
  | wenStart => exact h.acted fun _ h1 => h1.byWrite (fun _ h2 => h2.wenCmd)
  | wenStop => exact h.acted fun _ h1 => h1.byWrite (fun _ h2 => h2.wenCmd)
  | wenClear => exact h.acted fun _ h1 => h1.byWrite (fun _ h2 => h2.wenCmd)
  | migration => exact h.acted fun _ h1 => h1.byWrite (fun _ h2 => h2.hoCmd)
  | exchange => exact h.acted fun _ h1 => h1.byWrite (fun _ h2 => h2.hoCmd)
  | forcedHandover => exact h.acted fun _ h1 => h1.byWrite (fun _ h2 => h2.hoCmd)
  | handoverTimeout => exact h.acted fun _ h1 => h1.hoTimeout
  | drainMarker => exact h.acted fun _ h1 => h1.drainMarker
  | runWatchdog => exact h.acted fun _ h1 => h1.runWatchdog
  | waitWatchdog => exact h.acted fun _ h1 => h1.waitWatchdog
  | laneEnable => exact h.acted fun _ h1 => h1.byWrite (fun _ h2 => h2.laneEnable)
  | laneDisable => exact h.acted fun _ h1 => h1.byWrite (fun _ h2 => h2.laneDisable)
  | calibrate => exact h.acted fun _ h1 => h1.byWrite (fun _ h2 => h2.laneCalibrate)
  | warmDone => exact h.acted fun _ h1 => h1.warmDone
  | calibrationStart => exact h.acted fun _ h1 => h1.calStart
  | calibrationEnd => exact h.acted fun _ h1 => h1.radioCalEnd
  | laneOff => exact h.acted fun _ h1 => h1.laneShutdown
  | txEnd => exact h.acted fun _ h1 => h1.txEnd
  | diversityDwell => exact h.acted fun _ h1 => h1.dwell
  | preambleDetected => exact h.acted fun _ h1 => h1.preamble
  | detectionGivenUp => exact h.acted fun _ h1 => h1.giveUp
  | sfdFound => exact h.acted fun _ h1 => h1.sfdFound
  | receivedFrameEnd => exact h.acted fun _ h1 => h1.frameEnd
  | laneTimerCompare => exact h.acted fun _ h1 => h1.laneCompare
  | acrEnable => exact h.acted fun _ h1 => h1.byWrite (fun _ h2 => h2.acrEnable)
  | acrEnableDone => exact h.acted fun _ h1 => h1.acrEnableDone
  | acrStart => exact h.acted fun _ h1 => h1.byWrite (fun _ h2 => h2.acrStart)
  | acrStop => exact h.acted fun _ h1 => h1.byWrite (fun _ h2 => h2.acrStop)
  | acrCalibrate => exact h.acted fun _ h1 => h1.byWrite (fun _ h2 => h2.acrCalibrate)
  | acrDisable => exact h.acted fun _ h1 => h1.byWrite (fun _ h2 => h2.acrDisable)
  | acrCalEnd => exact h.acted fun _ h1 => h1.acrCalDone
  | acrsCentre => exact h.acted fun _ h1 => h1.byWrite (fun _ h2 => h2.acrCentre)
  | acrRetuneEnd => exact h.acted fun _ h1 => h1.acrRetuneEnd
  | acrskCfg => exact h.acted fun _ h1 => h1.byWrite (fun _ h2 => h2.acrChanCfg)
  | swap => exact h.acted fun _ h1 => h1.byWrite (fun _ h2 => h2.acrSwap)
  | crossFadeEnd => exact h.acted fun _ h1 => h1.acrFadeEnd
  | acrskPdly => exact h.acted fun _ h1 => h1.byWrite (fun _ h2 => h2.acrPdly)
  | pathSettled => exact h.acted fun _ h1 => h1.pathSettled
  | overrangedSample => exact h.acted fun _ h1 => h1.overranged
  | agcStepDown => exact h.acted fun _ h1 => h1.agcDown
  | agcStepUp => exact h.acted fun _ h1 => h1.agcUp
  | trunkEnable => exact h.acted fun _ h1 => h1.byWrite (fun _ h2 => h2.trkEnable)
  | trunkDisable => exact h.acted fun _ h1 => h1.byWrite (fun _ h2 => h2.trkDisable)
  | claim => exact h.acted fun _ h1 => h1.byWrite (fun _ h2 => h2.trkClaim)
  | resign => exact h.acted fun _ h1 => h1.byWrite (fun _ h2 => h2.trkResign)
  | claimWindowEnd => exact h.acted fun _ h1 => h1.claimEnd
  | superframeStart => exact h.acted fun _ h1 => h1.superframe
  | trunkFrameEnd => exact h.acted fun _ h1 => h1.trunkFrame
  | mapFrameQueue => exact h.acted fun _ h1 => h1.mapQueue
  | trkPeerpCtrl => exact h.acted fun _ h1 => h1.byWrite (fun _ h2 => h2.peerCtrl)
  | asbTxcmd => exact h.acted fun _ h1 => h1.byWrite (fun _ h2 => h2.asbTxcmd)
  | asbTxStart => exact h.acted fun _ h1 => h1.asbStart
  | asbFrameComplete => exact h.acted fun _ h1 => h1.asbComplete
  | syncInterval => exact h.acted fun _ h1 => h1.syncInterval
  | asbRxpop => exact h.acted fun _ h1 => h1.byWrite (fun _ h2 => h2.asbPop)
  | nodeTableWrite => exact h.acted fun _ h1 => h1.windowWrite
  | ntInsert => exact h.acted fun _ h1 => h1.ntFrom
  | ntInvalidate => exact h.acted fun _ h1 => h1.ntFrom
  | ntSetfc => exact h.acted fun _ h1 => h1.ntFrom
  | ntSync => exact h.acted fun _ h1 => h1.ntFrom
  | ntPlan => exact h.acted fun _ h1 => h1.ntFrom
  | ntLookup => exact h.acted fun _ h1 => h1.ntFrom
  | frameCopy => exact h.acted fun _ h1 => h1.frameCopy
  | decryptDone => exact h.acted fun _ h1 => h1.decryptDone
  | duplicateFilter => exact h.acted fun _ h1 => h1.duplicateFilter
  | dupwinExpiry => exact h.acted fun _ h1 => h1.dupExpiry
  | ccmEnc => exact h.acted fun _ h1 => h1.secEncrypt
  | ccmDec => exact h.acted fun _ h1 => h1.secDecrypt
  | gcmEnc => exact h.acted fun _ h1 => h1.secEncrypt
  | gcmDec => exact h.acted fun _ h1 => h1.secDecrypt
  | ccmFill => exact h.acted fun _ h1 => h1.fillCmd
  | secRinghTail => exact h.acted fun _ h1 => h1.byWrite (fun _ h2 => h2.ringTailWrite)
  | reservationGrant => exact h.acted fun _ h1 => h1.limitArrives
  | reservationTimeout => exact h.acted fun _ h1 => h1.limitExpiry
  | fillTimeout => exact h.acted fun _ h1 => h1.fillExpiry
  | holdBlocksFreed => exact h.acted fun _ h1 => h1.holdFreedAll
  | bindingExpiry => exact h.acted fun _ h1 => h1.bindingExpiry
  | a1 => exact h.acted fun _ h1 => h1.byWrite (fun _ h2 => h2.alarm1)
  | a2 => exact h.acted fun _ h1 => h1.byWrite (fun _ h2 => h2.alarm2)
  | keyBusError => exact h.acted fun _ h1 => h1.alarm1
  | slotBad => exact h.acted fun _ h1 => h1.slotBad
  | a2ZeroisationDone => exact h.acted fun _ h1 => h1.a2Done
  | sendNode => exact h.acted fun _ h1 => h1.send
  | sendGroup => exact h.acted fun _ h1 => h1.send
  | liftFence => exact h.acted fun _ h1 => h1.send
  | poolReserve => exact h.acted fun _ h1 => h1.poolReserve
  | poolWaitTimeout => exact h.acted fun _ h1 => h1.poolTimeout
  | deadline => exact h.acted fun _ h1 => h1.deadline
  | resultRecord => exact h.acted fun _ h1 => h1.resultRecord
  | reassemblyTimeout => exact h.acted fun _ h1 => h1.reasmTimeout
  | msgLift => exact h.acted fun _ h1 => h1.byWrite (fun _ h2 => h2.msgLift)
  | msgCarve => exact h.acted fun _ h1 => h1.byWrite (fun _ h2 => h2.msgCarve)
  | msgUncarve => exact h.acted fun _ h1 => h1.byWrite (fun _ h2 => h2.msgUncarve)
  | msgQuery => exact h.acted fun _ h1 => h1.byWrite (fun _ h2 => h2.msgQuery)
  | poolEnable => exact h.acted fun _ h1 => h1.byWrite (fun _ h2 => h2.poolCfg)
  | tkGrant => exact h.acted fun _ h1 => h1.byWrite (fun _ h2 => h2.rimGrant)
  | tkSwitch => exact h.acted fun _ h1 => h1.byWrite (fun _ h2 => h2.tkSwitch)
  | tkRevoke => exact h.acted fun _ h1 => h1.byWrite (fun _ h2 => h2.tkRevoke)
  | tkEligible => exact h.acted fun _ h1 => h1.byWrite (fun _ h2 => h2.tkEligibleRim)
  | tkResync => exact h.acted fun _ h1 => h1.byWrite (fun _ h2 => h2.tkResync)
  | resyncDone => exact h.acted fun _ h1 => h1.resyncDone
  | tkCancel => exact h.acted fun _ h1 => h1.byWrite (fun _ h2 => h2.tkCancel)
  | tkResume => exact h.acted fun _ h1 => h1.byWrite (fun _ h2 => h2.tkResume)
  | plannedSwitch => exact h.acted fun _ h1 => h1.switchAt
  | heartbeat => exact h.acted fun _ h1 => h1.byWrite (fun _ h2 => h2.heartbeat)
  | yield => exact h.acted fun _ h1 => h1.byWrite (fun _ h2 => h2.yieldHalf)
  | heartbeatLapse => exact h.acted fun _ h1 => h1.hbLapse
  | lockstepDisagreement => exact h.acted fun _ h1 => h1.lockstep
  | noLeaderTimeout => exact h.acted fun _ h1 => h1.noLeader
  | upsett => exact h.acted fun _ h1 => h1.upsett
  | trialTimeout => exact h.acted fun _ h1 => h1.trialTimeout
  | rimInfo => exact h.acted fun _ h1 => h1.rimInfo
  | rimRolesRunning => exact h.acted fun _ h1 => h1.rimRolesRunning
  | rimSettingsRead => exact h.acted fun _ h1 => h1.rimSettingsRead
  | rimSettingsWrite => exact h.acted fun _ h1 => h1.rimSettingsWrite
  | rimFwWindow => exact h.acted fun _ h1 => h1.rimFwWindow
  | rimFwStage => exact h.acted fun _ h1 => h1.rimFwStage
  | rimFwActivate => exact h.acted fun _ h1 => h1.rimFwActivate
  | rimConfirm => exact h.acted fun _ h1 => h1.rimConfirm
  | rimStage => exact h.acted fun _ h1 => h1.rimRimStage
  | rimSignerRevoke => exact h.acted fun _ h1 => h1.rimSignerRevoke
  | rimKeyUnwrap => exact h.acted fun _ h1 => h1.rimKeyUnwrap
  | rimKeyGenerate => exact h.acted fun _ h1 => h1.rimKeyGenerate
  | rimKeyErase => exact h.acted fun _ h1 => h1.rimKeyErase
  | rimKeyUsage => exact h.acted fun _ h1 => h1.rimKeyUsage
  | rimSealInstall => exact h.acted fun _ h1 => h1.rimSealInstall
  | rimSealQuery => exact h.acted fun _ h1 => h1.rimSealQuery
  | rimPdSwitch => exact h.acted fun _ h1 => h1.rimPdSwitch
  | rimNtSnapshot => exact h.acted fun _ h1 => h1.rimNtSnapshot
  | rimCaRead => exact h.acted fun _ h1 => h1.rimCaRead
  | rimCaWrite => exact h.acted fun _ h1 => h1.rimCaWrite
  | rimAlarm => exact h.acted fun _ h1 => h1.rimAlarm
  | rimReset => exact h.acted fun _ h1 => h1.rimReset
  | rimxMbsDone => exact h.acted fun _ h1 => h1.byWrite (fun _ h2 => h2.mbDone)
  | fwuCopy => exact h.acted fun _ h1 => h1.byWrite (fun _ h2 => h2.fwuCmd)
  | fwuDigest => exact h.acted fun _ h1 => h1.byWrite (fun _ h2 => h2.fwuCmd)
  | fwuErase => exact h.acted fun _ h1 => h1.byWrite (fun _ h2 => h2.fwuCmd)
  | fwuProgram => exact h.acted fun _ h1 => h1.byWrite (fun _ h2 => h2.fwuCmd)
  | fwuDone => exact h.acted fun _ h1 => h1.fwuDone
  | sqTailDoorbell => exact h.acted fun _ h1 => h1.sqDoorbell
  | cqHeadDoorbell => exact h.acted fun _ h1 => h1.cqDoorbell
  | submissionFetch => exact h.acted fun _ h1 => h1.fetch
  | hostReadComplete => exact h.acted fun _ h1 => h1.readDone
  | coalesceTimeout => exact h.acted fun _ h1 => h1.coalesce
  | hpcQpqCfg => exact h.acted fun _ h1 => h1.byWrite (fun _ h2 => h2.qpCfg)
  | linkDown => exact h.acted fun _ h1 => h1.linkDown
  | discard => exact h.acted fun _ h1 => h1.byWrite (fun _ h2 => h2.discard)
  | ampOpen => exact h.acted fun _ h1 => h1.ampOpenIn
  | ampOpenAck => exact h.acted fun _ h1 => h1.ampHeader
  | ampSubmit => exact h.acted fun _ h1 => h1.ampSubmit
  | ampComplete => exact h.acted fun _ h1 => h1.ampComplete
  | ampAck => exact h.acted fun _ h1 => h1.ampHeader
  | ampClose => exact h.acted fun _ h1 => h1.ampClose
  | ampRto => exact h.acted fun _ h1 => h1.ampRto
  | ampAckTimer => exact h.acted fun _ h1 => h1.ampAckTimer
  | ptpEventMessage => exact h.acted fun _ h1 => h1.ptpEvent
  | ethPtppop => exact h.acted fun _ h1 => h1.byWrite (fun _ h2 => h2.ptpPop)
  | resetAssert => exact h.always fun _ h1 => h1.resetAssert
  | resetRelease => exact h.always fun _ h1 => h1.leaveReset
  | coreUv => exact h.acted fun _ h1 => h1.coreUv
  | brownout => exact h.acted fun _ h1 => h1.brownout
  | halfCycle => exact h.acted fun _ h1 => h1.halfCycle
  | lineLoss => exact h.acted fun _ h1 => h1.lineLoss
  | freqerr => exact h.acted fun _ h1 => h1.freqErr
  | pfwN => exact h.acted fun _ h1 => h1.pfwLow
  | exitReady => exact h.acted fun _ h1 => h1.exitReady
  | supEvpop => exact h.acted fun _ h1 => h1.byWrite (fun _ h2 => h2.supPop)
  | avsTimeout => exact h.acted fun _ h1 => h1.avsTimeout
  | pwrPdnSwv => exact h.acted fun _ h1 => h1.byWrite (fun _ h2 => h2.swvWrite)
  | prepareAnswer => exact h.acted fun _ h1 => h1.prepareAnswer
  | prepareTimeout => exact h.acted fun _ h1 => h1.prepareTimeout
  | stopRetry => exact h.acted fun _ h1 => h1.stopRetry
  | runEntryDone => exact h.acted fun _ h1 => h1.runEntryDone
  | sentinelBurst => exact h.acted fun _ h1 => h1.sentinelBurst
  | burstTimeout => exact h.acted fun _ h1 => h1.burstTimeout
  | minuteNormalisation => exact h.acted fun _ h1 => h1.minute
  | weeklyRecord => exact h.acted fun _ h1 => h1.weekEnd
  | setpointLower => exact h.acted fun _ h1 => h1.setpointLower
  | rtcFracRead => exact h.always fun _ h1 => h1.byRead
  | rtcSetsecHi r w =>
    exact h.always (f := fun d => d.byWrite r R.RTC_SETSEC_HI fun d => d.rtcSet w) fun _ h1 =>
      h1.byWrite (fun _ h2 => h2.rtcSet)
  | rtcShift r w =>
    exact h.always (f := fun d => d.byWrite r R.RTC_SHIFT fun d => d.rtcShift w) fun _ h1 =>
      h1.byWrite (fun _ h2 => h2.rtcShift)
  | shiftHoldEnd => exact h.always fun _ h1 => h1.shiftHoldEnd
  | trimWindow => exact h.always fun _ h1 => h1.trimWindow
  | xtalFail => exact h.always fun _ h1 => h1.xtalFails
  | tmrnCtl => exact h.acted fun _ h1 => h1.byWrite (fun _ h2 => h2.tmrCtl)
  | timerMatch => exact h.acted fun _ h1 => h1.tmrMatch
  | timerCapture => exact h.acted fun _ h1 => h1.tmrPinEdge
  | tmrSnapcmd => exact h.acted fun _ h1 => h1.byWrite (fun _ h2 => h2.tmrSnap)
  | tmrnCapLoRead => exact h.acted fun _ h1 => h1.byRead
  | eventStep => exact h.acted fun _ h1 => h1.eventStep
  | splintFilterExpiry => exact h.acted fun _ h1 => h1.filterExpiry
  | evrLatchclr => exact h.acted fun _ h1 => h1.byWrite (fun _ h2 => h2.latchClear)
  | pmcWindowEnd => exact h.acted fun _ h1 => h1.pmcWindowEnd
  | pmcSampleTrigger => exact h.acted fun _ h1 => h1.pmcSample
  | pmcnCfg => exact h.acted fun _ h1 => h1.byWrite (fun _ h2 => h2.pmcCfg)
  | pmcnCntLoRead => exact h.acted fun _ h1 => h1.byRead
  | fieldActivation => exact h.always fun _ h1 => h1.fieldActivation
  | fieldLost => exact h.always fun _ h1 => h1.fieldGone
  | reqa => exact h.always fun _ h1 => h1.clpReqa
  | anticollision known =>
    exact h.always (f := fun d => d.clpAnticoll known) fun _ h1 => h1.clpAnticoll
  | select => exact h.always fun _ h1 => h1.clpSelect
  | hlta => exact h.always fun _ h1 => h1.clpHlta
  | deselect => exact h.always fun _ h1 => h1.clpDeselect
  | getInfo => exact h.always fun _ h1 => h1.tagBlock
  | auth1 => exact h.always fun _ h1 => h1.tagBlock
  | auth2 => exact h.always fun _ h1 => h1.tagBlock
  | ident => exact h.always fun _ h1 => h1.tagBlock
  | tagRead => exact h.always fun _ h1 => h1.tagBlock
  | tagWrite => exact h.always fun _ h1 => h1.tagBlock
  | generation => exact h.always fun _ h1 => h1.tagBlock
  | lockoutEnd => exact h.always fun _ h1 => h1.lockoutEnd
  | caFirstAccess => exact h.always fun _ h1 => h1.caFirst
  | readerWakeMeasure => exact h.acted fun _ h1 => h1.wakeMeasure
  | poll => exact h.acted fun _ h1 => h1.rdPoll
  | exchangeBlock => exact h.acted fun _ h1 => h1.exchangeBlock
  | readerRelease => exact h.acted fun _ h1 => h1.readerRelease
  | fieldOff => exact h.acted fun _ h1 => h1.readerFieldOff
  | readerWaitExpiry => exact h.acted fun _ h1 => h1.readerExpiry
  | clpTagcfg => exact h.acted fun _ h1 => h1.byWrite (fun _ h2 => h2.setTagCfg)
  | updateIr => exact h.acted fun _ h1 => h1.updateIr
  | trstN => exact h.acted fun _ h1 => h1.trst
  | csacc => exact h.acted fun _ h1 => h1.csAccess
  | dbgHalt => exact h.acted fun _ h1 => h1.dbgHalt
  | dbgResume => exact h.acted fun _ h1 => h1.dbgResume
  | dbgStep => exact h.acted fun _ h1 => h1.dbgStep
  | dbgReadRegister => exact h.acted fun _ h1 => h1.dbgReadReg
  | dbgWriteRegister => exact h.acted fun _ h1 => h1.dbgWriteReg
  | dbgReadWord => exact h.acted fun _ h1 => h1.dbgReadWord
  | dbgWriteWord => exact h.acted fun _ h1 => h1.dbgWriteWord
  | dbgReadPc => exact h.acted fun _ h1 => h1.dbgReadPc
  | lockReg => exact h.acted fun _ h1 => h1.lockReg
  | registerWrite => exact h.acted fun _ h1 => h1.anyWrite
  | illegal => exact h.acted fun _ h1 => Canon.ite (h1.issue (fun _ h2 => h2.illegalBody)) h1
  | pcieLinkUp => exact h.acted fun _ h1 => h1.linkUp
  | ethLinkChange => exact h.acted fun _ h1 => h1.ethLink
  | ethRawReceive => exact h.acted fun _ h1 => h1.rawReceive
  | avsResponse => exact h.acted fun _ h1 => h1.avsResponse
  | vddAonEntersRange => exact h.always fun _ h1 => h1.aonReset
  | hostRegisterRead => exact h.acted fun _ h1 => h1.hostRead
  | rats fsdi =>
    exact h.always (f := fun d => d.clpRats fsdi) fun _ h1 => h1.clpRats
  | tagRBlock => exact h.always fun _ h1 => h1.clpRBlock
  | readerReply => exact h.acted fun _ h1 => h1.readerReply
  | readerDeferralEnd => exact h.acted fun _ h1 => h1.deferralEnd
  | pfwNRelease => exact h.acted fun _ h1 => h1.pfwHigh
  | tapRunTestIdle => exact h.acted fun _ h1 => h1.runTestIdle

theorem State.sound_iff (s : State) : s.sound = true ↔ Canon s.dev ∧ ∀ i ∈ s.pending, i.wellFormed = true := by
  simp [State.sound, State.queueOk, Canon]

/-- Settles O3: every operation keeps the canonical form, every command is made of such operations, and no command changes
the queue it was taken from. -/
theorem soundKept : Obligations.SoundKept := by
  intro s t hs ht
  obtain ⟨hc, hq⟩ := (State.sound_iff s).1 hs
  rw [State.sound_iff]
  cases hp : s.pending with
  | nil =>
    rw [step, hp] at ht
    cases ht
    exact ⟨hc.tick, by simp⟩
  | cons c rest =>
    obtain ⟨d, he, hd⟩ := Canon.exec (s := { s with pending := rest }) hc c
    rw [step, hp] at ht
    cases he.symm.trans ht
    exact ⟨hd, fun i hi => hq i (hp ▸ List.mem_cons_of_mem _ hi)⟩

end Sys2Proof.Machine


/-! # Proofs: the queue, the state after reset, and the Timebase -/

namespace Sys2Proof.Machine

/-- Settles O1 (log 1): `step` takes the front of the queue and runs it. -/
theorem stepRunsFront : Obligations.StepRunsFront :=
  ⟨fun _ _ _ => rfl, fun s h => by unfold step; rw [h]⟩

/-! ## The state after reset -/

theorem Dev.reg_empty {k : Nat} : State.reset.dev.reg k = resetOf k := rfl

theorem State.reset_cpu (n : Nat) : State.reset.dev.cpu n = {} := rfl

theorem Cpu.get_empty (r : Nat) : ({} : Cpu).get r = 0#32 := by
  by_cases h : r < 32
  · simp [Cpu.get, Vector.getD, h]
  · simp [Cpu.get, Vector.getD, Nat.le_of_not_lt h]

theorem Cpu.flags_empty : ({} : Cpu).flags = ⟨false, false, false, false⟩ := by decide +kernel

/-- Settles O2: registers read their reset values (R56), the Timebase is in state 0 with count 0 (R25). That memory lists
nothing and reads 0, that the queue is empty, and that g31 is 0 are the model's choices (log 5, log 1, log 4). -/
theorem resetState : Obligations.ResetState := by
  have hengine : ∀ e : Fin 64, State.reset.dev.engState e = 0 := by decide +kernel
  have hdomain : ∀ n : Fin 54, State.reset.dev.pdRun n = true ∧ State.reset.dev.pdPrep n = false := by decide +kernel
  refine ⟨by decide +kernel, rfl, rfl, rfl, rfl, by decide +kernel, hengine, fun n r => ⟨?_, ?_⟩, hdomain,
    by decide +kernel, by decide +kernel, by decide +kernel, by decide +kernel⟩
  · rw [State.reset_cpu, Cpu.get_empty]
  · rw [State.reset_cpu, Cpu.flags_empty]

/-! ## Commands whose operation is known under the hypotheses of its clause -/

theorem acted_eq {s : State} {f : Dev → Dev} {d : Dev} (hl : s.live) (h : f s.dev = d) :
    acted s f = .next (s.goes d) := by
  rw [acted_live hl, h]

theorem acted_byWrite_eq {s : State} {r : Req} {off : Nat} {f : Dev → Dev} {d : Dev} (hl : s.live) (h : s.dev.lets r off)
    (hf : f s.dev = d) : acted s (fun e => e.byWrite r off f) = .next (s.goes d) := by
  rw [acted_byWrite hl h, hf]

/-! ## The Timebase in the normal state of PD2 -/

section Timebase
variable {d : Dev} (hp : d.pdRun 2 = true)
include hp

theorem Dev.refQualified_quiet (h : (d.setB R.TBG_STATUS TBG_REF true).tbState ≠ 3) :
    d.refQualified = d.setB R.TBG_STATUS TBG_REF true := by
  simp [Dev.refQualified, hp, h]

theorem Dev.refQualified_relock {e : Dev} (he : e = d.setB R.TBG_STATUS TBG_REF true) (h : e.tbState = 3)
    (hh : e.tb.holdFrom = 2) (hs : e.srcXo = false) :
    d.refQualified = { e with tb := { e.tb with locked := true } }.setTb 2 := by
  simp [Dev.refQualified, hp, ← he, h, hh, hs]

theorem Dev.synthLock_locks (hr : d.b R.TBG_STATUS TBG_REF = true) (hs : d.srcXo = false) (hl : d.tb.locked = false) :
    d.synthLock = { d with tb := { d.tb with locked := true, everLocked := true } }.setTb 2 := by
  simp [Dev.synthLock, hp, hr, hs, hl]

theorem Dev.refLost_holdover {e : Dev} (he : e = d.setB R.TBG_STATUS TBG_REF false) (h : e.tbState = 2) :
    d.refLost =
      { e with tb := { e.tb with holdFrom := 2, holdTcxo := e.b R.TBG_STATUS TBG_XO, locked := false } }.setTb 3 := by
  simp [Dev.refLost, hp, ← he, h, Dev.holdover]

theorem Dev.refLost_quiet {e : Dev} (he : e = d.setB R.TBG_STATUS TBG_REF false) (h : e.tbState ≠ 2) :
    d.refLost = { e with tb := { e.tb with locked := false } } := by
  simp [Dev.refLost, hp, ← he, h]

theorem Dev.tcxoPresent_starts {e : Dev} (he : e = d.setB R.TBG_STATUS TBG_XO true) (h : e.tbState = 0)
    (hl : e.tb.everLocked = false) : d.tcxoPresent = e.setTb 1 := by
  simp [Dev.tcxoPresent, hp, ← he, h, hl]

theorem Dev.tcxoLost_holdover {e : Dev} (he : e = d.setB R.TBG_STATUS TBG_XO false) (h : e.tbState = 1) :
    d.tcxoLost = { e with tb := { e.tb with holdFrom := 1, holdTcxo := false, locked := false } }.setTb 3 := by
  simp [Dev.tcxoLost, hp, ← he, h, Dev.holdover]

theorem Dev.ppsRise_rises (he : d.b R.TBG_CTRL 5 = true) (hs : d.tbState ≠ 0) (hb : d.tb.ppsDone < d.boundaries d.count) :
    d.ppsRise = { d with tb := { d.tb with
      ppsOut := true, ppsFall := d.clk + d.f R.TBG_PPSOUT_W 0 27, ppsDone := d.boundaries d.count } } := by
  simp [Dev.ppsRise, hp, he, hs, hb]

theorem Dev.ppsEdge_unselected : d.ppsEdge (d.b R.TBG_CTRL 4) = d := by
  simp [Dev.ppsEdge, hp]

theorem Dev.ppsEdge_valid {e : Int} (he : e = wrapSec (d.count + sfld (d.reg R.TBG_PPSIN_DLY) 0 16)) {d0 d1 : Dev}
    (h0 : d0 = (d.setPair R.TBG_PPSCAP_LO R.TBG_PPSCAP_HI d.count).setReg R.TBG_PPSERR (wd (patt 32 e)))
    (h1 : d1 = (d0.setB R.TBG_STATUS 7 true).setF R.TBG_STATUS 8 4 0) (hv : d0.b R.TBG_STATUS 7 = true) :
    d.ppsEdge (!d.b R.TBG_CTRL 4) = if d0.f R.TBG_PPSWIN 0 24 < e.natAbs then d0 else
      ((({ d1 with tb := { d1.tb with ppsAnchor := d.count, ppsK := 1 } }.hwEvent srcPps).ppsAlign false e).discEdge) := by
  subst he h0 h1
  unfold Dev.ppsEdge
  rw [show (!d.pdRun 2 || (!d.b R.TBG_CTRL 4) == d.b R.TBG_CTRL 4) = false by simp [hp]]
  simp [hv]

theorem Dev.ppsJudge_misses (hv : d.b R.TBG_STATUS 7 = true)
    (hw : d.tb.ppsAnchor + d.tb.ppsK * 160000000 + d.f R.TBG_PPSWIN 0 24 ≤ d.count) {m : Nat} {e : Dev}
    (hm : m = min 15 (d.f R.TBG_STATUS 8 4 + 1))
    (he : e = { d.setF R.TBG_STATUS 8 4 m with tb := { d.tb with ppsK := d.tb.ppsK + 1 } }) :
    d.ppsJudge = (if 3 ≤ m then e.setB R.TBG_STATUS 7 false else e).discMiss := by
  subst he hm
  unfold Dev.ppsJudge
  rw [show (d.pdRun 2 && d.b R.TBG_STATUS 7 &&
    decide (d.tb.ppsAnchor + d.tb.ppsK * tickSec + d.f R.TBG_PPSWIN 0 24 ≤ d.count)) = true by simp [hp, hv, hw]]
  rfl

theorem Dev.slewStep_last (hs : d.tbState ≠ 0) (ha : d.tb.slewAt ≤ d.clk) (he : d.tb.err = 1) :
    d.slewStep =
      ({ d with tb := { d.tb with err := 0, slewAt := d.clk + d.slewGap } }.setB R.TBG_STATUS 3 false).tick 0 := by
  simp [Dev.slewStep, hp, hs, he, Nat.not_lt.2 ha]

end Timebase

theorem Dev.ppsFalls_falls {d : Dev} (ho : d.tb.ppsOut = true) (hf : d.tb.ppsFall ≤ d.clk) :
    d.ppsFalls = { d with tb := { d.tb with ppsOut := false } } := by
  simp [Dev.ppsFalls, ho, hf]

/-- Settles O9, clause by clause from the operation of each event. -/
theorem timebaseEvents : Obligations.TimebaseEvents := by
  refine ⟨fun s hl hp => ⟨?_, ?_, ?_, ?_, ?_, ?_, ?_⟩, fun s hl hp => ⟨?_, ?_, ?_, ?_⟩⟩
  · rintro d hd
    exact ⟨fun h => acted_eq hl (hd ▸ Dev.refQualified_quiet hp (hd ▸ h)),
      fun h hh hs => acted_eq hl (Dev.refQualified_relock hp hd h hh hs)⟩
  · exact fun hr hs h => acted_eq hl (Dev.synthLock_locks hp hr hs h)
  · exact fun d hd => ⟨fun h => acted_eq hl (Dev.refLost_holdover hp hd h), fun h => acted_eq hl (Dev.refLost_quiet hp hd h)⟩
  · exact fun d hd h he => acted_eq hl (Dev.tcxoPresent_starts hp hd h he)
  · exact fun d hd h => acted_eq hl (Dev.tcxoLost_holdover hp hd h)
  · exact fun he hs hb => acted_eq hl (Dev.ppsRise_rises hp he hs hb)
  · exact fun ho hf => acted_eq hl (Dev.ppsFalls_falls ho hf)
  · rintro r rfl
    exact acted_eq hl (Dev.ppsEdge_unselected hp)
  · rintro r e d d1 rfl he hd h1 hv
    exact ⟨fun h => acted_eq hl (by rw [Dev.ppsEdge_valid hp he hd h1 hv, if_pos h]),
      fun h => acted_eq hl (by rw [Dev.ppsEdge_valid hp he hd h1 hv, if_neg (Nat.not_lt.2 h)])⟩
  · exact fun m d hm hd hv hw => acted_eq hl (Dev.ppsJudge_misses hp hv hw hm hd)
  · exact fun hs ha he => acted_eq hl (Dev.slewStep_last hp hs ha he)

/-! ## Requests at a Gate Unit -/

/-- Settles O10, from what an arm and a disarm request come to. The note of a judged request is log 102, the end of a checked
frame's hold log 101. -/
theorem gateRequests : Obligations.GateRequests := by
  intro s hl
  refine ⟨fun r h => ?_, ?_, ?_, ?_, ?_⟩
  · exact acted_byRead h rfl hl
  · intro h u w fire k hw hq ht hu hc hp hpred hfire hcf hlead hlt hk
    refine acted_byWrite_eq hl hw ?_
    subst hfire
    have := Dev.arm_ok (param := fld w 0 16) hq ⟨ht, u.isLt, hu, hc, hp⟩ hcf hlead hlt hk
    simp only [Dev.gunArm, hpred, Bool.false_eq_true, if_false, this]
    rfl
  · intro h u w fire hw hq ht hu hc hp hpred hfire hcf hlead
    refine ⟨0, by decide, acted_byWrite_eq hl hw ?_⟩
    subst hfire
    have := Dev.arm_late (param := fld w 0 16) hq ⟨ht, u.isLt, hu, hc, hp⟩ hcf hlead
    simp only [Dev.gunArm, hpred, Bool.false_eq_true, if_false, this]
    rfl
  · rintro h u w a d rfl hw hq hu hp ha
    have hd := Dev.disarm_armed hq u.isLt hu hp ha
    refine ⟨fun ht => acted_byWrite_eq hl hw ?_, fun ht => ⟨fld w 0 4, ?_, acted_byWrite_eq hl hw ?_⟩⟩
    · simp only [Dev.gunDisarm, hd, if_pos ht]
      rfl
    · exact Nat.mod_lt _ (by decide)
    · simp only [Dev.gunDisarm, hd, if_neg (Nat.not_le.2 ht)]
      rfl
  · intro r x y l hw hx
    exact acted_byWrite_eq hl hw (by simp [Dev.latePop, hx])

end Sys2Proof.Machine

/-! # Proofs: gates at their firing counts -/

namespace Sys2Proof.Machine

/-! ## Lane gates: what the radio's state does not refuse takes effect -/

section LaneGates
variable {s d : Dev} {n k : Nat} {a : Arming} (hq : s.unsettled n = false)
  (h0 : d = ((s.beforeGate n).fired n k a).noteFired n a)
include hq h0

theorem Dev.fireRxc_rx {peak : Int} (hd : s.due n k 0 = some a) (hs : (d.radio n).st = sRX) (hr : (d.radio n).rx = none) :
    s.fireRxc n k peak = ((d.closeWin n peak).setSt n sIDLER).mayShut n := by
  rw [Dev.fireRxc, Dev.fireGate_ok hq hd h0 (by rw [hs]; rfl)]
  simp only [hs, if_true, hr]

theorem Dev.fireAer_idle (hd : s.due n k 1 = some a) (hs : (d.radio n).st = sIDLER)
    (hx : ((d.setAer n (a.param % 2)).radio n).st ≠ sRX) : s.fireAer n k = (d.setAer n (a.param % 2)).mayShut n := by
  rw [Dev.fireAer, Dev.fireGate_ok hq hd h0 (by rw [hs]; rfl)]
  simp only [if_neg hx]

theorem Dev.fireRtn_lane (hd : s.due n k 2 = some a) (hs : (d.radio n).st = sIDLER) (hn : n < 16) (hp : a.param < 64)
    (hu : chUsable n (d.reg (R.LAN_CHW n a.param)) = true) :
    s.fireRtn n k = (((d.onRadio n fun r => { r with until_ := d.clk + 7680, back := sIDLER, curCh := a.param
                                                     chw := d.reg (R.LAN_CHW n a.param) }).setF
      (R.LAN_STATUS n) 16 6 a.param).setSt n sRETUNE).mayShut n := by
  rw [Dev.fireRtn, Dev.fireGate_ok hq hd h0 (by rw [hs]; rfl)]
  simp only [hn, hs, hu, Nat.not_le.2 hp, if_true]
  rfl

theorem Dev.fireRtn_unusable (hd : s.due n k 2 = some a) (hs : (d.radio n).st = sIDLER) (hn : n < 16)
    (hu : 64 ≤ a.param ∨ chUsable n (d.reg (R.LAN_CHW n a.param)) = false) :
    s.fireRtn n k = (d.refuse n k 2 7).mayShut n := by
  rw [Dev.fireRtn, Dev.fireGate_ok hq hd h0 (by rw [hs]; rfl)]
  simp only [hn, if_true, decide_true, Bool.true_and]
  rw [if_pos (by simpa using hu)]

theorem Dev.fireRtn_trunk (hd : s.due n k 2 = some a) (hs : (d.radio n).st = sIDLER) (hn : n = 16) :
    s.fireRtn n k = ((d.onRadio n fun r => { r with
      until_ := d.clk + 7680, back := sIDLER, curCh := a.param, chw := d.reg R.TRK_CHAN }).setSt n sRETUNE).mayShut n := by
  subst hn
  rw [Dev.fireRtn, Dev.fireGate_ok hq hd h0 (by rw [hs]; rfl), hs]
  rfl

theorem Dev.fireRtn_rx (hd : s.due n k 2 = some a) (hs : (d.radio n).st = sRX) :
    s.fireRtn n k = (d.refuse n k 2 3).mayShut n := by
  rw [Dev.fireRtn, Dev.fireGate_refused hq hd h0 (by rw [hs]; rfl)]

theorem Dev.fireTrn_idle {peak : Int} (hd : s.due n k 3 = some a) (hs : (d.radio n).st = sIDLER)
    (ht : a.param.testBit 0 = false) :
    s.fireTrn n k peak = (((d.paTurn n sIDLET).onRadio n fun r => { r with
      until_ := (d.paTurn n sIDLET).clk + 15360 + 160 * (a.param / 2 % 32768), back := sIDLET }).setSt n sTURN).mayShut n := by
  rw [Dev.fireTrn, Dev.fireGate_ok hq hd h0 (by rw [hs, ht]; rfl)]
  have hidle : ¬ sIDLER = sRX := by decide
  simp [hs, ht, hidle]

theorem Dev.fireRxo_idle (hd : s.due n k 4 = some a) (hs : (d.radio n).st = sIDLER) (hp : a.param < 8) :
    s.fireRxo n k = ((d.onRadio n fun r => { r with
      win := some (a.param, d.clk), closeAfter := false, divEnded := false, divAer := none, winAer := r.aer,
      heard := none, dwellAt := d.clk, searchPhy := d.phy (fld (d.reg (R.LAN_WPROF n a.param)) 0 8)
      searchThr := fld (d.reg (R.LAN_WPROF n a.param)) 16 8 }).setSt n sRX).mayShut n := by
  rw [Dev.fireRxo, Dev.fireGate_ok hq hd h0 (by rw [hs]; rfl)]
  simp only [if_neg (Nat.not_le.2 hp)]

end LaneGates

/-- Settles O11, class by class. That a RTN names no channel word beyond 63 is the model's choice (log 116). -/
theorem laneGates : Obligations.LaneGates := by
  intro s n k a d hl hq h0
  refine ⟨?_, ?_, ?_, ?_, ?_, ?_, ?_⟩
  · exact fun peak hd hs hr => acted_eq hl (Dev.fireRxc_rx hq h0 hd hs hr)
  · exact fun hd hs hx => acted_eq hl (Dev.fireAer_idle hq h0 hd hs hx)
  · rintro w hd hs hn rfl
    exact ⟨fun hp hu => acted_eq hl (Dev.fireRtn_lane hq h0 hd hs hn hp hu),
      fun hu => acted_eq hl (Dev.fireRtn_unusable hq h0 hd hs hn hu)⟩
  · exact fun hd hs hn => acted_eq hl (Dev.fireRtn_trunk hq h0 hd hs hn)
  · exact fun hd hs => acted_eq hl (Dev.fireRtn_rx hq h0 hd hs)
  · rintro peak e rfl hd hs ht
    exact acted_eq hl (Dev.fireTrn_idle hq h0 hd hs ht)
  · exact fun hd hs hp => acted_eq hl (Dev.fireRxo_idle hq h0 hd hs hp)

/-! ## EVT gates, ends of turn-rounds and retunes, and TXS -/

theorem Dev.fireEvt_due {d : Dev} {u k : Nat} {a : Arming} (hq : d.unsettled u = false) (hd : d.due u k 6 = some a) :
    d.fireEvt u k = (d.fired u k a).post (a.param % 256) := by
  simp only [Dev.fireEvt, Dev.settle_quiet hq, hd]

theorem Dev.endTurn_over {d : Dev} {n st : Nat} (hs : (d.radio n).st = st) (hu : (d.radio n).until_ ≤ d.clk) :
    d.endTurn n st = (d.setSt n (d.radio n).back).mayShut n := by
  simp [Dev.endTurn, hs, hu]

theorem Dev.txsCheckLane_due {d : Dev} {n k : Nat} {a : Arming} (ha : d.armOf n k = some a) (hc : a.cls = 5)
    (hn : a.checked = false) (hf : a.fire ≤ d.count + 320) :
    d.txsCheckLane n k = d.checkArm n k a (d.entryReady n a.param && (!d.leadsFrame (laneHalf n)
      (d.txent n (handleEntry a.param)) || d.mayStart a (d.txent n (handleEntry a.param)).lsn)) := by
  simp [Dev.txsCheckLane, ha, hc, hn, hf]

theorem Dev.checkArm_missed (d : Dev) (u k : Nat) (a : Arming) :
    d.checkArm u k a false = (d.endArming u k a 1).lateRecord
      { kind := 1, unit := u, slot := k, cls := 5, fire := a.fire, acc := d.count % 2 ^ 32 } := by
  simp only [Dev.checkArm, Bool.false_eq_true, if_false]

theorem Dev.txsCheckLane_checked {d : Dev} {n k : Nat} {a : Arming} (ha : d.armOf n k = some a) (hc : a.checked = true) :
    d.txsCheckLane n k = d := by
  simp [Dev.txsCheckLane, ha, hc]

theorem Dev.fireLaneTxs_checked {s d : Dev} {n k : Nat} {a : Arming} (hq : s.unsettled n = false)
    (hd : s.due n k 5 = some a) (h0 : d = s.beforeGate n) (ha : d.armOf n k = some a) (hc : a.checked = true) :
    s.fireLaneTxs n k = (d.fireTxsLane n k a).mayShut n := by
  subst h0
  simp only [Dev.fireLaneTxs, Dev.settle_quiet hq, hd, Dev.txsCheckLane_checked ha hc, ha]

section CheckedFrame
variable {d : Dev} {n k : Nat} {a : Arming} {e : TxEnt} (hs : (d.radio n).st = sIDLET) (he : e = d.txent n (handleEntry a.param))
  (hpin : d.pinControl = false)
include hs he hpin

theorem Dev.fireTxsLane_radiates (hm : d.mayStart a e.lsn = true) (hl : d.leadsFrame (laneHalf n) e = true)
    (hseal : d.sealCheck n (chFreq (d.radio n).chw - chHalf (d.radio n).chw)
      (chFreq (d.radio n).chw + chHalf (d.radio n).chw) e.level e.airtime = none)
    {d1 : Dev} (h1 : d1 = ((d.fired n k a).noteFired n a).charge n (chFreq (d.radio n).chw - chHalf (d.radio n).chw)
      (chFreq (d.radio n).chw + chHalf (d.radio n).chw) e.airtime) :
    d.fireTxsLane n k a = (((d1.startTx n e.airtime (handleEntry a.param)).radiate n e).markRadiated e.lsn e.fc).pmcOctets
      (12 + n) 2 e.psdu.length := by
  have hg : gateRefusal 5 (d.radio n).st false = none := by rw [hs]; rfl
  simp only [Dev.fireTxsLane, ← he, hg, hpin, hl, hm, hseal, ← h1, Bool.not_true, Bool.false_eq_true, if_false]

theorem Dev.fireTxsLane_missed (hm : d.mayStart a e.lsn = false) (hl : d.leadsFrame (laneHalf n) e = true) :
    d.fireTxsLane n k a = ((d.endArming n k a 1).lateRecord
      { kind := 1, unit := n, slot := k, cls := 5, fire := a.fire, acc := d.count % 2 ^ 32 }).endHold n
        (handleEntry a.param) := by
  have hg : gateRefusal 5 (d.radio n).st false = none := by rw [hs]; rfl
  simp only [Dev.fireTxsLane, ← he, hg, hpin, hl, hm, Bool.not_true, Bool.not_false, Bool.false_eq_true, if_false, if_true]

theorem Dev.fireTxsLane_trails (hl : d.leadsFrame (laneHalf n) e = false) :
    d.fireTxsLane n k a = (((d.fired n k a).noteFired n a).trailRefusal (laneHalf n)).endHold n (handleEntry a.param) := by
  have hg : gateRefusal 5 (d.radio n).st false = none := by rw [hs]; rfl
  simp only [Dev.fireTxsLane, ← he, hg, hpin, hl, Bool.not_false, Bool.false_eq_true, if_false, if_true]

end CheckedFrame

/-- Settles O12, from the operation of each gate. How a TXS of a transaction that may not start shows is the model's choice
(log 112). -/
theorem gateEnds : Obligations.GateEnds := by
  intro s hl
  refine ⟨?_, ?_, ?_, ?_, ?_⟩
  · exact fun u k a hq hd => acted_eq hl (Dev.fireEvt_due hq hd)
  · exact fun n hs hu => acted_eq hl (Dev.endTurn_over hs hu)
  · exact fun n hs hu => acted_eq hl (Dev.endTurn_over hs hu)
  · intro n k u a hu hq ha hc hn hf
    have hcheck := Dev.txsCheckLane_due ha hc hn hf
    have htxs : s.dev.txsCheck u k = s.dev.txsCheckLane n k := by
      rw [hu, Dev.txsCheck, Dev.settle_quiet hq, if_pos n.isLt]
    refine ⟨fun hr hm => acted_eq hl ?_, fun hr => acted_eq hl ?_⟩
    · rw [htxs, hcheck, hr, hm, Bool.or_true, Bool.and_true]
    · rw [htxs, hcheck, hr, Bool.false_and, Dev.checkArm_missed]
  · intro n k u a d d1 e hu hq hd h0 ha hc hs he
    have hfire : s.dev.fireTxs u k = (d.fireTxsLane n k a).mayShut n := by
      rw [hu, Dev.fireTxs, if_pos n.isLt, Dev.fireLaneTxs_checked hq hd h0 ha hc]
    refine ⟨fun hm hp hlead hseal h1 => acted_eq hl ?_, fun hm hp hlead => acted_eq hl ?_, fun hp hlead => acted_eq hl ?_⟩
    · rw [hfire, Dev.fireTxsLane_radiates hs he hp hm hlead hseal h1]
    · rw [hfire, Dev.fireTxsLane_missed hs he hp hm hlead]
    · rw [hfire, Dev.fireTxsLane_trails hs he hp hlead]

end Sys2Proof.Machine

/-! # Proofs: general registers, arithmetic, logic, shifts, comparisons and divisions -/

namespace Sys2Proof.Machine

/-! ## General registers and RDTS -/

theorem tdel_tdel {α : Type} (k : Nat) (t : Table α) : tdel k (tdel k t) = tdel k t := by
  induction t with
  | nil => rfl
  | cons e r ih =>
    obtain ⟨k', v'⟩ := e
    by_cases h : k' = k
    · simp [tdel, h, ih]
    · simp [tdel, h, ih]

theorem tdel_tins {α : Type} (k : Nat) (v : α) (t : Table α) : tdel k (tins k v t) = tdel k t := by
  induction t with
  | nil => simp [tdel, tins]
  | cons e r ih =>
    obtain ⟨k', v'⟩ := e
    simp only [tins]
    split
    · simp [tdel]
    · simp only [tdel, ih]

/-- Of two writes of one entry the second counts. -/
theorem tput_tput {α : Type} [DecidableEq α] (dflt : Nat → α) (t : Table α) (k : Nat) (v w : α) :
    tput dflt (tput dflt t k v) k w = tput dflt t k w := by
  have hdel : tdel k (tput dflt t k v) = tdel k t := by
    unfold tput
    split
    · exact tdel_tdel k t
    · rw [tdel_tins, tdel_tdel]
  simp only [tput.eq_1 dflt (tput dflt t k v), hdel, tput.eq_1 dflt t k w]

theorem Dev.setCpu_setCpu (d : Dev) (n : Nat) (c e : Cpu) : (d.setCpu n c).setCpu n e = d.setCpu n e := by
  simp [Dev.setCpu, tput_tput]

theorem rdtsBody_odd (p : Proc) {rd : Nat} (d : Dev) (h : rd % 2 = 1) : rdtsBody p rd 0 d = .fault ILLEGAL := by
  simp [rdtsBody, h]

theorem rdtsBody_even (p : Proc) {rd : Nat} (d : Dev) (h : rd % 2 = 0) : rdtsBody p rd 0 d =
    .ok (d.setCpu p.num (((d.cpu p.num).put rd (wd d.count)).put (rd + 1) (wd (d.count / 2 ^ 32)))) 4 := by
  simp [rdtsBody, h, Dev.putG, Dev.onCpu, Dev.setCpu_setCpu]

/-- The two words of a 64-bit count make the count. -/
theorem toNat_wd_pair {v : Nat} (h : v < 2 ^ 64) : (wd v).toNat + 2 ^ 32 * (wd (v / 2 ^ 32)).toNat = v := by
  simp only [wd, BitVec.toNat_ofNat]
  omega

/-- A pair of registers read back after RDTS has written it; g0 keeps 0. -/
theorem Cpu.pair_rdts (c : Cpu) {r : Reg} {v : Nat} (hr : r.val % 2 = 0) (hv : v < 2 ^ 64) {e : Cpu}
    (he : e = (c.put r (wd v)).put (r.val + 1) (wd (v / 2 ^ 32))) :
    (e.get r).toNat + 2 ^ 32 * (e.get (r.val + 1)).toNat = if r = 0 then v / 2 ^ 32 * 2 ^ 32 else v := by
  have hhi : e.get (r.val + 1) = wd (v / 2 ^ 32) := by
    rw [he, Cpu.get_put _ _ _ _ (by omega)]
    simp
  have hlo : e.get r = if r = 0 then 0#32 else wd v := by
    have hne : r.val ≠ r.val + 1 := by omega
    rw [he, Cpu.get_put _ _ _ _ (by omega), Cpu.get_put _ _ _ _ r.isLt, if_neg hne, if_pos rfl]
    by_cases h0 : r = 0
    · simp [h0]
    · rw [if_neg h0, if_neg (Fin.val_ne_zero_iff.2 h0), if_neg (Fin.val_ne_zero_iff.2 h0)]
  have hpair := toNat_wd_pair hv
  rw [hhi, hlo]
  split
  · simp only [wd, BitVec.toNat_ofNat] at hpair ⊢
    omega
  · exact hpair

/-- Settles O8, from reads after writes and the two bodies of RDTS. -/
theorem generalRegisters : Obligations.GeneralRegisters := by
  intro c r q w
  refine ⟨rfl, rfl, fun h => ?_, fun h => ?_, Cpu.put_ctl .., Cpu.put_pc .., ?_⟩
  · rw [Cpu.get_put _ _ _ _ r.isLt, if_neg (Fin.val_ne_zero_iff.2 h), if_pos rfl]
  · rw [Cpu.get_put _ _ _ _ r.isLt]
    by_cases h0 : q.val = 0
    · rw [if_pos h0, h0]
      rfl
    · rw [if_neg h0, if_neg (Fin.val_ne_of_ne h)]
  · rintro s p v hl hr rfl hv
    refine ⟨fun ho => ?_, fun he hc => ⟨?_, ?_⟩⟩
    · exact acted_issue_fault hl hr (rdtsBody_odd p s.dev ho)
    · exact Cpu.pair_rdts _ he hv hc
    · rw [hc]
      exact acted_issue_ok hl hr (rdtsBody_even p s.dev he) (by simp)

/-! ## The ALU group with flags -/

section Alu
variable {s : State} {p : Proc} {rd ra rb : Reg} {c : Cpu} {a b : Word} (hl : s.live) (hr : s.dev.ready p)
  (hc : c = s.dev.cpu p.num) (ha : a = c.get ra) (hb : b = c.get rb)
include hl hr hc ha hb

/-- A function of the ALU group, which is neither unary nor a division, without S. -/
theorem exec_alu_plain (fn : Nat) {r : Word} (h : aluResult fn a b c.flags = some r) (hu : aluUnary fn = false)
    (hd : aluDivides fn = false) : acted s (fun d => d.issue p (aluBody p fn rd ra rb false)) =
      .next (s.goes (s.dev.completes p (c.put rd r) (aluCost fn) (c.pc + 4#32))) := by
  subst hc ha hb
  exact exec_alu_flagless hl hr fn h (by simp [hu]) hd

/-- The same function with S, where it sets flags. -/
theorem exec_alu_setting (fn : Nat) {r : Word} {f : Nzcv} (h : aluResult fn a b c.flags = some r)
    (hf : aluFlags fn a b r c.flags = some f) (hu : aluUnary fn = false) (hd : aluDivides fn = false) :
    acted s (fun d => d.issue p (aluBody p fn rd ra rb true)) =
      .next (s.goes (s.dev.completes p ((c.setFlags f).put rd r) (aluCost fn) (c.pc + 4#32))) := by
  subst hc ha hb
  rw [exec_alu fn hl hr h (by simp [hu]) (by simp [hd]) (by simp [hf]), hf]

/-- The same function, with or without S. -/
theorem exec_alu_either (fn : Nat) {r : Word} {f : Nzcv} {sf : Bool} (h : aluResult fn a b c.flags = some r)
    (hf : aluFlags fn a b r c.flags = some f) (hu : aluUnary fn = false) (hd : aluDivides fn = false) :
    acted s (fun d => d.issue p (aluBody p fn rd ra rb sf)) =
      .next (s.goes (s.dev.completes p ((if sf then c.setFlags f else c).put rd r) (aluCost fn) (c.pc + 4#32))) := by
  cases sf with
  | false => exact exec_alu_plain hl hr hc ha hb fn h hu hd
  | true => exact exec_alu_setting hl hr hc ha hb fn h hf hu hd

/-- S on a function that sets no flags. -/
theorem exec_alu_illegal (fn : Nat) {r : Word} (h : aluResult fn a b c.flags = some r)
    (hf : aluFlags fn a b r c.flags = none) : acted s (fun d => d.issue p (aluBody p fn rd ra rb true)) =
      .next (s.goes (s.dev.takeFault p ILLEGAL)) := by
  subst hc ha hb
  exact acted_issue_fault hl hr (by simp [aluBody, h, hf])

/-- A division by another word than 0. -/
theorem exec_alu_divides (fn : Nat) {r : Word} (h : aluResult fn a b c.flags = some r) (hu : aluUnary fn = false)
    (hz : b ≠ 0#32) : acted s (fun d => d.issue p (aluBody p fn rd ra rb false)) =
      .next (s.goes (s.dev.completes p (c.put rd r) (aluCost fn) (c.pc + 4#32))) := by
  subst hc ha hb
  exact exec_alu fn hl hr h (by simp [hu]) (fun _ => hz) nofun

/-- A division by 0. -/
theorem exec_alu_divz (fn : Nat) {r : Word} (h : aluResult fn a b c.flags = some r) (hu : aluUnary fn = false)
    (hd : aluDivides fn = true) (hz : b = 0#32) : acted s (fun d => d.issue p (aluBody p fn rd ra rb false)) =
      .next (s.goes (s.dev.takeFault p DIVZ)) := by
  subst hc ha hb
  have hz' : ((s.dev.cpu p.num).get rb == 0#32) = true := beq_iff_eq.2 hz
  exact acted_issue_fault hl hr (by simp [-beq_iff_eq, aluBody, h, hu, hd, hz'])

end Alu

theorem flagsAdd_no_carry (a b : Word) : flagsAdd a b 0 =
    ⟨(a + b).msb, a + b == 0#32, decide (2 ^ 32 ≤ a.toNat + b.toNat), a.msb == b.msb && (a + b).msb != a.msb⟩ := by
  simp [flagsAdd]

/-- Settles O13: one equation with S and one without, and the flags of each function. -/
theorem addSub : Obligations.AddSub := by
  rintro s p rd ra rb c a b k hl hr hc ha hb rfl
  refine ⟨?_, ?_, ?_, ?_, ?_, ?_, ?_, ?_⟩
  · exact exec_alu_plain hl hr hc ha hb 0x000 rfl rfl rfl
  · exact exec_alu_plain hl hr hc ha hb 0x001 rfl rfl rfl
  · exact exec_alu_plain hl hr hc ha hb 0x002 rfl rfl rfl
  · exact exec_alu_plain hl hr hc ha hb 0x003 rfl rfl rfl
  · rintro r rfl
    exact exec_alu_setting hl hr hc ha hb 0x000 rfl (congrArg some (flagsAdd_no_carry a b)) rfl rfl
  · rintro r rfl
    exact exec_alu_setting hl hr hc ha hb 0x001 rfl (congrArg some (flagsSub_no_borrow a b)) rfl rfl
  · rintro r rfl
    exact exec_alu_setting hl hr hc ha hb 0x002 rfl rfl rfl rfl
  · rintro r rfl
    exact exec_alu_setting hl hr hc ha hb 0x003 rfl rfl rfl rfl

/-- Settles O14: the functions share one equation; they differ in result and flags. -/
theorem logicAndShifts : Obligations.LogicAndShifts := by
  refine ⟨?_, ?_⟩
  · rintro s p rd ra rb sf c a b out hl hr hc ha hb rfl
    refine ⟨?_, ?_, ?_, ?_, ?_⟩
    · exact exec_alu_either hl hr hc ha hb 0x004 rfl rfl rfl rfl
    · exact exec_alu_either hl hr hc ha hb 0x005 rfl rfl rfl rfl
    · exact exec_alu_either hl hr hc ha hb 0x006 rfl rfl rfl rfl
    · exact exec_alu_either hl hr hc ha hb 0x007 rfl rfl rfl rfl
    · exact exec_alu_either hl hr hc ha hb 0x010 rfl rfl rfl rfl
  · rintro s p rd ra rb sf c a n out hl hr hc ha rfl rfl
    refine ⟨?_, ?_, ?_, ?_⟩
    · exact exec_alu_either hl hr hc ha rfl 0x008 rfl rfl rfl rfl
    · exact exec_alu_either hl hr hc ha rfl 0x009 rfl rfl rfl rfl
    · exact exec_alu_either hl hr hc ha rfl 0x00A rfl rfl rfl rfl
    · exact exec_alu_either hl hr hc ha rfl 0x00B rfl rfl rfl rfl

/-! ## Comparisons and divisions: the model's words against the integers of R69 -/

theorem ite_slt {α : Type} (a b : Word) (x y : α) :
    (if a.slt b then x else y) = if a.toInt < b.toInt then x else y := by simp [BitVec.slt]

theorem ite_ult {α : Type} (a b : Word) (x y : α) :
    (if a.ult b then x else y) = if a.toNat < b.toNat then x else y := by simp [BitVec.ult]

theorem div_eq_wd (a b : Word) : a / b = wd (a.toNat / b.toNat) := by
  apply BitVec.eq_of_toNat_eq
  rw [BitVec.toNat_udiv, wd, BitVec.toNat_ofNat, Nat.mod_eq_of_lt (Nat.lt_of_le_of_lt (Nat.div_le_self ..) a.isLt)]

theorem mod_eq_wd (a b : Word) : a % b = wd (a.toNat % b.toNat) := by
  apply BitVec.eq_of_toNat_eq
  rw [BitVec.toNat_umod, wd, BitVec.toNat_ofNat, Nat.mod_eq_of_lt (Nat.lt_of_le_of_lt (Nat.mod_le ..) a.isLt)]

theorem sdiv_eq_ofInt (a b : Word) : a.sdiv b = BitVec.ofInt 32 (a.toInt.tdiv b.toInt) := by
  apply BitVec.eq_of_toInt_eq
  rw [BitVec.toInt_sdiv, BitVec.toInt_ofInt]

theorem srem_eq_ofInt (a b : Word) : a.srem b = BitVec.ofInt 32 (a.toInt.tmod b.toInt) := by
  rw [← BitVec.toInt_srem, BitVec.ofInt_toInt]

/-- Settles O15: each function's result is the integer's, and the faults come from S = 1 or a zero divisor. -/
theorem comparesAndDivides : Obligations.ComparesAndDivides := by
  refine ⟨?_, ?_⟩
  · rintro s p rd ra rb c a b done hl hr hc ha hb rfl
    refine ⟨?_, ?_, ?_, ?_, ?_, ?_, ?_, ?_, ?_, ?_, ?_, ?_, ?_, ?_, ?_, ?_⟩
    · exact exec_alu_plain hl hr hc ha hb 0x00C (congrArg some (ite_slt ..)) rfl rfl
    · exact exec_alu_plain hl hr hc ha hb 0x00D (congrArg some (ite_ult ..)) rfl rfl
    · exact exec_alu_plain hl hr hc ha hb 0x00E (congrArg some (ite_slt ..)) rfl rfl
    · exact exec_alu_plain hl hr hc ha hb 0x00F (congrArg some (ite_slt ..)) rfl rfl
    · exact exec_alu_plain hl hr hc ha hb 0x01C (congrArg some (ite_ult ..)) rfl rfl
    · exact exec_alu_plain hl hr hc ha hb 0x01D (congrArg some (ite_ult ..)) rfl rfl
    · exact exec_alu_plain hl hr hc ha hb 0x011 rfl rfl rfl
    · exact exec_alu_plain hl hr hc ha hb 0x012 rfl rfl rfl
    · exact exec_alu_illegal hl hr hc ha hb 0x00C rfl rfl
    · exact exec_alu_illegal hl hr hc ha hb 0x00D rfl rfl
    · exact exec_alu_illegal hl hr hc ha hb 0x00E rfl rfl
    · exact exec_alu_illegal hl hr hc ha hb 0x00F rfl rfl
    · exact exec_alu_illegal hl hr hc ha hb 0x01C rfl rfl
    · exact exec_alu_illegal hl hr hc ha hb 0x01D rfl rfl
    · exact exec_alu_illegal hl hr hc ha hb 0x011 rfl rfl
    · exact exec_alu_illegal hl hr hc ha hb 0x012 rfl rfl
  · rintro s p rd ra rb c a b done hl hr hc ha hb rfl
    refine ⟨fun h => ?_, fun h => ?_, fun h => ?_, fun h => ?_, fun h => ?_, fun h => ?_, fun h => ?_, fun h => ?_⟩
    · exact exec_alu_divides hl hr hc ha hb 0x014 (congrArg some (div_eq_wd a b)) rfl h
    · exact exec_alu_divides hl hr hc ha hb 0x016 (congrArg some (mod_eq_wd a b)) rfl h
    · exact exec_alu_divides hl hr hc ha hb 0x015 (congrArg some (sdiv_eq_ofInt a b)) rfl h
    · exact exec_alu_divides hl hr hc ha hb 0x017 (congrArg some (srem_eq_ofInt a b)) rfl h
    · exact exec_alu_divz hl hr hc ha hb 0x014 rfl rfl rfl h
    · exact exec_alu_divz hl hr hc ha hb 0x016 rfl rfl rfl h
    · exact exec_alu_divz hl hr hc ha hb 0x015 rfl rfl rfl h
    · exact exec_alu_divz hl hr hc ha hb 0x017 rfl rfl rfl h

end Sys2Proof.Machine

/-! # Proofs: loads, stores, pairs, CAS and mask calls -/

namespace Sys2Proof.Machine

/-- A body that also changes the device beside its processor completes at the next instruction. -/
theorem acted_issue_changed {s : State} {p : Proc} {body : Dev → Ex} (hl : s.live) (hr : s.dev.ready p) {e : Dev} {c : Cpu}
    {cost : Nat} (h : body s.dev = .ok (e.setCpu p.num c) cost) (hpc : c.pc = (s.dev.cpu p.num).pc) :
    acted s (fun d => d.issue p body) = .next (s.goes (e.completes p c cost ((s.dev.cpu p.num).pc + 4#32))) := by
  rw [acted_issue hl hr, h, Dev.finish_ok, hpc]

/-! ## Octets of a word, and words of octets -/

theorem byteOf_eq_ofNat (v : Word) (i : Nat) : byteOf v i = BitVec.ofNat 8 (v.toNat / 256 ^ i) := by
  apply BitVec.eq_of_toNat_eq
  simp [byteOf, Nat.shiftRight_eq_div_pow, Nat.pow_mul]

theorem natBytes_one (v : Word) : natBytes 1 v.toNat = [byteOf v 0] := by
  simp [natBytes, byteOf_eq_ofNat]

theorem natBytes_two (v : Word) : natBytes 2 v.toNat = [byteOf v 0, byteOf v 1] := by
  simp [natBytes, byteOf_eq_ofNat]

theorem natBytes_four (v : Word) : natBytes 4 v.toNat = [byteOf v 0, byteOf v 1, byteOf v 2, byteOf v 3] := by
  simp [natBytes, byteOf_eq_ofNat, Nat.div_div_eq_div_mul]

/-- Joining an octet above a number is adding it at its weight. -/
theorem toNat_append_octet {n : Nat} (x : BitVec n) (y : Byte) : (x ++ y).toNat = y.toNat + 256 * x.toNat := by
  rw [BitVec.toNat_append, ← Nat.shiftLeft_add_eq_or_of_lt y.isLt, Nat.shiftLeft_eq]
  omega

theorem wd_toNat_append (x : BitVec 24) (y : Byte) : wd (y.toNat + 256 * x.toNat) = (x ++ y : BitVec 32) := by
  rw [← toNat_append_octet, wd, BitVec.ofNat_toNat, BitVec.setWidth_eq]

/-- A word of memory is the little-endian number of its octets. -/
theorem Dev.rd32_eq_leNat (d : Dev) (f : Nat) : d.rd32 f = wd (leNat (d.rdBytes f 4)) := by
  apply BitVec.eq_of_toNat_eq
  have h0 := (d.rd8 f).isLt
  have h1 := (d.rd8 (f + 1)).isLt
  have h2 := (d.rd8 (f + 2)).isLt
  have h3 := (d.rd8 (f + 3)).isLt
  simp only [Dev.rd32, toNat_append_octet, Dev.rdBytes, List.range, List.range.loop, List.map, leNat, wd, BitVec.toNat_ofNat,
    Nat.add_zero]
  omega

theorem Dev.rd16_eq_leNat (d : Dev) (f : Nat) : d.rd16 f = (wd (leNat (d.rdBytes f 2))).setWidth 16 := by
  apply BitVec.eq_of_toNat_eq
  have h0 := (d.rd8 f).isLt
  have h1 := (d.rd8 (f + 1)).isLt
  simp only [Dev.rd16, toNat_append_octet, Dev.rdBytes, List.range, List.range.loop, List.map, leNat, wd, BitVec.toNat_ofNat,
    BitVec.toNat_setWidth, Nat.add_zero]
  omega

theorem Dev.rd8_eq_leNat (d : Dev) (f : Nat) : d.rd8 f = (wd (leNat (d.rdBytes f 1))).setWidth 8 := by
  apply BitVec.eq_of_toNat_eq
  have h0 := (d.rd8 f).isLt
  simp only [Dev.rdBytes, List.range, List.range.loop, List.map, leNat, wd, BitVec.toNat_ofNat, BitVec.toNat_setWidth,
    Nat.add_zero]
  omega

/-! ## One load and one store at a place in memory -/

theorem Dev.memLoad_good {d : Dev} {a : Word} {f n : Nat} (h : d.eccBad f n = false) :
    d.memLoad a f n = .ok (d.loaded f n) (wd (leNat (d.rdBytes f n))) := by
  simp [Dev.memLoad, h]

theorem Dev.place_misaligned {d : Dev} {p : Proc} {sup : Bool} {a : Word} {n kind : Nat} (h : a.toNat % n ≠ 0) :
    d.place p sup a n kind = .error (ALIGN a) := if_pos h

section LoadStore
variable {s : State} {p : Proc} {rd ra : Reg} {imm : BitVec 16} {n f : Nat} (hl : s.live) (hr : s.dev.ready p)
include hl hr

theorem exec_load_mem {ext : Word → Word}
    (hp : s.dev.place p (s.dev.cpu p.num).sup ((s.dev.cpu p.num).get ra + imm.signExtend 32) n kLoad = .ok (.mem f))
    (he : s.dev.eccBad f n = false) : acted s (fun d => d.issue p (loadBody p n rd ra imm ext)) =
      .next (s.goes ((s.dev.loaded f n).completes p
        (((s.dev.loaded f n).cpu p.num).put rd (ext (wd (leNat (s.dev.rdBytes f n))))) 1
        (((s.dev.loaded f n).cpu p.num).pc + 4#32))) := by
  have hbody : loadBody p n rd ra imm ext s.dev =
      .ok ((s.dev.loaded f n).putG p rd (ext (wd (leNat (s.dev.rdBytes f n))))) 1 := by
    simp only [loadBody, Dev.ea, sext16, hp, Dev.loadAt, Dev.memLoad_good he, Target.cost]
  rw [acted_issue hl hr, hbody, Dev.putG, Dev.onCpu, Dev.finish_ok, Cpu.put_pc]

theorem exec_store_mem
    (hp : s.dev.place p (s.dev.cpu p.num).sup ((s.dev.cpu p.num).get ra + imm.signExtend 32) n kStore = .ok (.mem f)) :
    acted s (fun d => d.issue p (storeBody p n rd ra imm)) = .next (s.goes
      (((s.dev.stored f (natBytes n ((s.dev.cpu p.num).get rd).toNat)).retire p.num 1
        ((s.dev.cpu p.num).pc + 4#32)).stepEnd p.num)) := by
  have hbody : storeBody p n rd ra imm s.dev = .ok (s.dev.stored f (natBytes n ((s.dev.cpu p.num).get rd).toNat)) 1 := by
    simp only [storeBody, Dev.ea, sext16, hp, Dev.storeAt, Target.cost]
  rw [acted_issue hl hr, hbody, Dev.finish, Dev.stored_cpu]

theorem exec_load_misaligned {ext : Word → Word} (h : ((s.dev.cpu p.num).get ra + imm.signExtend 32).toNat % n ≠ 0) :
    acted s (fun d => d.issue p (loadBody p n rd ra imm ext)) =
      .next (s.goes (s.dev.takeFault p (ALIGN ((s.dev.cpu p.num).get ra + imm.signExtend 32)))) :=
  acted_issue_fault hl hr (by simp only [loadBody, Dev.ea, sext16, Dev.place_misaligned h])

theorem exec_store_misaligned (h : ((s.dev.cpu p.num).get ra + imm.signExtend 32).toNat % n ≠ 0) :
    acted s (fun d => d.issue p (storeBody p n rd ra imm)) =
      .next (s.goes (s.dev.takeFault p (ALIGN ((s.dev.cpu p.num).get ra + imm.signExtend 32)))) :=
  acted_issue_fault hl hr (by simp only [storeBody, Dev.ea, sext16, Dev.place_misaligned h])

end LoadStore

/-- Settles O19: every load is one equation over the number of its octets, extended as its mnemonic says. -/
theorem loads : Obligations.Loads := by
  rintro s p rd ra imm c ea f done hl hr rfl rfl rfl
  refine ⟨fun hp he => ?_, fun hp he => ⟨?_, ?_⟩, fun hp he => ⟨?_, ?_⟩, fun h => ?_, fun h => ⟨?_, ?_⟩⟩
  · rw [Dev.rd32_eq_leNat]
    exact exec_load_mem hl hr hp he
  · rw [Dev.rd16_eq_leNat]
    exact exec_load_mem hl hr hp he
  · rw [Dev.rd16_eq_leNat]
    exact exec_load_mem hl hr hp he
  · rw [Dev.rd8_eq_leNat]
    exact exec_load_mem hl hr hp he
  · rw [Dev.rd8_eq_leNat]
    exact exec_load_mem hl hr hp he
  · exact exec_load_misaligned hl hr h
  · exact exec_load_misaligned hl hr h
  · exact exec_load_misaligned hl hr h

/-- Settles O20: every store is one equation over the number of its octets. That MRAM notes a store until its FENCE is the
model's choice (log 103). -/
theorem stores : Obligations.Stores := by
  rintro s p rd ra imm c ea v f done hl hr rfl rfl rfl rfl
  refine ⟨fun hp => ?_, fun hp => ?_, fun hp => ?_, fun h => ?_, fun h => ?_⟩
  · rw [← natBytes_four]
    exact exec_store_mem hl hr hp
  · rw [← natBytes_two]
    exact exec_store_mem hl hr hp
  · rw [← natBytes_one]
    exact exec_store_mem hl hr hp
  · exact exec_store_misaligned hl hr h
  · exact exec_store_misaligned hl hr h

/-! ## What loads and stores leave as it is -/

theorem Dev.forEach_keeps {α β : Type} {φ : Dev → β} {g : Dev → α → Dev} (h : ∀ d x, φ (g d x) = φ d) (l : List α) :
    ∀ d : Dev, φ (d.forEach l g) = φ d := by
  induction l with
  | nil => exact fun d => rfl
  | cons x r ih => exact fun d => (ih (g d x)).trans (h d x)

section Traffic
variable {β : Type} {φ : Dev → β} (hfab : ∀ d g, φ (Dev.onFab d g) = φ d)
include hfab

/-- Counted traffic changes only what the event fabric's counters change. -/
theorem Dev.msTraffic_keeps (d : Dev) (a n dir : Nat) : φ (d.msTraffic a n dir) = φ d := by
  unfold Dev.msTraffic
  split
  · rfl
  · refine Dev.forEach_keeps (fun d b => ?_) _ d
    dsimp only
    split
    · rfl
    · exact hfab ..

theorem Dev.eccScrub_keeps (hecc : ∀ (d : Dev) (l : List Nat), φ { d with ecc1 := l } = φ d)
    (hreg : ∀ (d : Dev) (k : Nat) (w : Word), φ (d.setReg k w) = φ d) (d : Dev) (a n : Nat) : φ (d.eccScrub a n) = φ d := by
  refine Dev.forEach_keeps (fun d x => ?_) _ d
  unfold Dev.eccCorrect
  split
  · exact (hfab ..).trans ((hreg ..).trans (hecc ..))
  · rfl

end Traffic

theorem Dev.loaded_ecc2 (d : Dev) (f n : Nat) : (d.loaded f n).ecc2 = d.ecc2 :=
  (Dev.msTraffic_keeps (φ := Dev.ecc2) (fun _ _ => rfl) ..).trans
    (Dev.eccScrub_keeps (φ := Dev.ecc2) (fun _ _ => rfl) (fun _ _ => rfl) (fun _ _ _ => rfl) ..)

theorem Dev.loaded_mem (d : Dev) (f n : Nat) : (d.loaded f n).mem = d.mem :=
  (Dev.msTraffic_keeps (φ := Dev.mem) (fun _ _ => rfl) ..).trans
    (Dev.eccScrub_keeps (φ := Dev.mem) (fun _ _ => rfl) (fun _ _ => rfl) (fun _ _ _ => rfl) ..)

theorem Dev.loaded_cpus (d : Dev) (f n : Nat) : (d.loaded f n).cpus = d.cpus :=
  (Dev.msTraffic_keeps (φ := Dev.cpus) (fun _ _ => rfl) ..).trans
    (Dev.eccScrub_keeps (φ := Dev.cpus) (fun _ _ => rfl) (fun _ _ => rfl) (fun _ _ _ => rfl) ..)

theorem Dev.loaded_cpu (d : Dev) (f n k : Nat) : (d.loaded f n).cpu k = d.cpu k := by
  rw [Dev.cpu, Dev.loaded_cpus, Dev.cpu]

theorem Dev.loaded_rd8 (d : Dev) (f n a : Nat) : (d.loaded f n).rd8 a = d.rd8 a := by
  rw [Dev.rd8, Dev.loaded_mem, Dev.rd8]

theorem Dev.loaded_rd32 (d : Dev) (f n a : Nat) : (d.loaded f n).rd32 a = d.rd32 a := by
  simp only [Dev.rd32, Dev.loaded_rd8]

theorem Dev.loaded_eccBad (d : Dev) (f n a k : Nat) : (d.loaded f n).eccBad a k = d.eccBad a k := by
  rw [Dev.eccBad, Dev.loaded_ecc2, Dev.eccBad]

/-! ## Several words -/

theorem Dev.loadAt_mem {d : Dev} {p : Proc} {a : Word} {f : Nat} (h : d.eccBad f 4 = false) :
    d.loadAt p a 4 (.mem f) = .ok (d.loaded f 4) (d.rd32 f) := by
  rw [Dev.rd32_eq_leNat]
  exact Dev.memLoad_good h

theorem Dev.pairPlaces_mem {d : Dev} {p : Proc} {kind f f' : Nat} {a : Word}
    (h : d.place p (d.cpu p.num).sup a 4 kind = .ok (.mem f))
    (h' : d.place p (d.cpu p.num).sup (a + 4#32) 4 kind = .ok (.mem f')) :
    d.pairPlaces p kind a = .ok [(a, .mem f), (a + 4#32, .mem f')] := by
  simp [Dev.pairPlaces, Dev.placeAll, h, h']

theorem ldpBody_mem {d : Dev} {p : Proc} {rd ra f f' : Nat} {imm : BitVec 16} (hrd : rd % 2 = 0)
    (he : d.eccBad f 4 = false) (he' : d.eccBad f' 4 = false)
    (h : d.place p (d.cpu p.num).sup (d.ea p ra imm) 4 kLoad = .ok (.mem f))
    (h' : d.place p (d.cpu p.num).sup (d.ea p ra imm + 4#32) 4 kLoad = .ok (.mem f')) :
    ldpBody p rd ra imm d = .ok (((d.loaded f 4).loaded f' 4).setCpu p.num
      (((d.cpu p.num).put rd (d.rd32 f)).put (rd + 1) (d.rd32 f'))) 2 := by
  have hodd : ¬ rd % 2 = 1 := by omega
  have hlast : (d.loaded f 4).loadAt p (d.ea p ra imm + 4#32) 4 (.mem f') =
      .ok ((d.loaded f 4).loaded f' 4) (d.rd32 f') := by
    rw [Dev.loadAt_mem (by rw [Dev.loaded_eccBad, he']), Dev.loaded_rd32]
  simp only [ldpBody, if_neg hodd, Dev.pairPlaces_mem h h', loadAll, Dev.loadAt_mem he, hlast, Dev.putG, Dev.onCpu,
    Dev.cpu_setCpu_same, Dev.setCpu_setCpu, Dev.loaded_cpu]
  rfl

theorem stpBody_mem {d : Dev} {p : Proc} {rd ra f f' : Nat} {imm : BitVec 16} (hrd : rd % 2 = 0)
    (h : d.place p (d.cpu p.num).sup (d.ea p ra imm) 4 kStore = .ok (.mem f))
    (h' : d.place p (d.cpu p.num).sup (d.ea p ra imm + 4#32) 4 kStore = .ok (.mem f')) :
    stpBody p rd ra imm d = .ok ((d.stored f (natBytes 4 ((d.cpu p.num).get rd).toNat)).stored f'
      (natBytes 4 ((d.cpu p.num).get (rd + 1)).toNat)) 2 := by
  have hodd : ¬ rd % 2 = 1 := by omega
  simp only [stpBody, if_neg hodd, Dev.pairPlaces_mem h h', storeAll, Dev.storeAt]
  rfl

section Cas
variable {d : Dev} {p : Proc} {rd ra rb f : Nat} {sf : Bool} (he : d.eccBad f 4 = false)
  (h : d.place p (d.cpu p.num).sup ((d.cpu p.num).get ra) 4 kCas = .ok (.mem f))
include he h

theorem casBody_differs (hne : d.rd32 f ≠ (d.cpu p.num).get rd) : casBody p rd ra rb sf 0 d =
    .ok ((d.loaded f 4).setCpu p.num ((if sf then (d.cpu p.num).setFlags { (d.cpu p.num).flags with z := false }
      else d.cpu p.num).put rd (d.rd32 f))) 4 := by
  have heq : (d.rd32 f == (d.cpu p.num).get rd) = false := by simpa using hne
  simp only [casBody, h, Dev.loadAt_mem he, heq, Dev.onCpu, ne_eq, not_true_eq_false, if_false,
    Bool.false_eq_true, Dev.loaded_cpu]

theorem casBody_equal (heq : d.rd32 f = (d.cpu p.num).get rd) : casBody p rd ra rb true 0 d =
    .ok (((d.loaded f 4).stored f (natBytes 4 ((d.cpu p.num).get rb).toNat)).setCpu p.num
      (((d.cpu p.num).setFlags { (d.cpu p.num).flags with z := true }).put rd ((d.cpu p.num).get rd))) 4 := by
  have heq' : ((d.cpu p.num).get rd == (d.cpu p.num).get rd) = true := by simp
  simp only [casBody, h, Dev.loadAt_mem he, heq, heq', Dev.onCpu, Dev.storeAt, Dev.loaded_cpu, Dev.stored_cpu, if_true,
    ne_eq, not_true_eq_false, if_false]

end Cas

theorem fenceBody_zero (p : Proc) (d : Dev) :
    fenceBody p 0 d = .ok (if p = .custody then { d with unfenced := [] } else d) 24 := rfl

theorem synciBody_zero {p : Proc} (d : Dev) (h : isEng p = false) : synciBody p 0 d =
    .ok (d.setCpu p.num { d.cpu p.num with fetchRegions := (d.cpu p.num).ctl.filter fun e => decide (32 ≤ e.1) }) 1 := by
  simp [synciBody, h, Dev.onCpu]

/-- Settles O21: each body's equation, and the checks before it. -/
theorem pairsAndCas : Obligations.PairsAndCas := by
  rintro s p rd ra rb imm c ea f hl hr rfl rfl
  refine ⟨?_, ?_, fun h => ⟨?_, ?_⟩, ?_, ?_, ?_, fun h => ?_, fun rest h => ⟨?_, ?_⟩⟩
  · rintro f' d hrd - he he' hp hp' rfl
    exact acted_issue_changed hl hr (ldpBody_mem hrd he he' hp hp') (by simp)
  · intro f' hrd hp hp'
    refine (acted_issue hl hr _).trans ?_
    rw [stpBody_mem hrd hp hp', Dev.finish, Dev.stored_cpu, Dev.stored_cpu]
  · exact acted_issue_fault hl hr (if_pos h)
  · exact acted_issue_fault hl hr (if_pos h)
  · rintro sf old - he hp rfl hne
    refine acted_issue_changed hl hr (casBody_differs he hp hne) ?_
    cases sf <;> simp
  · rintro d - he hp heq rfl
    exact acted_issue_changed hl hr (casBody_equal he hp heq) (by simp)
  · rintro d rfl
    refine (acted_issue hl hr _).trans ?_
    rw [show (0#26).toNat = 0 from rfl, fenceBody_zero, Dev.finish]
    split <;> rfl
  · exact acted_issue_changed hl hr (synciBody_zero s.dev h) rfl
  · have h0 : rest.toNat ≠ 0 := fun e => h (BitVec.eq_of_toNat_eq e)
    exact acted_issue_fault hl hr (if_pos h0)
  · have h0 : rest.toNat ≠ 0 := fun e => h (BitVec.eq_of_toNat_eq e)
    exact acted_issue_fault hl hr (if_pos h0)

/-! ## Mask calls and their return -/

/-- Addresses that all lie in permitted memory are placed there. -/
theorem Dev.placeAll_mem {d : Dev} {p : Proc} {kind : Nat} : ∀ {l : List Word},
    (∀ a ∈ l, ∃ f, d.place p (d.cpu p.num).sup a 4 kind = .ok (.mem f)) →
    ∃ ps, d.placeAll p kind l = .ok ps ∧ ps.map (·.1) = l ∧ ∀ x ∈ ps, ∃ f, x.2 = .mem f
  | [], _ => ⟨[], rfl, rfl, by simp⟩
  | a :: r, h => by
    obtain ⟨f, hf⟩ := h a (by simp)
    obtain ⟨ps, hps, hmap, hmem⟩ := Dev.placeAll_mem fun b hb => h b (List.mem_cons_of_mem a hb)
    refine ⟨(a, .mem f) :: ps, by simp only [Dev.placeAll, hf, hps], by rw [List.map_cons, hmap], ?_⟩
    rintro x (_ | ⟨_, hx⟩)
    · exact ⟨f, rfl⟩
    · exact hmem x hx

/-- Words stored at places in memory are stored. -/
theorem storeAll_mem {p : Proc} : ∀ {ps : List (Word × Target)} {vs : List Word} {d : Dev},
    (∀ x ∈ ps, ∃ f, x.2 = .mem f) → ∃ e, storeAll p ps vs d = .ok e 0#32
  | [], _, d, _ => ⟨d, by simp [storeAll]⟩
  | _ :: _, [], d, _ => ⟨d, by simp [storeAll]⟩
  | (a, x) :: r, v :: vs, d, h => by
    obtain ⟨f, rfl⟩ : ∃ f, x = .mem f := h (a, x) (by simp)
    obtain ⟨e, he⟩ := storeAll_mem (p := p) (vs := vs) (d := d.stored f (natBytes 4 v.toNat))
      fun y hy => h y (List.mem_cons_of_mem _ hy)
    exact ⟨e, by simp only [storeAll, Dev.storeAt, he]⟩

/-- Words loaded from places in memory free of double-bit errors are loaded. -/
theorem loadAll_mem {p : Proc} : ∀ {ps : List (Word × Target)} {d : Dev}, d.ecc2 = [] → (∀ x ∈ ps, ∃ f, x.2 = .mem f) →
    ∃ e vs, loadAll p ps d = .ok e vs ∧ vs.length = ps.length
  | [], d, _, _ => ⟨d, [], rfl, rfl⟩
  | (a, x) :: r, d, he, h => by
    obtain ⟨f, rfl⟩ : ∃ f, x = .mem f := h (a, x) (by simp)
    have hgood : d.eccBad f 4 = false := by simp [Dev.eccBad, he]
    obtain ⟨e, vs, hr, hlen⟩ := loadAll_mem (p := p) (d := d.loaded f 4) (by rw [Dev.loaded_ecc2, he])
      fun y hy => h y (List.mem_cons_of_mem _ hy)
    exact ⟨e, d.rd32 f :: vs, by simp only [loadAll, Dev.loadAt_mem hgood, hr], by rw [List.length_cons, hlen, List.length_cons]⟩

theorem Dev.storeWords_mem {d : Dev} {p : Proc} {l : List (Word × Word)}
    (h : ∀ x ∈ l, ∃ f, d.place p (d.cpu p.num).sup x.1 4 kStore = .ok (.mem f)) : ∃ e, d.storeWords p l = .ok e 0#32 := by
  obtain ⟨ps, hps, -, hmem⟩ := Dev.placeAll_mem (l := l.map (·.1)) (d := d) (p := p) (kind := kStore) fun a ha => by
    obtain ⟨x, hx, rfl⟩ := List.mem_map.1 ha
    exact h x hx
  obtain ⟨e, he⟩ := storeAll_mem (p := p) (vs := l.map (·.2)) (d := d) hmem
  exact ⟨e, by simp only [Dev.storeWords, hps, he]⟩

theorem Dev.loadWords_mem {d : Dev} {p : Proc} {l : List Word} (he : d.ecc2 = [])
    (h : ∀ a ∈ l, ∃ f, d.place p (d.cpu p.num).sup a 4 kLoad = .ok (.mem f)) :
    ∃ e vs, d.loadWords p l = .ok e vs ∧ vs.length = l.length := by
  obtain ⟨ps, hps, hmap, hmem⟩ := Dev.placeAll_mem h
  obtain ⟨e, vs, hload, hlen⟩ := loadAll_mem (p := p) he hmem
  exact ⟨e, vs, by simp only [Dev.loadWords, hps, hload], by rw [hlen, ← hmap, List.length_map]⟩

section MaskCall
variable {d e : Dev} {p : Proc} {mask : BitVec 16} {t v : Word}

theorem callBody_stores (ha : ((d.cpu p.num).get 31).toNat % 4 = 0)
    (hlow : d.stackLow p + (12 + 4 * (maskRegs mask).length) ≤ ((d.cpu p.num).get 31).toNat)
    (h : d.storeWords p (callFrame (d.cpu p.num) (d.cpu p.num).pc ((d.cpu p.num).get 31) mask) = .ok e v) :
    callBody p t mask d = .jump (e.setCpu p.num (((e.cpu p.num).put 30 ((d.cpu p.num).get 31 - 12#32)).put 31
      ((d.cpu p.num).get 31 - wd (12 + 4 * (maskRegs mask).length)))) t (3 + (maskRegs mask).length) := by
  have hok : ¬ (((d.cpu p.num).get 31).toNat % 4 ≠ 0 ∨
      ((d.cpu p.num).get 31).toNat < d.stackLow p + (12 + 4 * (maskRegs mask).length)) := by omega
  simp only [callBody, if_neg hok, h, Dev.onCpu]

theorem callBody_below
    (hlow : ((d.cpu p.num).get 31).toNat < d.stackLow p + (12 + 4 * (maskRegs mask).length)) :
    callBody p t mask d = .fault STACK := if_pos (Or.inr hlow)

theorem callmrBody_aligned {ra : Nat} (ht : ((d.cpu p.num).get ra).toNat % 4 = 0) :
    callmrBody p ra 0 mask d = callBody p ((d.cpu p.num).get ra) mask d := by
  simp only [callmrBody, badTarget_eq_false ht]
  rfl

end MaskCall

section Return
variable {d e e' : Dev} {p : Proc} {hdr : Word} (ha : ((d.cpu p.num).get 30).toNat % 4 = 0)
  (hh : ((d.cpu p.num).get 30).toNat + 12 ≤ d.stackHigh p)
  (hload : d.loadWords p [(d.cpu p.num).get 30 + 4#32] = .ok e [hdr])
include ha hh hload

theorem retmBody_unmarked (hm : fld hdr 16 16 ≠ 0xA500) : retmBody p 0 d = .fault FRAME := by
  have hok : ¬ (((d.cpu p.num).get 30).toNat % 4 ≠ 0 ∨ d.stackHigh p < ((d.cpu p.num).get 30).toNat + 12) := by omega
  have hm' : fld ([hdr].getD 0 0#32) 16 16 ≠ 0xA500 := hm
  simp only [retmBody, if_neg hok, hload, if_pos hm', ne_eq, not_true_eq_false, if_false]

theorem retmBody_marked {regs : List Nat} {vs : List Word} (hm : fld hdr 16 16 = 0xA500)
    (hregs : regs = maskRegs (hdr.setWidth 16))
    (hrest : e.loadWords p ((regs.mapIdx fun i _ => (d.cpu p.num).get 30 - 4#32 - wd (4 * i)) ++
      [(d.cpu p.num).get 30 + 8#32, (d.cpu p.num).get 30]) = .ok e' vs) :
    retmBody p 0 d = .jump (e'.setCpu p.num
      ((((regs.zip vs).foldl (fun c x => c.put x.1 x.2) (e'.cpu p.num)).put 30 (vs.getD (regs.length + 1) 0#32)).put 31
        ((d.cpu p.num).get 30 + 12#32))) (vs.getD regs.length 0#32) (3 + regs.length) := by
  have hok : ¬ (((d.cpu p.num).get 30).toNat % 4 ≠ 0 ∨ d.stackHigh p < ((d.cpu p.num).get 30).toNat + 12) := by omega
  have hhdr : [hdr].getD 0 0#32 = hdr := rfl
  subst hregs
  simp only [retmBody, if_neg hok, hload, hhdr, hm, ne_eq, not_true_eq_false, if_false, hrest, Dev.onCpu]

theorem retmBody_empty {g30 ret : Word} (hm : hdr = 0xA5000000#32)
    (hrest : e.loadWords p [(d.cpu p.num).get 30 + 8#32, (d.cpu p.num).get 30] = .ok e' [ret, g30]) :
    retmBody p 0 d = .jump (e'.setCpu p.num (((e'.cpu p.num).put 30 g30).put 31 ((d.cpu p.num).get 30 + 12#32))) ret 3 := by
  have hf : fld hdr 16 16 = 0xA500 := by rw [hm]; rfl
  have hregs : [] = maskRegs (hdr.setWidth 16) := by rw [hm]; decide
  rw [retmBody_marked ha hh hload hf hregs hrest]
  rfl

end Return

/-- The header's marker and mask, taken apart again. -/
theorem fld_header (mask : BitVec 16) : fld (0xA500#16 ++ mask) 16 16 = 0xA500 := by
  rw [fld, BitVec.toNat_append, Nat.shiftRight_or_distrib, Nat.shiftLeft_shiftRight,
    Nat.shiftRight_eq_div_pow mask.toNat, Nat.div_eq_of_lt mask.isLt]
  rfl

theorem setWidth_header (mask : BitVec 16) : (0xA500#16 ++ mask).setWidth 16 = mask :=
  BitVec.setWidth_append_eq_right

section Calls
variable {s : State} {p : Proc} (hl : s.live) (hr : s.dev.ready p)
include hl hr

theorem acted_issue_jump {body : Dev → Ex} {e : Dev} {c : Cpu} {t : Word} {cost : Nat}
    (h : body s.dev = .jump (e.setCpu p.num c) t cost) :
    acted s (fun d => d.issue p body) = .next (s.goes (e.completes p c cost t)) := by
  rw [acted_issue hl hr, h, Dev.finish_jump]

end Calls

/-- Settles O23: the frame is stored or loaded word by word, and each word in permitted memory succeeds. -/
theorem calls : Obligations.Calls := by
  rintro s p c sp d v hl hr rfl rfl
  refine ⟨?_, ?_, ?_, ?_, ?_, ?_, ?_⟩
  · rintro disp mask n rfl ha hlow hst
    exact acted_issue_jump hl hr (callBody_stores ha hlow hst)
  · rintro ra mask n rfl ha ht hlow hst
    exact acted_issue_jump hl hr ((callmrBody_aligned ht).trans (callBody_stores ha hlow hst))
  · exact fun disp mask hlow => acted_issue_fault hl hr (callBody_below hlow)
  · rintro mask n rfl ha hlow hmem
    obtain ⟨e, he⟩ := Dev.storeWords_mem hmem
    exact ⟨e, he, fun disp => acted_issue_jump hl hr (callBody_stores ha hlow he),
      fun ra ht => acted_issue_jump hl hr ((callmrBody_aligned ht).trans (callBody_stores ha hlow he))⟩
  · exact fun hdr ha hh hload hm => acted_issue_fault hl hr (retmBody_unmarked ha hh hload hm)
  · rintro hdr e g30 ret ha hh hload rfl hrest
    exact acted_issue_jump hl hr (retmBody_empty ha hh hload rfl hrest)
  · rintro mask regs l f rfl rfl hecc ha hh hp hhdr rfl hmem
    have hgood : s.dev.eccBad f 4 = false := by simp [Dev.eccBad, hecc]
    have hload : s.dev.loadWords p [(s.dev.cpu p.num).get 30 + 4#32] = .ok (s.dev.loaded f 4) [0xA500#16 ++ mask] := by
      simp only [Dev.loadWords, Dev.placeAll, hp, loadAll, Dev.loadAt_mem hgood, hhdr]
    rw [← Dev.loaded_cpu s.dev f 4] at hmem
    obtain ⟨e, vs, hrest, hlen⟩ := Dev.loadWords_mem (by rw [Dev.loaded_ecc2, hecc]) hmem
    rw [Dev.loaded_cpu] at hrest hlen
    refine ⟨e, vs, hrest, by simpa using hlen, ?_⟩
    exact acted_issue_jump hl hr (retmBody_marked ha hh hload (fld_header mask) (by rw [setWidth_header]) hrest)

end Sys2Proof.Machine

/-! # Proofs: gate instructions, ports and events -/

namespace Sys2Proof.Machine

section Issue
variable {s : State} {p : Proc} {body : Dev → Ex} (hl : s.live) (hr : s.dev.ready p)
include hl hr

/-- A body that also changes the device beside its processor, whose pc is named from where the body left it. -/
theorem acted_issue_done {e : Dev} {c : Cpu} {cost : Nat} {pc : Word} (h : body s.dev = .ok (e.setCpu p.num c) cost)
    (hpc : c.pc = pc) : acted s (fun d => d.issue p body) = .next (s.goes (e.completes p c cost (pc + 4#32))) := by
  rw [acted_issue hl hr, h, Dev.finish_ok, hpc]

theorem acted_issue_stay {e : Dev} (h : body s.dev = .stay e) : acted s (fun d => d.issue p body) = .next (s.goes e) := by
  rw [acted_issue hl hr, h, Dev.finish]

end Issue

theorem doneAt_eq (d : Dev) (p : Proc) (rd : Nat) (w : Word) (cost : Nat) :
    doneAt d p rd w cost = .ok (d.setCpu p.num { (d.cpu p.num).put rd w with units := 0 }) cost := rfl

/-! ## What each gate instruction's body comes to on an engine -/

section GateBodies
variable {d : Dev} {e : Fin 64}

theorem Dev.notYet_iff (p : Proc) (u : Nat) :
    d.notYet p u = true ↔ d.overtaken p u = true ∨ u < 18 ∧ d.pdPrep (guPd u) = true := by
  simp [Dev.notYet]

theorem Dev.notYet_eq_false {p : Proc} {u : Nat} (ho : d.overtaken p u = false) (hp : u < 18 → d.pdPrep (guPd u) = false) :
    d.notYet p u = false := by
  by_cases hu : u < 18
  · simp [Dev.notYet, ho, hp hu]
  · simp [Dev.notYet, ho, hu]

theorem armgBody_notYet {rd ra rb cls unit : Nat} (ha : ra % 2 = 0) (h : d.notYet (.eng e) unit = true) :
    armgBody (.eng e) rd ra rb cls unit 0 d = .stay d := by
  simp [armgBody, isEng, ha, h]

theorem armgBody_taken {rd ra rb cls unit : Nat} (ha : ra % 2 = 0) (h : d.notYet (.eng e) unit = false) {w : Word}
    (hw : w = (d.cpu e.val).get rb) {x : Dev × Nat × Nat}
    (hx : x = d.arm (.eng e) unit cls (((d.cpu e.val).get ra).toNat + 2 ^ 32 * ((d.cpu e.val).get (ra + 1)).toNat)
      (fld w 0 16) (if bitOf w 27 then some (fld w 28 4) else none)) :
    armgBody (.eng e) rd ra rb cls unit 0 d =
      .ok (x.1.setCpu e.val ((x.1.cpu e.val).put rd (pack [(4, x.2.1), (0, x.2.2)]))) 4 := by
  have hg : ¬ (!isEng (.eng e) || (0 : Nat) ≠ 0 || ra % 2 = 1) = true := by simp [isEng, ha]
  subst hw hx
  simp only [armgBody, if_neg hg, h, Bool.false_eq_true, if_false]
  rfl

theorem armgBody_illegal {rd ra rb cls unit res : Nat} (h : res ≠ 0 ∨ ra % 2 = 1) :
    armgBody (.eng e) rd ra rb cls unit res d = .fault ILLEGAL := if_pos (by simpa [isEng] using h)

theorem disgBody_notYet {rd rb unit : Nat} (h : d.notYet (.eng e) unit = true) :
    disgBody (.eng e) rd 0 rb 0 unit 0 d = .stay d := by
  simp [disgBody, isEng, h]

theorem disgBody_taken {rd rb unit : Nat} (h : d.notYet (.eng e) unit = false) {k : Nat}
    (hk : k = fld ((d.cpu e.val).get rb) 4 4) {x : Dev × Nat} (hx : x = d.disarm (.eng e) unit k) :
    disgBody (.eng e) rd 0 rb 0 unit 0 d = .ok (x.1.setCpu e.val ((x.1.cpu e.val).put rd (pack [(4, k), (0, x.2)]))) 4 := by
  subst hk hx
  simp only [disgBody, isEng, Bool.not_true, ne_eq, not_true_eq_false, decide_false, Bool.or_self, Bool.false_eq_true,
    if_false, h]
  rfl

theorem disgBody_illegal {rd ra rb cls unit res : Nat} (h : res ≠ 0 ∨ cls ≠ 0 ∨ ra ≠ 0) :
    disgBody (.eng e) rd ra rb cls unit res d = .fault ILLEGAL := by
  refine if_pos ?_
  simp only [isEng, Bool.not_true, Bool.false_or, Bool.or_eq_true, decide_eq_true_eq]
  omega

theorem waitgBody_illegal {rd : Reg} {ra : Nat} {imm : BitVec 16} (h : 32 ≤ imm.toNat) :
    waitgBody (.eng e) rd ra imm d = .fault ILLEGAL := if_pos (by simpa [isEng] using h)

section Waitg
variable {rd : Reg} {ra k : Nat} {imm : BitVec 16} {f : Dev} (hf : f = d.settle imm.toNat)
include hf

theorem waitgBody_prepares (hu : imm.toNat < 18) (hp : f.pdPrep (guPd imm.toNat) = true) :
    waitgBody (.eng e) rd ra imm d = .stay f := by
  have hlow : ¬ 32 ≤ imm.toNat := by omega
  simp [waitgBody, isEng, hlow, hu, ← hf, hp]

theorem waitgBody_closed (h32 : imm.toNat < 32) (hp : imm.toNat < 18 → f.pdPrep (guPd imm.toNat) = false)
    (hc : 18 ≤ imm.toNat ∨ f.unitOpen (.eng e) imm.toNat = false ∨ f.pdRun (guPd imm.toNat) = false) :
    waitgBody (.eng e) rd ra imm d = doneAt f (.eng e) rd 7#32 0 := by
  have hlow : ¬ 32 ≤ imm.toNat := by omega
  by_cases hu : imm.toNat < 18
  · rcases hc with hc | hc | hc
    · omega
    · simp [waitgBody, isEng, hlow, hu, ← hf, hp hu, hc]
    · simp [waitgBody, isEng, hlow, hu, ← hf, hp hu, hc]
  · simp [waitgBody, isEng, hlow, hu, ← hf]

variable (hk : k = fld ((d.cpu e.val).get ra) 4 4) (hu : imm.toNat < 18) (hp : f.pdPrep (guPd imm.toNat) = false)
  (ho : f.unitOpen (.eng e) imm.toNat = true) (hd : f.pdRun (guPd imm.toNat) = true)
include hk hu hp ho hd

theorem waitgBody_bound {a : Arming} (ha : f.armOf imm.toNat k = some a) :
    waitgBody (.eng e) rd ra imm d = .stay (f.beginWait e.val (.gate rd a.id)) := by
  have hlow : ¬ 32 ≤ imm.toNat := by omega
  subst hk
  simp only [waitgBody, isEng, hlow, hu, ← hf, hp, ho, hd, decide_true, decide_false, Bool.not_true, Bool.or_self,
    Bool.and_false, Bool.false_eq_true, if_false, Proc.num] at ha ⊢
  rw [ha]

theorem waitgBody_free (ha : f.armOf imm.toNat k = none) :
    waitgBody (.eng e) rd ra imm d = doneAt f (.eng e) rd (wd (f.slot imm.toNat k).last) 0 := by
  have hlow : ¬ 32 ≤ imm.toNat := by omega
  subst hk
  simp only [waitgBody, isEng, hlow, hu, ← hf, hp, ho, hd, decide_true, decide_false, Bool.not_true, Bool.or_self,
    Bool.and_false, Bool.false_eq_true, if_false, Proc.num] at ha ⊢
  rw [ha]

end Waitg

theorem swpBody_none {imm : BitVec 16} (h : d.hoPending e.val = none) : swpBody (.eng e) 0 0 imm d =
    .ok (d.setCpu e.val { d.cpu e.val with units := 0 }) 4 := by
  have h' : d.hoPending (Proc.eng e).num = none := h
  simp only [swpBody, isEng, h']
  rfl

theorem swpBody_pending {imm : BitVec 16} {x : Handover} {r : Word} (h : d.hoPending e.val = some x)
    (hr : r = (d.cpu e.val).pc + imm.signExtend 32 * 4#32) : swpBody (.eng e) 0 0 imm d =
      if 0x4000 ≤ r.toNat then .fault (ACCESS r) else .stay (d.park e.val x r) := by
  have h' : d.hoPending (Proc.eng e).num = some x := h
  subst hr
  simp only [swpBody, isEng, h']
  rfl

theorem swpBody_illegal {rd ra : Nat} {imm : BitVec 16} (h : rd ≠ 0 ∨ ra ≠ 0) :
    swpBody (.eng e) rd ra imm d = .fault ILLEGAL := if_pos (by simpa [isEng] using h)

end GateBodies

/-- Gate instructions are an engine's. -/
theorem gateBodies_not_engine {p : Proc} (hp : isEng p = false) (d : Dev) (rd : Reg) (ra rb cls unit res : Nat)
    (imm : BitVec 16) : armgBody p rd ra rb cls unit res d = .fault ILLEGAL ∧
      disgBody p rd ra rb cls unit res d = .fault ILLEGAL ∧ waitgBody p rd ra imm d = .fault ILLEGAL ∧
      swpBody p rd ra imm d = .fault ILLEGAL := by
  refine ⟨?_, ?_, ?_, ?_⟩
  · simp [armgBody, hp]
  · simp [disgBody, hp]
  · simp only [waitgBody, hp, Bool.not_false, Bool.true_or, if_true]
  · simp [swpBody, hp]

/-! ## The end of a WAITG -/

section WaitgOutcome
variable {d e : Dev} {n id : Nat} {rd : Reg} (hw : (d.cpu n).wait = .gate rd id)
  (he : e = d.forEach (List.range 18) fun d u => d.settle u)
include hw he

theorem Dev.waitgOutcome_some {o : Nat} (ho : e.outcome id = some o) :
    d.waitgOutcome n = e.finishWait n 0 fun c => c.put rd.val (wd o) := by
  simp only [Dev.waitgOutcome, hw, ← he, ho]

theorem Dev.waitgOutcome_pending (ho : e.outcome id = none) : d.waitgOutcome n = e := by
  simp only [Dev.waitgOutcome, hw, ← he, ho]

end WaitgOutcome

theorem Dev.waitgOutcome_none {d : Dev} {n : Nat} (hw : (d.cpu n).wait = .none) : d.waitgOutcome n = d := by
  simp only [Dev.waitgOutcome, hw]

/-- Settles O24, instruction by instruction from their bodies. That a request waits behind a later requester's of the same tick
is log 102, and before a domain that is about to stop log 118. -/
theorem gateInstructions : Obligations.GateInstructions := by
  rintro s e c rd ra rb hl rfl
  refine ⟨fun unit cls hr h => ?_, fun unit hr ho hp => ?_, fun cls res unit hr => ⟨fun h => ?_, fun h => ?_⟩,
    fun imm d k hr hd hk => ⟨fun h => ?_, fun hu hp => ?_, fun h32 hp hc => ?_, fun hu hp ho hd' => ⟨fun a ha => ?_, fun ha => ?_⟩⟩,
    ?_, fun hw => ?_, fun p hr h => ?_, fun imm hr h => ?_, fun imm x r hr hx hrs => ?_, fun imm hr h => ?_,
    fun p cls res unit imm hp hr => ?_⟩
  · have hn := (Dev.notYet_iff (.eng e) unit).2 h
    exact ⟨fun ha => acted_issue_stay hl hr (armgBody_notYet ha hn), acted_issue_stay hl hr (disgBody_notYet hn)⟩
  · have hn := Dev.notYet_eq_false ho hp
    refine ⟨?_, fun k x hk hx => acted_issue_done hl hr (disgBody_taken hn hk hx) (Cpu.put_pc ..)⟩
    rintro cls w fire x ha hw rfl hx
    exact acted_issue_done hl hr (armgBody_taken ha hn hw hx) (Cpu.put_pc ..)
  · exact acted_issue_fault hl hr (armgBody_illegal (h.imp_left Fin.val_ne_zero_iff.2))
  · exact acted_issue_fault hl hr (disgBody_illegal (h.imp Fin.val_ne_zero_iff.2
      (Or.imp Fin.val_ne_zero_iff.2 Fin.val_ne_zero_iff.2)))
  · exact acted_issue_fault hl hr (waitgBody_illegal h)
  · exact acted_issue_stay hl hr (waitgBody_prepares hd hu hp)
  · exact acted_issue_done hl hr (waitgBody_closed hd h32 hp hc) (Cpu.put_pc ..)
  · exact acted_issue_stay hl hr (waitgBody_bound hd hk hu hp ho hd' ha)
  · exact acted_issue_done hl hr (waitgBody_free hd hk hu hp ho hd' ha) (Cpu.put_pc ..)
  · intro rd' id d hw hd
    exact ⟨fun o ho => acted_eq hl (Dev.waitgOutcome_some hw hd ho), fun ho => acted_eq hl (Dev.waitgOutcome_pending hw hd ho)⟩
  · exact acted_eq hl (Dev.waitgOutcome_none hw)
  · exact acted_issue_ok hl hr (rdtsBody_even p s.dev h) (by simp)
  · exact acted_issue_ok hl hr (swpBody_none h) rfl
  · have h := swpBody_pending hx hrs
    exact ⟨fun hlo => acted_issue_stay hl hr (h.trans (if_neg (Nat.not_le.2 hlo))),
      fun hhi => acted_issue_fault hl hr (h.trans (if_pos hhi))⟩
  · exact acted_issue_fault hl hr (swpBody_illegal (h.imp Fin.val_ne_zero_iff.2 Fin.val_ne_zero_iff.2))
  · obtain ⟨h1, h2, h3, h4⟩ := gateBodies_not_engine hp s.dev rd ra rb cls unit res imm
    exact ⟨acted_issue_fault hl hr h1, acted_issue_fault hl hr h2, acted_issue_fault hl hr h3, acted_issue_fault hl hr h4⟩

end Sys2Proof.Machine

/-! # Proofs: ports and events -/

namespace Sys2Proof.Machine

/-! ## LIN and LOUT over what the port answers (R110, R111) -/

section PortBodies
variable {d : Dev} {e : Fin 64} {rd : Reg} {ra q : Nat} {imm : BitVec 16}
  (hq : q = d.portNo (.eng e) ra imm)
include hq

theorem linBody_ok {f : Dev} {v : Word} (h : d.portIn e q = .ok f v) :
    linBody (.eng e) rd ra imm d = .ok (f.setCpu e.val ((f.cpu e.val).put rd v)) 4 := by
  subst hq
  have h' : d.portIn (Proc.eng e).num (d.portNo (.eng e) ra imm) = .ok f v := h
  simp only [linBody, isEng, h']
  rfl

theorem linBody_wait (h : d.portIn e q = .wait) :
    linBody (.eng e) rd ra imm d = .stay (d.beginWait e (.portIn rd q)) := by
  subst hq
  have h' : d.portIn (Proc.eng e).num (d.portNo (.eng e) ra imm) = .wait := h
  simp only [linBody, isEng, h']
  rfl

theorem linBody_ioport (h : d.portIn e q = .ioport) : linBody (.eng e) rd ra imm d = .fault IOPORT := by
  subst hq
  have h' : d.portIn (Proc.eng e).num (d.portNo (.eng e) ra imm) = .ioport := h
  simp only [linBody, isEng, h']
  rfl

theorem loutBody_ok {f : Dev} {v : Word} (h : d.portOut e q ((d.cpu e.val).get rd) = .ok f v) :
    loutBody (.eng e) rd ra imm d = .ok f 4 := by
  subst hq
  have h' : d.portOut (Proc.eng e).num (d.portNo (.eng e) ra imm) ((d.cpu (Proc.eng e).num).get rd) = .ok f v := h
  simp only [loutBody, isEng, h']
  rfl

theorem loutBody_wait (h : d.portOut e q ((d.cpu e.val).get rd) = .wait) :
    loutBody (.eng e) rd ra imm d = .stay (d.beginWait e (.portOut q ((d.cpu e.val).get rd))) := by
  subst hq
  have h' : d.portOut (Proc.eng e).num (d.portNo (.eng e) ra imm) ((d.cpu (Proc.eng e).num).get rd) = .wait := h
  simp only [loutBody, isEng, h']
  rfl

theorem loutBody_ioport (h : d.portOut e q ((d.cpu e.val).get rd) = .ioport) :
    loutBody (.eng e) rd ra imm d = .fault IOPORT := by
  subst hq
  have h' : d.portOut (Proc.eng e).num (d.portNo (.eng e) ra imm) ((d.cpu (Proc.eng e).num).get rd) = .ioport := h
  simp only [loutBody, isEng, h']
  rfl

end PortBodies

theorem portBodies_not_engine {p : Proc} (hp : isEng p = false) (d : Dev) (rd : Reg) (ra : Nat) (imm : BitVec 16) :
    linBody p rd ra imm d = .fault ILLEGAL ∧ loutBody p rd ra imm d = .fault ILLEGAL := by
  simp [linBody, loutBody, hp]

/-! ## The end of a queue wait -/

section QueueWait
variable {d f : Dev} {n q : Nat} {rd : Reg} {v w : Word}

theorem Dev.queueWaitEnd_word (hw : (d.cpu n).wait = .portIn rd q) (h : d.portIn n q = .ok f v) :
    d.queueWaitEnd n = f.finishWait n 4 fun c => c.put rd.val v := by
  simp only [Dev.queueWaitEnd, hw, h]

theorem Dev.queueWaitEnd_space (hw : (d.cpu n).wait = .portOut q w) (h : d.portOut n q w = .ok f v) :
    d.queueWaitEnd n = f.finishWait n 4 id := by
  simp only [Dev.queueWaitEnd, hw, h]

theorem Dev.queueWaitEnd_no_word (hw : (d.cpu n).wait = .portIn rd q) (h : d.portIn n q = .wait) :
    d.queueWaitEnd n = d := by
  simp only [Dev.queueWaitEnd, hw, h]

theorem Dev.queueWaitEnd_no_space (hw : (d.cpu n).wait = .portOut q w) (h : d.portOut n q w = .wait) :
    d.queueWaitEnd n = d := by
  simp only [Dev.queueWaitEnd, hw, h]

theorem Dev.queueWaitEnd_no_wait (hw : (d.cpu n).wait = .none) : d.queueWaitEnd n = d := by
  simp only [Dev.queueWaitEnd, hw]

end QueueWait

/-! ## What a port answers by the engine's role -/

theorem PortRes.unless_false (x : PortRes) : x.unless false = x := by
  cases x with
  | ioport => rfl
  | wait => rfl
  | ok d v => rfl

theorem PortRes.led_true (x : PortRes) (word : Bool) : x.led true word = x := by
  rw [PortRes.led, Bool.not_true, Bool.false_and, PortRes.unless_false]

theorem PortRes.led_word (x : PortRes) (lead : Bool) : x.led lead true = x := by
  rw [PortRes.led, Bool.not_true, Bool.and_false, PortRes.unless_false]

/-- A queue of the trunk waits on the half that does not lead. -/
theorem PortRes.led_trail {x : PortRes} (h : x ≠ .ioport) : x.led false false = .wait := by
  cases x with
  | ioport => exact absurd rfl h
  | wait => rfl
  | ok d v => rfl

section LanePorts
variable {d : Dev} {e n : Nat} (hk : d.roleKind e = 1) (hn : n = d.roleRes e) (hp : d.pdPrep (16 + n % 16) = false)
include hk hn hp

theorem Dev.portIn_lane (q : Nat) : d.portIn e q = d.laneIn n (q / 4096 % 16) (q % 4096) := by
  have hp' : d.pdPrep (portPd 1 n) = false := hp
  simp only [Dev.portIn, hp', PortRes.unless_false, hk, ← hn]

theorem Dev.portOut_lane (q : Nat) (v : Word) : d.portOut e q v = d.laneOut n (q / 4096 % 16) (q % 4096) v := by
  have hp' : d.pdPrep (portPd 1 n) = false := hp
  simp only [Dev.portOut, hp', PortRes.unless_false, hk, ← hn]

end LanePorts

theorem Dev.laneIn_above (d : Dev) (n i : Nat) : ∀ {g : Nat}, 5 ≤ g → d.laneIn n g i = .ioport
  | _ + 5, _ => rfl

theorem Dev.laneOut_above (d : Dev) (n i : Nat) (v : Word) : ∀ {g : Nat}, 5 ≤ g → d.laneOut n g i v = .ioport
  | _ + 5, _ => rfl

theorem popWord_cons {l r : List Word} {w : Word} (h : l = w :: r) (back : List Word → Dev) :
    popWord l back = .ok (back r) w := by
  rw [h, popWord]

theorem popWord_nil {l : List Word} (h : l = []) (back : List Word → Dev) : popWord l back = .wait := by
  rw [h, popWord]

theorem popRec_cons {l r : List (List Word)} {w : Word} {u : List Word} (h : l = (w :: u) :: r)
    (back : List (List Word) → Dev) : popRec l back = .ok (back (if u = [] then r else u :: r)) w := by
  subst h
  cases u with
  | nil => rfl
  | cons x t => rfl

theorem popRec_nil {l : List (List Word)} (h : l = []) (back : List (List Word) → Dev) : popRec l back = .wait := by
  rw [h, popRec]

section AcrPorts
variable {d : Dev} {e g : Nat} (hk : d.roleKind e = 2) (hg : g = d.roleRes e) (hp : d.pdPrep (portPd 2 g) = false)
include hk

theorem Dev.portOut_acr (q : Nat) (v : Word) : d.portOut e q v = .ioport := by
  simp only [Dev.portOut, hk]
  rfl

include hg hp

theorem Dev.portIn_acr (q : Nat) : d.portIn e q = d.acrIn (engHalf e) g (q / 4096 % 16) (q % 4096) := by
  simp only [Dev.portIn, hk, ← hg, hp, PortRes.unless_false]

theorem Dev.portIn_acr_status {i : Nat} (hi : i < 16) : d.portIn e (0x9000 + i) =
    .ok d (d.reg (R.ACRK_STATUS (groupChan g i).1 (groupChan g i).2)) := by
  have h1 : (0x9000 + i) / 4096 % 16 = 9 := by omega
  have h2 : (0x9000 + i) % 4096 = i := by omega
  have h3 : i ≠ 0x10 := by omega
  have h4 : i ≠ 0x11 := by omega
  rw [Dev.portIn_acr hk hg hp, h1, h2]
  simp only [Dev.acrIn, h3, h4, if_pos hi]

end AcrPorts

section MacPorts
variable {d : Dev} {e h res : Nat} (hk : d.roleKind e = 3) (hh : h = engHalf e) (hr : res = d.roleRes e)
  (hp : d.pdPrep 4 = false)
include hk hh hr hp

theorem Dev.portIn_mac {i : Nat} (hi : i < 4096) : d.portIn e (0xC000 + i) = d.macIn h res i := by
  have h1 : (0xC000 + i) / 4096 % 16 = 0xC := by omega
  have h2 : (0xC000 + i) % 4096 = i := by omega
  have hp' : d.pdPrep (portPd 3 res) = false := hp
  simp only [Dev.portIn, hk, h1, h2, if_true, ← hh, ← hr, hp', PortRes.unless_false]

theorem Dev.portOut_mac {i : Nat} (hi : i < 4096) (v : Word) :
    d.portOut e (0xC000 + i) v = d.macOut h res (d.f (R.WEN_STATUS e) 24 4) i v := by
  have h1 : (0xC000 + i) / 4096 % 16 = 0xC := by omega
  have h2 : (0xC000 + i) % 4096 = i := by omega
  have hp' : d.pdPrep (portPd 3 res) = false := hp
  simp only [Dev.portOut, hk, h1, h2, if_true, ← hh, ← hr, hp', PortRes.unless_false]

end MacPorts

/-- The arguments and outputs of the node-table commands stand at their own words. -/
theorem Dev.macIn_targ {d : Dev} {h res i : Nat} (hi : i < 4) :
    d.macIn h res (4 + i) = .ok d (d.reg (bankKey (roleBank h res) (R.MAC_NTARG i))) := by
  have h0 : ¬ 4 + i = 0 := by omega
  have h1 : ¬ 4 + i = 1 := by omega
  have h2 : 4 ≤ 4 + i ∧ 4 + i < 8 := by omega
  simp only [Dev.macIn, if_neg h0, if_neg h1, if_pos h2, Nat.add_sub_cancel_left]

theorem Dev.macIn_out {d : Dev} {h res i : Nat} (hi : i < 6) :
    d.macIn h res (0xC + i) = .ok d (d.reg (bankKey (roleBank h res) (R.MAC_NTOUT i))) := by
  have h0 : ¬ 0xC + i = 0 := by omega
  have h1 : ¬ 0xC + i = 1 := by omega
  have h2 : ¬ (4 ≤ 0xC + i ∧ 0xC + i < 8) := by omega
  have h8 : ¬ 0xC + i = 8 := by omega
  have hC : 0xC ≤ 0xC + i ∧ 0xC + i < 0x12 := by omega
  simp only [Dev.macIn, if_neg h0, if_neg h1, if_neg h2, if_neg h8, if_pos hC, Nat.add_sub_cancel_left]

theorem Dev.macOut_targ {d : Dev} {h res gen i : Nat} {v : Word} (hi : i < 4) :
    d.macOut h res gen (4 + i) v = .ok (d.setReg (bankKey (roleBank h res) (R.MAC_NTARG i)) v) 0#32 := by
  have h2 : ¬ 4 + i = 2 := by omega
  have h3 : ¬ 4 + i = 3 := by omega
  have h4 : 4 ≤ 4 + i ∧ 4 + i < 8 := by omega
  simp only [Dev.macOut, if_neg h2, if_neg h3, if_pos h4, Nat.add_sub_cancel_left]

section TrunkPorts
variable {d : Dev} {e : Nat} (hk : d.roleKind e = 4) (hp : d.pdPrep 12 = false)
include hk hp

theorem Dev.portIn_trunk {i : Nat} (hi : i < 4096) :
    d.portIn e (0xA000 + i) = (d.trunkIn i).led (d.leader == engHalf e) (4 ≤ i) := by
  have h1 : (0xA000 + i) / 4096 % 16 = 0xA := by omega
  have h2 : (0xA000 + i) % 4096 = i := by omega
  have hp' : d.pdPrep (portPd 4 (d.roleRes e)) = false := hp
  simp only [Dev.portIn, hk, h1, h2, if_true, hp', PortRes.unless_false]

theorem Dev.portOut_trunk {i : Nat} (hi : i < 4096) (v : Word) :
    d.portOut e (0xA000 + i) v = (d.trunkOut i v).led (d.leader == engHalf e) false := by
  have h1 : (0xA000 + i) / 4096 % 16 = 0xA := by omega
  have h2 : (0xA000 + i) % 4096 = i := by omega
  have hp' : d.pdPrep (portPd 4 (d.roleRes e)) = false := hp
  simp only [Dev.portOut, hk, h1, h2, if_true, hp', PortRes.unless_false]

end TrunkPorts

theorem Dev.trunkOut_txd_full {d : Dev} (v : Word) (h : 32 ≤ d.trunk.txd.length) : d.trunkOut 0 v = .wait := by
  simp only [Dev.trunkOut, if_pos h]

theorem Dev.trunkOut_rxb_full {d : Dev} (v : Word) (h : 32 ≤ d.trunk.rxb.length) : d.trunkOut 2 v = .wait := by
  simp only [Dev.trunkOut, if_pos h]

section TrunkQueues
variable {d : Dev} {v : Word} {l : List Word} (ht : d.trunk.txd.length < 32) (hl : l = d.partWords 8 ++ [v])
include ht hl

theorem Dev.trunkOut_txd_part (h : l.length < 4) : d.trunkOut 0 v = .ok (d.setPart 8 l) 0#32 := by
  simp only [Dev.trunkOut, if_neg (Nat.not_le.2 ht), ← hl, if_pos h]

theorem Dev.trunkOut_txd_whole (h : 4 ≤ l.length) : d.trunkOut 0 v =
    .ok { d.setPart 8 [] with trunk := { d.trunk with txd := d.trunk.txd ++ [l] } } 0#32 := by
  simp only [Dev.trunkOut, if_neg (Nat.not_le.2 ht), ← hl, if_neg (Nat.not_lt.2 h)]

end TrunkQueues

section TrunkBuffers
variable {d : Dev} {v : Word} (ht : d.trunk.rxb.length < 32)
include ht

theorem Dev.trunkOut_rxb_half (h : d.partWords 9 = []) : d.trunkOut 2 v = .ok (d.setPart 9 [v]) 0#32 := by
  simp only [Dev.trunkOut, if_neg (Nat.not_le.2 ht), h]

theorem Dev.trunkOut_rxb_whole {w : Word} {l : List Word} (h : d.partWords 9 = w :: l) : d.trunkOut 2 v =
    .ok { d.setPart 9 [] with trunk := { d.trunk with rxb := d.trunk.rxb ++ [(w, v)] } } 0#32 := by
  simp only [Dev.trunkOut, if_neg (Nat.not_le.2 ht), h]

end TrunkBuffers

theorem Dev.trunkIn_queue_ne_ioport (d : Dev) : d.trunkIn 1 ≠ .ioport ∧ d.trunkIn 3 ≠ .ioport := by
  constructor
  · simp only [Dev.trunkIn]
    cases d.trunk.txc with
    | nil => nofun
    | cons w l => nofun
  · simp only [Dev.trunkIn]
    match d.trunk.rxr with
    | [] => nofun
    | [] :: l => nofun
    | [w] :: l => nofun
    | (w :: x :: u) :: l => nofun

theorem Dev.trunkOut_queue_ne_ioport (d : Dev) (v : Word) : d.trunkOut 0 v ≠ .ioport ∧ d.trunkOut 2 v ≠ .ioport := by
  constructor
  · simp only [Dev.trunkOut]
    split
    · nofun
    · split
      · nofun
      · nofun
  · simp only [Dev.trunkOut]
    split
    · nofun
    · split
      · nofun
      · nofun

theorem Dev.ports_no_role {d : Dev} {e : Nat} (hk : d.roleKind e = 0) (q : Nat) (v : Word) :
    d.portIn e q = .ioport ∧ d.portOut e q v = .ioport := by
  simp only [Dev.portIn, Dev.portOut, hk]
  exact ⟨rfl, rfl⟩

/-! ## EVPOST and EVWAIT (R112, R113) -/

theorem eventBodies_reserved {p : Proc} {rd : Reg} {ra : Nat} {imm : BitVec 16} (d : Dev) (h : ra ≠ 0 ∨ 256 ≤ imm.toNat) :
    evpostBody p rd ra imm d = .fault ILLEGAL ∧ evwaitBody p rd ra imm d = .fault ILLEGAL := by
  have hb : badEvent ra imm = true := by simpa [badEvent] using h
  exact ⟨if_pos hb, if_pos hb⟩

section Events
variable {d : Dev} {p : Proc} {rd : Reg} {imm : BitVec 16} {ch : Nat} (hc : ch = imm.toNat) (h256 : ch < 256)
include hc h256

theorem badEvent_eq_false : badEvent 0 imm = false := by
  have : ¬ 256 ≤ imm.toNat := by omega
  simp [badEvent, this]

theorem evpostBody_granted (h : d.mayPost p.num ch = true) : evpostBody p rd 0 imm d =
    .ok ((d.post ch).setCpu p.num (((d.post ch).cpu p.num).put rd 0#32)) 4 := by
  have hb := badEvent_eq_false hc h256
  subst hc
  simp only [evpostBody, hb, h, Bool.false_eq_true, if_false, if_true]
  rfl

theorem evpostBody_refused (h : d.mayPost p.num ch = false) : evpostBody p rd 0 imm d =
    .ok (d.setCpu p.num ((d.cpu p.num).put rd 1#32)) 4 := by
  have hb := badEvent_eq_false hc h256
  subst hc
  simp only [evpostBody, hb, h, Bool.false_eq_true, if_false]
  rfl

theorem evwaitBody_stranger (h : d.consSlot ch p.num = none) : evwaitBody p rd 0 imm d = doneAt d p rd 2#32 0 := by
  have hb := badEvent_eq_false hc h256
  subst hc
  simp only [evwaitBody, hb, h, Bool.false_eq_true, if_false, Option.isNone_none, if_true]

variable {j : Nat} (hj : d.consSlot ch p.num = some j)
include hj

theorem evwaitBody_waits (h : d.latched p.num ch = false) :
    evwaitBody p rd 0 imm d = .stay (d.beginWait p.num (.event rd ch)) := by
  have hb := badEvent_eq_false hc h256
  subst hc
  simp only [evwaitBody, hb, hj, h, Bool.false_eq_true, if_false, Option.isNone_some]

theorem evwaitBody_latched (h : d.latched p.num ch = true) : evwaitBody p rd 0 imm d =
    doneAt (d.takeLatch p.num ch).1 p rd (d.takeLatch p.num ch).2 0 := by
  have hb := badEvent_eq_false hc h256
  subst hc
  simp only [evwaitBody, hb, hj, h, Bool.false_eq_true, if_false, Option.isNone_some, if_true]

end Events

theorem Dev.consSlot_none {d : Dev} {ch n : Nat} (h : ∀ j < 8, d.consumer ch j ≠ n) : d.consSlot ch n = none :=
  List.find?_eq_none.2 fun j hj => by simpa using h j (List.mem_range.1 hj)

theorem Dev.consSlot_some {d : Dev} {ch n j : Nat} (hj : j < 8) (h : d.consumer ch j = n)
    (hlt : ∀ i < j, d.consumer ch i ≠ n) : d.consSlot ch n = some j :=
  List.find?_range_eq_some.2 ⟨by simpa using h, List.mem_range.2 hj, fun i hi => by simpa using hlt i hi⟩

theorem Dev.takeLatch_first {d : Dev} {n ch : Nat} (h : d.furtherEvent n ch = false) :
    d.takeLatch n ch = (d.setLatch n ch false, 0#32) := by
  simp only [Dev.takeLatch, h, Bool.false_eq_true, if_false]

theorem Dev.takeLatch_further {d : Dev} {n ch j : Nat} (h : d.furtherEvent n ch = true) (hj : d.consSlot ch n = some j) :
    d.takeLatch n ch = ((d.setLatch n ch false).setB (R.EVR_CH_STAT ch) j false, 1#32) := by
  have hj' : (d.setLatch n ch false).consSlot ch n = some j := hj
  simp only [Dev.takeLatch, h, if_true, hj']

/-- Settles O25: LIN and LOUT by what their port answers, the ports of each role listed in the statement word by word (it lists
neither LRSSI, R151, nor SETTLED, R184), and EVPOST and EVWAIT. That a port waits while the domain behind it is about to stop,
and the trunk's queues on the half that does not lead, is log 118. -/
theorem portsAndEvents : Obligations.PortsAndEvents := by
  rintro s p c rd ra imm hl rfl
  refine ⟨?_, fun hp hr => ?_, ?_, ?_, ?_, ?_, ?_, fun e hk q v => Dev.ports_no_role hk q v, fun hr h => ?_, ?_, ?_⟩
  · rintro e rfl hr q hq
    refine ⟨fun d v h => ?_, fun h => ?_, fun h => ?_, fun d v h => ?_, fun h => ?_, fun h => ?_⟩
    · exact acted_issue_done hl hr (linBody_ok hq h) (Cpu.put_pc ..)
    · exact acted_issue_stay hl hr (linBody_wait hq h)
    · exact acted_issue_fault hl hr (linBody_ioport hq h)
    · exact (acted_issue hl hr _).trans (by rw [loutBody_ok hq h]; rfl)
    · exact acted_issue_stay hl hr (loutBody_wait hq h)
    · exact acted_issue_fault hl hr (loutBody_ioport hq h)
  · obtain ⟨h1, h2⟩ := portBodies_not_engine hp s.dev rd ra imm
    exact ⟨acted_issue_fault hl hr h1, acted_issue_fault hl hr h2⟩
  · rintro e q rfl
    exact ⟨fun d v hw h => acted_eq hl (Dev.queueWaitEnd_word hw h), fun d v w hw h => acted_eq hl (Dev.queueWaitEnd_space hw h),
      fun hw h => acted_eq hl (Dev.queueWaitEnd_no_word hw h), fun w hw h => acted_eq hl (Dev.queueWaitEnd_no_space hw h),
      fun hw => acted_eq hl (Dev.queueWaitEnd_no_wait hw)⟩
  · rintro e r n hk hn rfl hp
    have hin := Dev.portIn_lane hk hn hp
    have hout := Dev.portOut_lane hk hn hp
    refine ⟨?_, fun w l h => ?_, fun w l h => ?_, fun w u l h => ?_, fun h => ?_, fun h => ?_, fun h => ?_, fun v => ?_,
      fun q h5 hq => ?_, fun v => ?_, ?_⟩
    · simp only [List.forall_mem_cons, List.not_mem_nil, false_implies, implies_true, and_true, hin]
      exact ⟨rfl, rfl, rfl, rfl, rfl, rfl, rfl, rfl, rfl, rfl, rfl, rfl, rfl⟩
    · exact (hin _).trans (popWord_cons h _)
    · exact (hin _).trans (popWord_cons h _)
    · exact (hin _).trans (popRec_cons h _)
    · exact (hin _).trans (popWord_nil h _)
    · exact (hin _).trans (popWord_nil h _)
    · exact (hin _).trans (popRec_nil h _)
    · simp only [List.forall_mem_cons, List.not_mem_nil, false_implies, implies_true, and_true, hout]
      exact ⟨rfl, rfl, rfl, rfl⟩
    · have hg : 5 ≤ q / 4096 % 16 := by omega
      exact ⟨(hin q).trans (Dev.laneIn_above _ _ _ hg), fun v => (hout q v).trans (Dev.laneOut_above _ _ _ _ hg)⟩
    · exact ⟨hout .., hout ..⟩
    · exact hin _
  · rintro e g key hk hg rfl hp
    have hin := Dev.portIn_acr hk hg hp
    refine ⟨fun w l h => ?_, fun h => ?_, hin _, hin _, fun i hi => Dev.portIn_acr_status hk hg hp hi, hin _,
      fun q _ v => Dev.portOut_acr hk q v⟩
    · exact (hin _).trans (popWord_cons h _)
    · exact (hin _).trans (popWord_nil h _)
  · rintro e h res b hk hh hr rfl hp
    have hin {i : Nat} (hi : i < 4096) := Dev.portIn_mac hk hh hr hp hi
    have hout {i : Nat} (hi : i < 4096) := Dev.portOut_mac hk hh hr hp hi
    refine ⟨fun w u l h' => ?_, fun h' => ?_, hin (i := 1) (by decide), fun i hi => ?_, fun w l h' => ?_, fun h' => ?_,
      fun i hi => ?_, fun v => hout (i := 2) (by decide) v, fun v hroom => ?_, fun v hroom => ?_, fun i hi v => ?_⟩
    · exact (hin (i := 0) (by decide)).trans (popRec_cons h' _)
    · exact (hin (i := 0) (by decide)).trans (popRec_nil h' _)
    · rw [show 0xC004 + i = 0xC000 + (4 + i) by omega, hin (by omega), Dev.macIn_targ hi]
    · exact (hin (i := 8) (by decide)).trans (popWord_cons h' _)
    · exact (hin (i := 8) (by decide)).trans (popWord_nil h' _)
    · rw [show 0xC00C + i = 0xC000 + (0xC + i) by omega, hin (by omega), Dev.macIn_out hi]
    · exact (hout (i := 3) (by decide) v).trans (if_pos hroom)
    · exact (hout (i := 3) (by decide) v).trans (if_neg (by simp [hroom]))
    · rw [show 0xC004 + i = 0xC000 + (4 + i) by omega, hout (by omega), Dev.macOut_targ hi]
  · rintro e t hk rfl hp
    have hin {i : Nat} (hi : i < 4096) := Dev.portIn_trunk hk hp hi
    have hout {i : Nat} (hi : i < 4096) := Dev.portOut_trunk hk hp hi
    obtain ⟨hq1, hq3⟩ := Dev.trunkIn_queue_ne_ioport s.dev
    refine ⟨(hin (i := 4) (by decide)).trans (PortRes.led_word _ _), (hin (i := 5) (by decide)).trans (PortRes.led_word _ _),
      fun h => ?_, fun h => ?_, fun hne => ?_, fun heq => ?_⟩
    · rw [hin (i := 1) (by decide), show s.dev.trunkIn 1 = .wait from popWord_nil h _]
      rfl
    · rw [hin (i := 3) (by decide), show s.dev.trunkIn 3 = .wait from popRec_nil h _]
      rfl
    · have htrail : (s.dev.leader == engHalf e) = false := by simpa using hne
      simp only [hin (i := 1) (by decide), hin (i := 3) (by decide), hout (i := 0) (by decide), hout (i := 2) (by decide),
        htrail]
      exact ⟨PortRes.led_trail hq1, PortRes.led_trail hq3, fun v =>
        ⟨PortRes.led_trail (Dev.trunkOut_queue_ne_ioport s.dev v).1, PortRes.led_trail (Dev.trunkOut_queue_ne_ioport s.dev v).2⟩⟩
    · have hlead : (s.dev.leader == engHalf e) = true := by simpa using heq
      have hin' {i : Nat} (hi : i < 4096) : s.dev.portIn e (0xA000 + i) = s.dev.trunkIn i := by
        rw [hin hi, hlead, PortRes.led_true]
      have hout' {i : Nat} (hi : i < 4096) (v : Word) : s.dev.portOut e (0xA000 + i) v = s.dev.trunkOut i v := by
        rw [hout hi, hlead, PortRes.led_true]
      refine ⟨fun w l h => ?_, fun w u l h => ?_, fun v l ht hl => ⟨fun h => ?_, fun h => ?_⟩,
        fun v ht => ⟨fun h => ?_, fun w l h => ?_⟩, fun v h => ?_, fun v h => ?_⟩
      · exact (hin' (i := 1) (by decide)).trans (popWord_cons h _)
      · exact (hin' (i := 3) (by decide)).trans (popRec_cons h _)
      · exact (hout' (i := 0) (by decide) v).trans (Dev.trunkOut_txd_part ht hl h)
      · exact (hout' (i := 0) (by decide) v).trans (Dev.trunkOut_txd_whole ht hl h)
      · exact (hout' (i := 2) (by decide) v).trans (Dev.trunkOut_rxb_half ht h)
      · exact (hout' (i := 2) (by decide) v).trans (Dev.trunkOut_rxb_whole ht h)
      · exact (hout' (i := 0) (by decide) v).trans (Dev.trunkOut_txd_full v h)
      · exact (hout' (i := 2) (by decide) v).trans (Dev.trunkOut_rxb_full v h)
  · obtain ⟨h1, h2⟩ := eventBodies_reserved (p := p) (rd := rd) s.dev (h.imp_left Fin.val_ne_zero_iff.2)
    exact ⟨acted_issue_fault hl hr h1, acted_issue_fault hl hr h2⟩
  · rintro ch g d hr hc h256 rfl rfl
    exact ⟨fun h => acted_issue_done hl hr (evpostBody_granted hc h256 h) (Cpu.put_pc ..),
      fun h => acted_issue_ok hl hr (evpostBody_refused hc h256 h) (Cpu.put_pc ..)⟩
  · intro ch hr hc h256
    refine ⟨fun h => ?_, fun j d hj hcons hlt hd => ⟨fun h => ?_, fun h hf => ?_, fun d2 h hf hd2 => ?_⟩⟩
    · exact acted_issue_ok hl hr (evwaitBody_stranger hc h256 (Dev.consSlot_none h)) (Cpu.put_pc ..)
    · exact acted_issue_stay hl hr (evwaitBody_waits hc h256 (Dev.consSlot_some hj hcons hlt) h)
    · have hs := evwaitBody_latched (rd := rd) hc h256 (Dev.consSlot_some hj hcons hlt) h
      rw [Dev.takeLatch_first hf, ← hd] at hs
      exact acted_issue_done hl hr hs (Cpu.put_pc ..)
    · have hs := evwaitBody_latched (rd := rd) hc h256 (Dev.consSlot_some hj hcons hlt) h
      rw [Dev.takeLatch_further hf (Dev.consSlot_some hj hcons hlt), ← hd, ← hd2] at hs
      exact acted_issue_done hl hr hs (Cpu.put_pc ..)

end Sys2Proof.Machine

/-! # Proofs: the privileged group and Rim calls as instructions -/

namespace Sys2Proof.Machine

/-- A body that does not name its processor's registers retires with those the device holds. -/
theorem acted_issue_retires {s : State} {p : Proc} {body : Dev → Ex} (hl : s.live) (hr : s.dev.ready p) {e : Dev}
    {cost : Nat} (h : body s.dev = .ok e cost) : acted s (fun d => d.issue p body) =
      .next (s.goes ((e.retire p.num cost ((e.cpu p.num).pc + 4#32)).stepEnd p.num)) := by
  rw [acted_issue hl hr, h, Dev.finish]

/-! ## The privilege check (R53, R72) -/

section Privilege
variable {d : Dev} {p : Proc} (hp : isEng p = false)
include hp

theorem privFault_supervisor (hs : (d.cpu p.num).sup = true) : privFault p d false = none := by
  simp [privFault, hp, hs]

theorem privFault_user (hs : (d.cpu p.num).sup = false) : privFault p d false = some PRIV := by
  simp [privFault, hp, hs]

end Privilege

theorem privFault_engine {d : Dev} {p : Proc} (hp : isEng p = true) (bad : Bool) : privFault p d bad = some ILLEGAL := by
  simp [privFault, hp]

/-! ## MFC and MTC -/

/-- Control registers that are held, not computed (R80). -/
theorem Dev.mfcValue_held (d : Dev) (p : Proc) {k : Nat} (h : k < 9 ∨ (10 < k ∧ k < 17) ∨ k = 18 ∨ 32 ≤ k) :
    d.mfcValue p k = some ((d.cpu p.num).creg k) := by
  have h9 : k ≠ 9 := by omega
  have h10 : k ≠ 10 := by omega
  have h17 : k ≠ 17 := by omega
  have h19 : k ≠ 19 := by omega
  have h20 : ¬ (20 ≤ k ∧ k < 32) := by omega
  simp [Dev.mfcValue, h9, h10, h17, h19, h20]

theorem Cpu.latchRetired_other (c : Cpu) {k : Nat} (h : k ≠ 17) : c.latchRetired k = c := if_neg h

/-- Control registers that MTC writes whole. -/
theorem mtcMask_whole {k : Nat} (h2 : 2 ≤ k) (h17 : k < 17) (h3 : k ≠ 3) (h4 : k ≠ 4) (h5 : k ≠ 5) (h9 : k ≠ 9) (h10 : k ≠ 10) :
    mtcMask k = some 0xFFFFFFFF#32 := by
  have ha : ¬ k < 2 := by omega
  have hb : ¬ (k = 3 ∨ k = 4 ∨ k = 9 ∨ k = 10 ∨ (17 ≤ k ∧ k < 32)) := by omega
  have hc : k < 32 := by omega
  simp only [mtcMask, if_neg ha, if_neg hb, if_neg h5, if_pos hc]

theorem mtcMask_read_only {k : Nat} (h : k = 3 ∨ k = 4) : mtcMask k = none := by
  rcases h with rfl | rfl
  · rfl
  · rfl

theorem mtcMask_low {k : Nat} (h : k < 3) : (mtcMask k).isNone = false := by
  have : k = 0 ∨ k = 1 ∨ k = 2 := by omega
  rcases this with rfl | rfl | rfl
  · rfl
  · rfl
  · rfl

section ControlRegisters
variable {d : Dev} {p : Proc} {rd ra k : Nat} (hp : isEng p = false)
include hp

theorem mfcBody_supervisor (hs : (d.cpu p.num).sup = true) (h : k < 9 ∨ (10 < k ∧ k < 17) ∨ k = 18 ∨ 32 ≤ k) :
    mfcBody p rd 0 k d = .ok (d.setCpu p.num ((d.cpu p.num).put rd ((d.cpu p.num).creg k))) 1 := by
  have h17 : k ≠ 17 := by omega
  have hv := d.mfcValue_held p h
  simp only [mfcBody, hv, bne_self_eq_false, Option.isNone_some, Bool.or_self, privFault_supervisor hp hs, Dev.onCpu,
    Cpu.latchRetired_other _ h17]

theorem mfcBody_user (hs : (d.cpu p.num).sup = false) (h : k < 9) : mfcBody p rd 0 k d = .fault PRIV := by
  have hv := d.mfcValue_held p (Or.inl h)
  simp only [mfcBody, hv, bne_self_eq_false, Option.isNone_some, Bool.or_self, privFault_user hp hs]

theorem mtcBody_whole (hs : (d.cpu p.num).sup = true) (hm : mtcMask k = some 0xFFFFFFFF#32) :
    mtcBody p 0 ra k d = .ok (d.setCpu p.num ((d.cpu p.num).setCreg k ((d.cpu p.num).get ra))) 1 := by
  have hall (w : Word) : w &&& 0xFFFFFFFF#32 = w := BitVec.and_allOnes
  simp only [mtcBody, hm, bne_self_eq_false, Option.isNone_some, Bool.or_self, privFault_supervisor hp hs, Dev.onCpu, hall]

omit hp in
theorem mtcBody_read_only (h : k = 3 ∨ k = 4) : mtcBody p 0 ra k d = .fault ILLEGAL := by
  have hm := mtcMask_read_only h
  have hf : privFault p d true = some ILLEGAL := by simp [privFault]
  simp only [mtcBody, hm, Option.isNone_none, Bool.or_true, hf]

theorem mtcBody_user (hs : (d.cpu p.num).sup = false) (h : k < 3) : mtcBody p 0 ra k d = .fault PRIV := by
  have hm := mtcMask_low h
  simp only [mtcBody, hm, bne_self_eq_false, Bool.or_self, privFault_user hp hs]

theorem wfiBody_supervisor (hs : (d.cpu p.num).sup = true) :
    wfiBody p 0 0 0 d = if d.anyEnabled p.num then .ok d 1 else .stay (d.beginWait p.num .wfi) := by
  simp only [wfiBody, sysRes, bne_self_eq_false, Bool.or_self, privFault_supervisor hp hs]

theorem returnBodies_user (hs : (d.cpu p.num).sup = false) :
    eretBody p 0 0 0 d = .fault PRIV ∧ wfiBody p 0 0 0 d = .fault PRIV := by
  simp only [eretBody, wfiBody, sysRes, bne_self_eq_false, Bool.or_self, privFault_user hp hs, and_self]

end ControlRegisters

/-- On an engine the whole group is ILLEGAL. -/
theorem systemBodies_engine {p : Proc} (hp : isEng p = true) (d : Dev) (rd ra k : Nat) :
    mfcBody p rd ra k d = .fault ILLEGAL ∧ mtcBody p rd ra k d = .fault ILLEGAL ∧ eretBody p rd ra k d = .fault ILLEGAL ∧
      wfiBody p rd ra k d = .fault ILLEGAL ∧ syscBody p rd ra k d = .fault ILLEGAL := by
  simp only [mfcBody, mtcBody, eretBody, wfiBody, syscBody, privFault_engine hp, hp, Bool.true_or, if_true, and_self]

/-- Opcode 0 is reserved. -/
theorem reservedWord_zero {w : Word} (h : w.extractLsb' 26 6 = 0#6) : reservedWord w = true := by
  have hop : fld w 26 6 = 0 := by
    have := congrArg BitVec.toNat h
    simpa [fld] using this
  simp [reservedWord, reservedOp, hop]

/-- Settles O26, register by register and mode by mode. -/
theorem systemGroup : Obligations.SystemGroup := by
  rintro s p c rd ra k hl hr rfl
  refine ⟨fun hp hs => ⟨fun h => ?_, fun h2 h17 h3 h4 h5 h9 h10 => ?_, fun h => ?_, fun h => ?_, fun h => ?_, fun h => ?_⟩,
    fun hp hs => ⟨fun h => ?_, fun h => ?_, ?_, ?_⟩, fun hp => ?_, fun hp => ?_, fun n => ?_, fun w h => ?_⟩
  · exact acted_issue_ok hl hr (mfcBody_supervisor hp hs h) (Cpu.put_pc ..)
  · exact acted_issue_ok hl hr (mtcBody_whole hp hs (mtcMask_whole h2 h17 h3 h4 h5 h9 h10)) rfl
  · exact acted_issue_fault hl hr (mtcBody_read_only h)
  · rw [exec_eret_supervisor hl hr hp hs, Cpu.eret_to_supervisor h]
  · exact acted_issue_stay hl hr ((wfiBody_supervisor hp hs).trans (if_neg (by simp [h])))
  · exact acted_issue_retires hl hr ((wfiBody_supervisor hp hs).trans (if_pos h))
  · exact acted_issue_fault hl hr (mfcBody_user hp hs h)
  · exact acted_issue_fault hl hr (mtcBody_user hp hs h)
  · exact acted_issue_fault hl hr (returnBodies_user hp hs).1
  · exact acted_issue_fault hl hr (returnBodies_user hp hs).2
  · obtain ⟨h1, h2, h3, h4, h5⟩ := systemBodies_engine hp s.dev rd ra k
    exact ⟨acted_issue_fault hl hr h1, acted_issue_fault hl hr h2, acted_issue_fault hl hr h3, acted_issue_fault hl hr h4,
      acted_issue_fault hl hr h5⟩
  · exact acted_issue_fault hl hr (by simp [syscBody, hp, sysRes])
  · exact acted_issue_fault hl hr rfl
  · refine acted_eq hl ?_
    rw [if_pos (reservedWord_zero h), Dev.issue_ready hr]
    rfl

/-! ## RCALL and RWAIT (R88, R115) -/

section RimCalls
variable {d : Dev} {h : Half} {rd : Nat} {imm : BitVec 16} (hs : (d.cpu (Proc.mp h).num).sup = true)
include hs

theorem rimFault_supervisor : rimFault (.mp h) d false = none := privFault_supervisor rfl hs

theorem rcallBody_posts {t : Nat} (ht : d.freeTags h.toNat = [t]) {e : Dev}
    (he : e = d.postCall (8 * h.toNat + t) imm.toNat ((List.range 6).map fun i => (d.cpu (Proc.mp h).num).get (1 + i))) :
    rcallBody (.mp h) rd 0 imm d = .ok (e.setCpu (Proc.mp h).num (((e.cpu (Proc.mp h).num).setFlags
      { (e.cpu (Proc.mp h).num).flags with z := true }).put rd (wd t))) 1 := by
  have hh : (Proc.mp h).num - 64 = h.toNat := Nat.add_sub_cancel_left ..
  have hpick : d.pickTag h.toNat = some (d, t) := by simp only [Dev.pickTag, ht]
  simp only [rcallBody, bne_self_eq_false, rimFault_supervisor hs, hh, hpick, ← he, Dev.onCpu]

theorem rcallBody_full (ht : d.freeTags h.toNat = []) : rcallBody (.mp h) rd 0 imm d =
    .ok (d.setCpu (Proc.mp h).num (((d.cpu (Proc.mp h).num).setFlags
      { (d.cpu (Proc.mp h).num).flags with z := false }).put rd 0#32)) 1 := by
  have hh : (Proc.mp h).num - 64 = h.toNat := Nat.add_sub_cancel_left ..
  have hpick : d.pickTag h.toNat = none := by simp only [Dev.pickTag, ht]
  simp only [rcallBody, bne_self_eq_false, rimFault_supervisor hs, hh, hpick, Dev.onCpu]

/-- RWAIT by what its slot holds: a reply, a call, or neither. -/
theorem rwaitBody_eq (h8 : imm.toNat < 8) : rwaitBody (.mp h) 0 0 imm d =
    if d.b R.RIMX_MBPEND (16 + (8 * h.toNat + imm.toNat)) then .ok (d.takeReply (Proc.mp h).num imm.toNat) 1
    else if d.b R.RIMX_MBPEND (8 * h.toNat + imm.toNat) then .stay (d.beginWait (Proc.mp h).num (.rim imm.toNat))
    else .ok (d.setCpu (Proc.mp h).num (((((((d.cpu (Proc.mp h).num).put 1 0xFFFFFFFF#32).put 2 0#32).put 3 0#32).put 4
      0#32).put 5 0#32).put 6 0#32)) 1 := by
  have hh : (Proc.mp h).num - 64 = h.toNat := Nat.add_sub_cancel_left ..
  have hlow : decide (8 ≤ imm.toNat) = false := by simpa using h8
  simp only [rwaitBody, bne_self_eq_false, hlow, Bool.or_self, rimFault_supervisor hs, hh, Dev.onCpu]
  rfl

end RimCalls

theorem Dev.interruptEntry_taken {d : Dev} {p : Proc} {src : Nat} (hx : d.executing p.num = true)
    (he : d.eligible p.num = some src) : d.interruptEntry p = d.takeInterrupt p.num src := by
  simp only [Dev.interruptEntry, hx, he, if_true]

/-- Settles O27, from what each slot of the mailbox holds. -/
theorem rimCallInstructions : Obligations.RimCallInstructions := by
  rintro s h p c rd imm hl rfl rfl hs
  refine ⟨fun q src hx he => ?_, fun t d hr ht hd => ?_, fun hr ht => ?_, fun d hr h8 hrep hd => ?_,
    fun hr h8 hrep hcall => ?_, fun hr h8 hrep hcall => ?_⟩
  · exact acted_eq hl (Dev.interruptEntry_taken hx he)
  · exact acted_issue_done hl hr (rcallBody_posts hs ht hd) (by simp)
  · exact acted_issue_ok hl hr (rcallBody_full hs ht) (by simp)
  · rw [hd]
    exact acted_issue_retires hl hr ((rwaitBody_eq hs h8).trans (if_pos hrep))
  · exact acted_issue_stay hl hr ((rwaitBody_eq hs h8).trans (by simp [hrep, hcall]))
  · exact acted_issue_ok hl hr ((rwaitBody_eq hs h8).trans (by simp [hrep, hcall])) (by simp)

end Sys2Proof.Machine

/-! # Proofs: engine commands, handovers and watchdogs -/

namespace Sys2Proof.Machine

/-! ## Engine commands (R121 to R123) -/

section EngineCommands
variable {s d : Dev} {n : Nat} (hd : d = s.setB (R.WEN_STATUS n) 31 false)
include hd

theorem Dev.wenCmd_load (h : d.engState n = 0 ∨ d.engState n = 2) : s.wenCmd n 1 = d.engLoad n := by
  simp only [Dev.wenCmd, ← hd]
  rw [if_pos ⟨trivial, h⟩]

theorem Dev.wenCmd_start (h : d.engState n = 2) : s.wenCmd n 2 = d.engStart n := by
  simp [Dev.wenCmd, ← hd, h]

theorem Dev.wenCmd_stop (h : d.engState n = 3) : s.wenCmd n 3 =
    (((d.placeMarker n).onCpu n fun c => { c with wait := .none }).engTo n 6).engDone n 0 := by
  simp [Dev.wenCmd, ← hd, h]

theorem Dev.wenCmd_clear (h : d.engState n = 2 ∨ d.engState n = 5 ∨ d.engState n = 6) :
    s.wenCmd n 4 = (d.engClear n).engDone n 0 := by
  simp [Dev.wenCmd, ← hd, h]

/-- In PARKED every command is BAD_STATE. -/
theorem Dev.wenCmd_parked (h : d.engState n = 4) (code : Nat) : s.wenCmd n code = d.engDone n 1 := by
  simp [Dev.wenCmd, ← hd, h]

end EngineCommands

section EngineParameters
variable {d : Dev} {n : Nat}

/-- LOAD of a valid source, destination and length is accepted (log 61). -/
theorem Dev.engLoad_valid {src dst : Word} {len : Nat} (hsrc : src = d.reg (R.WEN_LOADSRC n))
    (hdst : dst = d.reg (R.WEN_LOADDST n)) (hlen : len = d.f (R.WEN_LOADLEN n) 0 15) (h4 : src.toNat % 4 = 0)
    (hlo : 0x41000000 ≤ src.toNat) (hhi : src.toNat ≤ 0x41FFFFFF) (h0 : len ≠ 0) (hl4 : len % 4 = 0)
    (hend : fld dst 0 14 + len ≤ 16384) : d.engLoad n =
      (d.setWen (engHalf n) { d.wen (engHalf n) with
        loads := (d.wen (engHalf n)).loads.filter (fun l => l.1 != n) ++ [(n, src.toNat, dst, len)] }).engTo n 1 := by
  have hok : ¬ (src.toNat % 4 ≠ 0 || !decide (0x41000000 ≤ src.toNat ∧ src.toNat ≤ 0x41FFFFFF) || len = 0 ||
      len % 4 ≠ 0 || decide (16384 < fld dst 0 14 + len)) = true := by
    simp [h4, hlo, hhi, h0, hl4, hend]
  simp only [Dev.engLoad, ← hsrc, ← hdst, ← hlen]
  rw [if_neg hok]

/-- START with its parameters in range, its role free and fitting, and its budget available. -/
theorem Dev.engStart_valid (he : (d.reg (R.WEN_ENTRY n)).toNat % 4 = 0) (hrange : (d.reg (R.WEN_ENTRY n)).toNat < 0x4000)
    (hs : (d.reg (R.WEN_SP n)).toNat % 4 = 0) (hlo : (d.reg (R.WEN_STKLO n)).toNat ≤ (d.reg (R.WEN_SP n)).toNat)
    (hhi : (d.reg (R.WEN_SP n)).toNat ≤ (d.reg (R.WEN_STKHI n)).toNat) (hfit : roleFits n (d.roleKind n) (d.roleRes n) = true)
    (hfree : d.roleTaken n = false) (hb : d.engAvail n = true) : d.engStart n =
      (((d.newGen n).1.engRun n { ({} : Cpu).put 31 (d.reg (R.WEN_SP n)) with pc := d.reg (R.WEN_ENTRY n) }).engDone n 0) := by
  have hok : ¬ ((d.reg (R.WEN_ENTRY n)).toNat % 4 ≠ 0 || !decide ((d.reg (R.WEN_ENTRY n)).toNat < 0x4000) ||
      (d.reg (R.WEN_SP n)).toNat % 4 ≠ 0 || !decide ((d.reg (R.WEN_STKLO n)).toNat ≤ (d.reg (R.WEN_SP n)).toNat ∧
        (d.reg (R.WEN_SP n)).toNat ≤ (d.reg (R.WEN_STKHI n)).toNat)) = true := by
    simp [he, hrange, hs, hlo, hhi]
  have hword (k : Nat) : wd (d.reg k).toNat = d.reg k := BitVec.ofNat_toNat ..|>.trans (BitVec.setWidth_eq ..)
  simp only [Dev.engStart, if_neg hok, hfit, hfree, hb, Bool.not_true, Bool.or_self, Bool.false_eq_true, if_false, hword]

/-- The copy of LOAD ends from memory free of double-bit errors. -/
theorem Dev.engLoadDone_copies {src len f pd : Nat} {dst : Word} {e : Dev} {x : Dev × List Byte} (hst : d.engState n = 1)
    (hload : (d.wen (engHalf n)).loads.find? (fun x => x.1 == n) = some (n, src, dst, len))
    (he : e = d.setWen (engHalf n) { d.wen (engHalf n) with
      loads := (d.wen (engHalf n)).loads.filter fun x => x.1 != n })
    (hbad : e.loadBad (engHalf n) (src - 0x40000000) len = false) (hwin : winPlace (engHalf n) (src - 0x40000000) = some (f, pd))
    (hx : x = loadOctets (engHalf n) len (src - 0x40000000) e) : d.engLoadDone n =
      ((((((x.1.eccScrub f len).msTraffic f len 2).wrBytes (engBase n + (if bitOf dst 16 then 0x4000 else 0) + fld dst 0 14)
        x.2).setReg (R.WEN_LOADCRC n) (crc32 x.2)).engTo n 2).engDone n 0) := by
  unfold Dev.engLoadDone
  extract_lets h w e'
  have hload' : w.loads.find? (fun x => x.1 == n) = some (n, src, dst, len) := hload
  have he' : e' = e := he.symm
  rw [hload']
  split
  · next heq => cases heq
  · next heq =>
    cases heq
    rw [if_neg (not_not_intro hst)]
    extract_lets off
    rw [he', if_neg (by simp [show e.loadBad h off len = false from hbad]),
      show loadOctets h len off e = x from hx.symm]
    rw [show winPlace h off = some (f, pd) from hwin]

end EngineParameters

/-- Settles O28: each command in a state that accepts it, and BAD_STATE in PARKED. That LOAD takes its fields when it is
accepted, and LOADDST keeps its low bits as written, is the model's choice (log 61). -/
theorem engineCommands : Obligations.EngineCommands := by
  intro s r e d hl hw hd
  refine ⟨fun src dst len hst hsrc hdst hlen h4 hlo hhi h0 hl4 hend => ?_, fun hst he hrange hs hlo hhi hfit hfree hb => ?_,
    fun hst => ?_, fun hst => ?_, fun hst => ?_, ?_⟩
  · exact acted_byWrite_eq hl hw ((Dev.wenCmd_load hd hst).trans
      (Dev.engLoad_valid hsrc hdst hlen h4 hlo hhi h0 hl4 hend))
  · exact acted_byWrite_eq hl hw ((Dev.wenCmd_start hd hst).trans (Dev.engStart_valid he hrange hs hlo hhi hfit hfree hb))
  · exact acted_byWrite_eq hl hw (Dev.wenCmd_stop hd hst)
  · exact acted_byWrite_eq hl hw (Dev.wenCmd_clear hd hst)
  · have h := Dev.wenCmd_parked hd hst
    exact ⟨acted_byWrite_eq hl hw (h 1), acted_byWrite_eq hl hw (h 2), acted_byWrite_eq hl hw (h 3),
      acted_byWrite_eq hl hw (h 4)⟩
  · intro src dst len f pd x hst hload e he hbad hwin hx
    exact acted_eq hl (Dev.engLoadDone_copies hst hload he hbad hwin hx)

/-! ## Fields of a packed word -/

theorem bitOf_pack {i : Nat} (hi : i < 32) (l : List (Nat × Nat)) :
    bitOf (pack l) i = l.any fun e => decide (e.1 ≤ i) && e.2.testBit (i - e.1) := by
  induction l with
  | nil => simp [pack, bitOf]
  | cons e r ih =>
    have hone : bitOf (BitVec.ofNat 32 (e.2 <<< e.1)) i = (decide (e.1 ≤ i) && e.2.testBit (i - e.1)) := by
      rw [bitOf, BitVec.getLsbD_ofNat, Nat.testBit_shiftLeft]
      simp [hi]
    rw [List.any_cons, ← ih, ← hone]
    simp [pack, bitOf]

/-- A field of a packed word is what was packed there, where nothing packed elsewhere reaches it. -/
theorem fld_pack {l : List (Nat × Nat)} {lo n v : Nat} (hn : lo + n ≤ 32) (hv : v < 2 ^ n)
    (h : ∀ i < n, (l.any fun e => decide (e.1 ≤ lo + i) && e.2.testBit (lo + i - e.1)) = v.testBit i) :
    fld (pack l) lo n = v := by
  refine Nat.eq_of_testBit_eq fun i => ?_
  rw [testBit_fld]
  by_cases hi : i < n
  · rw [bitOf_pack (by omega), h i hi]
    simp [hi]
  · have hpow : v < 2 ^ i := Nat.lt_of_lt_of_le hv (Nat.pow_le_pow_right (by decide) (by omega))
    simp [hi, Nat.testBit_lt_two_pow hpow]

/-! ## The word of a handover request (R128) -/

section HandoverWord
variable (src tgt : Fin 64) {kind : Nat} (force : Bool)

theorem fld_hoWord_src : fld (hoWord src tgt kind force) 0 6 = src := by
  refine fld_pack (by decide) src.isLt fun i hi => ?_
  have h31 : ¬ 31 ≤ i := by omega
  have h29 : ¬ 29 ≤ i := by omega
  have h8 : ¬ 8 ≤ i := by omega
  simp [h31, h29, h8]

theorem fld_hoWord_tgt : fld (hoWord src tgt kind force) 8 6 = tgt := by
  refine fld_pack (by decide) tgt.isLt fun i hi => ?_
  have h31 : ¬ 31 ≤ 8 + i := by omega
  have h29 : ¬ 29 ≤ 8 + i := by omega
  have hsrc : (src : Nat).testBit (8 + i) = false :=
    Nat.testBit_lt_two_pow (Nat.lt_of_lt_of_le src.isLt (Nat.pow_le_pow_right (n := 2) (by decide) (by omega : 6 ≤ 8 + i)))
  simp [h31, h29, hsrc]

theorem fld_hoWord_kind (hk : kind < 2) : fld (hoWord src tgt kind force) 29 2 = kind := by
  refine fld_pack (by decide) (by omega) fun i hi => ?_
  have hsmall {v k : Nat} (hv : v < 2 ^ 6) (hk : 6 ≤ k) : v.testBit k = false :=
    Nat.testBit_lt_two_pow (Nat.lt_of_lt_of_le hv (Nat.pow_le_pow_right (by decide) hk))
  have h31 : ¬ 31 ≤ 29 + i := by omega
  have htgt : (tgt : Nat).testBit (29 + i - 8) = false := hsmall tgt.isLt (by omega)
  have hsrc : (src : Nat).testBit (29 + i) = false := hsmall src.isLt (by omega)
  simp [h31, htgt, hsrc]

theorem bitOf_hoWord_force (hk : kind < 2) : bitOf (hoWord src tgt kind force) 31 = force := by
  have hsmall {v k : Nat} (hv : v < 2 ^ 6) (hk : 6 ≤ k) : v.testBit k = false :=
    Nat.testBit_lt_two_pow (Nat.lt_of_lt_of_le hv (Nat.pow_le_pow_right (by decide) hk))
  have hkind : kind.testBit 2 = false := Nat.testBit_lt_two_pow (by omega)
  rw [hoWord, bitOf_pack (by decide)]
  simp [hkind, hsmall tgt.isLt (by decide : 6 ≤ 23), hsmall src.isLt (by decide : 6 ≤ 31)]
  cases force with
  | false => rfl
  | true => rfl

end HandoverWord

/-! ## Handovers (R128, R129, R132) -/

section HandoverRequest
variable {d : Dev} {h : Nat} {src tgt : Fin 64} {kind : Nat} {force : Bool}

/-- A half with a handover pending answers BUSY. -/
theorem Dev.hoCmd_busy {x : Handover} (hx : (d.wen h).ho = some x) : d.hoCmd h (hoWord src tgt kind force) =
    d.setReg (R.WENH_HOSTAT h) (pack [(31, 1), (24, 5), (20, 0), (8, tgt.val), (0, src.val)]) := by
  simp only [Dev.hoCmd, fld_hoWord_src, fld_hoWord_tgt, hx, Option.isSome_some, if_true]
  rfl

/-- A role that a third engine runs is not handed over (R116). -/
theorem Dev.hoCmd_third (hx : (d.wen h).ho = none) (hr : d.roleRuns src tgt = true) :
    d.hoCmd h (hoWord src tgt kind force) =
      d.setReg (R.WENH_HOSTAT h) (pack [(31, 1), (24, 3), (20, 0), (8, tgt.val), (0, src.val)]) := by
  simp only [Dev.hoCmd, fld_hoWord_src, fld_hoWord_tgt, hx, hr, Option.isSome_none, Bool.or_true, Bool.false_eq_true,
    if_false, if_true]
  rfl

/-- A request that no check refuses becomes pending, and with a forced source runs at once. -/
theorem Dev.hoCmd_pending (hk : kind < 2) (hx : (d.wen h).ho = none) (hs : engHalf src = h) (ht : engHalf tgt = h)
    (hne : src ≠ tgt) (hfit : roleFits tgt (d.roleKind src) (d.roleRes src) = true) (hruns : d.roleRuns src tgt = false)
    (hready : d.engState tgt = 2) (hkind : d.roleKind tgt = d.roleKind src) (hres : d.roleRes tgt = d.roleRes src)
    (hmem : kind = 0 → d.memPart (engBase src) 0x4000 = d.memPart (engBase tgt) 0x4000)
    (hstate : if force then d.engState src = 5 ∨ d.engState src = 6 else d.engState src = 3) {x : Handover}
    (hxe : x = ⟨src, tgt, kind == 1, d.count + d.f (R.WENH_HOTMO h) 0 24 * 160⟩) {e : Dev}
    (he : e = (((d.setWen h { d.wen h with ho := some x }).setB (R.WEN_STATUS src) 19 true).setB
      (R.WEN_STATUS tgt) 18 true).setReg (R.WENH_HOSTAT h) (pack [(31, 0), (24, 1), (20, 0), (8, tgt.val), (0, src.val)])) :
    d.hoCmd h (hoWord src tgt kind force) = if force then e.hoRun h x true else e := by
  have hne' : ¬ (src : Nat) = tgt := fun h => hne (Fin.ext h)
  have hk' : ¬ 1 < kind := by omega
  have hmem' : (decide (kind = 0) && d.memPart (engBase src) 0x4000 != d.memPart (engBase tgt) 0x4000) = false := by
    by_cases h0 : kind = 0
    · simp [h0, hmem h0]
    · simp [h0]
  have hstate' : (if force then d.engState src != 5 && d.engState src != 6 else d.engState src != 3) = false := by
    cases force with
    | false => simpa using hstate
    | true => simpa [Decidable.or_iff_not_imp_left] using hstate
  subst hxe he
  simp only [Dev.hoCmd, fld_hoWord_src, fld_hoWord_tgt, fld_hoWord_kind src tgt force hk, bitOf_hoWord_force src tgt force hk,
    hx, hs, ht, hne', hk', hfit, hruns, hready, hkind, hres, hmem', hstate', Option.isSome_none, ne_eq, not_true_eq_false,
    decide_false, Bool.not_true, Bool.or_self, Bool.false_eq_true, if_false]
  rfl

theorem Dev.hoTimeout_ends {x : Handover} (hx : (d.wen h).ho = some x) (ht : x.deadline < d.count) :
    d.hoTimeout h = d.hoEnd h x 2 0 := by
  simp only [Dev.hoTimeout, hx, if_pos ht]

end HandoverRequest

section DrainMarker
variable {s d0 d : Dev} {h : Nat} {m : Nat × Nat × Nat} {l : List (Nat × Nat × Nat)} {go : List Held} {next : Option Nat}
  {mine : Held → Bool}

/-- A drain marker passes, and what was held behind it is admitted in its order (log 63). -/
theorem Dev.drainMarker_passes (hm : (s.wen h).markers = m :: l)
    (h0 : d0 = s.setWen h { s.wen h with markers := l }) (hnext : next = (d0.wen h).oldest m.1 m.2.1)
    (hmine : mine = fun x => x.kind == m.1 && x.res == m.2.1 && (next.isNone || next == some x.gen))
    (hgo : go = (s.wen h).hold.filter mine) (htrail : d0.trailTakes h go = true)
    (hd : d = ((d0.setWen h { d0.wen h with hold := (s.wen h).hold.filter fun x => !mine x }).forEach go
      fun d x => match x.what with
        | .plan l => d.planDeliver h l
        | .record r => d.admitRecord h r).showHoldcnt h) :
    s.drainMarker h = if d.b (R.WENH_HOSTAT h) 31 && d.f (R.WENH_HOSTAT h) 24 3 == 0 && (d.wen h).ended == m
      then d.setB (R.WENH_HOSTAT h) 19 true else d := by
  subst hd hgo hmine hnext h0
  simp only [Dev.drainMarker, hm, htrail, Bool.not_true, Bool.false_eq_true, if_false] <;> rfl

end DrainMarker

theorem Dev.runWatchdog_expires {d : Dev} {n : Nat} (hx : d.executing n = true) (hk : d.f (R.WEN_WDOG n) 0 16 ≠ 0)
    (ht : d.f (R.WEN_WDOG n) 0 16 * 1024 < (d.cpu n).units) :
    d.runWatchdog n = (d.engineFault n 32 0#32).engVote n := by
  simp [Dev.runWatchdog, hx, hk, ht]

theorem Dev.waitWatchdog_expires {d : Dev} {n : Nat} (hx : d.executing n = true) (hw : (d.cpu n).wait ≠ .none)
    (hk : d.f (R.WEN_WDOG n) 16 16 ≠ 0) (ht : (d.cpu n).waitAt + d.f (R.WEN_WDOG n) 16 16 * 160000 < d.clk) :
    d.waitWatchdog n = (d.engineFault n 33 0#32).engVote n := by
  simp [Dev.waitWatchdog, hx, hw, hk, ht]

/-- Settles O29. That BUSY overwrites HOSTAT and when DRAINED sets are the model's choices (log 62), and so are what a marker
admits and what its results wait for (log 63) and the clock of the watchdogs (log 64). -/
theorem handovers : Obligations.Handovers := by
  intro s hl
  refine ⟨?_, ?_, ?_, ?_, ?_, ?_, ?_⟩
  · intro r h src tgt kind d hw hx hs ht hne hfit hruns hready hkind hres hmem hd
    have hpend {k : Nat} {force : Bool} (hk : k < 2) (hkk : (k == 1) = kind) := Dev.hoCmd_pending (d := s.dev) (force := force)
      hk hx hs ht hne hfit hruns hready hkind hres
    refine ⟨fun hf hst => ?_, fun hf hst => ?_, fun hst => ?_⟩
    · subst hf
      exact acted_byWrite_eq hl hw (hpend (force := false) (by decide) rfl (fun _ => hmem rfl) hst rfl hd)
    · subst hf
      exact acted_byWrite_eq hl hw (hpend (force := false) (by decide) rfl (by simp) hst rfl hd)
    · cases kind with
      | false => exact acted_byWrite_eq hl hw (hpend (k := 0) (force := true) (by decide) rfl (fun _ => hmem rfl) hst rfl hd)
      | true => exact acted_byWrite_eq hl hw (hpend (k := 1) (force := true) (by decide) rfl (by simp) hst rfl hd)
  · exact fun r h src tgt x hw hx => acted_byWrite_eq hl hw (Dev.hoCmd_busy hx)
  · exact fun h x hx ht => acted_eq hl (Dev.hoTimeout_ends hx ht)
  · exact fun r h src tgt hw hx hr => acted_byWrite_eq hl hw (Dev.hoCmd_third hx hr)
  · intro h m l go next mine d0 d hm h0 hnext hmine hgo htrail hd
    have hpass := Dev.drainMarker_passes hm h0 hnext hmine hgo htrail hd
    refine ⟨fun hne => acted_eq hl ?_, fun heq hdone hres => acted_eq hl ?_⟩
    · rw [hpass, if_neg (by simp [hne])]
    · rw [hpass, if_pos (by simp [hdone, hres, heq])]
  · exact fun e hx hk ht => acted_eq hl (Dev.runWatchdog_expires hx hk ht)
  · exact fun e hx hw hk ht => acted_eq hl (Dev.waitWatchdog_expires hx hw hk ht)

end Sys2Proof.Machine

/-! # Proofs: lane commands and states, and reception -/

namespace Sys2Proof.Machine

/-! ## Lane commands (R149, R150, R157) -/

section LaneCommands
variable {d : Dev} {n mask : Nat}

theorem Dev.laneEnable_bad_state (h : (d.radio n).st ≠ sOFF ∨ d.fw.recov = 1) : d.laneEnable n mask = d.cmdRes n 1 :=
  if_pos (by simpa using h)

theorem Dev.laneEnable_no_ref (hs : (d.radio n).st = sOFF) (hr : d.fw.recov ≠ 1) (ht : d.tbState = 0) :
    d.laneEnable n mask = d.cmdRes n 2 := by
  simp [Dev.laneEnable, hs, hr, ht]

theorem Dev.laneEnable_warms (hs : (d.radio n).st = sOFF) (hr : d.fw.recov ≠ 1) (ht : d.tbState ≠ 0)
    (hp : d.pdRun (50 + laneQuad n) = true) {e : Dev} (he : e = d.setRadio n { d.radio n with
      until_ := d.clk + 32000, enabledAt := d.clk, everEnabled := true, shut := false, curCh := 0
      chw := d.reg (R.LAN_CHW n 0), kept := [] }) : d.laneEnable n mask =
        (((((((e.setPend n (if (d.radio n).everEnabled then (d.radio n).calPend ||| mask else 15)).setAer n 0).setF
          (R.LAN_STATUS n) 16 6 0).setF (R.LAN_CALSTAT n) 24 4 0).cmdRes n 0).setSt n sWARM).vote (16 + n) 0 true) := by
  subst he
  simp [Dev.laneEnable, hs, hr, ht, hp]

theorem Dev.laneDisable_off {move : Bool} (hs : (d.radio n).st = sOFF) : d.laneDisable n move = d.cmdRes n 1 := if_pos hs

theorem Dev.laneDisable_drains {x : Dev × List Offer} (hs : (d.radio n).st ≠ sOFF) (hx : x = (d.cmdRes n 0).drain n) :
    d.laneDisable n true = x.1.onRadio n (fun r => { r with offers := r.offers ++ x.2 }) ∧
      d.laneDisable n false = x.1.withdraw n x.2 := by
  subst hx
  simp [Dev.laneDisable, hs, Dev.drainOffer]

theorem Dev.laneCalibrate_early (hs : (d.radio n).st ≤ sWARM) : d.laneCalibrate n mask = d.cmdRes n 1 := if_pos hs

theorem Dev.laneCalibrate_pends (hs : sWARM < (d.radio n).st) :
    d.laneCalibrate n mask = (d.setPend n ((d.radio n).calPend ||| mask)).cmdRes n 0 := if_neg (Nat.not_le.2 hs)

end LaneCommands

/-! ## The ends of a lane's states -/

section LaneEnds
variable {d : Dev} {n : Nat}

theorem Dev.warmDone_idle (hs : (d.radio n).st = sWARM) (hu : (d.radio n).until_ ≤ d.clk) (hc : (d.radio n).calPend = 0) :
    d.warmDone n = (d.setSt n sIDLER).mayShut n := by
  simp [Dev.warmDone, hs, hu, hc]

theorem Dev.warmDone_calibrates (hs : (d.radio n).st = sWARM) (hu : (d.radio n).until_ ≤ d.clk)
    (hc : (d.radio n).calPend ≠ 0) (hd : (d.radio n).draining = false) : d.warmDone n = d.beginCal n := by
  simp [Dev.warmDone, hs, hu, hc, hd]

theorem Dev.calStart_begins {e : Dev} (he : e = d.beforeGate n) (hs : (e.radio n).st = sIDLER)
    (hc : (e.radio n).calPend ≠ 0) (hd : (e.radio n).draining = false)
    (hfar : ∀ ka ∈ e.armed n, ka.2.cls = 6 ∨ e.count + calTicks (e.radio n).calPend + 3200 ≤ ka.2.fire) :
    d.calStart n = e.beginCal n := by
  have hall : (e.armed n).all (fun ka => ka.2.cls == 6 || decide (e.count + calTicks (e.radio n).calPend + 3200 ≤ ka.2.fire)) =
      true := by simpa using hfar
  simp only [Dev.calStart, ← he, hall]
  simp [hs, hc, hd]

theorem Dev.radioCalEnd_lane {fail : Nat} {temp : Int} {trims : List Word} (hn : n < 16) (hs : (d.radio n).st = sCAL)
    (hu : (d.radio n).until_ ≤ d.clk) (hr : (d.radio n).calRun ≠ 15) :
    d.radioCalEnd n fail temp trims = d.calEnd n fail temp trims := by
  simp [Dev.radioCalEnd, hs, hu, hr, Nat.ne_of_lt hn]

theorem Dev.laneOff_lane {t : Nat} (hn : n < 16) (ho : (d.radio n).offAt = some t) (ht : t ≤ d.clk) : d.laneOff n =
    (((d.onRadio n fun r => { r with
      draining := false, offAt := none, win := none, rx := none, tx := none, air := none }).setB (R.LAN_STATUS n) 31
        false).setSt n sOFF).vote (16 + n) 0 false := by
  simp only [Dev.laneOff, ho, if_pos ht, if_pos hn, if_neg (Nat.ne_of_lt hn)]

theorem Dev.laneOff_trunk {t : Nat} (ho : (d.radio 16).offAt = some t) (ht : t ≤ d.clk) {e : Dev}
    (he : e = d.onRadio 16 fun r => { r with
      draining := false, offAt := none, win := none, rx := none, tx := none, air := none }) : d.laneOff 16 =
    (((({ e with trunk := { e.trunk with paFrom := none, paTo := none } } : Dev).trunkOff).setSt 16 sOFF).vote 12 0 false) := by
  subst he
  simp only [Dev.laneOff, ho, if_pos ht]
  rfl

theorem Dev.laneShutdown_no_offers {e : Dev} (he : d.laneOff n = e) (h : (e.radio n).offers = []) :
    d.laneShutdown n = e := by
  simp [Dev.laneShutdown, he, h]

theorem Dev.laneShutdown_withdraws {e : Dev} (he : d.laneOff n = e) (hs : (e.radio n).st = sOFF)
    (h : (e.radio n).offers ≠ []) : d.laneShutdown n =
      (e.onRadio n fun r => { r with offers := [] }).withdraw n ((e.radio n).offers.filter fun x => !e.placedOn n x) := by
  simp [Dev.laneShutdown, he, hs, h]

theorem Dev.txEnd_lane {h : Nat} (hn : n < 16) (hs : (d.radio n).st = sTX) (hu : (d.radio n).until_ ≤ d.clk)
    (ht : (d.radio n).tx = some h) : d.txEnd n =
      (((((d.setSt n sIDLET).capture n 3).endHold n h).onRadio n fun r => { r with tx := none, air := none }).mayShut n) := by
  simp [Dev.txEnd, hs, hu, ht, hn, Nat.ne_of_lt hn]

end LaneEnds

/-- Settles O30. That ROM recovery answers BAD_STATE is the model's choice (log 57; R295 only keeps the lanes off), and so is
that frames offered and not placed end as WITHDRAWN at OFF (log 105). -/
theorem laneStates : Obligations.LaneStates := by
  intro s hl
  refine ⟨fun r n mask d hw => ⟨fun h => ?_, fun h => ?_, fun hs hr ht => ?_, fun hs hr ht hp hd => ?_⟩,
    fun r n hw => ⟨fun hs => ?_, fun x hs hx => ⟨?_, ?_⟩⟩, fun r n mask hw => ⟨fun hs => ?_, fun hs => ?_⟩,
    fun n hs hu => ⟨fun hc => ?_, fun hc hd => ?_⟩, fun n d h0 hs hc hd hfar => ?_,
    fun n u fail temp trims hu hs hun hr => ?_, ?_, ?_, fun n u h hu hs hun ht => ?_⟩
  · exact acted_byWrite_eq hl hw (Dev.laneEnable_bad_state (Or.inl h))
  · exact acted_byWrite_eq hl hw (Dev.laneEnable_bad_state (Or.inr h))
  · exact acted_byWrite_eq hl hw (Dev.laneEnable_no_ref hs hr ht)
  · exact acted_byWrite_eq hl hw (Dev.laneEnable_warms hs hr ht hp hd)
  · exact acted_byWrite_eq hl hw (Dev.laneDisable_off hs)
  · exact acted_byWrite_eq hl hw (Dev.laneDisable_drains hs hx).1
  · exact acted_byWrite_eq hl hw (Dev.laneDisable_drains hs hx).2
  · exact acted_byWrite_eq hl hw (Dev.laneCalibrate_early hs)
  · exact acted_byWrite_eq hl hw (Dev.laneCalibrate_pends hs)
  · exact acted_eq hl (Dev.warmDone_idle hs hu hc)
  · exact acted_eq hl (Dev.warmDone_calibrates hs hu hc hd)
  · exact acted_eq hl (Dev.calStart_begins h0 hs hc hd hfar)
  · exact acted_eq hl (by rw [hu]; exact Dev.radioCalEnd_lane n.isLt hs hun hr)
  · intro n u t d hu ho ht hd
    have hoff : s.dev.laneOff n = d := by rw [Dev.laneOff_lane n.isLt ho ht, hd]
    exact ⟨fun h => acted_eq hl (by rw [hu]; exact Dev.laneShutdown_no_offers hoff h),
      fun hs h => acted_eq hl (by rw [hu]; exact Dev.laneShutdown_withdraws hoff hs h)⟩
  · intro t d e ho ht hd he hno
    have hoff : s.dev.laneOff 16 = e := by rw [Dev.laneOff_trunk ho ht hd, he]
    exact acted_eq hl (Dev.laneShutdown_no_offers hoff hno)
  · exact acted_eq hl (by rw [hu]; exact Dev.txEnd_lane n.isLt hs hun ht)

/-! ## Reception on a path (R188 to R192) -/

section Preamble
variable {d : Dev} {n : Fin 16} {r1 r2 : Nat}

theorem Dev.preamble_detected (hs : d.searching (.lane n) = true)
    (h : d.pathThr (.lane n) ≤ r1 ∧ d.pathThr (.lane n) ≤ r2) {e : Dev}
    (he : e = d.onRadio n fun r => { r with divAer := none, dwellAt := d.clk }) :
    d.preamble (.lane n) r1 r2 = e.setPathRx (.lane n) (some { phy := e.pathPhy (.lane n) }) := by
  subst he
  simp [Dev.preamble, hs, h]

theorem Dev.preamble_missed (h : r1 < d.pathThr (.lane n) ∨ r2 < d.pathThr (.lane n)) : d.preamble (.lane n) r1 r2 = d := by
  have hno : ¬ (d.pathThr (.lane n) ≤ r1 ∧ d.pathThr (.lane n) ≤ r2) := by omega
  have htrunk : (Path.lane n == Path.trunk) = false := rfl
  simp [Dev.preamble, hno, htrunk]

end Preamble

section Frame
variable {d : Dev} {f : RxFrame}

theorem Dev.giveUp_below {x : Path} {l : List Nat} (hx : d.pathRx x = some f) (hs : f.sfd = false)
    (h : ∀ r, r ∈ l → r < d.pathThr x) : d.giveUp x l = (d.setPathRx x none).newSearch x := by
  have hall : l.all (· < d.pathThr x) = true := by simpa using h
  simp [Dev.giveUp, hx, hs, hall]

theorem Dev.giveUp_after_sfd {x : Path} {l : List Nat} (hx : d.pathRx x = some f) (hs : f.sfd = true) : d.giveUp x l = d := by
  simp [Dev.giveUp, hx, hs]

theorem Dev.sfdFound_none {x : Path} {seen : SfdSeen} {back : Nat} (ht : x ≠ .trunk) (hx : d.pathRx x = some f)
    (hm : sfdMatch f.phy seen = none) : d.sfdFound x seen back = d := by
  simp [Dev.sfdFound, hx, ht, hm]

/-- An SFD on a lane without diversity takes the timestamp, a capture of source 0 and a free gain. -/
theorem Dev.sfdFound_lane {n : Fin 16} {seen : SfdSeen} {coded : Bool} {back t : Nat} {e : Dev}
    (hx : d.pathRx (.lane n) = some f) (hs : f.sfd = false) (hm : sfdMatch f.phy seen = some coded)
    (hp : bitOf (d.laneProfile n) 31 = false) (ht : t = (256 * d.count + 2 ^ 72 - back - 0) % 2 ^ 72)
    (he : e = d.onRadio n (fun r => { r with rx := some { f with
      sfd := true, sfdAt := d.clk, coded := coded, sfdCount := t / 256, sub := t % 256
      divShort := false, tbState := d.tbState, slewing := d.slewing } })) : d.sfdFound (.lane n) seen back =
      (e.fresh.2.onRadio n fun r => { r with gain := fld e.fresh.1 0 8 % 12 }).captureAt n 0 (t / 256) (t % 256) := by
  subst ht he
  simp [Dev.sfdFound, hx, hm, hs, hp, Dev.hears, Dev.setPathRx]

end Frame

/-! ## The end of a lane's frame, diversity dwells and lane timers -/

/-- The measures of a frame whose FCS was judged. -/
theorem lqw_judged {st : Nat} (hst : st ≠ 2) (m : Measures) (ovl short : Bool) (aer : Nat) (x : RxFrame) :
    lqw st m 0 (qkind x) ovl false aer 0 short =
      [pack [(16, patt 16 m.rssi), (8, lqiOf m.snr), (0, 0)],
       pack [(16, if phyKind x.phy = 2 then m.evm else m.devErr), (14, if phyKind x.phy = 2 then 1 else 2), (13, b2n ovl),
         (12, 0), (11, aer), (10, b2n short), (8, 0)]] := by
  by_cases h : phyKind x.phy = 2
  · simp [lqw, qkind, hst, h, b2n]
  · simp [lqw, qkind, hst, h, b2n]

theorem Dev.laneFrameEnd_whole {d : Dev} {n : Nat} {f : RxFrame} {e : RxEnd} {peak : Int} {st : Nat}
    (ha : e.abandons f.phy = false) (hst : st = if e.fcsGood f.phy then 0 else 1) (hc : (d.radio n).closeAfter = false) :
    d.laneFrameEnd n f e peak = ((((d.setRadio n { d.radio n with
          rx := none, dwellAt := d.clk, searchPhy := d.lanePhy n, searchThr := fld (d.laneProfile n) 16 8
          heard := some d.clk, divAer := none
          rxq := (d.radio n).rxq ++
            ([pack [(29, st), (28, b2n f.divShort), (16, (e.psdu f.phy).length)]] ++ bytesWords (e.psdu f.phy) ++
              [pack [(16, patt 16 e.m.rssi), (8, lqiOf e.m.snr), (0, 0)],
               pack [(16, if phyKind f.phy = 2 then e.m.evm else e.m.devErr), (14, if phyKind f.phy = 2 then 1 else 2),
                 (13, b2n e.m.clipped), (12, 0), (11, (d.radio n).winAer), (10, b2n f.divShort), (8, 0)]] ++
              [wd f.sfdCount, wd (f.sfdCount / 2 ^ 32), stampWordOf f.sub 0 false f.tbState f.slewing]) }).capture n 1).setAer
        n (d.radio n).winAer).pmcOctets (12 + n) 1 (e.psdu f.phy).length) := by
  have hoct : e.octets f.phy = e.psdu f.phy := by simp [RxEnd.octets, ha]
  have hstat : e.status f.phy = st := by simp [RxEnd.status, ha, hst]
  have hne : st ≠ 2 := by rw [hst]; split <;> decide
  simp only [Dev.laneFrameEnd, hoct, hstat, lqw_judged hne, hc, RxFrame.stamp, Bool.false_eq_true, if_false]

theorem Dev.frameEnd_lane {d : Dev} {n : Fin 16} {f : RxFrame} {e : RxEnd} {peak : Int} (hx : (d.radio n).rx = some f)
    (hs : f.sfd = true) : d.frameEnd (.lane n) e peak = d.laneFrameEnd n f e peak := by
  have hp : d.pathRx (.lane n) = some f := hx
  simp only [Dev.frameEnd, hp, hs, Bool.not_true, Bool.false_eq_true, if_false]

section Dwell
variable {d : Dev} {n energy : Nat}

theorem Dev.dwell_early (h : d.clk < (d.radio n).dwellAt + d.dwellTicks n) : d.dwell n energy = d := by
  simp [Dev.dwell, h]

variable (hs : (d.radio n).st = sRX) (he : (d.radio n).divEnded = false) (hp : bitOf (d.laneProfile n) 31 = true)
  (ht : (d.radio n).dwellAt + d.dwellTicks n ≤ d.clk)
include hs he hp ht

theorem Dev.dwell_alternates (hx : (d.radio n).rx = none) : d.dwell n energy =
    d.setRadio n { d.radio n with dwellAt := d.clk, winAer := 1 - (d.radio n).winAer } := by
  simp [Dev.dwell, hs, he, hp, Nat.not_lt.2 ht, hx]

theorem Dev.dwell_chooses {f : RxFrame} {first : Nat} (hx : (d.radio n).rx = some f) (hsfd : f.sfd = false)
    (hsel : f.sel = false) (hd : (d.radio n).divAer = some first) : d.dwell n energy =
      d.setRadio n { d.radio n with
        dwellAt := d.clk
        winAer := if first < energy then (d.radio n).winAer else 1 - (d.radio n).winAer
        rx := some { f with sel := true } } := by
  simp [Dev.dwell, hs, he, hp, Nat.not_lt.2 ht, hx, hsfd, hsel, hd]

end Dwell

theorem Dev.laneCompare_captures {d : Dev} {n i : Nat} {cmp : Word} (hs : (d.radio n).st ≠ sOFF)
    (hb : (d.radio n).ltctl.testBit i = true)
    (hc : cmp = if i = 0 then (if (d.radio n).lt0At = d.clk then (d.radio n).lt0Old else (d.radio n).lt0)
      else (if (d.radio n).lt1At = d.clk then (d.radio n).lt1Old else (d.radio n).lt1))
    (ht : d.laneTimer n = cmp.toNat) : d.laneCompare n i = d.capture n (4 + i) := by
  simp only [Dev.laneCompare, ← hc, ht]
  simp [hs, hb]

/-- Settles O31. The gain held from the SFD is a free value (log 116); what the PHR and FCS are judged on and the measures a
record carries are the model's choices (log 106). -/
theorem reception : Obligations.Reception := by
  intro s hl
  refine ⟨fun n r1 r2 d hs hd => ⟨fun h => ?_, fun h => ?_⟩, fun x l f hx => ⟨fun hs h => ?_, fun hs => ?_⟩,
    fun n f seen coded back t d hx hs hm hp ht hd => ?_, fun n f seen back hx hm => ?_,
    fun n f e peak st hx hs ha hst hc => ?_, fun n energy hs he hp => ⟨fun h => ?_, fun ht => ⟨fun hx => ?_, ?_⟩⟩,
    fun n x cmp hs hb hc ht => ?_⟩
  · exact acted_eq hl (Dev.preamble_detected hs h hd)
  · exact acted_eq hl (Dev.preamble_missed h)
  · exact acted_eq hl (Dev.giveUp_below hx hs h)
  · exact acted_eq hl (Dev.giveUp_after_sfd hx hs)
  · exact acted_eq hl (Dev.sfdFound_lane hx hs hm hp ht hd)
  · exact acted_eq hl (Dev.sfdFound_none nofun hx hm)
  · exact acted_eq hl ((Dev.frameEnd_lane hx hs).trans (Dev.laneFrameEnd_whole ha hst hc))
  · exact acted_eq hl (Dev.dwell_early h)
  · exact acted_eq hl (Dev.dwell_alternates hs he hp ht hx)
  · exact fun f first hx hsfd hsel hd => acted_eq hl (Dev.dwell_chooses hs he hp ht hx hsfd hsel hd)
  · exact acted_eq hl (Dev.laneCompare_captures hs hb hc ht)

end Sys2Proof.Machine

/-! # Proofs: the all-channel receivers -/

namespace Sys2Proof.Machine

/-! ## Commands (R162, R164, R165) -/

section AcrCommands
variable {d : Dev} {a : Nat}

theorem Dev.acrEnable_on (h : d.acrState a ≠ 0) : d.acrEnable a = d.acrRefuse a 1 := if_pos h

theorem Dev.acrEnable_no_digitizer (h : d.acrState a = 0) (hc : d.f (R.ACR_CFG a) 6 2 = 0) :
    d.acrEnable a = d.acrRefuse a 2 := by
  simp [Dev.acrEnable, h, hc]

theorem Dev.acrEnable_begins (h : d.acrState a = 0) (hc : d.f (R.ACR_CFG a) 0 2 = 1 ∨ d.f (R.ACR_CFG a) 0 2 = 2)
    (hd : d.f (R.ACR_CFG a) 6 2 ≠ 0) :
    d.acrEnable a = (d.setAcr a { d.acr a with until_ := d.clk + 8000 }).acrRes a 0 true := by
  have hok : ¬ (d.f (R.ACR_CFG a) 0 2 = 0 ∨ d.f (R.ACR_CFG a) 0 2 = 3 ∨ d.f (R.ACR_CFG a) 6 2 = 0) := by omega
  simp [Dev.acrEnable, h, if_neg hok]

theorem Dev.acrStart_wrong (h : d.acrState a ≠ 1) : d.acrStart a = d.acrRefuse a 1 := if_pos h

theorem Dev.acrStart_no_time (h : d.acrState a = 1) (ht : d.tbState = 0) : d.acrStart a = d.acrRefuse a 4 := by
  simp [Dev.acrStart, Dev.acrStartCheck, h, ht]

theorem Dev.acrStart_begins (h : d.acrState a = 1) (hc : d.acrStartCheck a = none) : d.acrStart a =
    ((((d.setAcr a { d.acr a with until_ := d.clk + 102400, back := 3, kind := acrCalKind 0 }).setAcrState a
      2).acrRes a 0 true).unsettleAll a (d.clk + 102400)) := by
  simp only [Dev.acrStart, h, hc, ne_eq, not_true_eq_false, if_false]
  rfl

theorem Dev.acrCalibrate_wrong (h : d.acrState a ≠ 1) : d.acrCalibrate a = d.acrRefuse a 1 := if_pos h

theorem Dev.acrCalibrate_begins (h : d.acrState a = 1) : d.acrCalibrate a =
    (((d.setAcr a { d.acr a with until_ := d.clk + 102400, back := 1, kind := acrCalKind 0 }).setAcrState a
      2).acrRes a 0 true) := by
  simp [Dev.acrCalibrate, Dev.acrBeginCal, h]

theorem Dev.acrStop_wrong (h : d.acrState a < 3) : d.acrStop a = d.acrRefuse a 1 := if_pos h

theorem Dev.acrStop_stops (h : 3 ≤ d.acrState a) (hf : ((d.acrAbandonAll a).acr a).fades = []) :
    d.acrStop a = ((d.acrAbandonAll a).setAcrState a 1).acrRes a 0 false := by
  simp only [Dev.acrStop, if_neg (Nat.not_lt.2 h), hf]
  rfl

theorem Dev.acrDisable_wrong (h : d.acrState a ≠ 1) : d.acrDisable a = d.acrRefuse a 1 := if_pos h

theorem Dev.acrDisable_off (h : d.acrState a = 1) :
    d.acrDisable a = ((d.setAcrState a 0).acrRes a 0 false).acrVote a false := if_neg (not_not_intro h)

theorem Dev.acrEnableDone_stopped (h : d.acrState a = 0) (hb : (d.acr a).busy = true) (ht : (d.acr a).until_ ≤ d.clk) :
    d.acrEnableDone a = ((d.setAcrState a 1).acrDone a).acrVote a true := by
  simp [Dev.acrEnableDone, h, hb, ht]

/-- The end of a calibration begun by CALIBRATE. -/
theorem Dev.acrCalDone_stopped {fail : Nat} {skew : Int} {e f g : Dev} (h : d.acrState a = 2)
    (ht : (d.acr a).until_ ≤ d.clk)
    (he : e = (d.setF (R.ACR_CALSTAT a) 29 3 fail).forEach [0, 1] (fun d p => d.setAcrDig a p { d.acrDig a p with
      dc := if fail.testBit 2 then (d.acrDig a p).dc else (d.acrDig a p).newDc
      image := if fail.testBit 1 then (d.acrDig a p).image else (d.acrDig a p).newImage }))
    (hf : f = if fail.testBit 0 then e else e.setReg (R.ACR_SKEW a) (wd (patt 16 skew)))
    (hg : g = ((f.setAcr a { f.acr a with calTemp := f.acrTemp a + 1000 }).setB (R.ACR_STATUS a) 26 false).acrDone a)
    (hb : (g.acr a).back = 1) : d.acrCalDone a fail skew =
      if fail = 0 then (g.setAcrState a 1).calComplete (86 + 2 * a) else g.setAcrState a 1 := by
  have hback : ((g.setAcrState a 1).acr a).back = 1 := hb
  have hend : d.acrCalEnd a fail skew = g.setAcrState a 1 := by
    simp only [Dev.acrCalEnd, h, ht, ← he, ← hf, ← hg, hb, hback]
    rfl
  simp only [Dev.acrCalDone, h, ht, hend, decide_true, Bool.and_self, if_true]

end AcrCommands

section AcrCentre
variable {d : Dev} {w : Word}

theorem Dev.acrCentre_outside (h : windowOk (d.acrFront 0) (fld w 0 16) = false) :
    d.acrCentre w = d.setB (R.ACR_STATUS 0) 27 true := by
  simp [Dev.acrCentre, h]

theorem Dev.acrCentre_stored (h : windowOk (d.acrFront 0) (fld w 0 16) = true)
    (hs : (d.setReg (R.ACR_CENTRE 0) (w &&& 0xFFFF#32)).acrState 0 < 3) :
    d.acrCentre w = d.setReg (R.ACR_CENTRE 0) (w &&& 0xFFFF#32) := by
  simp only [Dev.acrCentre, h, Bool.not_true, Bool.false_eq_true, if_false, if_pos hs]

theorem Dev.acrCentre_retunes {e f : Dev} (h : windowOk (d.acrFront 0) (fld w 0 16) = true)
    (he : e = (d.setReg (R.ACR_CENTRE 0) (w &&& 0xFFFF#32)).acrAbandonAll 0)
    (hs : 3 ≤ (d.setReg (R.ACR_CENTRE 0) (w &&& 0xFFFF#32)).acrState 0)
    (hf : f = e.forEach ((e.acrEnabled 0).filter fun k => !acrFits 0 k (e.acrFront 0) (e.reg (R.ACRK_CFG 0 k)))
      (fun d k => d.acrUnfit 0 k)) : d.acrCentre w =
        ((((f.setAcr 0 { f.acr 0 with until_ := f.clk + 9600 }).setAcrState 0 4).acrCount 0).unsettleAll 0 (f.clk + 9600)) := by
  simp only [Dev.acrCentre, h, Bool.not_true, Bool.false_eq_true, if_false, if_neg (Nat.not_lt.2 hs), ← he, ← hf]

theorem Dev.acrRetuneEnd_runs (h : d.acrState 0 = 4) (ht : (d.acr 0).until_ ≤ d.clk) :
    d.acrRetuneEnd = (d.setAcrState 0 3).unsettleAll 0 d.clk := by
  simp [Dev.acrRetuneEnd, h, ht]

end AcrCentre

/-- Settles O32. That a centre written out of RUN and RETUNE is stored, and what one written in RETUNE does, is log 19; that
CMDDONE stays 0 with a command in progress is log 107. -/
theorem acrStates : Obligations.AcrStates := by
  intro s hl a
  refine ⟨fun r hw => ⟨fun h => ?_, fun h hc => ?_, fun c hc h h12 hd => ?_, fun h => ?_, fun h ht => ?_, fun h hc => ?_,
    fun h => ?_, fun h => ?_, fun h => ?_, fun h hf => ?_, fun h => ?_, fun h => ?_⟩, fun h hb ht => ?_, ?_,
    fun r w hw => ⟨fun h => ?_, fun d d1 h hd hs hd1 => ?_, fun h hs => ?_⟩, fun h ht => ?_⟩
  · exact acted_byWrite_eq hl hw (Dev.acrEnable_on h)
  · exact acted_byWrite_eq hl hw (Dev.acrEnable_no_digitizer h hc)
  · exact acted_byWrite_eq hl hw (Dev.acrEnable_begins h (hc ▸ h12) hd)
  · exact acted_byWrite_eq hl hw (Dev.acrStart_wrong h)
  · exact acted_byWrite_eq hl hw (Dev.acrStart_no_time h ht)
  · exact acted_byWrite_eq hl hw (Dev.acrStart_begins h hc)
  · exact acted_byWrite_eq hl hw (Dev.acrCalibrate_wrong h)
  · exact acted_byWrite_eq hl hw (Dev.acrCalibrate_begins h)
  · exact acted_byWrite_eq hl hw (Dev.acrStop_wrong h)
  · exact acted_byWrite_eq hl hw (Dev.acrStop_stops h hf)
  · exact acted_byWrite_eq hl hw (Dev.acrDisable_wrong h)
  · exact acted_byWrite_eq hl hw (Dev.acrDisable_off h)
  · exact acted_eq hl (Dev.acrEnableDone_stopped h hb ht)
  · intro fail skew d h ht hd e x he hb hx
    exact acted_eq hl (by rw [Dev.acrCalDone_stopped h ht hd he rfl hb, hx])
  · exact acted_byWrite_eq hl hw (Dev.acrCentre_outside h)
  · exact acted_byWrite_eq hl hw (Dev.acrCentre_retunes h hd hs hd1)
  · exact acted_byWrite_eq hl hw (Dev.acrCentre_stored h hs)
  · exact acted_eq hl (Dev.acrRetuneEnd_runs h ht)

/-! ## Channels (R168, R172, R173, R176) -/

theorem Dev.acrAbandon_idle {d : Dev} {a k p : Nat} (h : (d.acrPath a k p).rx = none) : d.acrAbandon a k p = d := by
  simp only [Dev.acrAbandon, h]

section ChannelEnable
variable {d : Dev} {a k : Nat} {w v : Word} (hv : v = w &&& (if a = 0 then 0xF7FFFFFF#32 else 0xC000FFFF#32))
  (hon : bitOf v 31 = true) (hoff : d.b (R.ACRK_CFG a k) 31 = false)
include hv hon hoff

/-- An enable that does not fit leaves EN at 0 and reports FIT. -/
theorem Dev.acrChanCfg_unfit (hfit : acrFits a k (d.acrFront a) v = false)
    (hmoved : fld (d.reg (R.ACRK_CFG a k)) 16 14 = fld (setBit v 31 false) 16 14)
    (h31 : bitOf (setBit v 31 false) 31 = false) (h30 : bitOf (setBit v 31 false) 30 = false) :
    d.acrChanCfg a k w = (((d.setF (R.ACRK_STATUS a k) 26 2 2).overGone a
      fun d => d.setReg (R.ACRK_CFG a k) (setBit v 31 false)).acrCount a) := by
  have hoff' : bitOf (d.reg (R.ACRK_CFG a k)) 31 = false := hoff
  simp only [Dev.acrChanCfg, ← hv, hon, hoff', hfit, hmoved, h31, h30, Bool.not_true, Bool.not_false, Bool.false_eq_true,
    if_false, if_true, Option.isSome_some, bne_self_eq_false, Bool.false_and, Bool.or_self]

/-- An enable that fits and is within the limit turns the channel on, its paths unsettled. -/
theorem Dev.acrChanCfg_enables (hfit : acrFits a k (d.acrFront a) v = true)
    (hlim : (d.acrEnabled a).length + 1 ≤ d.acrLimit a) (hr0 : (d.acrPath a k 0).rx = none)
    (hr1 : (d.acrPath a k 1).rx = none) {e : Dev}
    (he : e = (((d.overGone a fun d => d.setReg (R.ACRK_CFG a k) v).setB (R.ACRK_STATUS a k) 28 false).acrSearch a k
      0).acrSearch a k 1) : d.acrChanCfg a k w = (e.disturbChan a k e.clk).acrCount a := by
  have hoff' : bitOf (d.reg (R.ACRK_CFG a k)) 31 = false := hoff
  have hlim' : decide (d.acrLimit a < (d.acrEnabled a).length - b2n false + 1) = false := by
    simp only [b2n]
    simpa using hlim
  simp only [Dev.acrChanCfg, ← hv, hon, hoff', hfit, hlim', Bool.not_true, Bool.not_false, Bool.false_eq_true,
    if_false, if_true, Option.isSome_none, Bool.and_false, Dev.acrAbandon_idle hr0, Dev.acrAbandon_idle hr1, ← he,
    Bool.true_or, ite_self, Bool.and_true]

end ChannelEnable

section Swap
variable {d e : Dev} {a k x : Nat}

theorem Dev.acrSwap_fading (h : d.fading a k = true) : d.acrSwap a k x = d.setF (R.ACRK_STATUS a k) 23 3 1 := by
  simp [Dev.acrSwap, h]

theorem Dev.acrSwap_asymmetric (h : d.fading a k = false) (hf : d.acrFull a = true)
    (hs : d.b (R.ACRK_FIRPEND a k) 15 = false) : d.acrSwap a k x = d.setF (R.ACRK_STATUS a k) 23 3 2 := by
  have hs' : bitOf (d.reg (R.ACRK_FIRPEND a k)) 15 = false := hs
  simp [Dev.acrSwap, h, hf, hs']

variable (h : d.fading a k = false) (hf : d.acrFull a = false) (ht : firTaps (d.reg (R.ACRK_FIRPEND a k)) ≤ 64)
  (he : e = d.setF (R.ACRK_STATUS a k) 23 3 0)
include h hf ht he

theorem Dev.acrSwap_at_once : d.acrSwap a k 0 = ((e.keepSets a k e.clk).swapBanks a k).disturbChan a k e.clk := by
  subst he
  simp [Dev.acrSwap, h, hf, Nat.not_lt.2 ht]

theorem Dev.acrSwap_fades (hx : x ≠ 0) (hs : 3 ≤ e.acrState a) {g : Dev} (hg : g = e.keepSets a k e.clk) :
    d.acrSwap a k x = ((g.setAcr a { g.acr a with
      fades := tput pairDflt (g.acr a).fades k (g.clk + x * g.acrTs a k, x) }).setB (R.ACRK_STATUS a k) 29 true) := by
  subst hg
  simp only [Dev.acrSwap, h, hf, ← he, Bool.false_and, Bool.false_or, decide_eq_true_eq, if_neg (Nat.not_lt.2 ht),
    Bool.false_eq_true, if_false, Bool.or_false, if_neg hx, if_neg (Nat.not_lt.2 hs)]

end Swap

theorem Dev.acrFadeEnd_completes {d e : Dev} {a k t : Nat} (h : d.fading a k = true)
    (ht : t = (tget pairDflt (d.acr a).fades k).1) (hle : t ≤ d.clk) (he : e = d.keepSets a k t) :
    d.acrFadeEnd a k = ((e.setAcr a { e.acr a with fades := tdel k (e.acr a).fades }).setB
      (R.ACRK_STATUS a k) 29 false).swapBanks a k := by
  subst ht he
  simp only [Dev.acrFadeEnd, Dev.fadeDone, h, hle, decide_true, Bool.and_self, if_true, Nat.min_eq_right hle]

theorem Dev.acrPdly_small {d : Dev} {a k : Nat} {w : Word}
    (h0 : ((fld (d.reg (R.ACRK_PDLY a k)) 0 8 : Int) - fld w 0 8).natAbs ≤ 1)
    (h1 : ((fld (d.reg (R.ACRK_PDLY a k)) 16 8 : Int) - fld w 16 8).natAbs ≤ 1) :
    d.acrPdly a k w = d.setReg (R.ACRK_PDLY a k) (w &&& 0x00FF00FF#32) := by
  simp [Dev.acrPdly, Dev.forEach, Nat.not_lt.2 h0, Nat.not_lt.2 h1]

theorem Dev.pathSettled_settles {d : Dev} {a k p : Nat} (hs : d.acrState a = 3) (hu : (d.acrPath a k p).settled = false)
    (hr : d.acrRuns a k = true) (hp : d.acrHasPath a k p = true)
    (ht : (d.acrPath a k p).e + frontSpan (d.acrFront a) + (d.acrH a k - 1) * d.acrTs a k ≤ d.clk)
    (ho : (d.acrPath a k p).ovl = false) : d.pathSettled a k p =
      ((d.setAcrPath a k p { d.acrPath a k p with settled := true, ovl := false }).acrSearch a k p).acrSettling a := by
  simp [Dev.pathSettled, hs, hu, hr, hp, ht, ho]

/-! ## Samples and gain steps (R179 to R181) -/

section Gain
variable {d e : Dev} {a p : Nat}

theorem Dev.overranged_in_range {x : Sample} (hs : 3 ≤ d.acrState a) (hx : clampCode a x = x)
    (he : e = d.frontSample a p x) : d.overranged a p x = e.setAcrDig a p { e.acrDig a p with
      lastStrong := if strongCode a x then e.clk else (e.acrDig a p).lastStrong } := by
  subst he
  simp only [Dev.overranged, if_neg (Nat.not_lt.2 hs), if_pos hx]

/-- An over-ranged sample in MANUAL mode orders no step. -/
theorem Dev.overranged_manual {x : Sample} (hs : 3 ≤ d.acrState a) (hx : clampCode a x ≠ x)
    (he : e = (d.setB (R.ACR_OVR a) (30 + p) true).frontSample a p (clampCode a x)) (hm : e.b (R.ACR_AGC a p) 31 = true)
    (ho : (e.acrDig a p).ordered = none) : d.overranged a p x =
      (((e.setAcrDig a p { e.acrDig a p with
        ordered := none, lastOver := some e.clk, lastStrong := e.clk
        e := max (e.acrDig a p).e (e.clk + digStep a) }).disturbDig a p (e.clk + digStep a) true).acrSettling a) := by
  simp only [Dev.overranged, if_neg (Nat.not_lt.2 hs), if_neg hx, ← he, hm, ho, Bool.not_true, Bool.false_and,
    Bool.false_eq_true, if_false, Option.getD_none, ite_self, Nat.max_zero]

section StepDown
variable {t : Nat} (ho : (d.acrDig a p).ordered = some t) (ht : t ≤ d.clk)
  (he : e = d.setAcrDig a p { d.acrDig a p with ordered := none })
include ho ht he

/-- An ordered step lapses where the receiver is frozen or in MANUAL (log 19). -/
theorem Dev.agcDown_lapses (h : e.acrFrozen a = true ∨ e.b (R.ACR_AGC a p) 31 = true) : d.agcDown a p = e := by
  have hg : (e.acrFrozen a || e.acrState a != 3 || e.b (R.ACR_AGC a p) 31) = true := by
    rcases h with h | h
    · rw [h, Bool.true_or, Bool.true_or]
    · rw [h, Bool.or_true]
  simp only [Dev.agcDown, ho, if_neg (Nat.not_lt.2 ht), ← he, hg, if_true]

theorem Dev.agcDown_steps (hf : e.acrFrozen a = false) (hm : e.b (R.ACR_AGC a p) 31 = false) (hs : e.acrState a = 3)
    {g : Dev} (hg : g = (e.setF (R.ACR_AGC a p) 24 3 (min 7 (e.attn a p + 1))).bumpF (R.ACR_AGC a p) 0 8 1) :
    d.agcDown a p = (g.setAcrDig a p { g.acrDig a p with
      e := max (d.acrDig a p).e g.clk }).disturbDig a p g.clk true := by
  simp only [Dev.agcDown, ho, if_neg (Nat.not_lt.2 ht), ← he, hf, hs, hm, bne_self_eq_false, Bool.or_self,
    Bool.false_eq_true, if_false, ← hg]

end StepDown

theorem Dev.agcUp_steps (hm : d.b (R.ACR_AGC a p) 31 = false) (h0 : 0 < d.attn a p) (hs : d.acrState a = 3)
    (hf : d.acrFrozen a = false) (ht : (d.acrDig a p).lastStrong + d.upHold a p ≤ d.clk) (hp : (d.acr a).paths = [])
    (he : e = (d.setF (R.ACR_AGC a p) 24 3 (d.attn a p - 1)).setAcrDig a p { d.acrDig a p with lastStrong := d.clk })
    (hp' : (e.acr a).paths = []) : d.agcUp a p = e.disturbDig a p e.clk false := by
  simp only [Dev.agcUp, hm, h0, hs, hf, ht, hp, ← he, hp', List.any_nil, Bool.not_false, decide_true, beq_self_eq_true,
    Bool.and_self, Bool.true_or, if_true, List.filter_nil]
  rfl

end Gain

/-- Settles O33: SWAP with each answer the statement lists (its words also claim LIMIT, and OK in Full, R172). That an ordered
step lapses when frozen or MANUAL is log 19, the hold after a step up log 20, the codes of samples log 107. -/
theorem acrChannels : Obligations.AcrChannels := by
  intro s hl a
  refine ⟨fun r k w v hw hv hon hoff hfit hmoved h31 h30 => ?_, fun r k w v d hw hv hon hoff hfit hlim hr0 hr1 hd => ?_,
    fun r k x d hw hd => ⟨fun h => ?_, fun h hf hs => ?_, fun h hf ht => ⟨fun hx => ?_, fun d1 hx hs hd1 => ?_⟩⟩,
    fun k t d h ht hle hd => ?_, fun r k w hw h0 h1 => ?_, fun k q hs hu hr hp ht ho => ?_,
    fun q x hs => ⟨fun d hx hd => ?_, fun d hx hd hm ho => ?_⟩,
    fun q t d ho ht hd => ⟨fun h => ?_, fun d1 hf hm hs hd1 => ?_⟩, fun q hm h0 hs hf ht hp d hd hp' => ?_⟩
  · exact acted_byWrite_eq hl hw (Dev.acrChanCfg_unfit hv hon hoff hfit hmoved h31 h30)
  · exact acted_byWrite_eq hl hw (Dev.acrChanCfg_enables hv hon hoff hfit hlim hr0 hr1 hd)
  · exact acted_byWrite_eq hl hw (Dev.acrSwap_fading h)
  · exact acted_byWrite_eq hl hw (Dev.acrSwap_asymmetric h hf hs)
  · exact acted_byWrite_eq hl hw (by rw [hx]; exact Dev.acrSwap_at_once h hf ht hd)
  · exact acted_byWrite_eq hl hw (Dev.acrSwap_fades h hf ht hd hx hs hd1)
  · exact acted_eq hl (Dev.acrFadeEnd_completes h ht hle hd)
  · exact acted_byWrite_eq hl hw (Dev.acrPdly_small h0 h1)
  · exact acted_eq hl (Dev.pathSettled_settles hs hu hr hp ht ho)
  · exact acted_eq hl (Dev.overranged_in_range hs hx hd)
  · exact acted_eq hl (Dev.overranged_manual hs hx hd hm ho)
  · exact acted_eq hl (Dev.agcDown_lapses ho ht hd h)
  · exact acted_eq hl (Dev.agcDown_steps ho ht hd hf hm hs hd1)
  · exact acted_eq hl (Dev.agcUp_steps hm h0 hs hf ht hp hd hp')

end Sys2Proof.Machine

/-! # Proofs: what reset holds -/

namespace Sys2Proof.Machine

/-! ## Operations that leave the power domains and reset as they are -/

section Frame
variable (d : Dev)

theorem Dev.forEach_power {α : Type} {g : Dev → α → Dev} (hg : ∀ e x, (g e x).power = e.power) (l : List α) (d : Dev) :
    (d.forEach l g).power = d.power := by
  induction l generalizing d with
  | nil => rfl
  | cons x r ih => exact (ih (g d x)).trans (hg d x)

@[simp] theorem Dev.bumpF_power (k lo n b : Nat) : (d.bumpF k lo n b).power = d.power := rfl
@[simp] theorem Dev.setPair_power (lo hi v : Nat) : (d.setPair lo hi v).power = d.power := rfl
@[simp] theorem Dev.unmark_power (a : Nat) : (d.unmark a).power = d.power := rfl
@[simp] theorem Dev.wr32_power (a : Nat) (w : Word) : (d.wr32 a w).power = d.power := rfl
@[simp] theorem Dev.accErr_power (r off reason : Nat) (write : Bool) : (d.accErr r off reason write).power = d.power := by
  unfold Dev.accErr
  split <;> rfl

@[simp] theorem Dev.wrBytes_power (a : Nat) (l : List Byte) (d : Dev) : (d.wrBytes a l).power = d.power := by
  induction l generalizing a d with
  | nil => rfl
  | cons x r ih => exact ih (a + 1) ((d.wr8 a x).unmark a)

@[simp] theorem Dev.writeStopped_power (r off : Nat) : (d.writeStopped r off).power = d.power := by
  unfold Dev.writeStopped
  split
  · split
    · rfl
    · exact d.accErr_power ..
  · exact d.accErr_power ..

theorem Dev.byWrite_power (r : Req) (off : Nat) {act : Dev → Dev} (h : (act d).power = d.power) :
    (d.byWrite r off act).power = d.power := by
  unfold Dev.byWrite Dev.writeWith
  split <;> simp only [Acc1.dev, Dev.writeStopped_power, Dev.accErr_power, h]
  split <;> rfl

theorem Dev.byRead_power (r : Req) (off : Nat) (h : ∀ row, (d.readReg r.num off row).1.power = d.power) :
    (d.byRead r off).power = d.power := by
  unfold Dev.byRead Dev.regRead
  cases d.gate r.num off false with
  | stopped => exact d.accErr_power ..
  | go row => exact h row
  | _ => rfl

/-! ### The real-time clock (R371, R372, R378) -/

@[simp] theorem Dev.rtcSync_power : d.rtcSync.power = d.power := by
  unfold Dev.rtcSync
  split <;> rfl

@[simp] theorem Dev.rtcSet_power (w : Word) : (d.rtcSet w).power = d.power := by
  unfold Dev.rtcSet
  dsimp only
  split <;> exact d.rtcSync_power

@[simp] theorem Dev.rtcMove_power (n : Int) : (d.rtcMove n).power = d.power := by
  unfold Dev.rtcMove
  dsimp only
  split
  · exact d.rtcSync_power
  · split <;> exact d.rtcSync_power

@[simp] theorem Dev.rtcShift_power (w : Word) : (d.rtcShift w).power = d.power := by
  unfold Dev.rtcShift
  dsimp only
  (repeat' split) <;> simp

@[simp] theorem Dev.shiftHoldEnd_power : d.shiftHoldEnd.power = d.power := by
  unfold Dev.shiftHoldEnd
  dsimp only
  split <;> exact d.rtcSync_power

@[simp] theorem Dev.trimWindow_power : d.trimWindow.power = d.power := by
  unfold Dev.trimWindow
  split
  · rfl
  · exact d.rtcSync_power

@[simp] theorem Dev.xtalFails_power : d.xtalFails.power = d.power :=
  Dev.rtcSync_power { d with clk := d.clk - ms }

@[simp] theorem Dev.rtcFracRead_power (r : Nat) : (d.rtcFracRead r).1.power = d.power := rfl

theorem Dev.byRead_rtcFrac_power (r : Req) : (d.byRead r R.RTC_FRAC).power = d.power :=
  d.byRead_power r _ fun _ => d.rtcFracRead_power r.num

/-! ### The commissioning area (R420 to R423) -/

@[simp] theorem Dev.caFlip_power (gen state page : Nat) : (d.caFlip gen state page).power = d.power :=
  Dev.wrBytes_power ..

@[simp] theorem Dev.caCopyBack_power : d.caCopyBack.power = d.power := by simp [Dev.caCopyBack]

@[simp] theorem Dev.wrOpen_power (a n : Nat) : (d.wrOpen a n).power = d.power :=
  Dev.forEach_power (g := fun d i => d.fresh.2.wr32 (a + 4 * i) d.fresh.1) (fun _ _ => rfl) _ d

@[simp] theorem Dev.caWrite_power (page : Nat) (l : List Byte) (cut mism : Nat) :
    (d.caWrite page l cut mism).1.power = d.power := by
  unfold Dev.caWrite
  dsimp only
  (repeat' split) <;> simp [Dev.fresh]

@[simp] theorem Dev.caUndo_power (w : CaWr) (k : Nat) : (d.caUndo w k).power = d.power := by simp [Dev.caUndo]

@[simp] theorem Dev.caCollapse_power (tag : Bool) (now : Nat) : (d.caCollapse tag now).power = d.power :=
  Dev.forEach_power (fun e _ => e.caUndo_power ..) _ _

@[simp] theorem Dev.caNow_power : d.caNow.power = d.power := Dev.forEach_power (fun e _ => e.caUndo_power ..) _ _

@[simp] theorem Dev.caLost_power : d.caLost.power = d.power := by
  unfold Dev.caLost
  split
  · exact d.caCollapse_power ..
  · rfl

@[simp] theorem Dev.caFirst_power (cut : Bool) : (d.caFirst cut).power = d.power := by
  unfold Dev.caFirst
  dsimp only
  (repeat' split) <;> simp

@[simp] theorem Dev.caTurn_power (tag : Bool) (page : Nat) (l : List Byte) (mism : Nat) :
    (d.caTurn tag page l mism).1.power = d.power := d.caWrite_power page l 0 mism

/-! ### The contactless tag (R411 to R419) -/

@[simp] theorem Dev.fieldActivation_power : d.fieldActivation.power = d.power := by
  unfold Dev.fieldActivation
  dsimp only
  (repeat' split) <;> rfl

@[simp] theorem Dev.fieldGone_power : d.fieldGone.power = d.power := by
  unfold Dev.fieldGone
  dsimp only
  (repeat' split) <;> simp

@[simp] theorem Dev.lockoutEnd_power : d.lockoutEnd.power = d.power := by
  unfold Dev.lockoutEnd
  dsimp only
  split <;> rfl

@[simp] theorem Dev.clpReqa_power (wupa : Bool) : (d.clpReqa wupa).power = d.power := by
  unfold Dev.clpReqa
  dsimp only
  (repeat' split) <;> rfl

@[simp] theorem Dev.clpAnticoll_power (known : List Bool) : (d.clpAnticoll known).power = d.power := by
  unfold Dev.clpAnticoll
  dsimp only
  split <;> rfl

@[simp] theorem Dev.clpSelect_power (uid : List Byte) : (d.clpSelect uid).power = d.power := by
  unfold Dev.clpSelect
  dsimp only
  (repeat' split) <;> rfl

@[simp] theorem Dev.clpRats_power (fsdi : Nat) : (d.clpRats fsdi).power = d.power := by
  unfold Dev.clpRats
  dsimp only
  split <;> rfl

@[simp] theorem Dev.clpHlta_power : d.clpHlta.power = d.power := by
  unfold Dev.clpHlta
  dsimp only
  (repeat' split) <;> rfl

@[simp] theorem Dev.clpDeselect_power : d.clpDeselect.power = d.power := by
  unfold Dev.clpDeselect
  dsimp only
  split <;> rfl

@[simp] theorem Dev.clpRBlock_power (kind : Nat) : (d.clpRBlock kind).power = d.power := by
  unfold Dev.clpRBlock
  dsimp only
  split
  · split <;> rfl
  · split
    · split <;> rfl
    · rfl

@[simp] theorem Dev.tagReply_power (status : Nat) (data : List Byte) : (d.tagReply status data).power = d.power := rfl

@[simp] theorem Dev.authFail_power : d.authFail.power = d.power := by
  unfold Dev.authFail
  dsimp only
  split <;> rfl

@[simp] theorem Dev.clpGetInfo_power (msg : List Byte) : (d.clpGetInfo msg).power = d.power := by
  unfold Dev.clpGetInfo
  split <;> rfl

@[simp] theorem Dev.clpAuth1_power (msg : List Byte) : (d.clpAuth1 msg).power = d.power := by
  unfold Dev.clpAuth1
  split <;> rfl

@[simp] theorem Dev.clpAuth2_power (msg : List Byte) : (d.clpAuth2 msg).power = d.power := by
  unfold Dev.clpAuth2
  dsimp only
  (repeat' split) <;> simp

@[simp] theorem Dev.clpIdent_power (msg : List Byte) : (d.clpIdent msg).power = d.power := by
  unfold Dev.clpIdent
  split <;> rfl

@[simp] theorem Dev.clpRead_power (msg : List Byte) : (d.clpRead msg).power = d.power := by
  unfold Dev.clpRead
  dsimp only
  split <;> simp

@[simp] theorem Dev.askWtx_power (l : List Nat) : (d.askWtx l).power = d.power := rfl

@[simp] theorem Dev.clpWrite_power (msg : List Byte) (lowField : Bool) (step mism : Nat) :
    (d.clpWrite msg lowField step mism).power = d.power := by
  unfold Dev.clpWrite
  dsimp only
  (repeat' split) <;> simp

@[simp] theorem Dev.clpGeneration_power (msg : List Byte) : (d.clpGeneration msg).power = d.power := by
  unfold Dev.clpGeneration
  dsimp only
  split <;> simp

@[simp] theorem Dev.tagCmd_power (lowField : Bool) (step mism : Nat) (l : List Byte) :
    (d.tagCmd lowField step mism l).power = d.power := by
  unfold Dev.tagCmd
  split
  · simp
  · rfl
  · (repeat' split) <;> simp

@[simp] theorem Dev.tagBlock_power (code : Byte) (msg : List Byte) (more lowField : Bool) (step mism : Nat) :
    (d.tagBlock code msg more lowField step mism).power = d.power := by
  unfold Dev.tagBlock
  dsimp only
  (repeat' split) <;> simp

end Frame

/-! ## Reset itself -/

theorem Dev.wiped_inReset (d : Dev) : d.wiped.power.inReset = true := by
  have hd (e : Dev) : e.discMiss.power = e.power := by
    unfold Dev.discMiss
    split <;> rfl
  rw [Dev.wiped, hd, Dev.forEach_power fun r n => by rw [Dev.setReg_power, Dev.setReg_power]]

theorem Dev.enterReset_inReset (d : Dev) (code arg : Nat) : (d.enterReset code arg).power.inReset = true := by
  unfold Dev.enterReset
  dsimp only
  split
  · next h => split <;> exact h
  · exact Dev.wiped_inReset _

theorem Dev.aonReset_inReset (d : Dev) : d.aonReset.power.inReset = true := d.powerLoss.wiped_inReset

theorem Dev.after_inReset {d : Dev} (h : d.power.inReset = true) : d.after = d := if_pos h

theorem Dev.tick_inReset {d : Dev} (h : d.power.inReset = true) (n : Nat) : (d.tick n).power.inReset = true := by
  have ht : d.tick n = { d with clk := d.clk + 1 } := if_pos h
  rw [ht]
  exact h

theorem always_inReset {s t : State} {f : Dev → Dev} (hf : (f s.dev).power.inReset = true) (ht : always s f = .next t) :
    t.dev.power.inReset = true := by
  rw [always_goes, State.goes, Dev.after_inReset hf] at ht
  cases ht
  exact hf

/-- The commands that do not act in reset are all made by `acted`, which runs nothing there. -/
theorem exec_inReset {s : State} (h : s.dev.power.inReset = true) {i : Instr} (hi : actsInReset i = false) :
    exec i s = .next s := by
  cases i with
  | resetAssert | resetRelease | vddAonEntersRange | rtcFracRead | rtcSetsecHi | rtcShift | shiftHoldEnd | trimWindow
  | xtalFail | fieldActivation | fieldLost | reqa | anticollision | select | rats | hlta | deselect | tagRBlock | getInfo
  | auth1 | auth2 | ident | tagRead | tagWrite | generation | lockoutEnd | caFirstAccess => cases hi
  | _ => exact acted_inReset h _

/-- Of the commands that act in reset, only RESET_RELEASE ends it. -/
theorem exec_keeps_reset {s t : State} (h : s.dev.power.inReset = true) {i : Instr} (hi : actsInReset i = true)
    (hr : i ≠ .resetRelease) (ht : exec i s = .next t) : t.dev.power.inReset = true := by
  have keep {f : Dev → Dev} (hf : ∀ d, (f d).power = d.power) (ht : always s f = .next t) :
      t.dev.power.inReset = true := always_inReset ((hf s.dev).symm ▸ h) ht
  cases i with
  | resetAssert rail => exact always_inReset (f := fun d => d.resetAssert rail) (Dev.enterReset_inReset ..) ht
  | resetRelease => exact absurd rfl hr
  | vddAonEntersRange => exact always_inReset (f := Dev.aonReset) (Dev.aonReset_inReset _) ht
  | rtcFracRead r => exact keep (fun d => d.byRead_rtcFrac_power r) ht
  | rtcSetsecHi r w =>
    exact keep (f := fun d => d.byWrite r R.RTC_SETSEC_HI fun d => d.rtcSet w)
      (fun d => d.byWrite_power r _ (d.rtcSet_power w)) ht
  | rtcShift r w =>
    exact keep (f := fun d => d.byWrite r R.RTC_SHIFT fun d => d.rtcShift w)
      (fun d => d.byWrite_power r _ (d.rtcShift_power w)) ht
  | shiftHoldEnd => exact keep Dev.shiftHoldEnd_power ht
  | trimWindow => exact keep Dev.trimWindow_power ht
  | xtalFail => exact keep Dev.xtalFails_power ht
  | fieldActivation => exact keep Dev.fieldActivation_power ht
  | fieldLost => exact keep Dev.fieldGone_power ht
  | reqa wupa => exact keep (f := fun d => d.clpReqa wupa) (fun d => d.clpReqa_power wupa) ht
  | anticollision known => exact keep (f := fun d => d.clpAnticoll known) (fun d => d.clpAnticoll_power known) ht
  | select uid => exact keep (f := fun d => d.clpSelect uid) (fun d => d.clpSelect_power uid) ht
  | rats fsdi => exact keep (f := fun d => d.clpRats fsdi) (fun d => d.clpRats_power fsdi) ht
  | hlta => exact keep Dev.clpHlta_power ht
  | deselect => exact keep Dev.clpDeselect_power ht
  | tagRBlock kind => exact keep (f := fun d => d.clpRBlock kind) (fun d => d.clpRBlock_power kind) ht
  | getInfo | auth1 | auth2 | ident | tagRead | tagWrite | generation => exact keep (fun d => d.tagBlock_power ..) ht
  | lockoutEnd => exact keep Dev.lockoutEnd_power ht
  | caFirstAccess cut => exact keep (f := fun d => d.caFirst cut) (fun d => d.caFirst_power cut) ht
  | _ => cases hi

/-- Settles O4: in reset a period only lets time pass, `acted` runs nothing, and what `always` runs keeps the domains' state,
reset with it, but for RESET_RELEASE. -/
theorem resetHolds : Obligations.ResetHolds := by
  refine ⟨fun s t h hr ht => ?_, fun s i h hi => exec_inReset h hi⟩
  cases hp : s.pending with
  | nil =>
    rw [step, hp] at ht
    cases ht
    exact Dev.tick_inReset h 1
  | cons c rest =>
    rw [step, hp] at ht
    cases hc : actsInReset c with
    | true => exact exec_keeps_reset (s := { s with pending := rest }) h hc (fun e => hr (by rw [hp, e]; rfl)) ht
    | false =>
      cases (exec_inReset (s := { s with pending := rest }) h hc).symm.trans ht
      exact h

end Sys2Proof.Machine

/-! # Proofs: what an instruction leaves unchanged -/

namespace Sys2Proof.Machine

/-! ## The registers of the event channels and of the performance counters (R390, R401) -/

/-- A register of an event channel or of a performance counter. -/
def fabricReg (k : Nat) : Prop := 0xB2000 ≤ k ∧ k < 0xB4000 ∨ 0xC0100 ≤ k ∧ k < 0xC0900

/-- Of the registers, at most those of the event fabric differ. -/
def Fab.apart (f g : Fab) : Prop := ∀ k, ¬ fabricReg k → g.reg k = f.reg k

theorem Fab.apart_refl (f : Fab) : f.apart f := fun _ _ => rfl

theorem Fab.apart.trans {f g h : Fab} (hfg : f.apart g) (hgh : g.apart h) : f.apart h :=
  fun k hk => (hgh k hk).trans (hfg k hk)

theorem Fab.apart_setReg (f : Fab) {k : Nat} (hk : fabricReg k) (w : Word) : f.apart (f.setReg k w) :=
  fun _ hj => tget_tput_ne resetOf f.regs w fun e => hj (e.symm ▸ hk)

theorem Fab.apart_foldl {α : Type} {g : Fab → α → Fab} (l : List α) (hg : ∀ x ∈ l, ∀ f : Fab, f.apart (g f x)) (f : Fab) :
    f.apart (l.foldl g f) := by
  induction l generalizing f with
  | nil => exact f.apart_refl
  | cons x r ih =>
    exact (hg x List.mem_cons_self f).trans (ih (fun y hy => hg y (List.mem_cons_of_mem _ hy)) (g f x))

/-- The counters listed are among the 64. -/
theorem Fab.pmcs_lt {f : Fab} {m sel k : Nat} (h : k ∈ f.pmcs m sel) : k < 64 := by
  obtain ⟨e, -, he⟩ := List.mem_filterMap.1 h
  split at he
  · next hc =>
    cases he
    simp only [Bool.and_eq_true, decide_eq_true_eq] at hc
    omega
  · cases he

theorem Fab.apart_setPmc (f : Fab) {n : Nat} (hn : n < 64) (v : Nat) : f.apart (f.setPmc n v) :=
  (f.apart_setReg (.inr (by dsimp only [R.PMC_CNT_LO]; omega)) _).trans
    (Fab.apart_setReg _ (.inr (by dsimp only [R.PMC_CNT_HI]; omega)) _)

theorem Fab.apart_pmcAdd {post : Fab → Nat → Fab} (hpost : ∀ (f : Fab) ch, ch < 256 → f.apart (post f ch)) (f : Fab) {n : Nat}
    (hn : n < 64) (k : Nat) : f.apart (pmcAdd post f n k) := by
  unfold pmcAdd
  dsimp only
  split
  · exact f.apart_setPmc hn _
  · have hover : f.apart ((f.setPmc n ((f.pmcCount n + k) % 2 ^ 48)).setReg (R.PMC_SAMP n)
        (setBit ((f.setPmc n ((f.pmcCount n + k) % 2 ^ 48)).reg (R.PMC_SAMP n)) 29 true)) :=
      (f.apart_setPmc hn _).trans (Fab.apart_setReg _ (.inr (by dsimp only [R.PMC_SAMP]; omega)) _)
    split
    · exact hover.trans (hpost _ _ (Nat.mod_lt _ (by decide)))
    · exact hover

theorem Fab.apart_postWith {cnt : Fab → Nat → Fab} (hcnt : ∀ (f : Fab) sel, f.apart (cnt f sel)) (f : Fab) {ch : Nat}
    (hch : ch < 256) : f.apart (postWith cnt f ch) := by
  unfold postWith
  split
  · split
    · exact (f.apart_setReg (.inl (by dsimp only [R.EVR_CH_STAT]; omega)) _).trans (hcnt _ _)
    · exact fun _ _ => rfl
  · exact f.apart_refl

theorem Fab.apart_pmcEventN (n : Nat) (f : Fab) (sel : Nat) : f.apart (pmcEventN n f sel) := by
  induction n generalizing f sel with
  | zero => exact f.apart_refl
  | succ n ih =>
    unfold pmcEventN
    split
    · exact f.apart_refl
    · exact Fab.apart_foldl _ (fun k hk f => f.apart_pmcAdd (fun f _ hch => f.apart_postWith ih hch) (Fab.pmcs_lt hk) 1) f

theorem Fab.apart_fabPost (f : Fab) {ch : Nat} (hch : ch < 256) : f.apart (fabPost f ch) :=
  f.apart_postWith (Fab.apart_pmcEventN _) hch

theorem Fab.apart_pmcRetire (f : Fab) (h pc : Nat) : f.apart (f.pmcRetire h pc) := by
  unfold Fab.pmcRetire
  dsimp only
  generalize hg : List.foldl _ f (f.skein.triggered h) = f'
  have hf' : f.apart f' := by
    subst hg
    refine Fab.apart_foldl _ (fun k _ f => ?_) f
    exact fun _ _ => rfl
  refine hf'.trans ?_
  split
  · exact f'.apart_refl
  · refine Fab.apart_foldl _ (fun k hk f => ?_) _
    split
    · exact f.apart_setPmc (Fab.pmcs_lt hk) _
    · exact fun j hj => f.apart_setPmc (Fab.pmcs_lt hk) 0 j hj

/-! ## What the device does of itself -/

/-- The device without its registers, processors, event fabric and radios. -/
def Dev.others (d : Dev) : Dev := { d with regs := [], cpus := [], skein := {}, radios := [] }

/-- `d` differs from `e` at most in its processors, its radios and the event fabric, and in RIMX_MBPEND. -/
structure Dev.Beside (e d : Dev) : Prop where
  others : d.others = e.others
  reg : ∀ k, ¬ fabricReg k → k ≠ R.RIMX_MBPEND → d.reg k = e.reg k

theorem Dev.Beside.refl (d : Dev) : d.Beside d := ⟨rfl, fun _ _ _ => rfl⟩

theorem Dev.Beside.trans {a b c : Dev} (hab : a.Beside b) (hbc : b.Beside c) : a.Beside c :=
  ⟨hbc.others.trans hab.others, fun k hk hm => (hbc.reg k hk hm).trans (hab.reg k hk hm)⟩

theorem Dev.Beside.forEach {α : Type} {g : Dev → α → Dev} (hg : ∀ (d : Dev) x, d.Beside (g d x)) (l : List α) (d : Dev) :
    d.Beside (d.forEach l g) := by
  induction l generalizing d with
  | nil => exact .refl d
  | cons x r ih => exact (hg d x).trans (ih (g d x))

section Beside
variable (d : Dev)

theorem Dev.beside_setCpu (p : Nat) (c : Cpu) : d.Beside (d.setCpu p c) := ⟨rfl, fun _ _ _ => rfl⟩

theorem Dev.beside_onFab {g : Fab → Fab} (hg : ∀ f : Fab, f.apart (g f)) : d.Beside (d.onFab g) :=
  ⟨rfl, fun k hk _ => hg ⟨d.regs, d.skein⟩ k hk⟩

theorem Dev.beside_retireCount (p pc : Nat) : d.Beside (d.retireCount p pc) := by
  have hevent := d.beside_onFab (g := fun f => pmcEventN pmcFuel f (1 + (p - 64))) fun f => f.apart_pmcEventN _ _
  unfold Dev.retireCount
  dsimp only
  split
  · exact .refl d
  · split
    · exact hevent.trans (Dev.beside_onFab _ fun f => f.apart_pmcRetire _ _)
    · exact hevent

theorem Dev.beside_stepEnd (p : Nat) : d.Beside (d.stepEnd p) := by
  unfold Dev.stepEnd
  split
  · exact d.beside_setCpu ..
  · exact .refl d

theorem Dev.beside_retire {p : Nat} (hp : 64 ≤ p) (cost : Nat) (next : Word) : d.Beside (d.retire p cost next) := by
  unfold Dev.retire
  dsimp only
  rw [if_neg (Nat.not_lt.2 hp)]
  exact (d.beside_setCpu ..).trans (Dev.beside_retireCount ..)

theorem Dev.beside_finishWait {p : Nat} (hp : 64 ≤ p) (cost : Nat) (g : Cpu → Cpu) : d.Beside (d.finishWait p cost g) :=
  ((d.beside_setCpu ..).trans (Dev.beside_retire _ hp ..)).trans (Dev.beside_stepEnd ..)

theorem Dev.beside_setB_mbPend (i : Nat) (v : Bool) : d.Beside (d.setB R.RIMX_MBPEND i v) :=
  ⟨rfl, fun _ _ hm => d.reg_setReg_ne _ hm⟩

theorem Dev.beside_takeReply (p tag : Nat) : d.Beside (d.takeReply p tag) :=
  (d.beside_setCpu ..).trans (Dev.beside_setB_mbPend ..)

theorem Dev.beside_wake {p : Nat} (hp : 64 ≤ p) : d.Beside (d.wake p) := by
  unfold Dev.wake
  split
  · split
    · exact (d.beside_takeReply ..).trans (Dev.beside_finishWait _ hp ..)
    · exact .refl d
  · split
    · exact d.beside_finishWait hp ..
    · exact .refl d
  · exact .refl d

theorem Dev.beside_mayShut (n : Nat) : d.Beside (d.mayShut n) := by
  unfold Dev.mayShut
  dsimp only
  split
  · exact ⟨rfl, fun _ _ _ => rfl⟩
  · exact .refl d

theorem Dev.beside_sampleWatch : d.Beside d.sampleWatch := by
  refine Dev.Beside.forEach (fun d h => ?_) _ d
  split
  · exact .refl d
  · refine Dev.Beside.forEach (fun d k => ?_) _ d
    split
    · exact ⟨rfl, fun _ _ _ => rfl⟩
    · exact .refl d

end Beside

/-! ### Processors and radios -/

theorem Dev.retireCount_cpus (d : Dev) (p pc : Nat) : (d.retireCount p pc).cpus = d.cpus := by
  unfold Dev.retireCount
  dsimp only
  (repeat' split) <;> rfl

theorem Dev.retireCount_radios (d : Dev) (p pc : Nat) : (d.retireCount p pc).radios = d.radios := by
  unfold Dev.retireCount
  dsimp only
  (repeat' split) <;> rfl

/-- What of the device a processor's retirement changes, beside the event fabric. -/
def Dev.retired (d : Dev) (p cost : Nat) (next : Word) : Dev :=
  let e := d.onCpu p fun c => { c with pc := next, retired := c.retired + 1, units := c.units + cost, wait := .none }
  if p < 64 then e.setB (R.WEN_STATUS p) 17 false else e

theorem Dev.retire_eq (d : Dev) (p cost : Nat) (next : Word) :
    d.retire p cost next = (d.retired p cost next).retireCount p (d.cpu p).pc.toNat := rfl

theorem Dev.retired_radios (d : Dev) (p cost : Nat) (next : Word) : (d.retired p cost next).radios = d.radios := by
  unfold Dev.retired
  dsimp only
  split <;> rfl

theorem Dev.retired_cpus (d : Dev) (p cost : Nat) (next : Word) : (d.retired p cost next).cpus =
    (d.onCpu p fun c => { c with pc := next, retired := c.retired + 1, units := c.units + cost, wait := .none }).cpus := by
  unfold Dev.retired
  dsimp only
  split <;> rfl

theorem Dev.retire_cpu_same (d : Dev) (p cost : Nat) (next : Word) : (d.retire p cost next).cpu p =
    { d.cpu p with pc := next, retired := (d.cpu p).retired + 1, units := (d.cpu p).units + cost, wait := .none } := by
  rw [Dev.retire_eq, Dev.cpu, Dev.retireCount_cpus, Dev.retired_cpus]
  exact Dev.cpu_setCpu_same ..

theorem Dev.retire_cpu_ne (d : Dev) {p q : Nat} (h : q ≠ p) (cost : Nat) (next : Word) :
    (d.retire p cost next).cpu q = d.cpu q := by
  rw [Dev.retire_eq, Dev.cpu, Dev.retireCount_cpus, Dev.retired_cpus]
  exact Dev.cpu_setCpu_ne _ _ h

theorem Dev.retire_radios (d : Dev) (p cost : Nat) (next : Word) : (d.retire p cost next).radios = d.radios := by
  rw [Dev.retire_eq, Dev.retireCount_radios, Dev.retired_radios]

theorem Dev.stepEnd_cpu_same (d : Dev) (p : Nat) :
    (d.stepEnd p).cpu p = d.cpu p ∨ (d.stepEnd p).cpu p = { d.cpu p with run := .halted } := by
  unfold Dev.stepEnd
  split
  · exact .inr (Dev.cpu_setCpu_same ..)
  · exact .inl rfl

theorem Dev.stepEnd_cpu_ne (d : Dev) {p q : Nat} (h : q ≠ p) : (d.stepEnd p).cpu q = d.cpu q := by
  unfold Dev.stepEnd
  split
  · exact Dev.cpu_setCpu_ne _ _ h
  · rfl

theorem Dev.stepEnd_radios (d : Dev) (p : Nat) : (d.stepEnd p).radios = d.radios := by
  unfold Dev.stepEnd
  split <;> rfl

theorem Dev.finishWait_cpu_ne (d : Dev) {p q : Nat} (h : q ≠ p) (cost : Nat) (g : Cpu → Cpu) :
    (d.finishWait p cost g).cpu q = d.cpu q :=
  (Dev.stepEnd_cpu_ne _ h).trans ((Dev.retire_cpu_ne _ h ..).trans (Dev.cpu_setCpu_ne _ _ h))

theorem Dev.finishWait_radios (d : Dev) (p cost : Nat) (g : Cpu → Cpu) : (d.finishWait p cost g).radios = d.radios :=
  (Dev.stepEnd_radios ..).trans (Dev.retire_radios ..)

theorem Dev.takeReply_cpu_ne (d : Dev) {p q : Nat} (h : q ≠ p) (tag : Nat) : (d.takeReply p tag).cpu q = d.cpu q := by
  unfold Dev.takeReply
  dsimp only
  rw [Dev.cpu, Dev.setB_cpus, ← Dev.cpu, Dev.onCpu, Dev.cpu_setCpu_ne _ _ h]

theorem Dev.takeReply_radios (d : Dev) (p tag : Nat) : (d.takeReply p tag).radios = d.radios := by
  unfold Dev.takeReply
  dsimp only
  rw [Dev.setB_radios, Dev.onCpu, Dev.setCpu_radios]

/-- Only a processor that waits is woken. -/
theorem Dev.wake_cpu (d : Dev) {p q : Nat} (h : (d.cpu q).wait = .none ∨ q ≠ p) : (d.wake p).cpu q = d.cpu q := by
  rcases Decidable.em (q = p) with rfl | hq
  · have hw : (d.cpu q).wait = .none := h.resolve_right (not_not_intro rfl)
    simp only [Dev.wake, hw]
  · unfold Dev.wake
    split
    · split
      · exact (Dev.finishWait_cpu_ne _ hq ..).trans (d.takeReply_cpu_ne hq _)
      · rfl
    · split
      · exact d.finishWait_cpu_ne hq ..
      · rfl
    · rfl

theorem Dev.wake_radios (d : Dev) (p : Nat) : (d.wake p).radios = d.radios := by
  unfold Dev.wake
  split
  · split
    · exact (Dev.finishWait_radios ..).trans (d.takeReply_radios ..)
    · rfl
  · split
    · exact Dev.finishWait_radios ..
    · rfl
  · rfl

/-- The device with its Main Processors and Custody woken where what they wait for is there. -/
def Dev.woken (d : Dev) : Dev := ((d.wake 64).wake 65).wake 66

theorem Dev.woken_cpu (d : Dev) {q : Nat} (h : (d.cpu q).wait = .none ∨ q < 64) : d.woken.cpu q = d.cpu q := by
  have hq {p : Nat} (hp : 64 ≤ p) {e : Dev} (he : e.cpu q = d.cpu q) : (e.wake p).cpu q = d.cpu q := by
    refine (e.wake_cpu ?_).trans he
    rw [he]
    exact h.imp_right fun hlt => by omega
  exact hq (by decide) (hq (by decide) (hq (by decide) rfl))

theorem Dev.woken_radios (d : Dev) : d.woken.radios = d.radios :=
  (Dev.wake_radios ..).trans ((Dev.wake_radios ..).trans (Dev.wake_radios ..))

theorem Dev.beside_woken (d : Dev) : d.Beside d.woken :=
  ((d.beside_wake (by decide)).trans (Dev.beside_wake _ (by decide))).trans (Dev.beside_wake _ (by decide))

/-- A radio as it was, or one that was draining with no gate kept and starts its 10 us to OFF (R157). -/
def Dev.mayStartOff (e d : Dev) (n : Nat) : Prop :=
  d.radio n = e.radio n ∨ (e.radio n).draining = true ∧ (e.radio n).offAt = none ∧ e.noneKept n = true ∧
    d.radio n = { e.radio n with offAt := some (e.clk + 1600) }

theorem Dev.mayShut_radio_ne (d : Dev) {m n : Nat} (h : n ≠ m) : (d.mayShut m).radio n = d.radio n := by
  unfold Dev.mayShut
  dsimp only
  split
  · exact tget_tput_ne _ _ _ h
  · rfl

theorem Dev.mayShut_cpus (d : Dev) (m : Nat) : (d.mayShut m).cpus = d.cpus := by
  unfold Dev.mayShut
  dsimp only
  split <;> rfl

theorem Dev.mayShut_same (d : Dev) (n : Nat) : d.mayStartOff (d.mayShut n) n := by
  unfold Dev.mayShut
  dsimp only
  split
  · next h =>
    simp only [Bool.and_eq_true, Option.isNone_iff_eq_none] at h
    obtain ⟨⟨⟨hdrain, hoff⟩, -⟩, hkept⟩ := h
    exact .inr ⟨hdrain, hoff, hkept, tget_tput_same ..⟩
  · exact .inl rfl

/-- The device with the draining radios that no gate keeps on their way to OFF. -/
def Dev.shutDown (d : Dev) : Dev := d.forEach (List.range 17) fun d n => d.mayShut n

theorem Dev.beside_shutDown (d : Dev) : d.Beside d.shutDown := Dev.Beside.forEach (fun d n => d.beside_mayShut n) _ d

theorem Dev.shutDown_cpus (d : Dev) : d.shutDown.cpus = d.cpus := Dev.forEach_keeps (φ := Dev.cpus) Dev.mayShut_cpus _ d

/-- What does not read the registers, processors, event fabric and radios is the same of both. -/
theorem Dev.eq_of_others {d e : Dev} {β : Type} (φ : Dev → β) (hφ : ∀ d, φ (Dev.others d) = φ d) (h : d.others = e.others) :
    φ d = φ e := by
  rw [← hφ d, h, hφ e]

theorem Dev.radio_congr {d e : Dev} (h : d.radios = e.radios) (n : Nat) : d.radio n = e.radio n := by
  rw [Dev.radio, h, Dev.radio]

theorem Dev.noneKept_congr {d e : Dev} (hs : d.slots = e.slots) (n : Nat) : d.noneKept n = e.noneKept n := by
  simp only [Dev.noneKept, Dev.armed, Dev.armOf, Dev.slot, hs]

/-- Each radio is looked at once, so a fold over distinct radios does to each what one look does. -/
theorem Dev.forEach_mayShut_radio (l : List Nat) (hl : l.Nodup) (d : Dev) (n : Nat) :
    d.mayStartOff (d.forEach l fun d n => d.mayShut n) n := by
  induction l generalizing d with
  | nil => exact .inl rfl
  | cons m r ih =>
    obtain ⟨hm, hr⟩ := List.nodup_cons.1 hl
    have hstep : ((d.mayShut m).forEach r fun d n => d.mayShut n) = d.forEach (m :: r) fun d n => d.mayShut n := rfl
    rw [← hstep]
    rcases Decidable.em (n = m) with rfl | hn
    · have hrest : ((d.mayShut n).forEach r fun d n => d.mayShut n).radio n = (d.mayShut n).radio n := by
        clear ih hstep hl
        generalize d.mayShut n = e
        induction r generalizing e with
        | nil => rfl
        | cons x r ih =>
          rw [List.mem_cons, not_or] at hm
          exact (ih (List.nodup_cons.1 hr).2 hm.2 (e.mayShut x)).trans (e.mayShut_radio_ne hm.1)
      unfold Dev.mayStartOff
      rw [hrest]
      exact d.mayShut_same n
    · have hkept := Dev.noneKept_congr (Dev.eq_of_others Dev.slots (fun _ => rfl) (d.beside_mayShut m).others) n
      have hclk : (d.mayShut m).clk = d.clk := Dev.eq_of_others Dev.clk (fun _ => rfl) (d.beside_mayShut m).others
      have hrest := ih hr (d.mayShut m)
      rwa [Dev.mayStartOff, d.mayShut_radio_ne hn, hkept, hclk] at hrest

theorem Dev.shutDown_radio (d : Dev) (n : Nat) : d.mayStartOff d.shutDown n :=
  d.forEach_mayShut_radio _ List.nodup_range n

theorem Dev.sampleWatch_cpus (d : Dev) : d.sampleWatch.cpus = d.cpus := by
  refine Dev.forEach_keeps (φ := Dev.cpus) (fun d h => ?_) _ d
  split
  · rfl
  · refine Dev.forEach_keeps (φ := Dev.cpus) (fun d k => ?_) _ d
    split <;> rfl

theorem Dev.sampleWatch_radios (d : Dev) : d.sampleWatch.radios = d.radios := by
  refine Dev.forEach_keeps (φ := Dev.radios) (fun d h => ?_) _ d
  split
  · rfl
  · refine Dev.forEach_keeps (φ := Dev.radios) (fun d k => ?_) _ d
    split <;> rfl

/-! ### A device with nothing of its own left to do -/

section Served
variable {e d : Dev} (hb : e.Beside d)
include hb

theorem Dev.Beside.b_eq {k : Nat} (i : Nat) (hk : ¬ fabricReg k) (hm : k ≠ R.RIMX_MBPEND) : d.b k i = e.b k i := by
  rw [Dev.b, Dev.b, hb.reg k hk hm]

theorem Dev.Beside.f_eq {k : Nat} (lo n : Nat) (hk : ¬ fabricReg k) (hm : k ≠ R.RIMX_MBPEND) : d.f k lo n = e.f k lo n := by
  rw [Dev.f, Dev.f, hb.reg k hk hm]

theorem Dev.Beside.pdRun_eq {n : Nat} (hn : n < 64) : d.pdRun n = e.pdRun n :=
  hb.b_eq 31 (by dsimp only [R.PWR_PD_STAT, fabricReg]; omega) (by dsimp only [R.PWR_PD_STAT, R.RIMX_MBPEND]; omega)

theorem Dev.Beside.mem_eq : d.mem = e.mem := Dev.eq_of_others Dev.mem (fun _ => rfl) hb.others
theorem Dev.Beside.msg_eq : d.msg = e.msg := Dev.eq_of_others Dev.msg (fun _ => rfl) hb.others

theorem Dev.Beside.rd8_eq (a : Nat) : d.rd8 a = e.rd8 a := by rw [Dev.rd8, Dev.rd8, hb.mem_eq]

theorem Dev.Beside.ledWord_eq (h i w : Nat) : d.ledWord h i w = e.ledWord h i w := by
  have hecc : d.ecc2 = e.ecc2 := Dev.eq_of_others Dev.ecc2 (fun _ => rfl) hb.others
  have hpd := hb.pdRun_eq (n := 41 - h) (by omega)
  have hcap : d.capacity = e.capacity := hb.b_eq 14 (by unfold fabricReg; decide) (by decide)
  simp only [Dev.ledWord, Dev.rd32, hb.rd8_eq, hecc, hpd, hcap]

theorem Dev.Beside.ntHalf_eq : d.ntHalf = e.ntHalf := by
  have hlead : d.leader = e.leader := hb.f_eq 0 2 (by unfold fabricReg; decide) (by decide)
  have hpd (c : Prop) [Decidable c] : d.pdRun (40 + if c then 1 else 0) = e.pdRun (40 + if c then 1 else 0) :=
    hb.pdRun_eq (by split <;> decide)
  simp only [Dev.ntHalf, hlead, hpd]

theorem Dev.Beside.tcbFree_eq : d.tcbFree = e.tcbFree := by
  have hcount := hb.f_eq (k := R.MSG_TCBCNT) 0 15 (by unfold fabricReg; decide) (by decide)
  unfold Dev.tcbFree Dev.tcbUse Dev.tcbCount
  rw [hb.msg_eq, hcount]

theorem Dev.Beside.served_eq : d.served = e.served := by
  have hmac : d.mac = e.mac := Dev.eq_of_others Dev.mac (fun _ => rfl) hb.others
  have hrt (i : Nat) : d.b R.SUP_RTSTAT i = e.b R.SUP_RTSTAT i := hb.b_eq i (by unfold fabricReg; decide) (by decide)
  simp only [Dev.served, hb.msg_eq, hmac, hb.tcbFree_eq, Dev.ledFree, hb.ledWord_eq, hb.ntHalf_eq, hrt]

end Served

section ServedSkips
variable {d : Dev} (h : d.served = true)
include h

theorem Dev.sweepWhole_of_served : d.sweepWhole = d := by
  simp only [Dev.served, Bool.and_eq_true, List.all_eq_true] at h
  obtain ⟨⟨hall, -⟩, -⟩ := h
  have hnone : d.msg.reasm.filter (fun c => decide (65536 ≤ c.tag) && c.parts.isEmpty &&
      !(d.mac.copies.any fun x => x.node == c.node && x.verified.isSome && wholeTag x.inn.fc == c.tag)) = [] := by
    refine List.filter_eq_nil_iff.2 fun c hc => ?_
    have := hall c hc
    simp only [Bool.or_eq_true, decide_eq_true_eq, Bool.not_eq_true'] at this
    simp only [Bool.and_eq_true, decide_eq_true_eq, Bool.not_eq_true']
    rintro ⟨⟨hle, hempty⟩, hany⟩
    rcases this with (hlt | hne) | hyes
    · omega
    · rw [hne] at hempty
      cases hempty
    · rw [hyes] at hany
      cases hany
  rw [Dev.sweepWhole, hnone]
  rfl

theorem Dev.unstall_of_served : d.unstall = d := by
  simp only [Dev.served, Bool.and_eq_true, Bool.or_eq_true, Bool.not_eq_true'] at h
  obtain ⟨⟨-, hst⟩, -⟩ := h
  unfold Dev.unstall
  refine if_neg fun hc => ?_
  simp only [Bool.and_eq_true, Bool.not_eq_true'] at hc
  obtain ⟨⟨hne, hfree⟩, hled⟩ := hc
  rcases hst with (hempty | hfull) | hnone
  · rw [hempty] at hne
    cases hne
  · rw [hfull] at hfree
    cases hfree
  · rw [Option.isNone_iff_eq_none.1 hnone] at hled
    cases hled

theorem Dev.rideServe_of_served : d.rideServe = d := by
  simp only [Dev.served, Bool.and_eq_true, Bool.or_eq_true, Bool.not_eq_true'] at h
  obtain ⟨-, hoff | ⟨h29, h30⟩⟩ := h
  · simp only [Dev.rideServe, hoff, Bool.not_false, Bool.or_true, if_true]
  · simp only [Dev.rideServe, h29, h30, Bool.not_false, if_true, ite_self]

end ServedSkips

/-- What the device does of itself where nothing is left to do: it wakes, shuts and watches. -/
theorem Dev.after_of_served {e : Dev} (hl : e.power.inReset = false) (h : e.served = true) :
    e.after = e.woken.shutDown.sampleWatch := by
  have hb : e.Beside e.woken.shutDown := e.beside_woken.trans e.woken.beside_shutDown
  have hs : e.woken.shutDown.served = true := hb.served_eq.trans h
  have hafter : e.after = e.woken.shutDown.sweepWhole.unstall.rideServe.sampleWatch := if_neg (by rw [hl]; decide)
  rw [hafter, Dev.sweepWhole_of_served hs, Dev.unstall_of_served hs, Dev.rideServe_of_served hs]

/-- What `e` becomes once the device has done what it does of itself. -/
structure Dev.Settled (e d : Dev) : Prop where
  beside : e.Beside d
  radio : ∀ n, e.mayStartOff d n
  cpu : ∀ q, (e.cpu q).wait = .none ∨ q < 64 → d.cpu q = e.cpu q

theorem Dev.settled_of_served {e d : Dev} (hl : e.power.inReset = false) (hd : d = e ∨ d = e.after ∧ e.served = true) :
    e.Settled d := by
  obtain rfl | ⟨rfl, h⟩ := hd
  · exact ⟨.refl d, fun _ => .inl rfl, fun _ _ => rfl⟩
  rw [Dev.after_of_served hl h]
  refine ⟨(e.beside_woken.trans e.woken.beside_shutDown).trans (Dev.beside_sampleWatch _), fun n => ?_, fun q hq => ?_⟩
  · have hr := e.woken.shutDown_radio n
    rw [Dev.mayStartOff, Dev.noneKept_congr (Dev.eq_of_others Dev.slots (fun _ => rfl) e.beside_woken.others),
      Dev.eq_of_others Dev.clk (fun _ => rfl) e.beside_woken.others, Dev.radio_congr e.woken_radios] at hr
    rwa [Dev.mayStartOff, Dev.radio_congr (Dev.sampleWatch_radios _)]
  · rw [Dev.cpu, Dev.sampleWatch_cpus, Dev.shutDown_cpus]
    exact e.woken_cpu hq

/-- A radio judged against a device with the same radios, gates and clock. -/
theorem Dev.mayStartOff_congr {b e d : Dev} (hr : e.radios = b.radios) (hs : e.slots = b.slots) (hc : e.clk = b.clk) {n : Nat}
    (h : e.mayStartOff d n) : b.mayStartOff d n := by
  rwa [Dev.mayStartOff, Dev.noneKept_congr hs, hc, Dev.radio_congr hr] at h

/-! ### A retirement -/

theorem Proc.num_lt_iff (p : Proc) : p.num < 64 ↔ ∃ e : Fin 64, p = .eng e := by
  cases p with
  | eng e => exact ⟨fun _ => ⟨e, rfl⟩, fun _ => e.isLt⟩
  | mp h => exact ⟨fun h' => by cases h <;> simp [Proc.num, Half.toNat] at h', by rintro ⟨_, ⟨⟩⟩⟩
  | custody => exact ⟨fun h => by simp [Proc.num] at h, by rintro ⟨_, ⟨⟩⟩⟩

theorem Proc.num_ne_of_ne_eng {p : Proc} {q : Fin 64} (h : p ≠ .eng q) : q.val ≠ p.num := fun hq => h (by
  obtain ⟨e, rfl⟩ := (Proc.num_lt_iff p).1 (hq ▸ q.isLt)
  exact congrArg Proc.eng (Fin.ext hq.symm))

section Retirement
variable (d : Dev) (p : Proc) (cost : Nat) (next : Word)

/-- Processor `p`'s instruction retires, and a step by debug access ends. -/
def Dev.ends : Dev := (d.retire p.num cost next).stepEnd p.num

theorem Dev.retired_beside_ends : (d.retired p.num cost next).Beside (d.ends p cost next) :=
  (Dev.beside_retireCount ..).trans (Dev.beside_stepEnd ..)

theorem Dev.ends_others : (d.ends p cost next).others = d.others := by
  refine (d.retired_beside_ends p cost next).others.trans ?_
  unfold Dev.retired
  dsimp only
  split <;> rfl

theorem Dev.ends_radios : (d.ends p cost next).radios = d.radios := (Dev.stepEnd_radios ..).trans (Dev.retire_radios ..)

theorem Dev.ends_reg {k : Nat} (hk : ¬ fabricReg k) (hm : k ≠ R.RIMX_MBPEND)
    (hw : ∀ e : Fin 64, p = .eng e → k ≠ R.WEN_STATUS e) : (d.ends p cost next).reg k = d.reg k := by
  refine ((d.retired_beside_ends p cost next).reg k hk hm).trans ?_
  unfold Dev.retired
  dsimp only
  split
  · next h =>
    obtain ⟨e, rfl⟩ := (Proc.num_lt_iff p).1 h
    exact Dev.reg_setReg_ne _ _ (hw e rfl)
  · rfl

theorem Dev.ends_cpu_ne {q : Nat} (h : q ≠ p.num) : (d.ends p cost next).cpu q = d.cpu q :=
  (Dev.stepEnd_cpu_ne _ h).trans (d.retire_cpu_ne h ..)

/-- The processor's registers stay; its pc, its counts and its wait are those of a retirement. -/
theorem Dev.ends_cpu_same (e : Cpu) (he : e = (d.ends p cost next).cpu p.num) :
    e.g = (d.cpu p.num).g ∧ e.ctl = (d.cpu p.num).ctl ∧ e.pc = next ∧ e.retired = (d.cpu p.num).retired + 1 ∧
      e.units = (d.cpu p.num).units + cost ∧ e.wait = .none := by
  subst he
  rcases Dev.stepEnd_cpu_same (d.retire p.num cost next) p.num with h | h
  · rw [Dev.ends, h, Dev.retire_cpu_same]
    exact ⟨rfl, rfl, rfl, rfl, rfl, rfl⟩
  · rw [Dev.ends, h, Dev.retire_cpu_same]
    exact ⟨rfl, rfl, rfl, rfl, rfl, rfl⟩

end Retirement

/-- Settles O5: a completion changes the processor, the event fabric and WEN_STATUS, and a served device then only wakes
processors that wait, shuts radios and watches samples. -/
theorem instructionFrame : Obligations.InstructionFrame := by
  rintro s t i p c cost next e d hl - rfl rfl hd
  have hdef : s.dev.completes p c cost next = (s.dev.setCpu p.num c).ends p cost next := rfl
  rw [hdef] at hd
  have hoth : ((s.dev.setCpu p.num c).ends p cost next).others = s.dev.others := Dev.ends_others ..
  have hlive : ((s.dev.setCpu p.num c).ends p cost next).power.inReset = false :=
    (congrArg Power.inReset (Dev.eq_of_others Dev.power (fun _ => rfl) hoth)).trans hl
  obtain ⟨hb, hr, hc⟩ := Dev.settled_of_served hlive hd
  have hsame := Dev.ends_cpu_same (s.dev.setCpu p.num c) p cost next _ rfl
  obtain ⟨hg, hctl, hpc, hret, hunits, hwait⟩ := hsame
  have hcpu := hc p.num (.inl hwait)
  rw [Dev.cpu_setCpu_same] at hg hctl hret hunits
  refine ⟨rfl, ?_, fun n => ?_, fun a => ?_, fun k hk1 hk2 hm hw => ?_, fun q hq => ?_, ?_⟩
  · exact congrArg (fun x : Dev => { x with regs := s.dev.regs, cpus := s.dev.cpus, skein := s.dev.skein
                                            radios := s.dev.radios }) (hb.others.trans hoth)
  · exact Dev.mayStartOff_congr (Dev.ends_radios ..) (Dev.eq_of_others Dev.slots (fun _ => rfl) hoth)
      (Dev.eq_of_others Dev.clk (fun _ => rfl) hoth) (hr n)
  · rw [hb.rd8_eq, Dev.rd8, Dev.rd8, Dev.eq_of_others Dev.mem (fun _ => rfl) hoth]
  · have hk : ¬ fabricReg k := not_or.2 ⟨hk1, hk2⟩
    exact (hb.reg k hk hm).trans ((s.dev.setCpu p.num c).ends_reg p cost next hk hm hw)
  · have hne := Proc.num_ne_of_ne_eng hq
    exact (hc q (.inr q.isLt)).trans ((Dev.ends_cpu_ne _ p cost next hne).trans (Dev.cpu_setCpu_ne _ _ hne))
  · rw [hcpu]
    exact ⟨hg, hctl, hpc, hret, hunits⟩

/-! ### A store -/

/-- The device without what a store to memory changes beside the event fabric. -/
def Dev.unstored (d : Dev) : Dev := { d.others with mem := [], ecc1 := [], ecc2 := [], unfenced := [] }

theorem Dev.wrBytes_keeps {β : Type} {φ : Dev → β} (hφ : ∀ (d : Dev) (a : Nat) (v : Byte), φ ((d.wr8 a v).unmark a) = φ d)
    (l : List Byte) (d : Dev) (a : Nat) : φ (d.wrBytes a l) = φ d := by
  induction l generalizing d a with
  | nil => rfl
  | cons x r ih => exact (ih _ _).trans (hφ d a x)

section Store
variable (d : Dev) (f : Nat) (l : List Byte)

theorem Dev.noteUnfenced_keeps {β : Type} {φ : Dev → β} (hφ : ∀ (d : Dev) (u : List (Nat × Byte)), φ { d with unfenced := u } = φ d)
    (n : Nat) : φ (d.noteUnfenced f n) = φ d := by
  unfold Dev.noteUnfenced
  split
  · exact hφ ..
  · rfl

theorem Dev.stored_unstored : (d.stored f l).unstored = d.unstored :=
  (Dev.msTraffic_keeps (φ := Dev.unstored) (fun _ _ => rfl) ..).trans
    ((Dev.wrBytes_keeps (φ := Dev.unstored) (fun _ _ _ => rfl) ..).trans
      (d.noteUnfenced_keeps (φ := Dev.unstored) f (fun _ _ => rfl) l.length))

theorem Dev.stored_radios : (d.stored f l).radios = d.radios :=
  (Dev.msTraffic_keeps (φ := Dev.radios) (fun _ _ => rfl) ..).trans
    ((Dev.wrBytes_keeps (φ := Dev.radios) (fun _ _ _ => rfl) ..).trans
      (d.noteUnfenced_keeps (φ := Dev.radios) f (fun _ _ => rfl) l.length))

theorem Dev.stored_unfenced : (d.stored f l).unfenced = (d.noteUnfenced f l.length).unfenced :=
  (Dev.msTraffic_keeps (φ := Dev.unfenced) (fun _ _ => rfl) ..).trans
    (Dev.wrBytes_keeps (φ := Dev.unfenced) (fun _ _ _ => rfl) ..)

theorem Dev.stored_mem : (d.stored f l).mem = ((d.noteUnfenced f l.length).wrBytes f l).mem :=
  Dev.msTraffic_keeps (φ := Dev.mem) (fun _ _ => rfl) ..

theorem Dev.rd8_congr {d e : Dev} (h : d.mem = e.mem) (a : Nat) : d.rd8 a = e.rd8 a := by rw [Dev.rd8, h, Dev.rd8]

theorem Dev.stored_rd8_apart {a : Nat} (h : a < f ∨ f + l.length ≤ a) : (d.stored f l).rd8 a = d.rd8 a :=
  (Dev.rd8_congr (d.stored_mem f l) a).trans ((Dev.rd8_wrBytes_apart l _ f a h).trans
    (Dev.rd8_congr (d.noteUnfenced_keeps (φ := Dev.mem) f (fun _ _ => rfl) l.length) a))

theorem Dev.stored_rd8_in (hf : f + l.length ≤ romBase) {k : Nat} (h : k < l.length) : (d.stored f l).rd8 (f + k) = l[k] :=
  (Dev.rd8_congr (d.stored_mem f l) _).trans (Dev.rd8_wrBytes l _ f k hf h)

end Store

/-- Control Space is no memory. -/
theorem ctlWhere_ne_mem (a f : Nat) : ctlWhere a ≠ .mem f := by
  unfold ctlWhere
  extract_lets o
  split
  · split <;> exact Where.noConfusion
  · exact Where.noConfusion

/-- Memory where a processor may store lies below the ROM (R59). -/
theorem dataWhere_storable {p : Proc} {x f : Nat} (h : dataWhere p x = .mem f) (hs : storable p x = true) :
    f + 4 ≤ romBase := by
  cases p with
  | eng n =>
    simp only [dataWhere] at h
    split at h
    · next hx =>
      have hf := Where.mem.inj h
      simp only [decide_eq_true_eq] at hx
      have := n.isLt
      simp only [engBase, romBase] at hf ⊢
      omega
    · exact absurd h (ctlWhere_ne_mem x f)
  | mp n =>
    simp only [dataWhere] at h
    split at h
    · next hx =>
      have hf := Where.mem.inj h
      have hn : n.toNat ≤ 1 := by cases n <;> decide
      simp only [sramBase, romBase] at hf ⊢
      omega
    · exact absurd h (ctlWhere_ne_mem x f)
  | custody =>
    simp only [storable, decide_eq_true_eq] at hs
    simp only [dataWhere] at h
    split at h
    · omega
    · split at h
      · next hx =>
        have hf := Where.mem.inj h
        simp only [decide_eq_true_eq] at hx
        simp only [custBase, romBase] at hf ⊢
        omega
      · split at h
        · next hx =>
          have hf := Where.mem.inj h
          simp only [decide_eq_true_eq] at hx
          simp only [mramBase, romBase] at hf ⊢
          omega
        · exact absurd h (ctlWhere_ne_mem x f)

theorem Dev.place_store_mem {d : Dev} {p : Proc} {sup : Bool} {ea : Word} {n f : Nat}
    (h : d.place p sup ea n kStore = .ok (.mem f)) : dataWhere p ea.toNat = .mem f ∧ storable p ea.toNat = true := by
  unfold Dev.place at h
  extract_lets x eng at h
  split at h
  · cases h
  split at h
  · cases h
  split at h
  · cases h
  · next g hg =>
    split at h
    · cases h
    · next hs =>
      cases h
      refine ⟨hg, ?_⟩
      have hkind : ¬ kStore = kCas := by decide
      simpa [hkind] using hs
  · split at h <;> cases h
  · split at h
    · cases h
    · split at h <;> cases h

/-- What each store stores, and the state it leaves. -/
theorem exec_store_stored {s t : State} {i : Instr} {p : Proc} {rd ra : Reg} {imm : BitVec 16} {f n : Nat} (hl : s.live)
    (hr : s.dev.ready p)
    (hi : i = .stw p rd ra imm ∧ n = 4 ∨ i = .sth p rd ra imm ∧ n = 2 ∨ i = .stb p rd ra imm ∧ n = 1)
    (hp : s.dev.place p (s.dev.cpu p.num).sup ((s.dev.cpu p.num).get ra + imm.signExtend 32) n kStore = .ok (.mem f))
    (ht : exec i s = .next t) : ∃ l : List Byte, l.length = n ∧ l.length ≤ 4 ∧
      (∀ (k : Nat) (h : k < l.length), l[k] = byteOf ((s.dev.cpu p.num).get rd) k) ∧
      t = s.goes ((s.dev.stored f l).ends p 1 ((s.dev.cpu p.num).pc + 4#32)) := by
  obtain ⟨hw, hh, hb, -, -⟩ := stores s p rd ra imm _ _ _ f _ hl hr rfl rfl rfl rfl
  obtain ⟨rfl, rfl⟩ | ⟨rfl, rfl⟩ | ⟨rfl, rfl⟩ := hi
  · refine ⟨_, rfl, by simp, fun k h => ?_, Host.Outcome.next.inj (ht.symm.trans (hw hp))⟩
    match k, h with
    | 0, _ | 1, _ | 2, _ | 3, _ => rfl
  · refine ⟨_, rfl, by simp, fun k h => ?_, Host.Outcome.next.inj (ht.symm.trans (hh hp))⟩
    match k, h with
    | 0, _ | 1, _ => rfl
  · refine ⟨_, rfl, by simp, fun k h => ?_, Host.Outcome.next.inj (ht.symm.trans (hb hp))⟩
    match k, h with
    | 0, _ => rfl

/-- Settles O6: a store changes the octets stored, their error marks, the note of stores without a FENCE and the event fabric;
its retirement and the rest of the step are those of O5. -/
theorem storeFrame : Obligations.StoreFrame := by
  rintro s t i p rd ra imm c ea f n hl hr rfl rfl hi hplace ht
  obtain ⟨l, rfl, hlen, hbytes, rfl⟩ := exec_store_stored hl hr hi hplace ht
  refine ⟨_, rfl, fun d hd => ?_⟩
  obtain ⟨hwhere, hstorable⟩ := Dev.place_store_mem hplace
  have hbound : f + l.length ≤ romBase := Nat.le_trans (Nat.add_le_add_left hlen f) (dataWhere_storable hwhere hstorable)
  have hoth := (s.dev.stored f l).ends_others p 1 ((s.dev.cpu p.num).pc + 4#32)
  have huns := (Dev.eq_of_others Dev.unstored (fun _ => rfl) hoth).trans (s.dev.stored_unstored f l)
  have hrad := ((s.dev.stored f l).ends_radios p 1 ((s.dev.cpu p.num).pc + 4#32)).trans (s.dev.stored_radios f l)
  obtain ⟨hg, hctl, hpc, -, -, hwait⟩ :=
    (s.dev.stored f l).ends_cpu_same p 1 ((s.dev.cpu p.num).pc + 4#32) _ rfl
  have hne (q : Nat) (h : q ≠ p.num) := (s.dev.stored f l).ends_cpu_ne p 1 ((s.dev.cpu p.num).pc + 4#32) h
  generalize (s.dev.stored f l).ends p 1 ((s.dev.cpu p.num).pc + 4#32) = e at hd hoth huns hrad hg hctl hpc hwait hne
  have hlive : e.power.inReset = false := (congrArg (fun x : Dev => x.power.inReset) huns).trans hl
  obtain ⟨hb, hr, hc⟩ := Dev.settled_of_served hlive hd
  have hslots : e.unstored.slots = s.dev.unstored.slots := by rw [huns]
  have hclk : e.unstored.clk = s.dev.unstored.clk := by rw [huns]
  have hcpu := hc p.num (.inl hwait)
  rw [Dev.stored_cpu] at hg hctl
  have hrd (a : Nat) : d.rd8 a = (s.dev.stored f l).rd8 a :=
    (hb.rd8_eq a).trans (Dev.rd8_congr (Dev.eq_of_others Dev.mem (fun _ => rfl) hoth) a)
  refine ⟨fun a ha => ?_, fun k hk => ?_, ?_, fun m => ?_, ?_, ?_, ?_, ?_, fun q hq => ?_⟩
  · rw [hrd, Dev.stored_rd8_apart _ _ _ ha]
  · rw [hrd, Dev.stored_rd8_in _ _ _ hbound hk, hbytes]
  · exact congrArg (fun x : Dev => { x with
      regs := s.dev.regs, cpus := s.dev.cpus, skein := s.dev.skein, mem := s.dev.mem, ecc1 := s.dev.ecc1
      ecc2 := s.dev.ecc2, unfenced := s.dev.unfenced, radios := s.dev.radios })
      ((Dev.eq_of_others Dev.unstored (fun _ => rfl) hb.others).trans huns)
  · exact Dev.mayStartOff_congr hrad hslots hclk (hr m)
  · rw [Dev.eq_of_others Dev.unfenced (fun _ => rfl) hb.others, Dev.eq_of_others Dev.unfenced (fun _ => rfl) hoth,
      Dev.stored_unfenced]
  · rw [hcpu, hg]
  · rw [hcpu, hctl]
  · rw [hcpu, hpc]
  · rw [hc q (.inr q.isLt), hne q (Proc.num_ne_of_ne_eng hq), Dev.stored_cpu]

end Sys2Proof.Machine

/-! # Proofs: the Rand trunk -/

namespace Sys2Proof.Machine

/-! ## Trunk commands (R200, R202) -/

section TrunkCommands
variable {d : Dev}

theorem Dev.trkEnable_bad_state (h : d.role ≠ 0 ∨ d.fw.recov = 1) : d.trkEnable = d.trkRes 1 true :=
  if_pos (by simpa using h)

theorem Dev.trkEnable_no_ref (hr : d.role = 0) (hf : d.fw.recov ≠ 1) (ht : d.tbState = 0) :
    d.trkEnable = d.trkRes 2 true := by
  simp [Dev.trkEnable, hr, hf, ht]

theorem Dev.trkEnable_warms {e : Dev} (hr : d.role = 0) (hf : d.fw.recov ≠ 1) (ht : d.tbState ≠ 0)
    (he : e = d.onRadio 16 fun x => { x with
      until_ := d.clk + 32000, enabledAt := d.clk, everEnabled := true, shut := false, chw := d.reg R.TRK_CHAN
      calPend := 15, lastWin := none, kept := [], aer := 0 }) :
    d.trkEnable = (((e.setF R.TRK_STATUS 16 8 e.station).trkRes 0 false).setSt 16 sWARM).vote 12 0 true := by
  subst he
  have hno : ¬ ((decide (d.role ≠ 0) || d.fw.recov == 1) = true) := by simp [hr, hf]
  simp only [Dev.trkEnable, if_neg hno, if_neg ht]

theorem Dev.trkDisable_off (h : d.role = 0) : d.trkDisable = d.trkRes 1 true := if_pos h

theorem Dev.trkDisable_drains {e : Dev} (h : d.role ≠ 0) (he : e = { d with trunk := { d.trunk with
      txd := [], txc := d.trunk.txc ++ d.trunk.txd.map fun x => pack [(29, 3), (0, fld (x.getD 0 0#32) 0 16)]
      coordKnown := false, ownClaim := false, ownResign := false, takeOver := false, winEnd := none
      entries := [] } }) : d.trkDisable = ((e.drain 16).1.setB R.TRK_STATUS 3 false).trkRes 0 true := by
  subst he
  exact if_neg h

theorem Dev.trkClaim_bad_state (h1 : d.role ≠ 1) (h2 : d.role ≠ 2) : d.trkClaim = d.trkRes 1 true := if_pos ⟨h1, h2⟩

theorem Dev.trkClaim_contends {e : Dev} (h : d.role = 1 ∨ d.role = 2)
    (he : e = { d with trunk := { d.trunk with ownClaim := true, prevRole := d.role } }) :
    d.trkClaim = ((e.asbQueue { type := 3, addr := 255
                                data := beBytes 2 d.epochT ++ beBytes 1 (255 - d.f R.TRK_CFG 24 8) ++
                                  beBytes 8 Config.eui64.toNat }).setRole 4).trkRes 0 false := by
  subst he
  exact if_neg (by omega)

theorem Dev.trkResign_bad_state (h : d.role ≠ 3) : d.trkResign = d.trkRes 1 true := if_pos h

theorem Dev.trkResign_sends {e : Dev} (h : d.role = 3) (he : e = { d with trunk := { d.trunk with ownResign := true } }) :
    d.trkResign = (e.asbQueue { type := 4, addr := 255, data := beBytes 2 e.epochT }).trkRes 0 false := by
  subst he
  exact if_neg (not_not_intro h)

end TrunkCommands

/-! ## Claim windows, superframes and received frames -/

section TrunkEvents
variable {d : Dev}

/-- A window in which nobody claims, after this station has resigned. -/
theorem Dev.claimEnd_no_claimant {w : Nat} (hw : d.trunk.winEnd = some w) (hdue : w ≤ d.count) (hent : d.trunk.entries = [])
    (hcoord : d.trunk.coordKnown = false ∨ d.trunk.resigned = true) (hown : d.trunk.ownResign = true) :
    d.claimEnd = { d with trunk := { d.trunk with
      winEnd := none, entries := [], ownResign := false, resigned := false } }.trkRes 4 true := by
  rcases hcoord with h | h <;> simp [Dev.claimEnd, hw, Nat.not_lt.2 hdue, hent, h, winnerOf, hown]

section Superframe
variable {e e1 : Dev} {t m : Nat} (he : e = (d.endTurn 16 sTURN).txEnd 16) (ht : e.trunk.sfNext = some t)
  (hdue : t ≤ e.cluster) (hrole : e.role = 2) (hdrain : (e.radio 16).draining = false)
  (he1 : e1 = { e with trunk := { e.trunk with sfStart := t, sfNext := some (t + e.trunk.sfLen), slots := [] } })
include he ht hdue hrole hdrain he1

theorem Dev.superframe_heard : d.superframe true = e1 := by
  simp [Dev.superframe, trk, ← he, ht, hdue, hrole, hdrain, he1]

theorem Dev.superframe_missed (hm : m = min 255 (e1.f R.TRK_STATUS 8 8 + 1))
    (hlost : m < max 1 ((e1.setF R.TRK_STATUS 8 8 m).f R.TRK_CFG 2 3)) :
    d.superframe false = e1.setF R.TRK_STATUS 8 8 m := by
  have hnot : (decide (2 = 0) || (e.radio 16).draining || !decide (t ≤ e.cluster)) = false := by simp [hdrain, hdue]
  simp only [Dev.superframe, trk, ← he, ht, Option.getD_some, hrole, hnot, ← he1, ← hm, Bool.false_eq_true, if_false,
    if_neg (Nat.not_le.2 hlost), show ¬ (2 = 3) from by decide]

end Superframe

theorem Dev.mapQueue_raised {p : Nat} (hp : d.trunk.mapDefer.contains p = true) (hh : d.mapHeld p = true) :
    d.mapQueue p = { d with trunk := { d.trunk with
      mapq := addOnce d.trunk.mapq p, mapDefer := d.trunk.mapDefer.filter (· ≠ p) } } :=
  if_pos (by rw [hp, hh]; rfl)

end TrunkEvents

section TrunkFrame
variable {d d0 e : Dev} {x : TrunkRx} {f : RxFrame} {p : Nat} {peak : Int}

theorem Dev.trunkFrame_none (h : (d.radio 16).rx = none) : d.trunkFrame x peak = d := by
  simp [Dev.trunkFrame, trk, h]

/-- A frame of a valid peer: what `takeTrunk` makes of it, where no RXC has closed the window meanwhile. -/
theorem Dev.trunkFrame_peer {g : Dev} (hrx : (d.radio 16).rx = some f) (hsfd : f.sfd = true)
    (h0 : d0 = d.onRadio 16 (fun r => { r with rx := none, heard := some d.clk })) (hst : (d0.radio 16).st = sRX)
    (hhead : x.headerOk = true) (hpeer : d0.peerOf x.src = some p) (hg : (d0.capture 16 1).takeTrunk p f x = g)
    (hopen : (g.radio 16).closeAfter = false) : d.trunkFrame x peak = g := by
  simp only [Dev.trunkFrame, trk, hrx, hsfd, ← h0, hst, hhead, hpeer, hg, hopen, Bool.not_true, Bool.false_eq_true, ne_eq,
    not_true_eq_false, decide_false, Bool.or_false, if_false]

/-- A data frame under the default map, without soundings, for every station. -/
theorem Dev.takeTrunk_data (htype : x.type = 0) (hsnd : x.soundings = []) (hdst : x.dst = 255) (hgen : x.mgen = 0) :
    e.takeTrunk p f x = e.takeData f x false := by
  simp [Dev.takeTrunk, htype, hsnd, hdst, hgen, Dev.forEach]

theorem Dev.takeData_no_buffer (h : e.trunk.rxb = []) : e.takeData f x false = e.bumpF R.TRK_CNT 0 16 1 := by
  simp [Dev.takeData, h]

theorem Dev.takeData_fits {addr cap : Word} {l : List (Word × Word)} (h : e.trunk.rxb = (addr, cap) :: l)
    (hlen : x.payload.length ≤ cap.toNat) (hcrc : x.crcOk = true) :
    e.takeData f x false = ((({ e with trunk := { e.trunk with rxb := l } }.msWrite (storeBase + addr.toNat % 0xC00000)
      x.payload).trkRecord f x 0 addr).pmcOctets 28 1 x.payload.length) := by
  simp only [Dev.takeData, h, Bool.false_or, decide_eq_true_eq, if_neg (Nat.not_lt.2 hlen), hcrc, if_true]

end TrunkFrame

section Peer
variable {d e : Dev} {p : Nat} {w : Word} (he : e = d.setReg (R.TRK_PEER_CTRL p) (w &&& 0x800000FF#32))
include he

theorem Dev.peerCtrl_same (ha : fld (d.reg (R.TRK_PEER_CTRL p)) 0 8 = fld w 0 8)
    (hv : bitOf (d.reg (R.TRK_PEER_CTRL p)) 31 = true) : d.peerCtrl p w = e := by
  simp [Dev.peerCtrl, ha, hv, he]

theorem Dev.peerCtrl_valid (hw : bitOf w 31 = true) (hv : bitOf (d.reg (R.TRK_PEER_CTRL p)) 31 = false) :
    d.peerCtrl p w = e.resetMaps p := by
  simp [Dev.peerCtrl, hw, hv, he]

theorem Dev.peerCtrl_moved (ha : fld (d.reg (R.TRK_PEER_CTRL p)) 0 8 ≠ fld w 0 8)
    (hv : bitOf (d.reg (R.TRK_PEER_CTRL p)) 31 = true) : d.peerCtrl p w = e.resetMaps p := by
  simp [Dev.peerCtrl, ha, hv, he]

end Peer

/-- Settles O34. ENABLE's BAD_STATE in ROM recovery is log 57, and that ROLE stays until the transceiver has drained log 108,
both the model's choice. -/
theorem trunk : Obligations.Trunk := by
  refine fun s hl => ⟨fun r hw => ⟨fun h => ?_, fun hr hf => ⟨fun ht => ?_, fun d ht hd => ?_⟩, fun h => ?_, fun d h hd => ?_,
    fun h1 h2 => ?_, fun h d hd => ?_, fun h => ?_, fun h d hd => ?_⟩, fun w hw hdue hent hc ho => ?_,
    fun t d m hd ht hdue hrole hdrain d1 hd1 hm => ⟨?_, fun hlost => ?_⟩,
    fun x f p peak d0 d hrx hsfd h0 hst hhead htype hpeer hsnd hdst hgen hd => ⟨fun hb hopen => ?_,
      fun addr cap l t hb hlen hcrc ht hopen => ?_⟩, fun h x peak => ?_, fun p hp hh => ?_,
    fun r p w d hw hd => ⟨fun ha hv => ?_, fun hw' hv => ?_, fun ha hv => ?_⟩⟩
  · exact acted_byWrite_eq hl hw (Dev.trkEnable_bad_state h)
  · exact acted_byWrite_eq hl hw (Dev.trkEnable_no_ref hr hf ht)
  · exact acted_byWrite_eq hl hw (Dev.trkEnable_warms hr hf ht hd)
  · exact acted_byWrite_eq hl hw (Dev.trkDisable_off h)
  · exact acted_byWrite_eq hl hw (Dev.trkDisable_drains h hd)
  · exact acted_byWrite_eq hl hw (Dev.trkClaim_bad_state h1 h2)
  · exact acted_byWrite_eq hl hw (Dev.trkClaim_contends h hd)
  · exact acted_byWrite_eq hl hw (Dev.trkResign_bad_state h)
  · exact acted_byWrite_eq hl hw (Dev.trkResign_sends h hd)
  · exact acted_eq hl (Dev.claimEnd_no_claimant hw hdue hent hc ho)
  · exact acted_eq hl (Dev.superframe_heard hd ht hdue hrole hdrain hd1)
  · exact acted_eq hl (Dev.superframe_missed hd ht hdue hrole hdrain hd1 hm hlost)
  · refine acted_eq hl (Dev.trunkFrame_peer hrx hsfd h0 hst hhead hpeer ?_ hopen)
    rw [← hd, Dev.takeTrunk_data htype hsnd hdst hgen, Dev.takeData_no_buffer hb]
  · refine acted_eq hl (Dev.trunkFrame_peer hrx hsfd h0 hst hhead hpeer ?_ hopen)
    rw [← hd, Dev.takeTrunk_data htype hsnd hdst hgen, Dev.takeData_fits hb hlen hcrc, ht]
  · exact acted_eq hl (Dev.trunkFrame_none h)
  · exact acted_eq hl (Dev.mapQueue_raised hp hh)
  · exact acted_byWrite_eq hl hw (Dev.peerCtrl_same hd ha hv)
  · exact acted_byWrite_eq hl hw (Dev.peerCtrl_valid hd hw' hv)
  · exact acted_byWrite_eq hl hw (Dev.peerCtrl_moved hd ha hv)

end Sys2Proof.Machine

/-! # Proofs: the Anchor Sync Bus -/

namespace Sys2Proof.Machine

section BusCommand
variable {d : Dev} {w : Word}

theorem Dev.asbTxcmd_bad_type (h5 : fld w 24 4 ≠ 5) (h6 : fld w 24 4 ≠ 6) :
    d.asbTxcmd w = d.setReg R.ASB_TXRES (pack [(31, 1), (0, 2)]) := if_pos (.inl ⟨h5, h6⟩)

variable (ht : fld w 24 4 = 5 ∨ fld w 24 4 = 6) (hn : fld w 0 5 ≤ 16)
include ht hn

theorem Dev.asbTxcmd_busy (h : 8 ≤ (d.asb.txq.filter fun e => busClass e.1.type == 2).length) :
    d.asbTxcmd w = d.setReg R.ASB_TXRES (pack [(31, 1), (0, 3)]) := (if_neg (by omega)).trans (if_pos h)

theorem Dev.asbTxcmd_queues (h : (d.asb.txq.filter fun e => busClass e.1.type == 2).length < 8) :
    d.asbTxcmd w = (d.setReg R.ASB_TXRES 0#32).asbQueue
      { type := fld w 24 4, addr := fld w 16 8
        data := ((List.range 4).flatMap fun k => (wordBytes (d.reg (R.ASB_TXD k))).reverse).take (fld w 0 5) } :=
  (if_neg (by omega)).trans (if_neg (Nat.not_le.2 h))

end BusCommand

section BusStart
variable {d e : Dev} {k tries : Nat} {f g : BusFrame} {rivals : List BusFrame}

/-- What the station makes of its next frame against the rivals it loses to. -/
theorem Dev.asbStart_cases (hidle : d.asbIdle = true) (hpd : d.pdRun 2 = true) (hs : d.asb.sending = none)
    (hk : d.asbNext = some k) (hf : d.asb.txq.getD k default = (f, tries)) (hg : g = d.asbFill f)
    (he : e = { d with asb := { d.asb with quiet := none, cur := some k, txq := d.asb.txq.set k (g, tries) } })
    {l : List BusFrame} (hl : l = rivals.filter fun r => losesTo (frameBitsOf g) (frameBitsOf r)) :
    (l = [] → d.asbStart rivals = { e with asb := { e.asb with sending := some g, line := lineBits g } }.asbSof g) ∧
    (l ≠ [] → d.asbStart rivals = { e with asb := { e.asb with
      line := l.foldl (fun b r => alike b (lineBits r)) (lineBits g) } }.bumpF R.ASB_CNT 8 8 1) := by
  subst he
  have hmay : (!d.asbIdle || !d.pdRun 2 || d.asb.sending.isSome) = false := by simp [hidle, hpd, hs]
  refine ⟨fun hnil => ?_, fun hne => ?_⟩
  · simp only [Dev.asbStart, hmay, hk, hf, ← hg, ← hl, hnil, Bool.false_eq_true, if_false]
  · obtain ⟨r, l', rfl⟩ := List.exists_cons_of_ne_nil hne
    simp only [Dev.asbStart, hmay, hk, hf, ← hg, ← hl, Bool.false_eq_true, if_false]

end BusStart

/-! ## A frame completes (R324, R327) -/

section BusComplete
variable {d e : Dev} (hen : d.asbEn = true) (hpd : d.pdRun 2 = true)
include hen hpd

theorem Dev.asb_listens : ¬ (!d.asbEn || !d.pdRun 2) = true := by simp [hen, hpd]

theorem Dev.asbComplete_stuffError (he : e = { d with asb := { d.asb with quiet := some d.clk } }) :
    d.asbComplete .stuffError = e.bumpF R.ASB_CNT 16 8 1 := by
  subst he
  exact if_neg (Dev.asb_listens hen hpd)

variable (he : e = { d with asb := { d.asb with quiet := some (d.clk - 7 * us) } })
include he

theorem Dev.asbComplete_crcError : d.asbComplete .crcError = e.bumpF R.ASB_CNT 24 8 1 := by
  subst he
  exact if_neg (Dev.asb_listens hen hpd)

theorem Dev.asbComplete_own {acked bitError : Bool} :
    d.asbComplete (.own acked bitError) = e.asbSent (acked && !bitError) := by
  subst he
  exact if_neg (Dev.asb_listens hen hpd)

theorem Dev.asbComplete_other {src ago : Nat} {f : BusFrame} (h : f.type ≠ 1) :
    d.asbComplete (.other src f ago) = e.asbReceive src f := by
  subst he
  refine (if_neg (Dev.asb_listens hen hpd)).trans ?_
  dsimp only
  rw [if_neg h]

end BusComplete

/-- A PLAN or USER frame to every station is acknowledged and delivered. -/
theorem Dev.asbReceive_message {e : Dev} {src : Nat} {f : BusFrame} (ha : f.addr = 255) (ht : f.type = 5 ∨ f.type = 6) :
    e.asbReceive src f = { e with asb := { e.asb with line := [false] } }.asbDeliver f := by
  refine (if_neg fun h => h.2 ha).trans ?_
  rcases ht with h | h <;> simp only [h]

section BusSent
variable {d : Dev} {k tries : Nat} {f g : BusFrame} (hk : d.asb.cur = some k) (hf : d.asb.sending = some f)
include hk hf

theorem Dev.asbSent_acked (ht : f.type = 5 ∨ f.type = 6) : d.asbSent true = (d.asbDone k).setReg R.ASB_TXRES 0x80000000#32 := by
  rcases ht with h | h <;> simp [Dev.asbSent, hk, hf, h]

theorem Dev.asbSent_again (hq : d.asb.txq.getD k default = (g, tries)) (h : tries < d.f R.ASB_CFG 16 4) :
    d.asbSent false = { d with asb := { d.asb with txq := d.asb.txq.set k (f, tries + 1), sending := none } } := by
  simp only [Dev.asbSent, hk, hf, hq, h, Bool.false_eq_true, if_false, if_true]

theorem Dev.asbSent_dropped (ht : f.type = 5 ∨ f.type = 6) (hq : d.asb.txq.getD k default = (g, tries)) (h : d.f R.ASB_CFG 16 4 ≤ tries) :
    d.asbSent false = (d.asbDone k).setReg R.ASB_TXRES 0x80000001#32 := by
  have hmsg : 4 < f.type := by omega
  simp only [Dev.asbSent, hk, hf, hq, if_neg (Nat.not_lt.2 h), hmsg, Bool.false_eq_true, if_false, if_true]

end BusSent

theorem Dev.syncInterval_master {d : Dev} {n : Nat} (hn : n = d.f R.ASB_SYNCINT 0 16) (hen : d.asbEn = true)
    (hm : d.b R.ASB_CFG 30 = true) (h0 : n ≠ 0) (hpd : d.pdRun 2 = true) (hdue : d.asb.nextSync ≤ d.clk) :
    d.syncInterval = ({ d with asb := { d.asb with nextSync := d.clk + n * ms } }.asbQueue
      { type := 1, addr := 255, data := [] }).asbQueue { type := 2, addr := 255, data := [] } := by
  subst hn
  exact if_pos (by simp [hen, hm, h0, hpd, hdue])

/-- Settles O35. The clauses on the bus, its start, its end and its answers, are the model's choice (log 24). -/
theorem syncBus : Obligations.SyncBus := by
  refine fun s hl => ⟨fun r w hw => ⟨fun h5 h6 => ?_, fun ht hn h => ?_, fun ht hn h => ?_⟩,
    fun k f g tries rivals d hidle hpd hs hk hf hg hd => ⟨fun l hlist hne => ?_, fun hwin => ?_⟩,
    fun d e hen hpd hd he => ⟨?_, ?_, fun src ago f ha ht => ?_,
      fun k f hk hf ht => ⟨?_, fun g tries hq => ⟨fun h => ?_, fun h => ?_⟩⟩⟩,
    fun n hn hen hm h0 hpd hdue => ?_, fun r f l hw hq => ?_⟩
  · exact acted_byWrite_eq hl hw (Dev.asbTxcmd_bad_type h5 h6)
  · exact acted_byWrite_eq hl hw (Dev.asbTxcmd_busy ht hn h)
  · exact acted_byWrite_eq hl hw (Dev.asbTxcmd_queues ht hn h)
  · exact acted_eq hl ((Dev.asbStart_cases hidle hpd hs hk hf hg hd hlist).2 hne)
  · have hnil : rivals.filter (fun r => losesTo (frameBitsOf g) (frameBitsOf r)) = [] :=
      List.filter_eq_nil_iff.2 fun r hr => by simp [hwin r hr]
    exact acted_eq hl ((Dev.asbStart_cases hidle hpd hs hk hf hg hd rfl).1 hnil)
  · exact acted_eq hl (Dev.asbComplete_crcError hen hpd hd)
  · exact acted_eq hl (Dev.asbComplete_stuffError hen hpd he)
  · exact acted_eq hl ((Dev.asbComplete_other hen hpd hd (by omega)).trans (Dev.asbReceive_message ha ht))
  · refine acted_eq hl ((Dev.asbComplete_own hen hpd hd).trans ?_)
    subst hd
    exact Dev.asbSent_acked hk hf ht
  · refine acted_eq hl ((Dev.asbComplete_own hen hpd hd).trans ?_)
    subst hd
    exact Dev.asbSent_again hk hf hq h
  · refine acted_eq hl ((Dev.asbComplete_own hen hpd hd).trans ?_)
    subst hd
    exact Dev.asbSent_dropped hk hf ht hq h
  · exact acted_eq hl (Dev.syncInterval_master hn hen hm h0 hpd hdue)
  · refine acted_byWrite_eq hl hw ?_
    rw [Dev.asbPop, hq]
    rfl

end Sys2Proof.Machine

/-! # Proofs: the node table -/

namespace Sys2Proof.Machine

/-! ## Writes through the window (R210) -/

section NodeWindow
variable {d : Dev} {p : Proc} {off size pd f : Nat} {v : Word} (hoff : off < 0x100000)
  (hp : d.place p (d.cpu p.num).sup (wd (0x41000000 + off)) size kStore = .ok (.win f pd (0x1000000 + off)))
  (hrun : d.pdRun pd = true) (hprep : d.pdPrep pd = false)
include hoff hp hrun hprep

theorem Dev.windowWrite_nodeTable :
    d.windowWrite p off size v = d.ntWrite (d.winHalf p) off size (v.toNat % 2 ^ (8 * size)) := by
  have hlow : 0x1000000 + off < 0x1100000 := by omega
  simp only [Dev.windowWrite, hp, Dev.storeAt, hrun, hprep, hlow, Nat.add_sub_cancel_left, Bool.not_true, Bool.false_eq_true,
    if_false, if_true]

theorem Dev.windowWrite_permitted (h1 : 0x10 ≤ off % 64) (h2 : off % 64 < 0x20) :
    d.windowWrite p off size v = d.wrBytes (ntBase (d.winHalf p) + off)
      ((natBytes size (v.toNat % 2 ^ (8 * size))).zipIdx.map fun e => e.1 &&& ntMask (off % 64 + e.2)) := by
  rw [Dev.windowWrite_nodeTable hoff hp hrun hprep]
  exact if_pos (by simp [h1, h2])

theorem Dev.windowWrite_forbidden (h : 0x20 ≤ off % 64) : d.windowWrite p off size v = d.setB R.MAC_STATUS 0 true := by
  rw [Dev.windowWrite_nodeTable hoff hp hrun hprep]
  exact if_neg (by simp only [Bool.or_eq_true, Bool.and_eq_true, decide_eq_true_eq]; omega)

end NodeWindow

/-! ## Commands of a Main Processor (R211) -/

/-- What a command made of the table, its outputs and its result, in the Main Processor's bank. -/
def Dev.ntAnswer (d : Dev) (bank cmd r : Nat) (outs : List Word) : Dev :=
  (d.forEach (List.range outs.length) fun d k => d.setReg (bankKey bank (R.MAC_NTOUT k)) (outs.getD k 0#32)).setReg
    (bankKey bank R.MAC_NTRES) (pack [(31, 1), (4, cmd), (0, r)])

section NodeCommand
variable {s : State} {h : Half} {bank cmd r : Nat} {args outs : List Word} {e : Dev} (hl : s.live)
  (hbank : bank = 64 + h.toNat) (hw : s.dev.lets (.mp h) R.MAC_NTCMD) (hpd : s.dev.pdRun 4 = true)
  (hargs : (List.range 4).map (fun k => s.dev.reg (bankKey bank (R.MAC_NTARG k))) = args)
include hl hbank hw hpd hargs

theorem acted_ntFrom (hx : s.dev.ntExec h.toNat cmd args = (e, r, outs)) :
    acted s (fun d => d.ntFrom h none cmd) = .next (s.goes (e.ntAnswer bank cmd r outs)) := by
  subst hbank
  refine acted_byWrite_eq hl hw ?_
  have hmp : 64 + h.toNat < 70 := by cases h <;> decide
  simp only [Dev.ntCommand, hpd, mpBank, hargs, hx, hmp, Dev.ntAnswer, Bool.not_true, Bool.false_eq_true, if_false, if_true]

/-- A command without outputs. -/
theorem acted_ntFrom_result (hx : s.dev.ntExec h.toNat cmd args = (e, r, [])) : acted s (fun d => d.ntFrom h none cmd) =
    .next (s.goes (e.setReg (bankKey bank R.MAC_NTRES) (pack [(31, 1), (4, cmd), (0, r)]))) :=
  acted_ntFrom hl hbank hw hpd hargs hx

end NodeCommand

section NodeExec
variable {d : Dev} {h n : Nat} {a1 a2 a3 : Word} (hn : n ≤ 16383)
include hn

theorem wd_node_toNat : (wd n).toNat = n := by
  rw [wd, BitVec.toNat_ofNat]
  exact Nat.mod_eq_of_lt (by omega)

theorem Dev.ntExec_insert (hc : d.insertCheck h n = 0) :
    d.ntExec h 1 [wd n, a1, a2, a3] = (d.ntInsert n a1.toNat (bitOf a2 0), 0, []) := by
  simp [Dev.ntExec, wd_node_toNat hn, Nat.not_lt.2 hn, hc]

theorem Dev.ntExec_insert_refused (hc : d.insertCheck h n ≠ 0) :
    d.ntExec h 1 [wd n, a1, a2, a3] = (d, d.insertCheck h n, []) := by
  simp [Dev.ntExec, wd_node_toNat hn, Nat.not_lt.2 hn, hc]

theorem Dev.ntExec_invalidate (hv : (d.ntField h n 0x0A 2).testBit 15 = true) :
    d.ntExec h 2 [wd n, a1, a2, a3] = ((d.setValid n false).purge n, 0, []) := by
  simp [Dev.ntExec, wd_node_toNat hn, Nat.not_lt.2 hn, hv]

theorem Dev.ntExec_setfc (hv : (d.ntField h n 0x0A 2).testBit 15 = true) : d.ntExec h 3 [wd n, a1, a2, a3] =
    ((d.setFcIn n a1.toNat (bitOf a2 0) (d.ntState n)).purge n, 0, []) := by
  simp [Dev.ntExec, wd_node_toNat hn, Nat.not_lt.2 hn, hv]

theorem Dev.ntExec_sync {e : Dev} (hv : (d.ntField h n 0x0A 2).testBit 15 = true)
    (he : e = (d.ntPut n 0x20 8 (a1.toNat + 2 ^ 32 * a2.toNat)).ntPut n 0x28 8 d.count) :
    d.ntExec h 4 [wd n, a1, a2, a3] = (e.ntPut n 0x3A 1 (e.ntCgen n + 1), 0, []) := by
  subst he
  simp [Dev.ntExec, wd_node_toNat hn, Nat.not_lt.2 hn, hv]

theorem Dev.ntExec_plan {x : Plan} (hx : d.plan n (a1.toNat + 2 ^ 32 * a2.toNat) = (0, some x)) :
    d.ntExec h 5 [wd n, a1, a2, a3] =
      (d.noteTrain h n (if x.method = 2 ∨ x.method = 3 then x.n else 0), 0, x.words) := by
  simp only [Dev.ntExec, List.getD_cons_zero, List.getD_cons_succ, wd_node_toNat hn, if_neg (Nat.not_lt.2 hn), hx]

theorem Dev.ntExec_plan_invalid (hv : d.ntValid n = false) : d.ntExec h 5 [wd n, a1, a2, a3] = (d, 7, []) := by
  have hx : d.plan n (a1.toNat + 2 ^ 32 * a2.toNat) = (7, none) := by simp [Dev.plan, hv]
  simp only [Dev.ntExec, List.getD_cons_zero, List.getD_cons_succ, wd_node_toNat hn, if_neg (Nat.not_lt.2 hn), hx]

end NodeExec

/-- PLAN of a valid node whose PHY fits its band: the instant asked for, or NOW_OR_TRAIN (R218). -/
theorem Dev.plan_simple {d : Dev} {n m nb : Nat} {x : Plan} (hm : m = d.planNode n) (hn : d.ntValid n = true)
    (hv : d.ntValid m = true) (hphy : phyKind (d.ntPhy m) = d.ntBand m + 1)
    (hx : d.ntKind m = 1 ∧ x = { method := 0, txs := nb, frame := nb } ∨ d.ntKind m = 2 ∧ x = { method := 4 }) :
    d.plan n nb = (0, some x) := by
  subst hm
  obtain ⟨hk, rfl⟩ | ⟨hk, rfl⟩ := hx <;> simp [Dev.plan, hn, hv, hphy, hk]

section NodeLookup
variable {d : Dev} {h : Nat} {a1 a2 a3 : Word}

theorem Dev.ntExec_lookup {m : Nat} (hm : (d.validNodes h).find? (fun m => d.ntField h m 0x08 2 == a1.toNat) = some m) :
    d.ntExec h 6 [0#32, a1, a2, a3] = (d, 0, [wd m]) := by
  simp only [Dev.ntExec, List.getD_cons_zero, List.getD_cons_succ, show bitOf 0#32 0 = false from rfl, Bool.false_eq_true,
    if_false, hm]

theorem Dev.ntExec_lookup_none (hm : (d.validNodes h).find? (fun m => d.ntField h m 0x08 2 == a1.toNat) = none) :
    d.ntExec h 6 [0#32, a1, a2, a3] = (d, 5, []) := by
  simp only [Dev.ntExec, List.getD_cons_zero, List.getD_cons_succ, show bitOf 0#32 0 = false from rfl, Bool.false_eq_true,
    if_false, hm]

end NodeLookup

/-- Settles O36. The layout of NTOUT0 is log 27, and the train noted by the lookup log 111, both the model's choice. -/
theorem nodeTable : Obligations.NodeTable := by
  refine fun s hl => ⟨fun p off size pd f v hoff hp hrun hprep => ⟨fun h1 h2 => ?_, fun h => ?_⟩,
    fun h n bank a1 a2 a3 hbank hw hpd hn hargs => ⟨fun hc => ?_, fun hc => ?_, fun hv => ⟨?_, ?_, fun d hd => ?_⟩,
      fun x hx => ?_, fun m nb x hm hnb hv hvm hphy hx => ?_, fun hv => ?_⟩,
    fun h a1 a2 a3 hw hpd hargs => ⟨fun m hm => ?_, fun hm => ?_⟩⟩
  · exact acted_eq hl (Dev.windowWrite_permitted hoff hp hrun hprep h1 h2)
  · exact acted_eq hl (Dev.windowWrite_forbidden hoff hp hrun hprep h)
  · exact acted_ntFrom_result hl hbank hw hpd hargs (Dev.ntExec_insert hn hc)
  · exact acted_ntFrom_result hl hbank hw hpd hargs (Dev.ntExec_insert_refused hn hc)
  · exact acted_ntFrom_result hl hbank hw hpd hargs (Dev.ntExec_invalidate hn hv)
  · exact acted_ntFrom_result hl hbank hw hpd hargs (Dev.ntExec_setfc hn hv)
  · exact acted_ntFrom_result hl hbank hw hpd hargs (Dev.ntExec_sync hn hv hd)
  · exact acted_ntFrom hl hbank hw hpd hargs (Dev.ntExec_plan hn hx)
  · subst hnb
    have h0 : (if x.method = 2 ∨ x.method = 3 then x.n else 0) = 0 := by
      obtain ⟨-, rfl⟩ | ⟨-, rfl⟩ := hx <;> rfl
    have hexec := Dev.ntExec_plan (h := h.toNat) (a3 := a3) hn (Dev.plan_simple hm hv hvm hphy hx)
    rw [h0] at hexec
    exact acted_ntFrom hl hbank hw hpd hargs hexec
  · exact acted_ntFrom_result hl hbank hw hpd hargs (Dev.ntExec_plan_invalid hn hv)
  · exact acted_ntFrom hl rfl hw hpd hargs (Dev.ntExec_lookup hm)
  · exact acted_ntFrom_result hl rfl hw hpd hargs (Dev.ntExec_lookup_none hm)

end Sys2Proof.Machine

/-! # Proofs: received copies in stages 3 to 6 -/

namespace Sys2Proof.Machine

/-! ## Stage 3 (R214, R235) -/

section StageThree
variable {d e : Dev} {x : FrameIn} {n : Nat} (hpd : d.pdRun 4 = true) (hn : d.findNode x.source = some n)
  (hcap : d.capacity = false)
include hpd hn hcap

theorem Dev.frameCopy_replay (hr : d.replayOk n x.fc = false) (hrat : d.ratHas n x.fc = none) :
    d.frameCopy x = (d.bump R.MAC_CNT_REPLAY).macEvent 2 n x.fc x.rxCount x.rxWord2 [] := by
  simp only [Dev.frameCopy, hpd, hn, hcap, hr, hrat, Bool.not_true, Bool.not_false, Bool.false_and, Bool.false_eq_true, if_false,
    if_true]

theorem Dev.frameCopy_duplicate {t : RatEnt} (hr : d.replayOk n x.fc = false) (hrat : d.ratHas n x.fc = some t) :
    d.frameCopy x = d.duplicate t := by
  simp only [Dev.frameCopy, hpd, hn, hcap, hr, hrat, Bool.not_true, Bool.not_false, Bool.false_and, Bool.false_eq_true, if_false,
    if_true]

theorem Dev.frameCopy_held {c : Copy} (hr : d.replayOk n x.fc = true) (hc : c = { id := d.mac.copySeq, node := n, inn := x })
    (he : e = { d with mac := { d.mac with copySeq := d.mac.copySeq + 1, copies := d.mac.copies ++ [c] } })
    (hheld : ((e.holdCopy c).copy c.id).any Copy.held = true) : d.frameCopy x = e.holdCopy c := by
  subst he hc
  simp only [Dev.frameCopy, hpd, hn, hcap, hr, hheld, Bool.not_true, Bool.false_and, Bool.false_eq_true, if_false, if_true]

end StageThree

/-! ## Stage 4 (R236) -/

section StageFour
variable {d e : Dev} {id : Nat} {c : Copy} {datagram : Bool} (hc : d.copy id = some c) (hheld : c.held = true)
  (hver : c.verified = none) (hold : c.old = none) (he : e = (d.pmcEvent 0x09).loadKey (d.ntSlot c.node))
include hc hheld hver hold he

omit hold in
theorem Dev.decryptDone_stale (h : c.stale = true) :
    d.decryptDone id datagram = (e.dropCopy id).bump R.MAC_CNT_LATE := by
  simp only [Dev.decryptDone, hc, hheld, hver, h, ← he, Bool.not_true, Option.isSome_none, Bool.or_self, Bool.false_eq_true,
    if_false, if_true]

theorem Dev.decryptDone_no_key (h : c.stale = false) (hk : e.rxNoKey c.node = true) :
    d.decryptDone id datagram = (e.dropCopy id).bump R.SEC_CNT_NOKEY := by
  simp only [Dev.decryptDone, hc, hheld, hver, hold, h, ← he, hk, Bool.not_true, Option.isSome_none, Bool.or_self,
    Bool.false_eq_true, if_false, if_true]

theorem Dev.decryptDone_forged (h : c.stale = false) (hk : e.rxNoKey c.node = false) (ho : (e.openCopy c).2 = false) :
    d.decryptDone id datagram = (e.dropCopy id).bump R.SEC_CNT_AUTH := by
  simp only [Dev.decryptDone, hc, hheld, hver, hold, h, ← he, hk, ho, Bool.not_true, Bool.not_false, Option.isSome_none,
    Bool.or_self, Bool.false_eq_true, if_false, if_true]

omit hc hheld hver hold he in
theorem openPlain_datagram (l : List Byte) (b : Bool) : (openPlain l b).datagram = b := by
  unfold openPlain
  split <;> rfl

omit hc hheld hver hold he in
/-- Only a copy received on a channel of an all-channel receiver is acknowledged by its hardware. -/
theorem Dev.uplinkAck_lane {c : Copy} {n : Fin 16} (h : c.inn.path = .lane n) (first : Bool) : d.uplinkAck c first = d := by
  simp only [Dev.uplinkAck, h]

theorem Dev.decryptDone_verified {n : Fin 16} (h : c.stale = false) (hk : e.rxNoKey c.node = false)
    (ho : (e.openCopy c).2 = true) (hp : c.inn.path = .lane n) : d.decryptDone id false =
      e.setCopies (e.mac.copies.map fun x => if x.id = id then
        { c with verified := some e.clk, opened := openPlain (e.openCopy c).1 false, busy := false } else x) := by
  simp only [Dev.decryptDone, hc, hheld, hver, hold, h, ← he, hk, ho, Copy.delivers, openPlain_datagram, Bool.not_true,
    Option.isSome_none, Bool.or_self, Bool.false_and, Bool.false_eq_true, if_false]
  refine Dev.uplinkAck_lane (n := n) ?_ _
  exact hp

end StageFour

/-! ## Stages 5 and 6 (R212, R215, R216) -/

section StageFive
variable {d e : Dev} {id : Nat} {c : Copy} (hc : d.copy id = some c) (hver : c.verified.isSome = true)
  (hstale : c.stale = false)
include hc hver hstale

theorem Dev.duplicateFilter_admitted {t : RatEnt} (hrat : d.ratHas c.node c.inn.fc = some t) :
    d.duplicateFilter id = (d.dropCopy id).duplicate t := by
  have hv : c.verified.isNone = false := by rw [← Option.not_isSome, hver]; rfl
  simp only [Dev.duplicateFilter, hc, hv, hstale, hrat, Bool.false_eq_true, if_false]

variable (hrat : d.ratHas c.node c.inn.fc = none)
include hrat

theorem Dev.duplicateFilter_better
    (hb : (d.twins c).any (fun x => decide (pathRank x.inn.path < pathRank c.inn.path)) = true) :
    d.duplicateFilter id = (d.dropCopy id).duplicate { node := c.node, fc := c.inn.fc, tag := c.context.1 } := by
  have hv : c.verified.isNone = false := by rw [← Option.not_isSome, hver]; rfl
  simp only [Dev.duplicateFilter, hc, hv, hstale, hrat, hb, Bool.false_eq_true, if_false, if_true]

variable (hb : (d.twins c).any (fun x => decide (pathRank x.inn.path < pathRank c.inn.path)) = false)
include hb

theorem Dev.duplicateFilter_lower (hl : d.lowerFirst c = true) : d.duplicateFilter id = d := by
  have hv : c.verified.isNone = false := by rw [← Option.not_isSome, hver]; rfl
  simp only [Dev.duplicateFilter, hc, hv, hstale, hrat, hb, hl, Bool.false_eq_true, if_false, if_true]

theorem Dev.duplicateFilter_commits (hl : d.lowerFirst c = false) (hroom : d.mac.rat.length < 512)
    (hr : d.replayOk c.node c.inn.fc = true) (hcsl : c.inn.csl = none) (hdel : c.delivers = false)
    (he : e = d.setRat (d.mac.rat ++ [{ node := c.node, fc := c.inn.fc, commit := some d.clk, tag := c.context.1 }])) :
    d.duplicateFilter id = ((((e.commitFc c.node c.inn.fc).lqsUpdate c.node c.inn.lqw0).forEach (d.twins c)
      fun d x => (d.dropCopy x.id).dupCount x.node).dropCopy id) := by
  have hv : c.verified.isNone = false := by rw [← Option.not_isSome, hver]; rfl
  have hrr : d.ratRoom = some d := if_pos hroom
  have hstore (f : Dev) (n : Nat) : f.store c n = f := if_pos (by rw [hdel]; rfl)
  simp only [Dev.duplicateFilter, hc, hv, hstale, hrat, hb, hl, hrr, hr, hcsl, hstore, ← he, Bool.not_true, Bool.false_eq_true,
    if_false]

end StageFive

theorem Dev.dupExpiry_eq (d : Dev) (n fc : Nat) : d.dupExpiry n fc =
    { d with mac := { d.mac with rat := d.mac.rat.filter fun e => !(e.node == n && e.fc == fc &&
      e.commit.any fun t => decide (t + d.f R.MAC_DUPWIN 0 16 * ms ≤ d.clk)) } } :=
  congrArg d.setRat (List.filter_congr fun e _ => by cases e.commit <;> rfl)

/-- Settles O37. Twins in the same step, and which lower counter wins, are the model's choice (log 99). -/
theorem receivedCopies : Obligations.ReceivedCopies := by
  refine fun s hl => ⟨fun x n hpd hn hcap => ⟨fun hr hrat => ?_, fun e hr hrat => ?_, fun c d hr hc hd hheld => ?_⟩,
    fun id c d datagram hc hheld hver hold hd => ⟨fun h => ?_, fun h hk => ?_, fun h hk ho => ?_, fun n h hk ho hp => ?_⟩,
    fun id c hc hver hstale => ⟨fun e hrat => ?_, fun hrat better hb => ⟨fun h => ?_, fun h hlow => ?_,
      fun d h hlow hroom hr hcsl hdel hd => ?_⟩⟩, fun n fc => ?_⟩
  · exact acted_eq hl (Dev.frameCopy_replay hpd hn hcap hr hrat)
  · exact acted_eq hl (Dev.frameCopy_duplicate hpd hn hcap hr hrat)
  · exact acted_eq hl (Dev.frameCopy_held hpd hn hcap hr hc hd hheld)
  · exact acted_eq hl (Dev.decryptDone_stale hc hheld hver hd h)
  · exact acted_eq hl (Dev.decryptDone_no_key hc hheld hver hold hd h hk)
  · exact acted_eq hl (Dev.decryptDone_forged hc hheld hver hold hd h hk ho)
  · exact acted_eq hl (Dev.decryptDone_verified hc hheld hver hold hd h hk ho hp)
  · exact acted_eq hl (Dev.duplicateFilter_admitted hc hver hstale hrat)
  · exact acted_eq hl (Dev.duplicateFilter_better hc hver hstale hrat (hb.symm.trans h))
  · exact acted_eq hl (Dev.duplicateFilter_lower hc hver hstale hrat (hb.symm.trans h) hlow)
  · exact acted_eq hl (Dev.duplicateFilter_commits hc hver hstale hrat (hb.symm.trans h) hlow hroom hr hcsl hdel hd)
  · exact acted_eq hl (Dev.dupExpiry_eq ..)

end Sys2Proof.Machine

/-! # Proofs: the security rings -/

namespace Sys2Proof.Machine

/-! ## The front of a ring is taken (R227, R231) -/

section RingFront
variable {d : Dev} {h op : Nat} {x : Desc} (hwait : d.secWait h = .none) (hx : d.ringFront h = some x)
include hwait hx

theorem Dev.takeFront_eq (hop : x.op = op ∨ x.op = 0) : d.takeFront h op = some x := by
  have hmine : (decide (x.op = op) || x.reserved) = true := by
    rcases hop with h | h <;> simp [h, Desc.reserved]
  simp only [Dev.takeFront, hwait, hx, Option.bind_some, hmine, if_true]

theorem Dev.secEncrypt_eq (hop : x.op = op ∨ x.op = 0) : d.secEncrypt h op = d.encrypt h x := by
  rw [Dev.secEncrypt, Dev.takeFront_eq hwait hx hop]

theorem Dev.secDecrypt_eq (hop : x.op = op ∨ x.op = 0) (hold : d.oldOf h = none) : d.secDecrypt h op = d.decrypt h x := by
  rw [Dev.secDecrypt, Dev.takeFront_eq hwait hx hop, hold]
  rfl

/-- A decryption accepted before its slot changed (R237, log 97). -/
theorem Dev.secDecrypt_old {i : SlotImage} {e : Dev} (hop : x.op = op ∨ x.op = 0) (hold : d.oldOf h = some i)
    (he : e = (d.putSlot i).decrypt h x) : d.secDecrypt h op =
      ({ e with sec := { e.sec with requested := d.sec.requested } }.sameOld i (e.slotImage i.slot)).putSlot
        (d.slotImage i.slot) := by
  rw [Dev.secDecrypt, Dev.takeFront_eq hwait hx hop, hold, he]
  rfl

/-- A fill goes on at once where none waits for it. -/
theorem Dev.fillCmd_eq (hop : x.op = 5) {t : Dev} (ht : d.encrypt h x = t) (hacks : t.sec.acks = []) : d.fillCmd h = t := by
  have hfill : d.secFill h = t := by
    rw [Dev.secFill, hwait, ← ht]
    exact Dev.secEncrypt_eq hwait hx (.inl hop)
  rw [Dev.fillCmd, hfill, Dev.retryAcks, hacks]
  rfl

end RingFront

/-! ## Encryption (R228 to R233) -/

section Encrypt
variable {d e f : Dev} {h c lim : Nat} {x : Desc} {out : List Byte}

theorem Dev.encrypt_refused {st : Nat} (hr : d.refusal h x = some st) : d.encrypt h x = d.ringResult h x st 0 0 0 := by
  rw [Dev.encrypt, hr]

theorem Dev.encrypt_matched {b : Binding} (hr : d.refusal h x = none) (hb : d.bound h x = some b) :
    d.encrypt h x = d.encMatched h x b := by
  rw [Dev.encrypt, hr, hb]

theorem Dev.encMatched_late {b : Binding} (hb : b.late = true) :
    d.encMatched h x b = (d.unbind b.node b.dir b.match_).ringEnd h x 7 0 0 0 := if_pos hb

theorem Dev.encrypt_fresh (hr : d.refusal h x = none) (hb : d.bound h x = none) : d.encrypt h x = d.encFresh h x := by
  rw [Dev.encrypt, hr, hb]

/-- A fresh encryption below its limit, whose output is delivered. -/
theorem Dev.encFresh_delivers {w2 : Nat} (hst : d.slotState x.slot ≠ 2)
    (hc : c = tget zeroDflt (if x.ccm then d.sec.fc else d.sec.gcm) x.slot) (hmax : x.ccm = true → c < 0xFFFFFFFF)
    (hlim : c < tget zeroDflt (if x.ccm then d.sec.fcLim else d.sec.gcmLim) x.slot)
    (he : e = (d.loadKey x.slot).opReads x x.mlen) (hout : out = e.encOut x c) (hdel : e.deliver h x c out = some (f, w2)) :
    d.encFresh h x = ((if x.ccm then f.useFc x.slot else f.useGcm x.slot).bind h x 0 c out).ringResult h x 0 c w2
      ((if x.ccm then f.useFc x.slot else f.useGcm x.slot).reported x) := by
  have hgo : (decide (d.slotState x.slot = 2) || (x.ccm && decide (0xFFFFFFFF ≤ c))) = false := by
    cases hccm : x.ccm with
    | false => simp [hst]
    | true => simp [hst, Nat.not_le.2 (hmax hccm)]
  simp only [Dev.encFresh, ← hc, hgo, if_neg (Nat.not_le.2 hlim), ← he, ← hout, hdel, Bool.false_eq_true, if_false]

theorem Dev.deliver_memory (hf : x.fills = false) : e.deliver h x c out =
    some ((e.putCounter x c).msWrite (storeBase + (x.word 4).toNat) out, if x.ccm then 0 else c / 2 ^ 32) := by
  simp only [Dev.deliver, hf, Bool.false_eq_true, if_false]

theorem Dev.deliver_fill {k : Nat} {g : Dev × Nat} (hf : x.fills = true) (hk : e.txPlace x.lane (e.fillLen x) = some k)
    (hfirst : e.fillFirst x.lane (e.fillUntil h) h = true)
    (hg : g = (e.putCounter x c).fillEntry x.lane k (e.fillOf x c out)) :
    e.deliver h x c out = some (g.1.fillTrain h x, g.2) := by
  simp only [Dev.deliver, hf, hk, hfirst, ← hg, if_true]

theorem Desc.kinds_of_op_one (h : x.op = 1) : x.ccm = true ∧ x.fills = false := by simp [Desc.ccm, Desc.fills, h]
theorem Desc.kinds_of_op_three (h : x.op = 3) : x.ccm = false ∧ x.fills = false := by simp [Desc.ccm, Desc.fills, h]
theorem Desc.kinds_of_op_five (h : x.op = 5) : x.ccm = true ∧ x.fills = true := by simp [Desc.ccm, Desc.fills, h]

theorem Dev.encFresh_ccm (hop : x.op = 1) (hst : d.slotState x.slot ≠ 2) (hc : c = tget zeroDflt d.sec.fc x.slot)
    (hmax : c < 0xFFFFFFFF) (hlim : c < tget zeroDflt d.sec.fcLim x.slot) (he : e = (d.loadKey x.slot).opReads x x.mlen)
    (hout : out = e.encOut x c)
    (hf : f = ((e.msWrite (storeBase + (x.word 2).toNat + x.fcoff) (natBytes 4 c)).msWrite
      (storeBase + (x.word 4).toNat) out).useFc x.slot) :
    d.encFresh h x = (f.bind h x 0 c out).ringResult h x 0 c 0 (f.reported x) := by
  obtain ⟨hccm, hfill⟩ := Desc.kinds_of_op_one hop
  have hdel := Dev.deliver_memory (e := e) (h := h) (c := c) (out := out) hfill
  have hall := Dev.encFresh_delivers (h := h) hst (by rw [hccm]; exact hc) (fun _ => hmax) (by rw [hccm]; exact hlim) he hout hdel
  rw [hall, hf, hccm, Dev.putCounter, hccm]
  rfl

theorem Dev.encFresh_gcm (hop : x.op = 3) (hst : d.slotState x.slot ≠ 2) (hc : c = tget zeroDflt d.sec.gcm x.slot)
    (hlim : c < tget zeroDflt d.sec.gcmLim x.slot) (he : e = (d.loadKey x.slot).opReads x x.mlen) (hout : out = e.encOut x c)
    (hf : f = (e.msWrite (storeBase + (x.word 4).toNat) out).useGcm x.slot) :
    d.encFresh h x = (f.bind h x 0 c out).ringResult h x 0 c (c / 2 ^ 32) (f.reported x) := by
  obtain ⟨hccm, hfill⟩ := Desc.kinds_of_op_three hop
  have hdel := Dev.deliver_memory (e := e) (h := h) (c := c) (out := out) hfill
  have hall := Dev.encFresh_delivers (h := h) hst (by rw [hccm]; exact hc) (fun hn => by simp [hccm] at hn)
    (by rw [hccm]; exact hlim) he hout hdel
  rw [hall, hf, hccm, Dev.putCounter, hccm]
  rfl

theorem Dev.encFresh_fill {k : Nat} {g : Dev × Nat} (hop : x.op = 5) (hst : d.slotState x.slot ≠ 2)
    (hc : c = tget zeroDflt d.sec.fc x.slot) (hmax : c < 0xFFFFFFFF) (hlim : c < tget zeroDflt d.sec.fcLim x.slot)
    (he : e = (d.loadKey x.slot).opReads x x.mlen) (hout : out = e.encOut x c)
    (hk : e.txPlace x.lane (e.fillLen x) = some k) (hfirst : e.fillFirst x.lane (e.fillUntil h) h = true)
    (hg : g = (e.msWrite (storeBase + (x.word 2).toNat + x.fcoff) (natBytes 4 c)).fillEntry x.lane k (e.fillOf x c out))
    (hf : f = (g.1.fillTrain h x).useFc x.slot) :
    d.encFresh h x = (f.bind h x 0 c out).ringResult h x 0 c g.2 (f.reported x) := by
  obtain ⟨hccm, hfill⟩ := Desc.kinds_of_op_five hop
  have hput : e.putCounter x c = e.msWrite (storeBase + (x.word 2).toNat + x.fcoff) (natBytes 4 c) := if_pos hccm
  have hdel := Dev.deliver_fill hfill hk hfirst (hg.trans (by rw [hput]))
  have hall := Dev.encFresh_delivers (h := h) hst (by rw [hccm]; exact hc) (fun _ => hmax) (by rw [hccm]; exact hlim) he hout hdel
  rw [hall, hf, hccm]
  rfl

/-- Without a limit the front asks for one and waits 1 ms (R233). -/
theorem Dev.encFresh_waits (hop : x.op = 1) (hwait : d.secWait h = .none) (hst : d.slotState x.slot ≠ 2)
    (hmax : tget zeroDflt d.sec.fc x.slot < 0xFFFFFFFF)
    (hlim : tget zeroDflt d.sec.fcLim x.slot ≤ tget zeroDflt d.sec.fc x.slot) :
    d.encFresh h x = (d.askLimit x.slot).setWait h (.reservation (d.clk + 160000)) := by
  obtain ⟨hccm, -⟩ := Desc.kinds_of_op_one hop
  have hgo : (decide (d.slotState x.slot = 2) || (true && decide (0xFFFFFFFF ≤ tget zeroDflt d.sec.fc x.slot))) = false := by
    simp [hst, Nat.not_le.2 hmax]
  simp only [Dev.encFresh, hccm, if_true, hgo, if_pos hlim, hwait, Bool.false_eq_true, if_false]

end Encrypt

/-! ## Decryption (R235, R236) -/

section Decrypt
variable {d d0 e : Dev} {h fc : Nat} {x : Desc}

theorem Dev.decrypt_refused {st : Nat} (hr : d.refusal h x = some st) : d.decrypt h x = d.ringResult h x st 0 0 0 := by
  rw [Dev.decrypt, hr]

theorem Dev.decrypt_matched {b : Binding} (hr : d.refusal h x = none) (hb : d.bound h x = some b) :
    d.decrypt h x = d.decMatched h x b := by
  rw [Dev.decrypt, hr, hb]

theorem Dev.decrypt_fresh (hr : d.refusal h x = none) (hb : d.bound h x = none) : d.decrypt h x = d.decFresh h x := by
  rw [Dev.decrypt, hr, hb]

theorem Dev.decMatched_late {b : Binding} (he : e = d.unbind b.node b.dir b.match_) (hl : b.late = true) :
    d.decMatched h x b = e.ringEnd h x 7 0 0 0 := by
  subst he
  exact if_pos hl

theorem Dev.decMatched_copies {b : Binding} (he : e = d.unbind b.node b.dir b.match_) (hl : b.late = false)
    (hs : b.status = 0) : d.decMatched h x b =
      (e.msWrite (storeBase + (x.word 4).toNat) (fit x.mlen b.out)).ringEnd h x 0 b.fc 0 x.mlen := by
  subst he
  exact (if_neg (by rw [hl]; decide)).trans (if_pos hs)

theorem Dev.decFresh_no_hold (hn : d.takeHold h (holdBlocks x.mlen) = none) :
    d.decFresh h x = (d.bumpF R.SEC_HOLD 16 16 1).setWait h .hold := by
  simp only [Dev.decFresh, hn]

variable (hfc : fc = if x.ccm then (x.word 5).toNat else 0)
include hfc

variable {o : List Byte × Bool} (ht : d.takeHold h (holdBlocks x.mlen) = some d0)
  (he : e = (d0.loadKey x.slot).opReads x (x.mlen + x.mic)) (ho : o = e.decOpen x)
include ht he ho

theorem Dev.decFresh_forged (hok : o.2 = false) :
    d.decFresh h x = ((e.bind h x 1 fc []).freeHold h).ringResult h x 1 fc 0 0 := by
  subst ho
  simp only [Dev.decFresh, ht, ← he, ← hfc, hok, Bool.false_eq_true, if_false]

theorem Dev.decFresh_opens (hok : o.2 = true) : d.decFresh h x =
    (((e.bind h x 0 fc o.1).msWrite (storeBase + (x.word 4).toNat) (fit x.mlen o.1)).freeHold h).ringResult h x 0 fc 0
      x.mlen := by
  subst ho
  simp only [Dev.decFresh, ht, ← he, ← hfc, hok, if_true]

end Decrypt

/-- What CCM_DEC and GCM_DEC make of a front that no binding answers. -/
theorem exec_decFresh {s : State} {h : Half} {x : Desc} {fc : Nat} {i : Instr} (hl : s.live)
    (hw : s.dev.secWait h.toNat = .none) (hx : s.dev.ringFront h.toNat = some x) (hold : s.dev.oldOf h.toNat = none)
    (hr : s.dev.refusal h.toNat x = none) (hb : s.dev.bound h.toNat x = none)
    (hi : x.op = 2 ∧ i = .ccmDec h ∧ fc = (x.word 5).toNat ∨ x.op = 4 ∧ i = .gcmDec h ∧ fc = 0) :
    exec i s = .next (s.goes (s.dev.decFresh h.toNat x)) ∧ fc = if x.ccm then (x.word 5).toNat else 0 := by
  obtain ⟨hop, rfl, rfl⟩ | ⟨hop, rfl, rfl⟩ := hi
  · exact ⟨acted_eq hl ((Dev.secDecrypt_eq hw hx (.inl hop) hold).trans (Dev.decrypt_fresh hr hb)), by simp [Desc.ccm, hop]⟩
  · exact ⟨acted_eq hl ((Dev.secDecrypt_eq hw hx (.inl hop) hold).trans (Dev.decrypt_fresh hr hb)), by simp [Desc.ccm, hop]⟩

/-! ## Time-outs, hold blocks and reservations (R152, R233, R235) -/

section RingWaits
variable {d e : Dev} {h t : Nat}

theorem Dev.endWait_busy (hpd : d.pdRun 6 = true) (ht : t ≤ d.clk) :
    d.endWait h t = d.ringResult h (d.headDesc h) 3 0 0 0 := if_pos (by simp [hpd, ht])

theorem Dev.expireAcks_none {counter : Bool}
    (hn : (d.sec.acks.filter fun a => a.counter == counter && decide (a.until_ ≤ d.clk)) = []) : d.expireAcks counter = d := by
  rw [Dev.expireAcks, hn]
  rfl

section Timeout
variable (hpd : d.pdRun 6 = true) (ht : t ≤ d.clk) (he : e = d.ringResult h (d.headDesc h) 3 0 0 0)
include hpd ht he

theorem Dev.limitExpiry_busy (hw : d.secWait h = .reservation t)
    (hn : (e.sec.acks.filter fun a => a.counter && decide (a.until_ ≤ e.clk)) = []) : d.limitExpiry h = e := by
  have hend : d.reservationTimeout h = e := by
    simp only [Dev.reservationTimeout, hw]
    rw [Dev.endWait_busy hpd ht, he]
  rw [Dev.limitExpiry, hend]
  exact Dev.expireAcks_none (by simpa using hn)

theorem Dev.fillExpiry_busy (hw : d.secWait h = .fill t)
    (hn : (e.sec.acks.filter fun a => !a.counter && decide (a.until_ ≤ e.clk)) = []) : d.fillExpiry h = e := by
  have hend : d.fillTimeout h = e := by
    simp only [Dev.fillTimeout, hw]
    rw [Dev.endWait_busy hpd ht, he]
  rw [Dev.fillExpiry, hend]
  exact Dev.expireAcks_none (by simpa using hn)

end Timeout

theorem Dev.holdFreedAll_runs (he : e = d.holdCopies) (hw : e.secWait h = .hold) (hpd : e.pdRun 6 = true)
    (ht : (e.takeHold h (holdBlocks (e.headDesc h).mlen)).isSome = true) (hold : e.oldOf h = none) :
    d.holdFreedAll h = (e.setWait h .none).decrypt h ((e.setWait h .none).headDesc h) := by
  simp only [Dev.holdFreedAll, ← he, Dev.holdFreed, hw, hpd, ht, hold, Bool.and_self, if_true]
  rfl

theorem Dev.limitArrives_grants {k : Nat} {gcm : Bool} (hr : d.restarting = false) (h0 : (d.grantLimit k gcm).secWait 0 = .none)
    (h1 : (d.grantLimit k gcm).secWait 1 = .none) (ha : (d.grantLimit k gcm).sec.acks = []) :
    d.limitArrives k gcm = d.grantLimit k gcm := by
  have hres : d.reservation k gcm = d.grantLimit k gcm := by
    simp only [Dev.reservation, Dev.forEach, List.foldl_cons, List.foldl_nil, h0, h1]
  rw [Dev.limitArrives, hr, hres, Dev.retryAcks, ha]
  rfl

theorem Dev.ringTailWrite_nothing {r : Nat} {w : Word} (hs : d.ringSize h ≤ fld w 0 12) : d.ringTailWrite r h w =
    { d with sec := { d.sec with tailBy := tput zeroDflt d.sec.tailBy h (r + 1) } }.setReg (R.SEC_RING_TAIL h)
      (wd (fld w 0 12)) := by
  simp only [Dev.ringTailWrite, if_pos hs]

end RingWaits

/-- Settles O38. The slot as it was is log 97, `tailBy` and the binding's copy log 110, the train that PLAN named log 111, and
the order of fills log 116, all the model's choice. -/
theorem securityRings : Obligations.SecurityRings := by
  refine fun s h hl => ⟨fun x st hw hx hr => ⟨fun hop => ?_, fun hop => ?_, fun hold hop => ?_⟩,
    fun x c out d d1 hw hx hr hb hst hd hout => ⟨fun hop hc hmax hlim hd1 => ?_, fun hop hc hlim hd1 => ?_⟩,
    fun x hw hx hr hb hst hop hmax hlim => ?_,
    fun x fc i hw hx hold hr hb hi => ?_,
    fun x b d hw hx hold hr hb hd => ⟨fun hop hlate hs => ?_, fun hop hlate => ?_, fun hop hlate => ?_⟩,
    fun x i d hw hx hold hd => ⟨fun hop => ?_, fun hop => ?_⟩,
    fun x c k out d d1 t e hw hx hop hr hb hst hc hmax hlim hd hout hk hfirst he hd1 ht hacks => ?_,
    fun t d hpd ht hd => ⟨fun hw hn => ?_, fun hw hn => ?_⟩,
    fun d hd hw hpd ht hold => ?_, fun k gcm hr h0 h1 ha => ?_, fun r w hlet hs => ?_, fun node dir m => ?_⟩
  · exact acted_eq hl ((Dev.secEncrypt_eq hw hx (.inl hop)).trans (Dev.encrypt_refused hr))
  · exact acted_eq hl ((Dev.secEncrypt_eq hw hx (.inr hop)).trans (Dev.encrypt_refused hr))
  · exact acted_eq hl ((Dev.secDecrypt_eq hw hx (.inl hop) hold).trans (Dev.decrypt_refused hr))
  · exact acted_eq hl ((Dev.secEncrypt_eq hw hx (.inl hop)).trans ((Dev.encrypt_fresh hr hb).trans
      (Dev.encFresh_ccm hop hst hc hmax hlim hd hout hd1)))
  · exact acted_eq hl ((Dev.secEncrypt_eq hw hx (.inl hop)).trans ((Dev.encrypt_fresh hr hb).trans
      (Dev.encFresh_gcm hop hst hc hlim hd hout hd1)))
  · exact acted_eq hl ((Dev.secEncrypt_eq hw hx (.inl hop)).trans ((Dev.encrypt_fresh hr hb).trans
      (Dev.encFresh_waits hop hw hst hmax hlim)))
  · obtain ⟨hexec, hfc⟩ := exec_decFresh hl hw hx hold hr hb hi
    refine ⟨fun d0 d o ht hd ho => ⟨fun hok => ?_, fun hok => ?_⟩, fun hn => ?_⟩
    · rw [hexec, Dev.decFresh_forged hfc ht hd ho hok]
    · rw [hexec, Dev.decFresh_opens hfc ht hd ho hok]
    · rw [hexec, Dev.decFresh_no_hold hn]
  · exact acted_eq hl ((Dev.secDecrypt_eq hw hx (.inl hop) hold).trans ((Dev.decrypt_matched hr hb).trans
      (Dev.decMatched_copies hd hlate hs)))
  · exact acted_eq hl ((Dev.secDecrypt_eq hw hx (.inl hop) hold).trans ((Dev.decrypt_matched hr hb).trans
      (Dev.decMatched_late hd hlate)))
  · rw [hd]
    exact acted_eq hl ((Dev.secEncrypt_eq hw hx (.inl hop)).trans ((Dev.encrypt_matched hr hb).trans
      (Dev.encMatched_late hlate)))
  · exact acted_eq hl (Dev.secDecrypt_old hw hx (.inl hop) hold hd)
  · exact acted_eq hl (Dev.secDecrypt_old hw hx (.inl hop) hold hd)
  · refine acted_eq hl (Dev.fillCmd_eq hw hx hop ((Dev.encrypt_fresh hr hb).trans ?_) hacks)
    rw [ht]
    exact Dev.encFresh_fill hop hst hc hmax hlim hd hout hk hfirst he hd1
  · exact acted_eq hl (Dev.limitExpiry_busy hpd ht hd hw hn)
  · exact acted_eq hl (Dev.fillExpiry_busy hpd ht hd hw hn)
  · exact acted_eq hl (Dev.holdFreedAll_runs hd hw hpd ht hold)
  · exact acted_eq hl (Dev.limitArrives_grants hr h0 h1 ha)
  · exact acted_byWrite_eq hl hlet (Dev.ringTailWrite_nothing hs)
  · exact acted_eq hl rfl

end Sys2Proof.Machine

/-! # Proofs: alarms, and the submission that stays held -/

namespace Sys2Proof.Machine

/-! ## Alarms (R238 to R241) -/

section SlotBad
variable {d d0 e : Dev} {k : Nat} (hs : d.slotState k = 1 ∨ d.slotState k = 2) (h0 : d0 = (d.setSlotState k 3).flushKey k)
  (he : e = { d0 with sec := { d0.sec with bad := d0.sec.bad + 1 }, mgn := { d0.mgn with keyNotice := true } })
include hs h0 he

theorem Dev.slotBad_counts (hb : e.sec.bad ≠ 17) : d.slotBad k = e := by
  subst h0 he
  exact (if_neg (by omega)).trans (if_neg hb)

/-- The seventeenth bad slot raises A2. -/
theorem Dev.slotBad_alarms (hb : e.sec.bad = 17) : d.slotBad k = e.alarm2 3 := by
  subst h0 he
  exact (if_neg (by omega)).trans (if_pos hb)

end SlotBad

theorem Dev.a2Done_zeroises {d : Dev} (h : d.fw.a2Pending = true) :
    d.a2Done = d.zeroiseKeys.setB R.SEC_STATUS 31 false := if_pos h

/-- Settles O39. The key notice of a slot found bad is the model's choice (log 30). -/
theorem alarms : Obligations.Alarms := by
  refine fun s hl => ⟨fun r hw => ⟨?_, fun d hd => ?_⟩, ?_, fun k d0 d hs h0 hd => ⟨fun hb => ?_, fun hb => ?_⟩, fun h => ?_⟩
  · exact acted_byWrite_eq hl hw rfl
  · subst hd
    exact acted_byWrite_eq hl hw rfl
  · exact acted_eq hl rfl
  · exact acted_eq hl (Dev.slotBad_counts hs h0 hd hb)
  · exact acted_eq hl (Dev.slotBad_alarms hs h0 hd hb)
  · exact acted_eq hl (Dev.a2Done_zeroises h)

/-! ## A submission the device cannot take (R266) -/

/-- A transaction control block in use. -/
def usedTcb : Tcb := { lsn := 0, linkq := 0, tag := 0#32, opc := 1, cls := 2, flow := 0, group := false, target := 0 }

/-- A device that takes submissions, all of whose 1,024 transaction control blocks are in use. -/
def fullDev : Dev := Dev.setB { msg := { tcbs := List.replicate 1024 usedTcb } } R.MSG_CTRL 0 true

/-- A well-formed SEND_GROUP of class U with one octet and a deadline of 1 ms. -/
def groupEntry : List Word := [pack [(28, 2), (26, 2)], 0#32, 1#32, 1#32] ++ List.replicate 12 0#32

/-- The submission that `groupEntry` makes. -/
def groupSub : Sub := ⟨setFld (groupEntry.getD 0 0#32) 28 4 2 :: groupEntry.drop 1⟩

theorem fullDev_cannotAccept : fullDev.canAccept groupSub = false := by decide +kernel

/-- The submission is noted as held, so that it goes on once there is room. -/
theorem fullDev_send_held : (fullDev.send 64 2 groupEntry []).after.msg.stalled = [64] := by decide +kernel

theorem fullDev_status_not_held : (fullDev.setB R.MSG_STATUS 31 true).after.msg.stalled = [] := by decide +kernel

/-- Refutes O40: a submission that the device cannot take sets MSG_STATUS [31], but it is also noted as held. -/
theorem not_submissions : ¬ Obligations.Submissions := by
  intro h
  have hlive : State.live { dev := fullDev, pending := [] } := rfl
  obtain ⟨-, hheld⟩ := h { dev := fullDev, pending := [] } 64 groupEntry [] hlive (by decide +kernel) (by decide +kernel)
    (.sendGroup 64 groupEntry [], 2) (by simp) groupSub rfl
  obtain ⟨hfull, -⟩ := hheld (by decide)
  have hnext := Host.Outcome.next.inj ((acted_live hlive (fun d => d.send 64 2 groupEntry [])).symm.trans
    (hfull fullDev_cannotAccept))
  have hst := congrArg (fun t : State => t.dev.msg.stalled) hnext
  simp only [State.goes_dev] at hst
  rw [fullDev_send_held, fullDev_status_not_held] at hst
  cases hst

end Sys2Proof.Machine

/-! # Proofs: pools, deadlines, result records and message commands -/

namespace Sys2Proof.Machine

/-! ## Pools and deadlines (R258, R261, R263) -/

section Pools
variable {d : Dev} {p lsn : Nat} {t : Tcb} {l : List Tcb}

theorem Dev.poolReserve_takes (hq : d.poolQueue p = t :: l) (hroom : d.poolResv p + t.need ≤ d.poolFree p) :
    d.poolReserve p = d.takeBlocks t := by
  simp only [Dev.poolReserve, hq, if_pos hroom]

theorem Dev.poolTimeout_busy {w : Nat} (hq : d.poolQueue p = t :: l) (hw : t.waitUntil = some w) (hdue : w ≤ d.clk) :
    d.poolTimeout p = d.conclude t.lsn 12 := by
  simp [Dev.poolTimeout, hq, hw, hdue]

section Deadline
variable (ht : d.tcb lsn = some t) (hlsn : lsn < 2 ^ 20) (hst : t.state ≠ 2) (hdue : t.deadline ≤ d.clk)
include ht hlsn hst hdue

theorem Dev.deadline_missed (hr : t.radiated = false) : d.deadline lsn = d.conclude lsn 3 := by
  simp [Dev.deadline, ht, hlsn, hst, hdue, hr]

variable (hr : t.radiated = true) (hcap : d.capacity = false)
include hr hcap

theorem Dev.deadline_again (hp : t.deadlinePosted = true) : d.deadline lsn = d := by
  simp [Dev.deadline, ht, hlsn, hst, hdue, hr, hcap, hp]

theorem Dev.deadline_posts (hp : t.deadlinePosted = false) : d.deadline lsn =
    (d.updTcb lsn fun u => { u with deadlinePosted := true, barFrom := d.armSeq }).macEvent 6 (t.target % 16384) lsn d.count
      (stampWordOf 0 0 false d.tbState d.slewing) [] := by
  simp [Dev.deadline, ht, hlsn, hst, hdue, hr, hcap, hp]

end Deadline

end Pools

/-! ## Result records (R132, R257, R258, R273) -/

section Records
variable {d : Dev} {h : Nat} {r : ResultRec}

/-- A record of the generation whose marker passes next, or of a placement with no marker to pass, is admitted. -/
theorem Dev.resultRecord_admits (hpd : d.pdRun 5 = true)
    (hgen : (d.wen h).oldest r.kind r.res = some r.gen ∨ (d.wen h).markers.contains (r.kind, r.res, r.gen) = false ∧
      r.gen = tget zeroDflt (d.wen h).gen (32 * r.kind + r.res) ∧ d.markerOf h r.kind r.res = false) :
    d.resultRecord h r = d.admitRecord h r := by
  rcases hgen with hold | ⟨hno, hcur, hmark⟩
  · simp only [Dev.resultRecord, hpd, hold, Bool.not_true, Bool.false_eq_true, if_false, if_true]
  · simp only [Dev.resultRecord, hpd, hno, hmark, ← hcur, Bool.not_true, Bool.not_false, Bool.false_eq_true, ne_eq,
      not_true_eq_false, if_false, if_true, ite_self]

theorem Dev.resultRecord_holds (hpd : d.pdRun 5 = true) (hne : (d.wen h).oldest r.kind r.res ≠ some r.gen)
    (hgen : (d.wen h).markers.contains (r.kind, r.res, r.gen) = true ∨
      r.gen = tget zeroDflt (d.wen h).gen (32 * r.kind + r.res) ∧ d.markerOf h r.kind r.res = true)
    (hroom : (d.wen h).hold.length < 256) : d.resultRecord h r = (d.setWen h { d.wen h with
      hold := (d.wen h).hold ++ [⟨r.kind, r.res, r.gen, .record r⟩] }).showHoldcnt h := by
  have hheld : d.holdRecord h r = (d.setWen h { d.wen h with
      hold := (d.wen h).hold ++ [⟨r.kind, r.res, r.gen, .record r⟩] }).showHoldcnt h := if_pos hroom
  rw [← hheld]
  rcases hgen with hin | ⟨hcur, hmark⟩
  · simp only [Dev.resultRecord, hpd, if_neg hne, hin, Bool.not_true, Bool.false_eq_true, if_false, if_true]
  · simp only [Dev.resultRecord, hpd, if_neg hne, ← hcur, hmark, Bool.not_true, Bool.false_eq_true, ne_eq, not_true_eq_false,
      if_false, ite_self]

theorem Dev.resultRecord_passed (hpd : d.pdRun 5 = true) (hne : (d.wen h).oldest r.kind r.res ≠ some r.gen)
    (hno : (d.wen h).markers.contains (r.kind, r.res, r.gen) = false)
    (hcur : r.gen ≠ tget zeroDflt (d.wen h).gen (32 * r.kind + r.res)) : d.resultRecord h r = d.bump R.MSG_CNT_STALE := by
  simp only [Dev.resultRecord, hpd, if_neg hne, hno, if_pos hcur, Bool.not_true, Bool.false_eq_true, if_false]

section Admit
variable (hpd : d.pdRun 5 = true) (hcap : d.capacity = false)
include hpd hcap

theorem Dev.admitRecord_trailing (hlead : d.leader ≠ h) : d.admitRecord h r = d.trailPut h r := by
  simp [Dev.admitRecord, hpd, hcap, hlead]

variable (hlead : d.leader = h)
include hlead

theorem Dev.admitRecord_stale (hu : d.undecided r.lsn = none) : d.admitRecord h r = d.bump R.MSG_CNT_STALE := by
  simp [Dev.admitRecord, Dev.admitResult, hpd, hcap, hlead, hu]

theorem Dev.admitRecord_reports {t : Tcb} (hu : d.undecided r.lsn = some t) : d.admitRecord h r = d.report t r := by
  simp [Dev.admitRecord, Dev.admitResult, hpd, hcap, hlead, hu]

end Admit

variable {t : Tcb}

theorem Dev.report_failed_no_status {st : Nat} (hr : r.report = .failed st) (hs : roleStatus t.group st = false) :
    d.report t r = d.bump R.MSG_CNT_STALE := by
  simp [Dev.report, hr, hs]

theorem Dev.report_failed_late {st : Nat} (hr : r.report = .failed st) (hs : roleStatus t.group st = true)
    (hp : t.deadlinePosted = true) : d.report t r = d := by
  simp [Dev.report, hr, hs, hp]

theorem Dev.report_failed {st : Nat} (hr : r.report = .failed st) (hs : roleStatus t.group st = true)
    (hp : t.deadlinePosted = false) : d.report t r = d.conclude t.lsn st := by
  simp [Dev.report, hr, hs, hp]

theorem Dev.report_acked_again {f z : Nat} (hr : r.report = .acked f z) (hf : t.acked.contains f = true) :
    d.report t r = d.bump R.MSG_CNT_STALE := by
  simp only [Dev.report, hr, hf, Bool.or_true, Bool.true_or, if_true]

end Records

theorem Dev.reasmTimeout_discards {d : Dev} {n tag : Nat} {c : Reasm} (htag : tag < 65536) (hc : d.context n tag = some c)
    (hdue : c.last + d.f R.MSG_REASM 0 16 * ms ≤ d.clk) :
    d.reasmTimeout n tag = (d.dropContext c).bump R.MSG_CNT_REASM_TO := by
  simp only [Dev.reasmTimeout, hc, if_pos hdue, if_pos htag]

/-! ## Message commands (R267 to R270) -/

section MessageCommands
variable {d : Dev} {r : Nat}

theorem Dev.msgCarve_no_room {p n : Nat} (hp : p = fld (d.msgArg r 0) 0 4) (hen : d.poolEn p = true)
    (hn : n = fld (d.msgArg r 1) 0 16) (hroom : d.poolFree p < d.poolResv p + n) :
    d.msgCarve r = d.msgResult r 2 3 [] := by
  simp only [Dev.msgCarve, ← hp, ← hn, hen, if_pos hroom, Bool.not_true, Bool.false_eq_true, if_false]

theorem Dev.msgCarve_carves {p n a : Nat} (hp : p = fld (d.msgArg r 0) 0 4) (hen : d.poolEn p = true)
    (hn : n = fld (d.msgArg r 1) 0 16) (hroom : d.poolResv p + n ≤ d.poolFree p)
    (ha : a = (d.reg (R.MSG_POOL_BASE p)).toNat + 256 * (d.poolSize p - d.carved p - n)) :
    d.msgCarve r = { d with msg := { d.msg with
      carves := tput nilDflt d.msg.carves p ((a, n) :: d.carves p) } }.msgResult r 2 0 [wd a] := by
  simp only [Dev.msgCarve, ← hp, ← hn, hen, if_neg (Nat.not_lt.2 hroom), ← ha, Bool.not_true, Bool.false_eq_true, if_false]

theorem Dev.msgUncarve_latest {p n : Nat} {l : List (Nat × Nat)} (hp : p = fld (d.msgArg r 0) 0 4) (hen : d.poolEn p = true)
    (hn : n = fld (d.msgArg r 2) 0 16) (hc : d.carves p = ((d.msgArg r 1).toNat, n) :: l) :
    d.msgUncarve r = { d with msg := { d.msg with carves := tput nilDflt d.msg.carves p l } }.msgResult r 3 0 [] := by
  simp only [Dev.msgUncarve, ← hp, hen, hc, ← hn, and_self, if_true, Bool.not_true, Bool.false_eq_true, if_false]

theorem Dev.msgQuery_not_found {x : Dom} (hx : d.argDom (d.msgArg r 0) (bitOf (d.msgArg r 0) 27) = some x)
    (hf : d.ledFind x = none) : d.msgQuery r = d.msgResult r 4 2 [] := by
  simp only [Dev.msgQuery, hx, hf]

theorem Dev.msgQuery_found {x : Dom} {h i : Nat} (hx : d.argDom (d.msgArg r 0) (bitOf (d.msgArg r 0) 27) = some x)
    (hh : h = d.ledHalf x.group x.home) (hf : d.ledFind x = some i) :
    d.msgQuery r = d.msgResult r 4 0 [wd i, d.ledWord h i 1, d.ledWord h i 2, d.ledWord h i 3] := by
  simp only [Dev.msgQuery, hx, hf, hh]

section Lift
variable {x : Dom} (hx : d.argDom (d.msgArg r 0) false = some x)
include hx

theorem Dev.msgLift_not_found (hf : d.ledFind x = none) : d.msgLift r = d.msgResult r 1 2 [] := by
  simp only [Dev.msgLift, hx, hf, Option.isNone_none, if_true]

theorem Dev.msgLift_busy (hf : d.ledFind x ≠ none) (ht : d.tcbFree = false) : d.msgLift r = d.msgResult r 1 3 [] := by
  have hsome : (d.ledFind x).isNone = false := Option.isNone_eq_false_iff.2 (Option.isSome_iff_ne_none.2 hf)
  simp only [Dev.msgLift, hx, hsome, ht, Bool.not_false, Bool.false_eq_true, if_false, if_true]

theorem Dev.msgLift_lifts {t : Tcb} {i h : Nat} {e : Dev} (hf : d.ledFind x = some i) (hfree : d.tcbFree = true)
    (hh : h = d.ledHalf x.group x.home)
    (ht : t = { d.newTcb 127 ⟨[pack [(28, 3), (26, x.cls), (22, if x.cls = 1 then x.flow else 0), (0, x.target)], 0#32,
      0#32, 1#32]⟩ d.msg.nextLsn [] with
        group := x.group, home := x.home, ledger := some i, dseq := (d.ledWord h i 1).toNat })
    (he : e = ({ d with msg := { d.msg with nextLsn := (d.msg.nextLsn + 1) % lsnMod } }.ledPut x.group x.home i 1
      (d.ledWord h i 1 + 1#32)).addTcb t) :
    d.msgLift r = ((e.ledPut x.group x.home i 0 (setBit (e.ledWord h i 0) 30 false)).conclude
      d.msg.nextLsn 0).msgResult r 1 0 [] := by
  have hget : d.ledGet x = some (d, i) := by rw [Dev.ledGet, hf]
  subst he ht hh
  simp only [Dev.msgLift, hx, hf, hfree, hget, Option.isNone_some, Bool.not_true, Bool.false_eq_true, if_false]

end Lift

end MessageCommands

/-! ## Pool configuration (R261) -/

section PoolConfig
variable {d e : Dev} {p : Nat} {w : Word}
  (he : e = d.setReg (R.MSG_POOL_CFG p) (setFld (d.reg (R.MSG_POOL_CFG p) &&& 0xC0000000#32) 0 28 (fld w 0 28)))
include he

theorem Dev.poolCfg_disables (hw : bitOf w 31 = false) : d.poolCfg p w = e.setB (R.MSG_POOL_CFG p) 31 false := by
  simp only [Dev.poolCfg, ← he, hw, Bool.not_false, if_true]

variable (hw : bitOf w 31 = true)
include hw

theorem Dev.poolCfg_enabled (hen : d.poolEn p = true) : d.poolCfg p w = e := by
  simp only [Dev.poolCfg, ← he, hw, hen, Bool.not_true, Bool.false_eq_true, if_false, if_true]

variable {b n : Nat} (hen : d.poolEn p = false) (hb : b = (e.reg (R.MSG_POOL_BASE p)).toNat)
  (hn : n = (e.reg (R.MSG_POOL_SIZE p)).toNat)
include hen hb hn

theorem Dev.poolCfg_refused (hbad : b % 4096 ≠ 0 ∨ n % 4096 ≠ 0 ∨ n < 0x10000 ∨ 0xC00000 < b + n) :
    d.poolCfg p w = e.setB (R.MSG_POOL_CFG p) 30 true := by
  have hform : (b % 4096 != 0 || n % 4096 != 0 || decide (n < 0x10000) || decide (0xC00000 < b + n)) = true := by
    simpa [or_assoc] using hbad
  simp only [Dev.poolCfg, ← he, hw, hen, ← hb, ← hn, hform, Bool.true_or, Bool.not_true, Bool.false_eq_true, if_false, if_true]

theorem Dev.poolCfg_enables (hb0 : b % 4096 = 0) (hn0 : n % 4096 = 0) (hmin : 0x10000 ≤ n) (hmax : b + n ≤ 0xC00000)
    (hpools : ∀ q : Nat, q < 16 → q ≠ p → e.poolEn q = true →
      overlaps b n (e.reg (R.MSG_POOL_BASE q)).toNat (e.reg (R.MSG_POOL_SIZE q)).toNat = false)
    (htcb : overlaps b n (e.reg R.MSG_TCBBASE).toNat (64 * e.tcbCount) = false)
    (hupt : overlaps b n (e.reg R.MSG_UPTBASE).toNat 0x10000 = false) :
    d.poolCfg p w = (e.setB (R.MSG_POOL_CFG p) 30 false).setB (R.MSG_POOL_CFG p) 31 true := by
  have hform : (b % 4096 != 0 || n % 4096 != 0 || decide (n < 0x10000) || decide (0xC00000 < b + n)) = false := by
    simp [hb0, hn0, hmin, hmax]
  have hother : ((List.range 16).any fun q => q != p && e.poolEn q &&
      overlaps b n (e.reg (R.MSG_POOL_BASE q)).toNat (e.reg (R.MSG_POOL_SIZE q)).toNat) = false := by
    rw [List.any_eq_false]
    intro q hq hmeets
    simp only [Bool.and_eq_true, bne_iff_ne] at hmeets
    obtain ⟨⟨hne, hon⟩, hover⟩ := hmeets
    rw [hpools q (List.mem_range.1 hq) hne hon] at hover
    cases hover
  simp only [Dev.poolCfg, ← he, hw, hen, ← hb, ← hn, hform, hother, htcb, hupt, Bool.or_self, Bool.not_true,
    Bool.false_eq_true, if_false]

end PoolConfig

/-- Settles O41. The answer of LIFT without a free block is log 26, the admission of records log 37, the hold queue log 63, and
the deadline event's kind 6 log 112, all the model's choice. -/
theorem transactions : Obligations.Transactions := by
  refine fun s hl => ⟨fun p t l hq hroom => ?_, fun p t l w hq hw hdue => ?_,
    fun lsn t ht hlsn hst hdue => ⟨fun hr => ?_, fun hr hcap hp => ?_, fun hr hcap hp => ?_⟩,
    fun h r hpd hcap hgen => ?_,
    fun h r hpd hne => ⟨fun hgen hroom => ?_, fun hno hcur => ?_⟩, fun n tag c hc hdue => ?_,
    fun r hw => ⟨fun p n a hp hen hn => ⟨fun hroom => ?_, fun hroom ha => ?_⟩, fun p n l hp hen hn hc => ?_,
      fun x h hx hh => ⟨fun hf => ?_, fun i hf => ?_⟩,
      fun x hx => ⟨fun hf => ?_, fun hf ht => ?_, fun t i h d1 hf hfree hh ht hd1 => ?_⟩⟩,
    fun r p w d hlet hd => ⟨fun hw => ?_, fun hw hen => ?_, fun b n hb hn hw hen hbad => ?_,
      fun b n hb hn hw hen hb0 hn0 hmin hmax hpools htcb hupt => ?_⟩⟩
  · exact acted_eq hl (Dev.poolReserve_takes hq hroom)
  · exact acted_eq hl (Dev.poolTimeout_busy hq hw hdue)
  · exact acted_eq hl (Dev.deadline_missed ht hlsn hst hdue hr)
  · exact acted_eq hl (Dev.deadline_again ht hlsn hst hdue hr hcap hp)
  · exact acted_eq hl (Dev.deadline_posts ht hlsn hst hdue hr hcap hp)
  · have hadmit := Dev.resultRecord_admits hpd hgen
    refine ⟨fun hlead hu => ?_, fun t st hlead hu hr => ⟨fun hs => ?_, fun hs hp => ?_, fun hs hp => ?_⟩,
      fun t f z hlead hu hr hf => ?_, fun hlead => ?_⟩
    · exact acted_eq hl (hadmit.trans (Dev.admitRecord_stale hpd hcap hlead hu))
    · exact acted_eq hl (hadmit.trans ((Dev.admitRecord_reports hpd hcap hlead hu).trans (Dev.report_failed_no_status hr hs)))
    · exact acted_eq hl (hadmit.trans ((Dev.admitRecord_reports hpd hcap hlead hu).trans (Dev.report_failed_late hr hs hp)))
    · exact acted_eq hl (hadmit.trans ((Dev.admitRecord_reports hpd hcap hlead hu).trans (Dev.report_failed hr hs hp)))
    · exact acted_eq hl (hadmit.trans ((Dev.admitRecord_reports hpd hcap hlead hu).trans (Dev.report_acked_again hr hf)))
    · exact acted_eq hl (hadmit.trans (Dev.admitRecord_trailing hpd hcap hlead))
  · exact acted_eq hl (Dev.resultRecord_holds hpd hne hgen hroom)
  · exact acted_eq hl (Dev.resultRecord_passed hpd hne hno hcur)
  · exact acted_eq hl (Dev.reasmTimeout_discards tag.isLt hc hdue)
  · exact acted_byWrite_eq hl hw (Dev.msgCarve_no_room hp hen hn hroom)
  · exact acted_byWrite_eq hl hw (Dev.msgCarve_carves hp hen hn hroom ha)
  · exact acted_byWrite_eq hl hw (Dev.msgUncarve_latest hp hen hn hc)
  · exact acted_byWrite_eq hl hw (Dev.msgQuery_not_found hx hf)
  · exact acted_byWrite_eq hl hw (Dev.msgQuery_found hx hh hf)
  · exact acted_byWrite_eq hl hw (Dev.msgLift_not_found hx hf)
  · exact acted_byWrite_eq hl hw (Dev.msgLift_busy hx hf ht)
  · exact acted_byWrite_eq hl hw (Dev.msgLift_lifts hx hf hfree hh ht hd1)
  · exact acted_byWrite_eq hl hlet (Dev.poolCfg_disables hd hw)
  · exact acted_byWrite_eq hl hlet (Dev.poolCfg_enabled hd hw hen)
  · exact acted_byWrite_eq hl hlet (Dev.poolCfg_refused hd hw hen hb hn hbad)
  · exact acted_byWrite_eq hl hlet (Dev.poolCfg_enables hd hw hen hb hn hb0 hn0 hmin hmax hpools htcb hupt)

end Sys2Proof.Machine

/-! # Proofs: the Custody token -/

namespace Sys2Proof.Machine

/-! ## Commands while Custody restarts (R288) -/

section Restarting
variable {d : Dev} {h : Nat} (hr : d.restarting = true)
include hr

theorem Dev.tkSwitch_restarting : d.tkSwitch = d.tkRes 1 := if_pos (by rw [hr]; rfl)
theorem Dev.tkRevoke_restarting : d.tkRevoke h = d.tkRes 1 := if_pos hr
theorem Dev.tkResync_restarting : d.tkResync h = d.tkRes 1 := if_pos (by rw [hr]; rfl)
theorem Dev.tkCancel_restarting : d.tkCancel = d.tkRes 1 := if_pos hr

theorem Dev.tkClear_restarting : d.tkEligibleRim h false = d.tkRes 1 := by
  simp only [Dev.tkEligibleRim, Dev.tkEligible, hr, Bool.true_or, if_true, Bool.false_and, Bool.false_eq_true, if_false]

end Restarting

/-! ## Commands out of restart (R284 to R289) -/

section TokenCommands
variable {d : Dev} {h : Nat} (hr : d.restarting = false)
include hr

theorem Dev.rimGrant_duplex {w : Word} (hf : d.failed h = false) (hcap : d.capacity = false) (hlead : 2 ≤ d.leader)
    (hfirst : d.b R.RIMX_TOKEN 15 = true)
    (hw : w = setFld (setBit (setBit (d.reg R.RIMX_TOKEN) 15 true) (4 + h) true) 0 2 h) :
    d.rimGrant h = ((d.setToken w).takeLead h).tkRes 0 := by
  have hno : ¬ d.leader < 2 := Nat.not_lt.2 hlead
  simp only [Dev.rimGrant, hfirst, Bool.not_true, Bool.false_and, Bool.false_eq_true, if_false, Dev.tkGrant, hr, hf, hcap, hno,
    decide_false, Bool.and_false, Bool.or_self, ← hw]

section Switch
variable {S : Nat} (hS : S = d.pair R.RIMX_TKSW_LO R.RIMX_TKSW_HI) (hlead : d.leader < 2)
include hS hlead

theorem Dev.tkSwitch_late (hlate : S < d.count + 16000) : d.tkSwitch = d.tkRes 3 := by
  simp only [Dev.tkSwitch, hr, hlead, not_true_eq_false, decide_false, Bool.or_self, Bool.false_eq_true, if_false, ← hS,
    if_pos hlate]

theorem Dev.tkSwitch_pends (htime : d.count + 16000 ≤ S) (helig : d.elig (1 - d.leader) = true) (hcap : d.capacity = false) :
    d.tkSwitch = { (d.setReg R.RIMX_TKRES 0#32).tokBit 12 true with
      tok := { (d.tokBit 12 true).tok with swAt := some S } } := by
  have hbar : d.switchBar = none := by simp [Dev.switchBar, hlead, helig, hcap]
  simp only [Dev.tkSwitch, hr, hlead, not_true_eq_false, decide_false, Bool.or_self, Bool.false_eq_true, if_false, ← hS,
    if_neg (Nat.not_lt.2 htime), hbar]

end Switch

theorem Dev.tkRevoke_leader {w : Word} (hcap : d.capacity = false) (hlead : d.leader = h) (hh : h < 2)
    (hw : w = setFld (setBit (setBit (d.reg R.RIMX_TOKEN) (10 + h) false) (4 + h) false) 0 2 2) :
    d.tkRevoke h = (d.setToken w).tkRes 0 := by
  have hvacant : decide (2 = 1 - h) = false := decide_eq_false (by omega)
  simp only [Dev.tkRevoke, hr, hcap, hlead, Bool.false_and, hvacant, Bool.and_false, Bool.false_eq_true, if_false, if_true, ← hw]

theorem Dev.tkClear_eq : d.tkEligibleRim h false = (d.tokBit (10 + h) false).tkRes 0 := by
  simp only [Dev.tkEligibleRim, Dev.tkEligible, hr, Bool.false_and, Bool.or_self, Bool.false_eq_true, if_false]

theorem Dev.tkSet_unsynced (hs : d.resynced h = false) (he : (d.tkRes 1).elig h = false) :
    d.tkEligibleRim h true = d.tkRes 1 := by
  simp only [Dev.tkEligibleRim, Dev.tkEligible, hr, hs, he, Bool.not_false, Bool.true_or, Bool.and_true, Bool.or_true,
    if_true, Bool.and_false, Bool.false_eq_true, if_false]

theorem Dev.tkResync_starts (hcap : d.capacity = false) (hlead : d.leader < 2) (hne : d.leader ≠ h)
    (hpd : d.pdRun (40 + h) = true) (hn : d.tok.resync = none) : d.tkResync h =
      ({ d with tok := { d.tok with resync := some h } }.tokBit (4 + h) false).tkRes 0 := by
  have hgo : (d.restarting || (if d.capacity then d.homeLead h else d.leader == h) || decide (¬ d.leader < 2) ||
      !d.pdRun (40 + h) || d.tok.resync.isSome) = false := by
    simp [hr, hcap, hlead, hne, hpd, hn]
  simp only [Dev.tkResync, hgo, Bool.false_eq_true, if_false]

theorem Dev.tkCancel_eq : d.tkCancel = ({ d with tok := { d.tok with swAt := none } }.tokBit 12 false).tkRes 0 := by
  simp only [Dev.tkCancel, hr, Bool.false_eq_true, if_false]

theorem Dev.tkResume_not_frozen : d.tkResume = d.tkRes 1 := if_pos (by rw [hr]; rfl)

end TokenCommands

/-- The end of a freeze with no call posted and no fault latched. -/
theorem Dev.tkResume_ends {d e : Dev} (hr : d.restarting = true) (he : e = (d.tokBit 13 false).bumpF R.RIMX_CRCNT 0 8 1)
    (hp : ∀ k, e.posted k = false) (hl : e.tok.latched = []) :
    d.tkResume = { e with tok := { e.tok with latched := [] } }.tkRes 0 := by
  have hcalls (l : List Nat) : (e.forEach l fun d s => if d.posted s then d.mbReply s [6#32] else d) = e := by
    induction l with
    | nil => rfl
    | cons k r ih =>
      have hk : (if e.posted k then e.mbReply k [6#32] else e) = e := if_neg (by rw [hp k]; decide)
      rw [Dev.forEach, List.foldl_cons, hk]
      exact ih
  simp only [Dev.tkResume, hr, Bool.not_true, Bool.false_eq_true, if_false, ← he, hcalls, hl]
  rfl

/-! ## Token events (R283, R285, R286, R290, R302, R306) -/

section TokenEvents
variable {d e : Dev} {h : Nat}

theorem Dev.resyncDone_copies (hh : d.tok.resync = some h)
    (he : e = { d with tok := { d.tok with resync := none } }.copyMirrors (if d.leader < 2 then d.leader else 1 - h) h) :
    d.resyncDone = e.setToken (setBit (setBit (e.reg R.RIMX_TOKEN) (4 + h) true) (2 + h) false) := by
  subst he
  simp only [Dev.resyncDone, hh]
  rfl

theorem Dev.switchAt_dropped {S : Nat} (hS : d.tok.swAt = some S) (hdue : S ≤ d.count)
    (he : e = { d with tok := { d.tok with swAt := none } }) (hbar : e.switchBar ≠ none)
    (hlead : ((e.tokBit 12 false).tkRes 2).leader = d.leader) : d.switchAt = (e.tokBit 12 false).tkRes 2 := by
  obtain ⟨c, hc⟩ := Option.ne_none_iff_exists'.1 hbar
  have hswitch : d.plannedSwitch = (e.tokBit 12 false).tkRes 2 := by
    simp only [Dev.plannedSwitch, hS, if_neg (Nat.not_lt.2 hdue), ← he, hc]
  simp only [Dev.switchAt, hswitch, hlead, if_true]

theorem Dev.hbLapse_declares (hw : d.watched h = true) (hf : d.failed h = false) (hdue : d.lastBeat h + d.hbSpan ≤ d.clk) :
    d.hbLapse h = (d.setWatch h false).declareH h 1 := by
  simp only [Dev.hbLapse, hw, hf, hdue, Bool.not_false, decide_true, Bool.and_self, if_true]

theorem Dev.noLeader_resets {t : Nat} (ht : d.tok.noLead = some t) (hdue : t + 160000000 ≤ d.clk) :
    d.noLeader = (d.faultRecord 3 0 6 false).enterReset 5 0 := by
  simp only [Dev.noLeader, ht, if_pos hdue, Dev.classD]

theorem Dev.upsett_grants {err : Nat → Bool} {octal : Bool} (hrec : d.fw.recov = 0) (hrim : d.rimRuns = true)
    (hstep : d.fw.step = 8) (hroles : d.rolesOf (d.rimOctet 1 % 2) = true) : d.upsett err octal = d.upsettGrant := by
  simp [Dev.upsett, hrec, hrim, hstep, hroles]

section Trial
variable {t : Nat} (ht : d.fw.trialEnd = some t) (hdue : t ≤ d.clk) (htrial : d.fw.weave.trial = true)
include ht hdue htrial

theorem Dev.trialTimeout_abandons : d.trialTimeout = d.abandonTrial := by
  simp only [Dev.trialTimeout, ht, htrial, hdue, decide_true, Bool.and_self, if_true]

theorem Dev.trialTimeout_resets (hb : d.fw.byHalf = false) : d.trialTimeout = d.dropTrial.enterReset 7 0 :=
  (Dev.trialTimeout_abandons ht hdue htrial).trans (if_pos (by rw [hb]; rfl))

theorem Dev.trialTimeout_backTo (hb : d.fw.byHalf = true) : d.trialTimeout =
    { d.dropTrial with fw := { d.dropTrial.fw with byHalf := false } }.backTo d.fw.weave.confirmed :=
  (Dev.trialTimeout_abandons ht hdue htrial).trans (if_neg (by rw [hb]; decide))

end Trial

end TokenEvents

theorem Half.toNat_lt_two (h : Half) : h.toNat < 2 := by cases h <;> decide

/-- Settles O42. `takeLead` at a GRANT is log 45, and BAD_STATE of ELIGIBLE, RESYNC and CANCEL during a restart log 46, the
model's choice. -/
theorem token : Obligations.Token := by
  refine fun s hl => ⟨fun r h w hw => ⟨fun hr => ⟨?_, ?_, ?_, ?_, ?_⟩, fun hr hf hcap hlead hfirst hww => ?_,
      fun S hS hr hlead => ⟨fun hlate => ?_, fun htime helig hcap => ?_⟩, fun hr hcap hlead hww => ?_, fun hr => ?_,
      fun hr hs he => ?_, fun hr hcap hlead hne hpd hn => ?_, fun hr => ?_, fun hr => ?_, fun d hr hd hp hlat => ?_⟩,
    fun h d hh hd => ?_, fun S d hS hdue hd hbar hlead => ?_, fun r h hw => ⟨?_, ?_⟩, fun h hwat hf hdue => ?_, ?_,
    fun t ht hdue => ?_, fun errA errB octal hrec hrim hstep hroles => ?_,
    fun t ht hdue htrial => ⟨fun hb => ?_, fun hb => ?_⟩⟩
  · exact acted_byWrite_eq hl hw (Dev.tkSwitch_restarting hr)
  · exact acted_byWrite_eq hl hw (Dev.tkRevoke_restarting hr)
  · exact acted_byWrite_eq hl hw (Dev.tkResync_restarting hr)
  · exact acted_byWrite_eq hl hw (Dev.tkCancel_restarting hr)
  · exact acted_byWrite_eq hl hw (Dev.tkClear_restarting hr)
  · exact acted_byWrite_eq hl hw (Dev.rimGrant_duplex hr hf hcap hlead hfirst hww)
  · exact acted_byWrite_eq hl hw (Dev.tkSwitch_late hr hS hlead hlate)
  · exact acted_byWrite_eq hl hw (Dev.tkSwitch_pends hr hS hlead htime helig hcap)
  · exact acted_byWrite_eq hl hw (Dev.tkRevoke_leader hr hcap hlead (Half.toNat_lt_two h) hww)
  · exact acted_byWrite_eq hl hw (Dev.tkClear_eq hr)
  · exact acted_byWrite_eq hl hw (Dev.tkSet_unsynced hr hs he)
  · exact acted_byWrite_eq hl hw (Dev.tkResync_starts hr hcap hlead hne hpd hn)
  · exact acted_byWrite_eq hl hw (Dev.tkCancel_eq hr)
  · exact acted_byWrite_eq hl hw (Dev.tkResume_not_frozen hr)
  · exact acted_byWrite_eq hl hw (Dev.tkResume_ends hr hd hp hlat)
  · exact acted_eq hl (Dev.resyncDone_copies hh hd)
  · exact acted_eq hl (Dev.switchAt_dropped hS hdue hd hbar hlead)
  · exact acted_byWrite_eq hl hw rfl
  · exact acted_byWrite_eq hl hw rfl
  · exact acted_eq hl (Dev.hbLapse_declares hwat hf hdue)
  · exact acted_eq hl rfl
  · exact acted_eq hl (Dev.noLeader_resets ht hdue)
  · exact acted_eq hl (Dev.upsett_grants hrec hrim hstep hroles)
  · exact acted_eq hl (Dev.trialTimeout_resets ht hdue htrial hb)
  · exact acted_eq hl (Dev.trialTimeout_backTo ht hdue htrial hb)

end Sys2Proof.Machine

/-! # Proofs: Rim calls -/

namespace Sys2Proof.Machine

theorem Dev.serve_answers {d e x : Dev} {k fn : Nat} {args : List Nat} {body : Dev → Dev × List Word} {l : List Word}
    (h : d.calls k fn args) (hf : rimFns.contains fn = true) (he : e = d.journal k fn) (hb : body e = (x, l)) :
    d.serve k fn args body = x.replies k l := by
  rw [Dev.serve_journalled h hf, ← he, hb]

theorem Dev.serve_passing {d x : Dev} {k fn : Nat} {args : List Nat} {body : Dev → Dev × List Word} {l : List Word}
    (h : d.calls k fn args) (hf : rimFns.contains fn = true) (hd : durableCalls.contains fn = false)
    (hb : body d = (x, l)) : d.serve k fn args body = x.replies k l := by
  rw [Dev.serve_calls h hf hd, hb]

theorem msOk_eq_true {a n : Nat} (h : a + n ≤ 0xC00000) : msOk a n = true := decide_eq_true h

/-! ## Information and settings (R300, R301, R304) -/

section Settings
variable {d e : Dev} {k : Nat}

theorem Dev.rimInfo_replies (h : d.calls k 1 []) : d.rimInfo k =
    d.replies k [0#32, wd (d.hdr (rimBase d.fw.rslot) 0x10), wd d.runVersion, d.reg R.FWU_BOOTINFO] :=
  Dev.serve_passing h rfl rfl rfl

theorem Dev.rimRolesRunning_halfA (h : d.calls k 2 []) (hk : k < 8) :
    d.rimRolesRunning k = { d with tok := { d.tok with rolesA := true } }.replies k [0#32] :=
  Dev.serve_passing h rfl rfl (by rw [if_pos hk])

theorem Dev.rimRolesRunning_halfB (h : d.calls k 2 []) (hk : 8 ≤ k) :
    d.rimRolesRunning k = { d with tok := { d.tok with rolesB := true } }.replies k [0#32] :=
  Dev.serve_passing h rfl rfl (by rw [if_neg (Nat.not_lt.2 hk)])

theorem Dev.rimSettingsRead_copies {a cap : Nat} {l : List Byte} (h : d.calls k 3 [1, 2, 3])
    (ha : a = (d.callArg k 2).toNat) (hcap : cap = (d.callArg k 3).toNat) (hl : l = d.settingsIn (d.callArg k 1).toNat)
    (hfit : a + min cap l.length ≤ 0xC00000) : d.rimSettingsRead k =
      (d.msWrite (storeBase + a) (l.take cap)).replies k [0#32, wd l.length, wd d.setGen] :=
  Dev.serve_passing h rfl rfl (by
    simp only [← ha, ← hcap, ← hl, msOk_eq_true hfit, Bool.not_true, Bool.false_eq_true, if_false])

theorem Dev.rimSettingsWrite_denied (he : e = d.journal k 4) (h : d.calls k 4 [1, 2, 3, 4, 5])
    (hg : (e.callArg k 1).toNat ≠ e.setGen) : d.rimSettingsWrite k = e.replies k [2#32] :=
  Dev.serve_answers h rfl he (by rw [if_pos hg])

/-- A copy of 65 to 65,536 octets in the message store. -/
def copyBounds (a n : Nat) : Prop := 65 ≤ n ∧ n ≤ 65536 ∧ a + n ≤ 0xC00000

theorem copyBounds.accepted {a n : Nat} (h : copyBounds a n) :
    (decide (n < 65) || decide (65536 < n) || !msOk a n) = false := by
  obtain ⟨hlow, hhigh, hin⟩ := h
  simp [msOk_eq_true hin, hlow, hhigh]

/-- The settings that SETTINGS_WRITE of the copy `l` makes: `l` alone, or with the copy a trial of another format needs
(R301). -/
def Dev.settingsAsked (e : Dev) (k g : Nat) (l : List Byte) (x : Settings) : Prop :=
  (e.fw.weave.trial = false ∨ e.setfmtOf e.fw.weave.active = e.fw.weave.setfmt) ∧
      x = ⟨g, tput nilDflt [] (e.setfmtOf e.fw.weave.active) l⟩ ∨
    e.fw.weave.trial = true ∧ e.setfmtOf e.fw.weave.active ≠ e.fw.weave.setfmt ∧
      65 ≤ (e.callArg k 5).toNat ∧ (e.callArg k 5).toNat ≤ 65536 ∧
      (e.callArg k 4).toNat + (e.callArg k 5).toNat ≤ 0xC00000 ∧
      x = ⟨g, tput nilDflt (tput nilDflt [] (e.setfmtOf e.fw.weave.active) l) e.fw.weave.setfmt
        (e.rdBytes (storeBase + (e.callArg k 4).toNat) (e.callArg k 5).toNat)⟩

theorem Dev.rimSettingsWrite_checks {l : List Byte} {g n : Nat} {x : Settings} (he : e = d.journal k 4)
    (h : d.calls k 4 [1, 2, 3, 4, 5]) (hg : (e.callArg k 1).toNat = e.setGen) (hn : n = (e.callArg k 3).toNat)
    (hcopy : copyBounds (e.callArg k 2).toNat n) (hl : l = e.rdBytes (storeBase + (e.callArg k 2).toNat) n)
    (hgen : g = (e.setGen + 1) % 2 ^ 32) (hx : e.settingsAsked k g l x) : d.rimSettingsWrite k =
      if !x.fits then e.replies k [1#32] else (e.putSettings x).replies k [0#32, wd g] := by
  rw [Dev.rimSettingsWrite, Dev.serve_journalled h rfl, ← he]
  simp only [← hn, hg, ne_eq, not_true_eq_false, if_false, hcopy.accepted, Bool.false_or, ← hl, ← hgen]
  rcases hx with ⟨htwo, rfl⟩ | ⟨htrial, hfmt, hlow, hhigh, hin, rfl⟩
  · have hone : (e.fw.weave.trial && e.setfmtOf e.fw.weave.active != e.fw.weave.setfmt) = false := by
      rcases htwo with h1 | h1 <;> simp [h1]
    simp only [hone, Bool.false_and, Bool.false_eq_true, if_false]
    split <;> rfl
  · have htwo : (e.fw.weave.trial && e.setfmtOf e.fw.weave.active != e.fw.weave.setfmt) = true := by
      simp [htrial, hfmt]
    simp only [htwo, Bool.true_and, copyBounds.accepted ⟨hlow, hhigh, hin⟩, Bool.false_eq_true, if_false, if_true]
    split <;> rfl

end Settings

/-! ## The Seal, power, snapshot, alarm and reset (R303, R304, R305, R353) -/

section Services
variable {d e : Dev} {k : Nat}

theorem Dev.rimSealQuery_installed {x : Seal} (h : d.calls k 0x19 []) (hx : d.fw.sealed = some x) :
    d.rimSealQuery k = d.replies k [0#32, wd x.region, wd x.version] :=
  Dev.serve_passing h rfl rfl (by simp only [hx])

theorem Dev.rimSealQuery_none (h : d.calls k 0x19 []) (hx : d.fw.sealed = none) :
    d.rimSealQuery k = d.replies k [0#32, 0#32, 0#32] :=
  Dev.serve_passing h rfl rfl (by simp only [hx])

section Switch
variable {n : Nat} (h : d.calls k 0x20 [1, 2]) (hn : n = (d.callArg k 1).toNat) (hlt : n < 54)
include h hn hlt

theorem Dev.rimPdSwitch_denied (hop : (d.callArg k 2).toNat = 0) (hstop : d.stopDenied n = true) :
    d.rimPdSwitch k = d.replies k [2#32] :=
  Dev.serve_passing h rfl rfl (by simp only [← hn, hop, if_neg (Nat.not_le.2 hlt), hstop, if_true])

theorem Dev.rimPdSwitch_stops (hop : (d.callArg k 2).toNat = 0) (hstop : d.stopDenied n = false) :
    d.rimPdSwitch k = (d.rimVote n false).replies k [0#32] :=
  Dev.serve_passing h rfl rfl (by
    simp only [← hn, hop, if_neg (Nat.not_le.2 hlt), hstop, Bool.false_eq_true, if_false])

theorem Dev.rimPdSwitch_starts (hop : (d.callArg k 2).toNat = 1)
    (hpre : (prerequisites n).filter (fun m => !d.pdRun m) = []) :
    d.rimPdSwitch k = (d.rimVote n true).replies k [0#32] :=
  Dev.serve_passing h rfl rfl (by
    simp only [← hn, hop, if_neg (Nat.not_le.2 hlt), hpre]
    rfl)

end Switch

theorem Dev.rimNtSnapshot_copies (he : e = d.journal k 0x21) (h : d.calls k 0x21 []) : d.rimNtSnapshot k =
    { e.copyMem (ntBase (k / 8)) (mramBase + 0x100000) 0x100000 with
      fw := { e.fw with snapshot := true } }.replies k [0#32] :=
  Dev.serve_answers h rfl he rfl

theorem Dev.rimAlarm_raises (h : d.calls k 0x28 [1]) (ha : d.callArg k 1 = 1#32) :
    d.rimAlarm k = (d.alarm1 0).replies k [0#32] :=
  Dev.serve_passing h rfl rfl (by rw [if_pos ha])

theorem Dev.rimReset_enters (h : d.calls k 0x30 [1]) (hc : (d.callArg k 1).toNat ≤ 255) :
    d.rimReset k = (d.enterReset 9 (d.callArg k 1).toNat).replies k [0#32] :=
  Dev.serve_passing h rfl rfl (by rw [if_neg (Nat.not_lt.2 hc)])

theorem Dev.mbDone_posted (h : d.posted k = true) :
    d.mbDone k = d.mbReply k ((List.range 6).map fun i => d.reg (R.RIMX_MB_RES k i)) := by
  rw [Dev.mbDone, if_pos h]

end Services

/-! ## The commissioning area (R425) -/

section Area
variable {d e x : Dev} {k o a n : Nat}

theorem Dev.rimCaRead_reads (h : d.calls k 0x22 [1, 2, 3]) (hbit : bitOf (d.callArg k 1) 31 = false)
    (ho : o = fld (d.callArg k 1) 0 12) (ha : a = (d.callArg k 2).toNat) (hn : n = (d.callArg k 3).toNat)
    (hon : o + n ≤ 4096) (han : a + n ≤ 0xC00000) : d.rimCaRead k =
      ((d.caFirst false).msWrite (storeBase + a) ((d.caFirst false).caNow.caRead o n)).replies k
        [0#32, wd n, wd (d.caFirst false).caNow.caGen] :=
  Dev.serve_passing h rfl rfl (by
    simp [hbit, ← ho, ← ha, ← hn, msOk_eq_true han, Nat.not_lt.2 hon])

section Write
variable (he : e = d.journal k 0x23) (h : d.calls k 0x23 [1, 2, 3, 4]) (hbit : bitOf (e.callArg k 1) 31 = false)
  (ho : o = fld (e.callArg k 1) 0 12) (ha : a = (e.callArg k 2).toNat) (hn : n = (e.callArg k 3).toNat)
  (han : a + n ≤ 0xC00000) {m : Nat}
include he h hbit ho ha hn han

theorem Dev.rimCaWrite_pages (hpage : caOnePage o n = false) : d.rimCaWrite k m = e.replies k [1#32] :=
  Dev.serve_answers h rfl he (by
    simp [hbit, ← ho, ← ha, ← hn, msOk_eq_true han, hpage])

variable (hpage : caOnePage o n = true) (hx : x = e.caFirst false)
include hpage hx

theorem Dev.rimCaWrite_denied (hany : e.callArg k 4 ≠ 0xFFFFFFFF#32) (hgen : e.callArg k 4 ≠ wd x.caGen) :
    d.rimCaWrite k m = x.replies k [2#32] :=
  Dev.serve_answers h rfl he (by
    simp [hbit, ← ho, ← ha, ← hn, ← hx, msOk_eq_true han, hpage, hany, hgen])

variable (hasks : e.callArg k 4 = 0xFFFFFFFF#32 ∨ e.callArg k 4 = wd x.caGen)
include hasks

theorem Dev.rimCaWrite_busy (hfree : x.clk + 50 * ms < x.caFree) : d.rimCaWrite k m = x.replies k [4#32] :=
  Dev.serve_answers h rfl he (by
    have hgen : ¬ (e.callArg k 4 ≠ 0xFFFFFFFF#32 ∧ e.callArg k 4 ≠ wd x.caGen) := fun hno => hasks.elim hno.1 hno.2
    simp only [hbit, ← ho, ← ha, ← hn, ← hx, msOk_eq_true han, hpage, Bool.not_true, Bool.false_eq_true, if_false,
      if_neg hgen, if_pos hfree])

variable (hfree : x.caFree ≤ x.clk + 50 * ms) {y : Dev × Nat}
  (hy : y = x.caTurn false (o / 256) (x.caPage o (x.rdBytes (storeBase + a) n)) m)
include hfree hy

theorem Dev.rimCaWrite_turn : d.rimCaWrite k m =
    if y.2 = 0 then y.1.replies k [0#32, wd y.1.caGen] else y.1.fresh.2.replies k [y.1.fresh.1] := by
  rw [Dev.rimCaWrite, Dev.serve_journalled h rfl, ← he]
  have hgen : ¬ (e.callArg k 4 ≠ 0xFFFFFFFF#32 ∧ e.callArg k 4 ≠ wd x.caGen) := fun hno => hasks.elim hno.1 hno.2
  simp only [hbit, ← ho, ← ha, ← hn, ← hx, msOk_eq_true han, hpage, Bool.not_true, Bool.false_eq_true, if_false,
    if_neg hgen, if_neg (Nat.not_lt.2 hfree), ← hy]
  split <;> rfl

end Write
end Area

/-- Settles O43. That an answer which the spec leaves open is as the model gives it are its choices (logs 52, 55, 58, 72
and 94). -/
theorem rimServices : Obligations.RimServices := by
  refine fun s k hl => ⟨?_, ?_, ?_, ?_, ?_, ?_, ?_, ?_, ?_, ?_, ?_, ?_, ?_, ?_⟩
  · exact fun h => acted_eq hl (Dev.rimInfo_replies h)
  · exact fun h hk => acted_eq hl (Dev.rimRolesRunning_halfA h hk)
  · exact fun h hk => acted_eq hl (Dev.rimRolesRunning_halfB h hk)
  · exact fun a cap l h ha hcap hs hfit => acted_eq hl (Dev.rimSettingsRead_copies h ha hcap hs hfit)
  · exact fun e he h hg => acted_eq hl (Dev.rimSettingsWrite_denied he h hg)
  · intro l g n e x he h hg hn hlow hhigh hin hbytes hgen hx
    have hw := Dev.rimSettingsWrite_checks he h hg hn ⟨hlow, hhigh, hin⟩ hbytes hgen hx
    refine ⟨fun hfits => acted_eq hl ?_, fun hfits => acted_eq hl ?_⟩
    · simpa [hfits] using hw
    · simpa [hfits] using hw
  · exact fun h => ⟨fun x hx => acted_eq hl (Dev.rimSealQuery_installed h hx),
      fun hx => acted_eq hl (Dev.rimSealQuery_none h hx)⟩
  · exact fun n h hn hlt => ⟨fun hop hstop => acted_eq hl (Dev.rimPdSwitch_denied h hn hlt hop hstop),
      fun hop hstop => acted_eq hl (Dev.rimPdSwitch_stops h hn hlt hop hstop),
      fun hop hpre => acted_eq hl (Dev.rimPdSwitch_starts h hn hlt hop hpre)⟩
  · exact fun e he h => acted_eq hl (Dev.rimNtSnapshot_copies he h)
  · exact fun o a n h hbit ho ha hn hon han => acted_eq hl (Dev.rimCaRead_reads h hbit ho ha hn hon han)
  · intro o a n x e m y he h hbit ho ha hn han
    refine ⟨fun hpage => acted_eq hl (Dev.rimCaWrite_pages he h hbit ho ha hn han hpage), fun hpage hx =>
      ⟨fun hany hgen => acted_eq hl (Dev.rimCaWrite_denied he h hbit ho ha hn han hpage hx hany hgen),
      fun hasks hfree => acted_eq hl (Dev.rimCaWrite_busy he h hbit ho ha hn han hpage hx hasks hfree),
      fun hasks hfree hy => ?_⟩⟩
    have hturn := Dev.rimCaWrite_turn he h hbit ho ha hn han hpage hx hasks hfree hy
    exact ⟨fun hzero => acted_eq hl (hturn.trans (if_pos hzero)), fun hzero => acted_eq hl (hturn.trans (if_neg hzero))⟩
  · exact fun h ha => acted_eq hl (Dev.rimAlarm_raises h ha)
  · exact fun h hc => acted_eq hl (Dev.rimReset_enters h hc)
  · exact fun r hw h => acted_byWrite_eq hl hw (Dev.mbDone_posted h)

end Sys2Proof.Machine

/-! # Proofs: Rim calls for firmware, keys and the Seal -/

namespace Sys2Proof.Machine

variable {d e : Dev} {k n : Nat}

/-! ## Weave slots (R296, R298, R302) -/

section Weave
variable (hn : n = (d.callArg k 1).toNat) (hle : n ≤ 1)
include hn hle

theorem Dev.rimFwWindow_active (h : d.calls k 5 [1]) (ha : n = d.fw.weave.active) :
    d.rimFwWindow k = d.replies k [2#32] :=
  Dev.serve_passing h rfl rfl (by simp only [← hn, if_neg (Nat.not_lt.2 hle), if_pos (Or.inl ha)])

theorem Dev.rimFwWindow_confirmed (h : d.calls k 5 [1]) (ht : d.fw.weave.trial = true)
    (hc : n = d.fw.weave.confirmed) : d.rimFwWindow k = d.replies k [2#32] :=
  Dev.serve_passing h rfl rfl (by simp only [← hn, if_neg (Nat.not_lt.2 hle), if_pos (show _ ∨ _ ∧ _ from Or.inr ⟨ht, hc⟩)])

theorem Dev.rimFwWindow_opens (h : d.calls k 5 [1]) (ha : n ≠ d.fw.weave.active)
    (hc : d.fw.weave.trial = false ∨ n ≠ d.fw.weave.confirmed) : d.rimFwWindow k =
      ((d.setReg R.FWU_WRWIN (pack [(31, 1), (0, n)])).setStaged n false).replies k [0#32] :=
  Dev.serve_passing h rfl rfl (by
    have hdeny : ¬ (n = d.fw.weave.active ∨ d.fw.weave.trial = true ∧ n = d.fw.weave.confirmed) := by
      rcases hc with hc | hc <;> simp [ha, hc]
    simp only [← hn, if_neg (Nat.not_lt.2 hle), if_neg hdeny])

variable {readErr : Bool} (h : d.calls k 6 [1]) (he : e = d.closeWindow)
include h he

theorem Dev.rimFwStage_passes (hc : e.verifyWeave n readErr = 0) :
    d.rimFwStage k readErr = (e.setStaged n true).replies k [0#32] :=
  Dev.serve_passing h rfl rfl (by simp only [← hn, if_neg (Nat.not_lt.2 hle), ← he, if_pos hc])

theorem Dev.rimFwStage_refused (hc : e.verifyWeave n readErr ≠ 0) :
    d.rimFwStage k readErr = (e.setStaged n false).replies k [5#32, wd (e.verifyWeave n readErr)] :=
  Dev.serve_passing h rfl rfl (by simp only [← hn, if_neg (Nat.not_lt.2 hle), ← he, if_neg hc])

end Weave

section Activate
variable (he : e = d.journal k 7) (h : d.calls k 7 [1]) (hle : (e.callArg k 1).toNat ≤ 1)
  (hslot : fld (e.callArg k 1) 0 1 = n)
include he h hle hslot

theorem Dev.rimFwActivate_unstaged (hs : e.stagedOk n = false) : d.rimFwActivate k = e.replies k [2#32] :=
  Dev.serve_answers h rfl he (by
    simp only [hslot, if_neg (show ¬ (e.callArg k 1).toNat > 3 by omega), hs, Bool.not_false, if_true])

theorem Dev.rimFwActivate_whole (hbit : bitOf (e.callArg k 1) 1 = false) (hs : e.stagedOk n = true) :
    d.rimFwActivate k =
      (e.setWeave { e.fw.weave with active := n, trial := true, tries := 0 }).replies k [0#32] :=
  Dev.serve_answers h rfl he (by
    simp only [hslot, if_neg (show ¬ (e.callArg k 1).toNat > 3 by omega), hs, hbit, Bool.not_true, Bool.not_false,
      Bool.false_eq_true, if_true, if_false])

end Activate

section Confirm
variable (he : e = d.journal k 8) (h : d.calls k 8 [1]) (hop : (e.callArg k 1).toNat = 1)
include he h hop

theorem Dev.rimConfirm_denied (ht : e.fw.weave.trial = false) : d.rimConfirm k = e.replies k [2#32] :=
  Dev.serve_answers h rfl he (by simp only [hop, ht, Bool.not_false, if_true])

/-- The settings of a confirmed image keep only the copy of its format (R301). -/
def Dev.confirmedSettings (d : Dev) (fmt : Nat) : Dev :=
  match d.fw.settings with
  | some x => if x.copies.all fun y => y.1 == fmt then d
    else d.putSettings { gen := (x.gen + 1) % 2 ^ 32, copies := x.copies.filter fun y => y.1 == fmt }
  | none => d

theorem Dev.rimConfirm_confirms {x : Dev} {fmt : Nat} (ht : e.fw.weave.trial = true)
    (hfmt : fmt = e.setfmtOf e.fw.weave.active)
    (hx : x = ({ e with fw := { e.fw with trialEnd := none, byHalf := false } } : Dev).confirmedSettings fmt) :
    d.rimConfirm k = (x.setWeave { e.fw.weave with
      confirmed := e.fw.weave.active, trial := false, setfmt := fmt
      floor := max e.fw.weave.floor (x.hdr (weaveBase e.fw.weave.active) 0x10) }).replies k [0#32] :=
  Dev.serve_answers h rfl he (by
    subst hx hfmt
    simp only [hop, ht, Bool.not_true, Bool.false_eq_true, if_false]
    rfl)

end Confirm

/-! ## Rim images and signers (R293, R299, R302) -/

section Stage
variable {x : Dev} {a len j : Nat} (he : e = d.journal k 9) (h : d.calls k 9 [1, 2]) (ha : a = (e.callArg k 1).toNat)
  (hlen : len = (e.callArg k 2).toNat) (hlow : 4096 ≤ len) (hhigh : len ≤ 0x80000) (hin : a + len ≤ 0xC00000)
  (hj : j = 1 - e.fw.rslot)
  (hx : x = ((e.clearMem (rimBase j) 0x80000).copyMem (storeBase + a) (rimBase j) len).msTraffic (storeBase + a) len 2)
include he h ha hlen hlow hhigh hin hj hx

theorem Dev.rimRimStage_refused (hv : x.verifyRim j ≠ 0) :
    d.rimRimStage k = x.replies k [5#32, wd (x.verifyRim j)] :=
  Dev.serve_answers h rfl he (by
    have hbad : ¬ (len < 4096 ∨ 0x80000 < len ∨ (!msOk a len) = true) := by
      simp [msOk_eq_true hin, hlow, hhigh]
    simp only [← ha, ← hlen, if_neg hbad, ← hj, ← hx, if_pos hv])

theorem Dev.rimRimStage_selects (hv : x.verifyRim j = 0) : d.rimRimStage k =
    { x with fw := { x.fw with rim := { x.fw.rim with active := j, trial := true } } }.showBoot.replies k [0#32] :=
  Dev.serve_answers h rfl he (by
    have hbad : ¬ (len < 4096 ∨ 0x80000 < len ∨ (!msOk a len) = true) := by
      simp [msOk_eq_true hin, hlow, hhigh]
    simp only [← ha, ← hlen, if_neg hbad, ← hj, ← hx, hv, ne_eq, not_true_eq_false, if_false])

end Stage

theorem Dev.rimSignerRevoke_revokes (he : e = d.journal k 0xA) (h : d.calls k 0xA [1])
    (hn : n = (e.callArg k 1).toNat) (hle : n ≤ 3) (hweave : (e.rd8 (weaveBase e.fw.weave.confirmed + 0x14)).toNat ≠ n)
    (hrim : (e.rd8 (rimBase e.fw.rim.confirmed + 0x14)).toNat ≠ n) : d.rimSignerRevoke k =
      { e with fw := { e.fw with revoked := e.fw.revoked ++ [n] } }.putUpsett.replies k [0#32] :=
  Dev.serve_answers h rfl he (by
    simp only [← hn, if_neg (Nat.not_lt.2 hle), hweave, hrim, or_self, if_false])

/-! ## Keys (R237, R303) -/

section Keys
variable (hn : n = (e.callArg k 1).toNat)
include hn

theorem Dev.rimKeyGenerate_outside (he : e = d.journal k 0x11) (h : d.calls k 0x11 [1, 4]) (hout : 16639 < n) :
    d.rimKeyGenerate k = e.replies k [3#32] :=
  Dev.serve_answers h rfl he (by simp only [← hn, if_pos hout])

theorem Dev.rimKeyErase_outside (he : e = d.journal k 0x12) (h : d.calls k 0x12 [1]) (hout : 16639 < n) :
    d.rimKeyErase k = e.replies k [3#32] :=
  Dev.serve_answers h rfl he (by simp only [← hn, if_pos hout])

theorem Dev.rimKeyGenerate_installs {w : Word} (he : e = d.journal k 0x11) (h : d.calls k 0x11 [1, 4]) (hin : n ≤ 16639)
    (hw : w = e.callArg k 4) (hres : w &&& ~~~ 0x1F01#32 = 0#32) (hallow : usageForbidden n (fld w 8 5) = false) :
    d.rimKeyGenerate k = ({ e with freeCtr := e.freeCtr + 1 }.installKey n (fld w 8 5)
      (fit (if bitOf w 0 then 32 else 16) (Config.generatedKey e.freeCtr))).replies k [0#32] :=
  Dev.serve_answers h rfl he (by
    simp only [← hn, if_neg (Nat.not_lt.2 hin), ← hw, hres, hallow, ne_eq, not_true_eq_false, Bool.false_eq_true,
      if_false])

theorem Dev.rimKeyErase_erases (he : e = d.journal k 0x12) (h : d.calls k 0x12 [1]) (hin : n ≤ 16639) :
    d.rimKeyErase k =
      ((((e.settleSlot n).flushKey n).clearMem (mramBase + 32 * n) 32).setSlotState n 0).replies k [0#32] :=
  Dev.serve_answers h rfl he (by simp only [← hn, if_neg (Nat.not_lt.2 hin)])

section Usage
variable {u : Nat} (he : e = d.journal k 0x13) (h : d.calls k 0x13 [1, 2]) (hin : n ≤ 16639)
  (hu : u = (e.callArg k 2).toNat) (hule : u ≤ 31)
include he h hin hu hule

theorem Dev.rimKeyUsage_denied (hforbid : usageForbidden n u = true) : d.rimKeyUsage k = e.replies k [2#32] :=
  Dev.serve_answers h rfl he (by
    simp only [← hn, ← hu, if_neg (Nat.not_lt.2 hin), if_neg (Nat.not_lt.2 hule), hforbid, if_true])

theorem Dev.rimKeyUsage_writes (hallow : usageForbidden n u = false) :
    d.rimKeyUsage k = (e.wrBytes (slotAddr n + 2) (natBytes 2 u)).replies k [0#32] :=
  Dev.serve_answers h rfl he (by
    simp only [← hn, ← hu, if_neg (Nat.not_lt.2 hin), if_neg (Nat.not_lt.2 hule), hallow, Bool.false_eq_true, if_false])

end Usage

theorem Dev.rimKeyUnwrap_opens {w : Word} {kek : Nat} (he : e = d.journal k 0x10) (h : d.calls k 0x10 [1, 2, 3, 4])
    (hin : n ≤ 16639) (hw : w = e.callArg k 4) (hkek : kek = (e.callArg k 2).toNat) (hkekin : kek ≤ 16639)
    (hres : w &&& ~~~ 0x1F01#32 = 0#32) (hshort : bitOf w 0 = false) (hstore : (e.callArg k 3).toNat + 24 ≤ 0xC00000)
    (hallow : usageForbidden n (fld w 8 5) = false) (hstate : e.slotState kek = 1)
    (husage : (e.slotUsage kek).testBit 3 = true) : d.rimKeyUnwrap k =
      match keyUnwrap (e.slotKey kek) (e.rdBytes (storeBase + (e.callArg k 3).toNat) 24) with
      | some key => (e.installKey n (fld w 8 5) (fit 16 key)).replies k [0#32]
      | none => e.replies k [1#32] := by
  rw [Dev.rimKeyUnwrap, Dev.serve_journalled h rfl, ← he]
  have hslots : ¬ (16639 < n ∨ 16639 < kek) := by omega
  simp only [← hn, ← hw, ← hkek, if_neg hslots, hres, hshort, msOk_eq_true hstore, hallow, hstate, husage, ne_eq,
    not_true_eq_false, Bool.not_true, Bool.false_eq_true, or_self, and_self, if_false, Nat.reduceAdd]
  generalize keyUnwrap (e.slotKey kek) (e.rdBytes (storeBase + (e.callArg k 3).toNat) 24) = got
  cases got <;> rfl

end Keys

/-! ## The Seal (R305) -/

section Seal
variable {p : Seal} {len b : Nat} (he : e = d.journal k 0x18) (h : d.calls k 0x18 [1, 2])
  (hn : n = (e.callArg k 1).toNat) (hlen : len = (e.callArg k 2).toNat) (hlow : 4096 ≤ len)
  (hin : n + len ≤ 0xC00000) (hb : b = storeBase + n)
include he h hn hlen hlow hin hb

theorem Dev.rimSealInstall_magic (hm : e.hdr b 0 ≠ 0x5345414C) : d.rimSealInstall k p = e.replies k [5#32, 1#32] :=
  Dev.serve_answers h rfl he (by
    have hbad : ¬ (len < 4096 ∨ (!msOk n len) = true) := by
      simp [msOk_eq_true hin, hlow]
    simp only [← hn, ← hlen, ← hb, if_neg hbad, if_pos hm])

/-- The header of a profile at `b`, of `len` octets in all, passes every check before its signature's (R293, R305). -/
def Dev.sealHeaderOk (e : Dev) (b len : Nat) : Prop :=
  e.hdr b 0 = 0x5345414C ∧ (e.rd16 (b + 4)).toNat = 1 ∧ e.sealReserved b = false ∧ e.hdr b 8 / 2 ^ 16 = 0x6400 ∧
    e.hdr b 8 % 2 ^ 16 ≤ e.f R.DEV_ID 0 16 ∧ e.hdr b 0x0C = 4096 ∧ len = 0x2000

theorem Dev.rimSealInstall_checked (hh : e.sealHeaderOk b len)
    (hver : ∀ x, e.fw.sealed = some x → x.version ≤ e.hdr b 0x10) : d.rimSealInstall k p =
      if !Config.ecdsaOk (e.rdBytes (rimBase e.fw.rslot + 0x198) 64) (e.rdBytes b 0xF80) (e.rdBytes (b + 0xF80) 64)
      then e.replies k [5#32, 7#32]
      else if !e.digestIs (b + 0x20) (e.rdBytes (b + 4096) (len - 4096)) then e.replies k [5#32, 10#32]
      else ((e.putSeal b { p with version := e.hdr b 0x10 }).installSeal { p with version := e.hdr b 0x10 }).replies k
        [0#32] := by
  obtain ⟨hmagic, hform, hres, hpart, hid, hbody, rfl⟩ := hh
  have hbad : ¬ (0x2000 < 4096 ∨ (!msOk n 0x2000) = true) := by
    simp [msOk_eq_true hin]
  rw [Dev.rimSealInstall, Dev.serve_journalled h rfl, ← he]
  simp only [← hn, ← hlen, ← hb, if_neg hbad, hmagic, hform, hres, hpart, hbody, Nat.not_lt.2 hid, ne_eq,
    not_true_eq_false, Bool.false_eq_true, or_self, if_false]
  cases hs : e.fw.sealed with
  | none =>
    simp only [Nat.not_lt_zero, if_false]
    split
    · rfl
    · split <;> rfl
  | some x =>
    simp only [Nat.not_lt.2 (hver x hs), if_false]
    split
    · rfl
    · split <;> rfl

end Seal

/-- Settles O44. That what the spec leaves open of firmware and keys is as the model gives it are its choices (logs 56, 59
and 94), and the answer to an integrity failure of KEY_UNWRAP its reading (log 70). -/
theorem rimFirmware : Obligations.RimFirmware := by
  refine fun s k n e hl hn => ⟨?_, ?_, ?_, ?_, ?_, ?_, ?_, ?_, ?_, ?_, ?_, ?_⟩
  · rintro rfl h hle
    exact ⟨fun ha => acted_eq hl (Dev.rimFwWindow_active hn hle h ha),
      fun _ ht hc => acted_eq hl (Dev.rimFwWindow_confirmed hn hle h ht hc),
      fun ha hc => acted_eq hl (Dev.rimFwWindow_opens hn hle h ha hc)⟩
  · rintro x d rfl h hle hd
    exact ⟨fun hc => acted_eq hl (Dev.rimFwStage_passes hn hle h hd hc),
      fun hc => acted_eq hl (Dev.rimFwStage_refused hn hle h hd hc)⟩
  · intro he h hle hbit hslot
    rw [hn] at hle
    exact ⟨fun hs => acted_eq hl (Dev.rimFwActivate_unstaged he h hle hslot hs),
      fun hs => acted_eq hl (Dev.rimFwActivate_whole he h hle hslot hbit hs)⟩
  · intro fmt d d1 he h hone
    refine ⟨fun ht => acted_eq hl (Dev.rimConfirm_denied he h (hn ▸ hone) ht), fun ht hfmt hd1 hd => ?_⟩
    subst hd1
    exact acted_eq hl (Dev.rimConfirm_confirms he h (hn ▸ hone) ht hfmt hd)
  · intro len j d he h hlen hlow hhigh hin hj hd
    exact ⟨fun hv => acted_eq hl (Dev.rimRimStage_refused he h hn hlen hlow hhigh hin hj hd hv),
      fun hv => acted_eq hl (Dev.rimRimStage_selects he h hn hlen hlow hhigh hin hj hd hv)⟩
  · exact fun he h hle hweave hrim => acted_eq hl (Dev.rimSignerRevoke_revokes he h hn hle hweave hrim)
  · exact fun hout => ⟨fun he h => acted_eq hl (Dev.rimKeyGenerate_outside hn he h hout),
      fun he h => acted_eq hl (Dev.rimKeyErase_outside hn he h hout)⟩
  · intro w kek got he h hin hw hkek hkekin hres hshort hstore hallow hstate husage hgot
    have hopens := Dev.rimKeyUnwrap_opens hn he h hin hw hkek hkekin hres hshort hstore hallow hstate husage
    rw [← hgot] at hopens
    refine ⟨fun hnone => acted_eq hl ?_, fun key hsome => acted_eq hl ?_⟩
    · rw [hopens, hnone]
    · rw [hopens, hsome]
  · exact fun w he h hin hw hres hallow => acted_eq hl (Dev.rimKeyGenerate_installs hn he h hin hw hres hallow)
  · exact fun he h hin => acted_eq hl (Dev.rimKeyErase_erases hn he h hin)
  · exact fun u he h hin hu hule => ⟨fun hforbid => acted_eq hl (Dev.rimKeyUsage_denied hn he h hin hu hule hforbid),
      fun hallow => acted_eq hl (Dev.rimKeyUsage_writes hn he h hin hu hule hallow)⟩
  · intro p len b he h hlen hlow hin hb
    refine ⟨fun hm => acted_eq hl (Dev.rimSealInstall_magic he h hn hlen hlow hin hb hm), ?_⟩
    intro hmagic hform hres hpart hid hbody hsize hver signed whole hsigned hwhole
    have hinstall := Dev.rimSealInstall_checked (p := p) he h hn hlen hlow hin hb
      ⟨hmagic, hform, hres, hpart, hid, hbody, hsize⟩ hver
    rw [← hsigned, ← hwhole] at hinstall
    refine ⟨fun hs => acted_eq hl ?_, fun hs hw => acted_eq hl ?_, fun q hs hw hq => acted_eq hl ?_⟩
    · simpa [hs] using hinstall
    · simpa [hs, hw] using hinstall
    · simpa [hs, hw, hq] using hinstall

end Sys2Proof.Machine

/-! # Proofs: flash commands (R293, R295, R308) -/

namespace Sys2Proof.Machine

variable {d : Dev} {r : Nat} {v : Word}

theorem Dev.fwuCmd_busy (h : d.b R.FWU_STATUS 30 = true) : d.fwuCmd r v = d.fwuResult 6 false := by
  rw [Dev.fwuCmd, if_pos h]

theorem Dev.fwuCmd_fails (h : d.b R.FWU_STATUS 30 = false) (hc : d.fwuCheck r v ≠ 0) :
    d.fwuCmd r v = d.fwuResult (d.fwuCheck r v) true := by
  simp only [Dev.fwuCmd, h, Bool.false_eq_true, if_false, if_pos hc]

theorem Dev.fwuCmd_runs (h : d.b R.FWU_STATUS 30 = false) (hc : d.fwuCheck r v = 0) : d.fwuCmd r v =
    { (d.fwuResult 0 false).setB R.FWU_STATUS 30 true with
      fw := { d.fw with cmd := some (v, (d.reg R.FWU_SRC).toNat, (d.reg R.FWU_DST).toNat, d.f R.FWU_LEN 0 25) } } := by
  simp only [Dev.fwuCmd, h, Bool.false_eq_true, if_false, hc, ne_eq, not_true_eq_false]

/-- Every check of a command of Custody passes outside recovery, in range and aligned, unless it would erase or program
the confirmed slot on trial. -/
theorem Dev.fwuCheck_passes {op src dst len : Nat} (hop : fld v 0 4 = op) (hlow : 1 ≤ op) (hhigh : op ≤ 4)
    (hsrc : src = (d.reg R.FWU_SRC).toNat) (hdst : dst = (d.reg R.FWU_DST).toNat) (hlen : len = d.f R.FWU_LEN 0 25)
    (hr : r = 66) (hrecov : d.fw.recov = 0) (htop : src + len ≤ 0x2000000) (hsrc16 : src % 65536 = 0)
    (hlen16 : len % 65536 = 0) (hdst4 : dst % 4 = 0) (hdstin : dst + len ≤ 0x200000) (h10 : bitOf v 10 = false)
    (h11 : bitOf v 11 = false)
    (hslot : d.fw.weave.trial = false ∨ op < 3 ∨ src + len ≤ d.fw.weave.confirmed * 0x1000000 ∨
      (d.fw.weave.confirmed + 1) * 0x1000000 ≤ src) : d.fwuCheck r v = 0 := by
  have hop0 : ¬ (op = 0 ∨ 4 < op) := by omega
  have hmp : (decide (r = 64 ∨ r = 65)) = false := by simp [hr]
  have htrial : ¬ (3 ≤ op ∧ d.fw.weave.trial = true ∧ src < d.fw.weave.confirmed * 0x1000000 + 0x1000000 ∧
      d.fw.weave.confirmed * 0x1000000 < src + len) := by
    rintro ⟨hge, ht, hlt, hgt⟩
    rcases hslot with hf | hslot
    · simp [hf] at ht
    · omega
  have hstore : msOk dst len = true := msOk_eq_true (by omega)
  simp only [Dev.fwuCheck, hop, ← hsrc, ← hdst, ← hlen, if_neg hop0, hmp, if_neg htrial, hrecov, h10, h11, hstore,
    hsrc16, hlen16, hdst4, Nat.not_lt.2 htop, Nat.not_lt.2 hdstin, Bool.false_eq_true, Bool.not_true, false_and, and_false,
    true_and, or_self, if_false, ne_eq, not_true_eq_false, show ¬ 0 = 2 by decide, Nat.zero_ne_one]

section Done
variable {w : Word} {src dst len : Nat} {e : Dev} (hc : d.fw.cmd = some (w, src, dst, len))
include hc

theorem Dev.fwuDone_fails : d.fwuDone false =
    ({ d with fw := { d.fw with cmd := none } }.fwuResult 4 true).setB R.FWU_STATUS 30 false := by
  simp only [Dev.fwuDone, hc, Bool.false_eq_true, if_false]

theorem Dev.fwuDone_succeeds (he : e = ({ d with fw := { d.fw with cmd := none } }.fwuResult 0 true).setB R.FWU_STATUS 30 false) :
    d.fwuDone true = e.fwuEffect w src dst len := by
  subst he
  simp only [Dev.fwuDone, hc, if_true]

end Done

section Effect
variable {w : Word} {src dst len : Nat} (hrecov : d.fw.recov = 0)
include hrecov

theorem Dev.fwuEffect_erases (hop : fld w 0 4 = 3) : d.fwuEffect w src dst len = d.clearMem (flashBase + src) len := by
  simp only [Dev.fwuEffect, hop, hrecov, Nat.zero_ne_one, if_false]

theorem Dev.fwuEffect_programs {e : Dev} (hop : fld w 0 4 = 4)
    (he : e = (d.copyMem (storeBase + dst) (flashBase + src) len).msTraffic (storeBase + dst) len 2)
    (her : e.fw.recov = 0) : d.fwuEffect w src dst len = e := by
  have hstays : e.recovered = e := by simp [Dev.recovered, her]
  simp only [Dev.fwuEffect, hop, hrecov, Nat.zero_ne_one, if_false, ← he, hstays]

theorem Dev.fwuEffect_digests {e : Dev} (hop : fld w 0 4 = 2) (hfrom : bitOf w 8 = false)
    (he : e = { d with fw := { d.fw with digested := d.rdBytes (flashBase + src) len } }) :
    d.fwuEffect w src dst len = (List.range 8).foldl
      (fun x i => x.setReg (R.FWU_DIGEST i) (Config.sha256 (d.rdBytes (flashBase + src) len) i)) e := by
  subst he
  simp only [Dev.fwuEffect, hop, hrecov, hfrom, Nat.zero_ne_one, Bool.false_eq_true, if_false, List.nil_append, Dev.forEach]

end Effect

/-- Settles O45. That erased flash reads 0 and which answer a command that recovery does not permit has are the model's
choices (logs 5 and 57). -/
theorem flashCommands : Obligations.FlashCommands := by
  intro s r w hl hw p hp v hv
  have hexec : exec p.1 s = acted s fun d => d.byWrite r R.FWU_CMD fun d => d.fwuCmd r.num v := by
    subst hv
    simp only [List.mem_cons, List.not_mem_nil, or_false] at hp
    rcases hp with rfl | rfl | rfl | rfl <;> rfl
  have hop : 1 ≤ p.2 ∧ p.2 ≤ 4 := by
    simp only [List.mem_cons, List.not_mem_nil, or_false] at hp
    rcases hp with rfl | rfl | rfl | rfl <;> simp
  rw [hexec]
  refine ⟨fun hb => acted_byWrite_eq hl hw (Dev.fwuCmd_busy hb), fun hb => ⟨fun hc => acted_byWrite_eq hl hw
    (Dev.fwuCmd_fails hb hc), fun hc => acted_byWrite_eq hl hw (Dev.fwuCmd_runs hb hc)⟩, ?_, ?_⟩
  · intro src dst len hsrc hdst hlen hb hr hrecov htop hsrc16 hlen16 hdst4 hdstin h10 h11 hslot
    have hfld : fld v 0 4 = p.2 := by
      rw [hv, fld_setFld_same w 0 4 p.2 (by decide), Nat.mod_eq_of_lt (by omega)]
    have hcheck := Dev.fwuCheck_passes (r := r.num) hfld hop.1 hop.2 hsrc hdst hlen (by rw [hr]; rfl) hrecov htop hsrc16 hlen16
      hdst4 hdstin h10 h11 hslot
    rw [hsrc, hdst, hlen]
    exact acted_byWrite_eq hl hw (Dev.fwuCmd_runs hb hcheck)
  · intro src dst len d hcmd
    refine ⟨fun hd => acted_eq hl (hd ▸ Dev.fwuDone_fails hcmd), fun hd hrecov => ?_⟩
    have hdone := Dev.fwuDone_succeeds hcmd hd
    exact ⟨fun h3 => acted_eq hl (hdone.trans (Dev.fwuEffect_erases hrecov h3)),
      fun d2 h4 hd2 hrecov2 => acted_eq hl (hdone.trans (Dev.fwuEffect_programs hrecov h4 hd2 hrecov2)),
      fun d1 h2 hfrom hd1 => acted_eq hl (hdone.trans (Dev.fwuEffect_digests hrecov h2 hfrom hd1))⟩

end Sys2Proof.Machine

/-! # Proofs: host queue pairs (R310 to R317) -/

namespace Sys2Proof.Machine

variable {d e : Dev} {q v : Nat}

/-! ## Doorbells -/

section Doorbells
variable (he : e = (if d.pdRun 13 then d.pmcOctets 0 1 4 else d))
include he

theorem Dev.sqDoorbell_disabled (hq : e.qpOn q = false) : d.sqDoorbell q v = e := by
  simp only [Dev.sqDoorbell, ← he, hq, Bool.not_false, if_true]

theorem Dev.cqDoorbell_disabled (hq : e.qpOn q = false) : d.cqDoorbell q v = e := by
  simp only [Dev.cqDoorbell, ← he, hq, Bool.not_false, if_true]

variable (hq : e.qpOn q = true)
include hq

theorem Dev.sqDoorbell_beyond (hv : e.sqSize q ≤ v) : d.sqDoorbell q v = e.setB R.HPC_STATUS 25 true := by
  simp only [Dev.sqDoorbell, ← he, hq, Bool.not_true, Bool.false_eq_true, if_false, if_pos hv]

theorem Dev.sqDoorbell_moves (hv : v < e.sqSize q) : d.sqDoorbell q v = e.setQp q { e.qp q with sqTail := v } := by
  simp only [Dev.sqDoorbell, ← he, hq, Bool.not_true, Bool.false_eq_true, if_false, if_neg (Nat.not_le.2 hv)]

theorem Dev.cqDoorbell_beyond (hv : e.cqSize q ≤ v) : d.cqDoorbell q v = e.setB R.HPC_STATUS 25 true := by
  simp only [Dev.cqDoorbell, ← he, hq, Bool.not_true, Bool.false_eq_true, if_false, if_pos hv]

theorem Dev.cqDoorbell_moves {n : Nat} (hn : n = e.cqSize q) (hv : v < n) : d.cqDoorbell q v =
    ((e.setQp q { e.qp q with
        cqHead := v
        data := (e.qp q).data.filter fun x =>
          !decide ((x.1 + n - (e.qp q).cqHead) % n < (v + n - (e.qp q).cqHead) % n) }).flushHeld q).releaseAll := by
  simp only [Dev.cqDoorbell, ← he, hq, ← hn, Bool.not_true, Bool.false_eq_true, if_false, if_neg (Nat.not_le.2 hv)]

end Doorbells

/-! ## Fetching -/

/-- Queue `q` has an entry to fetch. -/
def Dev.hasEntry (d : Dev) (q : Nat) : Bool := d.qpOn q && (d.qp q).sqHead != (d.qp q).sqTail

theorem Dev.hasEntry_eq_false (h : d.qpOn q = true → (d.qp q).sqHead = (d.qp q).sqTail) : d.hasEntry q = false := by
  simpa [Dev.hasEntry] using h

theorem Dev.hasEntry_eq_true (hon : d.qpOn q = true) (hne : (d.qp q).sqHead ≠ (d.qp q).sqTail) : d.hasEntry q = true := by
  simp [Dev.hasEntry, hon, hne]

theorem Dev.nextQueue_eq_none (h : ∀ q < 64, d.hasEntry q = false) : d.nextQueue = none := by
  rw [Dev.nextQueue, List.find?_eq_none]
  intro q hq
  obtain ⟨i, -, rfl⟩ := List.mem_map.1 hq
  exact ne_true_of_eq_false (h _ (Nat.mod_lt _ (by decide)))

theorem Dev.nextQueue_eq_some {i : Nat} (hi : i < 64) (hq : q = (d.host.nextQ + i) % 64) (h : d.hasEntry q = true)
    (hbefore : ∀ j < i, d.hasEntry ((d.host.nextQ + j) % 64) = false) : d.nextQueue = some q := by
  rw [Dev.nextQueue, List.find?_map, Option.map_eq_some_iff]
  refine ⟨i, List.find?_range_eq_some.2 ⟨?_, List.mem_range.2 hi, fun j hj => ?_⟩, hq.symm⟩
  · rw [hq] at h
    exact h
  · exact congrArg (!·) (hbefore j hj)

theorem Dev.fetch_none {words : List Word} (h : d.nextQueue = none) : d.fetch words = d := by
  simp only [Dev.fetch, h]

section Fetch
variable {words : List Word} (h : d.nextQueue = some q)
include h

theorem Dev.fetch_behindAmp (ha : d.ampAhead ⟨words⟩ = true) : d.fetch words = d := by
  simp only [Dev.fetch, h, ha, if_true]

variable {d0 : Dev} (ha : d.ampAhead ⟨words⟩ = false)
  (hd0 : d0 = (d.emit (.read (d.qpBase q 0 + 64 * (d.qp q).sqHead) 64)).pmcOctets 0 1 64)
  (he : e = { d0 with host := { d0.host with nextQ := (q + 1) % 64 } })
include ha hd0 he

theorem Dev.fetch_taken (hc : e.canAccept ⟨words⟩ = true) : d.fetch words =
    (e.setQp q { d.qp q with sqHead := ((d.qp q).sqHead + 1) % e.sqSize q }).submit q ⟨words⟩ [] := by
  subst hd0 he
  simp only [Dev.fetch, h, ha, Bool.false_eq_true, if_false]
  rw [if_pos hc]

theorem Dev.fetch_left (hc : e.canAccept ⟨words⟩ = false) : d.fetch words = e.submit q ⟨words⟩ [] := by
  subst hd0 he
  simp only [Dev.fetch, h, ha, Bool.false_eq_true, if_false]
  rw [if_neg (ne_true_of_eq_false hc)]

end Fetch

/-! ## Payload reads -/

section Reads
variable {lsn : Nat} {data : List Byte}

theorem Dev.readDone_unknown {ok : Bool} (h : d.host.reads.contains lsn = false) : d.readDone lsn ok data = d := by
  simp only [Dev.readDone, h, Bool.not_false, if_true]

variable {d0 : Dev} (h : d.host.reads.contains lsn = true)
  (hd0 : d0 = { d with host := { d.host with reads := d.host.reads.filter (· ≠ lsn) } })
include h hd0

section Good
variable (he : e = d0.updTcb lsn fun u => { u with fetched := true, payload := data.take u.len })
include he

theorem Dev.readDone_fills {t : Tcb} (ht : e.tcb lsn = some t) : d.readDone lsn true data =
    (e.fillPlaces t.place 0 (data.take t.len)).pmcOctets 0 1 t.len := by
  simp only [Dev.readDone, h, Bool.not_true, Bool.false_eq_true, if_false, if_true, ← hd0, ← he, ht]

theorem Dev.readDone_gone (ht : e.tcb lsn = none) : d.readDone lsn true data = e := by
  simp only [Dev.readDone, h, Bool.not_true, Bool.false_eq_true, if_false, if_true, ← hd0, ← he, ht]

end Good

variable (he : e = d0.bump R.HPC_CNT_ERR)
include he

theorem Dev.readDone_hole (hu : e.undecided lsn ≠ none) : d.readDone lsn false data = e.conclude lsn 13 := by
  simp only [Dev.readDone, h, Bool.not_true, Bool.false_eq_true, if_false, ← hd0, ← he,
    if_pos (Option.isSome_iff_ne_none.2 hu)]

theorem Dev.readDone_decided (hu : e.undecided lsn = none) : d.readDone lsn false data = e := by
  simp only [Dev.readDone, h, Bool.not_true, Bool.false_eq_true, if_false, ← hd0, ← he, hu, Option.isSome_none]

end Reads

/-! ## Coalescing -/

section Coalesce
variable {x : Qp} {due : Nat} (hx : x = d.qp q) (hdue : due = x.firstAt + d.f R.HPC_COAL 16 16 * us)
include hx hdue

theorem Dev.coalesce_idle (h : d.qpOn q = false ∨ x.unsignalled = 0 ∨ d.clk < due) : d.coalesce q = d := by
  rcases h with h | h | h
  · simp [Dev.coalesce, h]
  · simp [Dev.coalesce, ← hx, h]
  · simp [Dev.coalesce, ← hx, ← hdue, Nat.not_le.2 h]

variable (hon : d.qpOn q = true) (hun : 0 < x.unsignalled) (hclk : due ≤ d.clk)
  (he : e = d.setQp q { x with unsignalled := 0 })
include hon hun hclk he

theorem Dev.coalesce_signals : d.coalesce q = e.sendMsix (d.f (R.HPC_QP_CFG q) 24 6) := by
  subst hx
  simp only [Dev.coalesce, ← hdue, hon, hun, hclk, decide_true, Bool.and_self, if_true, Dev.signal, ← he]

variable (hv : v = d.f (R.HPC_QP_CFG q) 24 6)
include hv

theorem Dev.coalesce_masked (hmask : bitOf (e.msixWord (4 * v + 3)) 0 = true) : d.coalesce q =
    { e with host := { e.host with msixPend := e.host.msixPend.filter (· ≠ v) ++ [v] } } := by
  rw [Dev.coalesce_signals hx hdue hon hun hclk he, ← hv, Dev.sendMsix, if_pos hmask]

theorem Dev.coalesce_sends (hmask : bitOf (e.msixWord (4 * v + 3)) 0 = false) : d.coalesce q =
    (e.emit (.msix v (e.msixWord (4 * v + 1) ++ e.msixWord (4 * v)).toNat (e.msixWord (4 * v + 2)))).pmcOctets 0 2 4 := by
  rw [Dev.coalesce_signals hx hdue hon hun hclk he, ← hv, Dev.sendMsix, if_neg (ne_true_of_eq_false hmask)]

end Coalesce

/-! ## Configuration, discarding and the PCIe link -/

theorem Dev.qpCfg_enabled {w : Word} (h : d.b (R.HPC_QP_CFG q) 31 = true) : d.qpCfg q w = d := by
  simp only [Dev.qpCfg, h, if_true]

section Configure
variable {w : Word} {ok : Bool} (hoff : d.b (R.HPC_QP_CFG q) 31 = false)
  (hok : ok = (decide (4 ≤ fld w 20 4 ∧ fld w 20 4 ≤ 12) && decide (4 ≤ fld w 16 4 ∧ fld w 16 4 ≤ 12) &&
    decide (16 ≤ fld w 11 5 ∧ fld w 11 5 ≤ 24)))
  (he : e = d.setReg (R.HPC_QP_CFG q) (setBit (w &&& 0x3FFFF800#32) 31 (bitOf w 31 && ok)))
include hoff hok he

theorem Dev.qpCfg_stored (h : bitOf w 31 = false ∨ ok = false) : d.qpCfg q w = e := by
  have hen : (bitOf w 31 && ok) = false := by rcases h with h | h <;> simp [h]
  rw [hen] at he
  simp only [Dev.qpCfg, hoff, ← hok, ← he, hen, Bool.false_eq_true, if_false]

theorem Dev.qpCfg_enables (hbit : bitOf w 31 = true) (h : ok = true) : d.qpCfg q w =
    ((e.setQp q { held := (e.qp q).held }).flushHeld q).releaseAll := by
  have hen : (bitOf w 31 && ok) = true := by simp [hbit, h]
  rw [hen] at he
  simp only [Dev.qpCfg, hoff, ← hok, ← he, hen, Bool.false_eq_true, if_false, if_true]

end Configure

section Link
variable {d0 : Dev} (hd0 : d0 = (List.range 64).foldl (fun d q =>
    if d.b (R.HPC_QP_CFG q) 31 then d.setB (R.HPC_QP_CFG q) 31 false else d) d)
  (he : e = (d0.host.reads.foldl (fun d lsn => d.readDone lsn false []) d0).releaseAll)
include hd0 he

theorem Dev.linkDown_down : d.linkDown true = e.setB R.HPC_STATUS 31 false := by
  simp only [Dev.linkDown, Dev.forEach, ← hd0, ← he, if_true]

theorem Dev.linkDown_reset : d.linkDown false = e := by
  simp only [Dev.linkDown, Dev.forEach, ← hd0, ← he, Bool.false_eq_true, if_false]

end Link

theorem Dev.linkUp_trains {rate : Fin 4} {width : Fin 8} (hp : d.pdRun 13 = true) (hr : rate ≠ 0)
    (hw : width = 1 ∨ width = 2 ∨ width = 4) : d.linkUp rate width =
      (((d.setF R.HPC_STATUS 29 2 rate).setF R.HPC_STATUS 26 3 width).setB R.HPC_STATUS 31 true).linkEvent := by
  have hrate : (rate.val == 0) = false := beq_eq_false_iff_ne.2 fun h => hr (Fin.ext h)
  have hwidth : [1, 2, 4].contains width.val = true := by rcases hw with rfl | rfl | rfl <;> rfl
  simp only [Dev.linkUp, hp, hrate, hwidth, Bool.not_true, Bool.or_self, Bool.false_eq_true, if_false]

/-- Settles O46. That a configuration write with EN = 1 held is discarded, and which of the AMP's submissions stand before
one, are the model's choices (logs 32, 33, 88 and 109). -/
theorem hostQueues : Obligations.HostQueues := by
  refine fun s hl => ⟨?_, ?_, ?_, ?_, ?_, ?_, ?_, ?_, ?_, ?_⟩
  · intro q v e he
    exact ⟨fun hq => ⟨acted_eq hl (Dev.sqDoorbell_disabled he hq), acted_eq hl (Dev.cqDoorbell_disabled he hq)⟩,
      fun hq hv => acted_eq hl (Dev.sqDoorbell_beyond he hq hv), fun hq hv => acted_eq hl (Dev.sqDoorbell_moves he hq hv),
      fun hq hv => acted_eq hl (Dev.cqDoorbell_beyond he hq hv),
      fun n hq hn hv => acted_eq hl (Dev.cqDoorbell_moves he hq hn hv)⟩
  · exact fun words h => acted_eq hl (Dev.fetch_none (Dev.nextQueue_eq_none fun q hq => Dev.hasEntry_eq_false (h q hq)))
  · intro words i q hi hq hon hne hbefore
    have hnext : s.dev.nextQueue = some q := Dev.nextQueue_eq_some hi hq (Dev.hasEntry_eq_true hon hne)
      fun j hj => Dev.hasEntry_eq_false (hbefore j hj _ rfl)
    exact ⟨fun ha => acted_eq hl (Dev.fetch_behindAmp hnext ha), fun d d1 ha hd hd1 =>
      ⟨fun hc => acted_eq hl (Dev.fetch_taken hnext ha hd hd1 hc), fun hc => acted_eq hl (Dev.fetch_left hnext ha hd hd1 hc)⟩⟩
  · exact fun lsn ok data h => acted_eq hl (Dev.readDone_unknown h)
  · exact fun lsn data d d1 d2 h hd hd1 hd2 => ⟨fun t ht => acted_eq hl (Dev.readDone_fills h hd hd1 ht),
      fun ht => acted_eq hl (Dev.readDone_gone h hd hd1 ht), fun hu => acted_eq hl (Dev.readDone_hole h hd hd2 hu),
      fun hu => acted_eq hl (Dev.readDone_decided h hd hd2 hu)⟩
  · intro q x v due hx hv hdue
    exact ⟨fun h => acted_eq hl (Dev.coalesce_idle hx hdue h), fun d hon hun hclk hd =>
      ⟨fun hmask => acted_eq hl (Dev.coalesce_masked hx hdue hon hun hclk hd hv hmask),
      fun hmask => acted_eq hl (Dev.coalesce_sends hx hdue hon hun hclk hd hv hmask)⟩⟩
  · intro r q w ok d hw hok hd
    exact ⟨fun hon => acted_byWrite_eq hl hw (Dev.qpCfg_enabled hon),
      fun hoff h => acted_byWrite_eq hl hw (Dev.qpCfg_stored hoff hok hd h),
      fun hoff hbit h => acted_byWrite_eq hl hw (Dev.qpCfg_enables hoff hok hd hbit h)⟩
  · exact fun d d1 hd hd1 => ⟨acted_eq hl (Dev.linkDown_down hd hd1), acted_eq hl (Dev.linkDown_reset hd hd1)⟩
  · exact fun r q hw => acted_byWrite_eq hl hw rfl
  · exact fun rate width hp hr hw => acted_eq hl (Dev.linkUp_trains hp hr hw)

end Sys2Proof.Machine

/-! # Proofs: AMP streams, PTP timestamps and raw frames (R317 to R322, R331) -/

namespace Sys2Proof.Machine

variable {d e : Dev} {x : AmpIn} {s : Nat}

/-! ## Datagrams from the peer -/

section Datagrams
variable {g : Dev → Dev} (hon : d.ethOn = true) (htag : d.tagOk x.tag = true) (hport : x.dport = d.f R.ETH_PORT 0 16)
  (he : e = d.pmcOctets 1 1 (d.ampOctets x.body.length))
include hon htag hport he

theorem Dev.ampIn_elsewhere (hp : e.fromPeer x = false) : d.ampIn x g = e.bump R.ETH_CNT_DROP := by
  simp only [Dev.ampIn, hon, htag, hport, ← he, hp, bne_self_eq_false, Bool.not_true, Bool.not_false, Bool.or_self,
    Bool.false_eq_true, if_false, if_true]

theorem Dev.ampIn_accepted (hp : e.fromPeer x = true) (hv : x.ver = 1) : d.ampIn x g = g e := by
  simp only [Dev.ampIn, hon, htag, hport, ← he, hp, hv, bne_self_eq_false, Bool.not_true, Bool.or_self,
    Bool.false_eq_true, if_false, ne_eq, not_true_eq_false]

variable (hp : e.fromPeer x = true) (hv : x.ver = 1)
include hp hv

theorem Dev.ampHeader_accepted : d.ampHeader x = e.ampAck x := Dev.ampIn_accepted hon htag hport he hp hv

theorem Dev.ampClose_accepted :
    d.ampClose x = ((e.ampTaken x.stream.val x.ack).setAmp x.stream.val 2).releaseAll :=
  Dev.ampIn_accepted hon htag hport he hp hv

theorem Dev.ampOpenIn_afresh {st : Stream} {d1 : Dev} (hlen : 4 ≤ x.body.length) (hresume : x.flags.testBit 2 = false)
    (hd1 : d1 = e.ampTaken x.stream.val x.ack) (hst : st = d1.stream x.stream.val) : d.ampOpenIn x =
      (((((d1.setStream x.stream.val
        { session := some (leNat (x.body.take 4)), window := max 1 (min 255 x.window) }).bumpF
          (R.ETH_AMP_STAT x.stream.val) 0 16
          (((st.unacked ++ st.queued).filter fun g => g.flags.testBit 1).length + st.held.length)).setAmp x.stream.val
        1).ampSend x.stream.val 2 0 0 (x.body.take 4)).releaseAll) := by
  rw [Dev.ampOpenIn, Dev.ampIn_accepted hon htag hport he hp hv]
  simp only [if_neg (Nat.not_lt.2 hlen), hresume, ← hd1, ← hst, Bool.false_and, Bool.false_eq_true, if_false]

end Datagrams

/-! ## Segments -/

section Segments
variable {take : Dev → Dev} (hopen : d.ampOpen x.stream.val = true)
include hopen

theorem Dev.ampSegment_taken (hseq : x.seq = (d.stream x.stream.val).rxNext) : d.ampSegment x take = take d := by
  simp only [Dev.ampSegment, hopen, Bool.not_true, Bool.false_eq_true, if_false, if_pos hseq]

variable (hseq : x.seq ≠ (d.stream x.stream.val).rxNext)
include hseq

theorem Dev.ampSegment_repeated (hb : seqBefore x.seq (d.stream x.stream.val).rxNext = true) :
    d.ampSegment x take = (d.bump R.ETH_CNT_AMPDUP).ackSoon x.stream.val := by
  simp only [Dev.ampSegment, hopen, Bool.not_true, Bool.false_eq_true, if_false, if_neg hseq, if_pos hb]

theorem Dev.ampSegment_ahead (hb : seqBefore x.seq (d.stream x.stream.val).rxNext = false) :
    d.ampSegment x take = d := by
  simp only [Dev.ampSegment, hopen, Bool.not_true, Bool.false_eq_true, if_false, if_neg hseq, hb]

end Segments

/-- What the device does with the segment of a SUBMIT that it takes. -/
def Dev.takeSubmit (d : Dev) (x : AmpIn) : Dev :=
  let msg := if x.flags.testBit 0 then x.body else (d.stream x.stream.val).partial_ ++ x.body
  let d := { d with host := { d.host with ethReady := true } }
  if x.flags.testBit 1 then
    let (sub, payload) := ampSub msg
    if d.canAccept sub then (d.ampNext x.stream.val []).submit (64 + x.stream.val) sub payload
    else d.submit (64 + x.stream.val) sub payload
  else d.ampNext x.stream.val msg

theorem Dev.ampSubmit_eq : d.ampSubmit x = d.ampIn x fun e => (e.ampAck x).ampSegment x fun e => e.takeSubmit x := rfl

theorem Dev.takeSubmit_begins (hfirst : x.flags.testBit 0 = true) (hlast : x.flags.testBit 1 = false) :
    d.takeSubmit x = { d with host := { d.host with ethReady := true } }.ampNext x.stream.val x.body := by
  simp only [Dev.takeSubmit, hfirst, hlast, Bool.false_eq_true, if_false, if_true]

section Whole
variable {sub : Sub} {payload : List Byte} (hfirst : x.flags.testBit 0 = true) (hlast : x.flags.testBit 1 = true)
  (hsub : (sub, payload) = ampSub x.body) (he : e = { d with host := { d.host with ethReady := true } })
include hfirst hlast hsub he

theorem Dev.takeSubmit_taken (hc : e.canAccept sub = true) : d.takeSubmit x =
    (e.ampNext x.stream.val []).submit (64 + x.stream.val) sub payload := by
  subst he
  simp only [Dev.takeSubmit, hfirst, hlast, ← hsub, if_true]
  exact if_pos hc

theorem Dev.takeSubmit_left (hc : e.canAccept sub = false) :
    d.takeSubmit x = e.submit (64 + x.stream.val) sub payload := by
  subst he
  simp only [Dev.takeSubmit, hfirst, hlast, ← hsub, if_true]
  exact if_neg (ne_true_of_eq_false hc)

end Whole

/-! ## Timers -/

section Timers
variable {t : Nat}

section Rto
variable {g : Segment} {l : List Segment} (ht : (d.stream s).rtoAt = some t) (hg : (d.stream s).unacked = g :: l)
  (hopen : d.ampOpen s = true) (hdue : t ≤ d.clk)
include ht hg hopen hdue

theorem Dev.ampRto_lost (hr : d.f R.ETH_AMPCFG 0 8 ≤ (d.stream s).retries) :
    d.ampRto s = ((d.setStream s { d.stream s with rtoAt := none }).setAmp s 2).releaseAll := by
  simp only [Dev.ampRto, ht, hg, hopen, Nat.not_lt.2 hdue, decide_false, Bool.not_true, Bool.or_self, Bool.false_eq_true,
    if_false, if_pos hr]
  rfl

theorem Dev.ampRto_resends (hr : (d.stream s).retries < d.f R.ETH_AMPCFG 0 8) : d.ampRto s =
    (d.setStream s { d.stream s with
      retries := (d.stream s).retries + 1, rtoAt := some (d.clk + d.rto) }).ampSend s g.type g.seq g.flags g.body := by
  simp only [Dev.ampRto, ht, hg, hopen, Nat.not_lt.2 hdue, decide_false, Bool.not_true, Bool.or_self, Bool.false_eq_true,
    if_false, if_neg (Nat.not_le.2 hr)]

end Rto

theorem Dev.ampAckTimer_sends (ht : (d.stream s).ackAt = some t) (hopen : d.ampOpen s = true) (hdue : t ≤ d.clk) :
    d.ampAckTimer s = d.ampSend s 5 0 0 [] := by
  simp only [Dev.ampAckTimer, ht, hopen, hdue, decide_true, Bool.and_self, if_true]

end Timers

/-! ## PTP, the link and raw frames -/

section Ptp
variable {tx : Bool} {ty seq back : Nat}

theorem Dev.ptpEvent_full (h : 32 ≤ d.host.ptp.length) : d.ptpEvent tx ty seq back = d := by
  simp only [Dev.ptpEvent, h, decide_true, Bool.or_true, if_true]

theorem Dev.ptpEvent_stamps {t : Nat} (hon : d.ethOn = true) (hty : ty ≤ 3) (h : d.host.ptp.length < 32)
    (ht : t = (256 * d.count + 2 ^ 72 - back) % 2 ^ 72) : d.ptpEvent tx ty seq back =
      { d with host := { d.host with
        ptp := d.host.ptp ++ [(pack [(31, 1), (30, b2n tx), (24, ty), (0, seq % 65536)], wd (t / 256),
          wd (t / 256 / 2 ^ 32), d.stampWord (t % 256) 7 false)] } }.showPtp := by
  simp only [Dev.ptpEvent, hon, Nat.not_lt.2 hty, Nat.not_le.2 h, decide_false, Bool.not_true, Bool.or_self,
    Bool.false_eq_true, if_false, ← ht, Dev.stamp]

end Ptp

theorem Dev.ethLink_changes {up an : Bool} {speed : Nat} (hp : d.pdRun 14 = true) : d.ethLink up speed an =
    (d.setReg R.ETH_STATUS (pack [(31, b2n up), (29, speed % 4), (28, b2n an)])).linkEvent := by
  simp only [Dev.ethLink, hp, Bool.not_true, Bool.false_eq_true, if_false]

theorem Dev.rawReceive_stores {frame : List Byte} {n head : Nat} (hon : d.ethOn = true)
    (htag : d.tagOk (frameTag frame).1 = true) (hraw : d.terminated frame = false) (hn : n = d.f R.ETH_RAWRX_CTL 0 12)
    (hne : n ≠ 0) (hhead : head = d.f R.ETH_RAWRX_CTL 16 12)
    (he : e = ((d.msWrite (storeBase + ((d.reg R.ETH_RAWRX_BASE).toNat + 2048 * head) % 0xC00000)
      (frame.take 2048)).setF R.ETH_RAWRX_CTL 16 12 ((head + 1) % n)).pmcOctets 1 1 (frame.length + 4)) :
    d.rawReceive frame = { e with host := { e.host with ethReady := true } } := by
  simp only [Dev.rawReceive, ← hn, hon, htag, hraw, beq_eq_false_iff_ne.2 hne, ← hhead, ← he, Bool.not_true, Bool.or_self,
    Bool.false_eq_true, if_false]

/-- Settles O47. That a COMPLETE and an OPEN_ACK act so, and which raw frames the hardware terminates, are the model's
choices (logs 34 and 42). -/
theorem ethernetPeer : Obligations.EthernetPeer := by
  refine fun s hl => ⟨?_, ?_, ?_, ?_, ?_, ?_, ?_⟩
  · intro x d hon htag hport hd
    refine ⟨fun hp => acted_eq hl (Dev.ampIn_elsewhere hon htag hport hd hp), fun hp hv => ?_⟩
    refine ⟨fun st d1 hlen hresume hd1 hst =>
        acted_eq hl (Dev.ampOpenIn_afresh hon htag hport hd hp hv hlen hresume hd1 hst),
      acted_eq hl (Dev.ampHeader_accepted hon htag hport hd hp hv),
      acted_eq hl (Dev.ampHeader_accepted hon htag hport hd hp hv),
      acted_eq hl (Dev.ampClose_accepted hon htag hport hd hp hv), fun hopen => ⟨fun hseq => ?_, fun hseq => ?_⟩⟩
    · have hsubmit : s.dev.ampSubmit x = (d.ampAck x).takeSubmit x :=
        (Dev.ampIn_accepted hon htag hport hd hp hv).trans (Dev.ampSegment_taken hopen hseq)
      exact ⟨acted_eq hl ((Dev.ampIn_accepted hon htag hport hd hp hv).trans (Dev.ampSegment_taken hopen hseq)),
        fun hfirst hlast => acted_eq hl (hsubmit.trans (Dev.takeSubmit_begins hfirst hlast)),
        fun sub payload d1 hfirst hlast hsub hd1 =>
          ⟨fun hc => acted_eq hl (hsubmit.trans (Dev.takeSubmit_taken hfirst hlast hsub hd1 hc)),
          fun hc => acted_eq hl (hsubmit.trans (Dev.takeSubmit_left hfirst hlast hsub hd1 hc))⟩⟩
    · exact ⟨fun hb => acted_eq hl ((Dev.ampIn_accepted hon htag hport hd hp hv).trans
          (Dev.ampSegment_repeated hopen hseq hb)),
        fun hb => acted_eq hl ((Dev.ampIn_accepted hon htag hport hd hp hv).trans (Dev.ampSegment_ahead hopen hseq hb))⟩
  · exact fun i t g l ht hg hopen hdue => ⟨fun hr => acted_eq hl (Dev.ampRto_lost ht hg hopen hdue hr),
      fun hr => acted_eq hl (Dev.ampRto_resends ht hg hopen hdue hr)⟩
  · exact fun i t ht hopen hdue => acted_eq hl (Dev.ampAckTimer_sends ht hopen hdue)
  · exact fun tx ty seq back hon => ⟨fun h => acted_eq hl (Dev.ptpEvent_full h),
      fun t hty h ht => acted_eq hl (Dev.ptpEvent_stamps hon hty h ht)⟩
  · exact fun r hw => acted_byWrite_eq hl hw rfl
  · exact fun up speed an hp => acted_eq hl (Dev.ethLink_changes hp)
  · exact fun frame n head d hon htag hraw hn hne hhead hd =>
      acted_eq hl (Dev.rawReceive_stores hon htag hraw hn hne hhead hd)

end Sys2Proof.Machine

/-! # Proofs: entering and leaving reset, and the supply (R334 to R346) -/

namespace Sys2Proof.Machine

theorem always_eq {s : State} {f : Dev → Dev} {d : Dev} (h : f s.dev = d) : always s f = .next (s.goes d) := by
  rw [always_goes, h]

variable {d e : Dev}

/-! ## Reset (R334, R335) -/

theorem Dev.enterReset_running {code arg : Nat} (h : d.power.inReset = false) (he : e = (if code ≤ 3 then d.powerLoss else d)) :
    d.enterReset code arg = (((e.wiped.setReg R.DEV_RSTCAUSE
      (pack [(24, d.f R.DEV_RSTCAUSE 0 8), (8, arg % 256), (0, code)])).setReg R.DEV_RSTSEC (wd d.rtcSec)).bump R.DEV_RSTCNT) := by
  simp only [Dev.enterReset, h, Bool.false_eq_true, if_false, ← he]

theorem Dev.enterReset_later {code arg : Nat} (h : d.power.inReset = true) (hc : d.f R.DEV_RSTCAUSE 0 8 ≤ code) :
    d.enterReset code arg = d := by
  simp only [Dev.enterReset, h, if_true, if_neg (Nat.not_lt.2 hc)]

theorem Dev.enterReset_lower {code arg : Nat} (h : d.power.inReset = true) (hc : code < d.f R.DEV_RSTCAUSE 0 8) :
    d.enterReset code arg = (d.setF R.DEV_RSTCAUSE 0 8 code).setF R.DEV_RSTCAUSE 8 8 0 := by
  simp only [Dev.enterReset, h, if_true, if_pos hc]

theorem Dev.leaveReset_inReset (h : d.power.inReset = true) :
    d.leaveReset = { d.resetRange 0x20000 0x21000 with power := {} } := by
  rw [Dev.leaveReset, if_pos h]

theorem Dev.leaveReset_running (h : d.power.inReset = false) : d.leaveReset = d := by
  rw [Dev.leaveReset, if_neg (ne_true_of_eq_false h)]

/-- Settles O48. What a loss of power leaves of an MRAM store without a FENCE, and what a second cause does, are the
model's choices (logs 44 and 103). -/
theorem resets : Obligations.Resets := by
  refine fun s => ⟨?_, fun h => always_eq (Dev.leaveReset_inReset h), fun h => always_eq (Dev.leaveReset_running h),
    fun d hd => always_eq ?_, fun h => acted_eq h (Dev.enterReset_running h rfl)⟩
  · rintro rail code rfl
    have hexec : exec (.resetAssert rail) s = always s fun d => d.enterReset (if rail then 2 else 4) 0 := rfl
    rw [hexec]
    refine ⟨fun d hd h => always_eq (Dev.enterReset_running h ?_), fun h hc => always_eq (Dev.enterReset_later h hc),
      fun h hc => always_eq (Dev.enterReset_lower h hc)⟩
    cases rail <;> exact hd
  · subst hd
    rfl

/-! ## Mains and VDD_CORE (R337 to R341) -/

theorem Dev.pfwLow_falls (h : d.b R.SUP_STATUS 27 = false) :
    d.pfwLow = (((d.setB R.SUP_STATUS 27 true).noteAll).rideTrigger 2).exitCheck := by
  rw [Dev.pfwLow, if_neg (ne_true_of_eq_false h)]

theorem Dev.halfCycle_inRange {code freq : Nat} (hlow : 4500 ≤ freq) (hhigh : freq ≤ 6500) (hf : d.sup.freqAt = none)
    (he : e = { d.setReg R.SUP_LINEMEAS (pack [(16, min 65535 code), (0, min 65535 freq)]) with
      sup := { d.sup with freqBad := 0 } }) :
    d.halfCycle code freq = e.setClass (e.classAfter code) (some (e.pct code)) := by
  have hgood : decide (freq < 4500 ∨ 6500 < freq) = false := decide_eq_false (by omega)
  obtain ⟨x, hx⟩ : ∃ x, x = d.setReg R.SUP_LINEMEAS (pack [(16, min 65535 code), (0, min 65535 freq)]) := ⟨_, rfl⟩
  have hsup : x.sup = d.sup := by rw [hx, Dev.setReg]
  rw [← hx] at he
  subst he
  simp only [Dev.halfCycle, ← hx, hgood, hsup, hf, Bool.false_eq_true, if_false]

theorem Dev.freqErr_declares (hbad : 10 ≤ d.sup.freqBad) (h : d.b R.SUP_STATUS 25 = false) : d.freqErr =
    (({ d with sup := { d.sup with
      freqAt := some (d.count, d.clk, d.f R.SUP_LINEMEAS 0 16) } }.setB R.SUP_STATUS 25 true).noteAll) := by
  simp only [Dev.freqErr, hbad, h, decide_true, Bool.not_false, Bool.and_self, if_true]

theorem Dev.exitReady_declares {t : Nat} (ht : d.sup.okSince = some t) (hride : d.b R.SUP_RTSTAT 31 = true)
    (hexit : d.b R.SUP_RTSTAT 29 = false) (hdue : t + d.f R.SUP_RTRECOV 0 16 * ms ≤ d.clk)
    (he : e = ((d.setB R.SUP_RTSTAT 29 true).setB R.SUP_STATUS 26 false).note [66]) :
    d.exitReady = { e with sup := { e.sup with voteBack := true } } := by
  simp only [Dev.exitReady, ht, hride, hexit, hdue, decide_true, Bool.not_false, Bool.and_self, if_true, ← he]

/-! ## AVSBus (R337) -/

theorem Dev.avsResponse_done (h : d.b R.SUP_AVS 30 = true)
    (he : e = (d.setF R.SUP_AVS 16 12 (d.f R.SUP_AVS 0 12)).setB R.SUP_AVS 30 false) :
    d.avsResponse = { e with sup := { e.sup with avsSent := none }, mgn := { e.mgn with stepAt := some e.clk } } := by
  simp only [Dev.avsResponse, h, Bool.not_true, Bool.false_eq_true, if_false, ← he]

theorem Dev.avsTimeout_fails {t : Nat} (ht : d.sup.avsSent = some t) (hdue : t + 100 * us ≤ d.clk)
    (he : e = (d.setB R.SUP_AVS 31 true).setB R.SUP_AVS 30 false) : d.avsTimeout =
      ({ e with sup := { e.sup with avsSent := none } }.mgnRecord 8 0 e.setpoint (e.f R.SUP_AVS 0 12)).mgnNotice 7 := by
  simp only [Dev.avsTimeout, ht, if_pos hdue, ← he]

/-- Settles O49. That CORE_UV clears at EXIT_READY is the model's choice (log 54). -/
theorem supply : Obligations.Supply := by
  refine fun s hl => ⟨fun d hd => acted_eq hl ?_, fun h => acted_eq hl (Dev.pfwLow_falls h), acted_eq hl rfl,
    fun code freq d hlow hhigh hf hd => acted_eq hl (Dev.halfCycle_inRange hlow hhigh hf hd), acted_eq hl rfl,
    fun hbad h => acted_eq hl (Dev.freqErr_declares hbad h),
    fun t d ht hride hexit hdue hd => acted_eq hl (Dev.exitReady_declares ht hride hexit hdue hd),
    fun r l hw hl' => acted_byWrite_eq hl hw ?_, fun d h hd => acted_eq hl (Dev.avsResponse_done h hd),
    fun t d ht hdue hd => acted_eq hl (Dev.avsTimeout_fails ht hdue hd)⟩
  · subst hd
    rfl
  · subst hl'
    rfl

end Sys2Proof.Machine

/-! # Proofs: power domains, margin and the event fabric -/

namespace Sys2Proof.Machine

variable {d e : Dev} {n : Nat}

/-! ## Votes, Prepare and Run entry (R348 to R358) -/

theorem Dev.swvWrite_votes {r i : Nat} {w : Word} (hr : swvBit r = some i) (hn : n < 54) :
    d.swvWrite r n w = (d.setB (R.PWR_PD_SWV n) i (bitOf w i)).vote n i (bitOf w i) := by
  simp only [Dev.swvWrite, hr, if_pos hn]

theorem Dev.swvWrite_beyond {r : Nat} {w : Word} (hn : 54 ≤ n) : d.swvWrite r n w = d := by
  unfold Dev.swvWrite
  split
  · exact if_neg (Nat.not_lt.2 hn)
  · rfl

theorem Dev.swvWrite_other {r : Nat} {w : Word} (hr : swvBit r = none) : d.swvWrite r n w = d := by
  simp only [Dev.swvWrite, hr]

section Prepare
variable {v : Nat} (hp : d.pdPrep n = true)
include hp

section Answer
variable (hv : v = (tget pairDflt d.power.prep n).1)
include hv

theorem Dev.prepareAnswer_refused {reason : Nat} (ha : d.voterAnswer n v = some reason) :
    d.prepareAnswer n = d.refuseStop n v reason := by
  simp only [Dev.prepareAnswer, hp, ← hv, ha, Bool.not_true, Bool.false_eq_true, if_false]

variable (ha : d.voterAnswer n v = none)
include ha

theorem Dev.prepareAnswer_voted (hw : d.reg (R.PWR_PD_VOTES n) ≠ 0#32) : d.prepareAnswer n = d.refuseStop n v 4 := by
  simp only [Dev.prepareAnswer, hp, ← hv, ha, Bool.not_true, Bool.false_eq_true, if_false, if_pos hw]

variable (hw : d.reg (R.PWR_PD_VOTES n) = 0#32)
include hw

theorem Dev.prepareAnswer_next (hlt : v + 1 < hwVoters n) : d.prepareAnswer n =
    { d with power := { d.power with prep := tput pairDflt d.power.prep n (v + 1, d.clk) } } := by
  simp only [Dev.prepareAnswer, hp, ← hv, ha, hw, Bool.not_true, Bool.false_eq_true, if_false, ne_eq, not_true_eq_false,
    if_pos hlt]

theorem Dev.prepareAnswer_stops (hle : hwVoters n ≤ v + 1) :
    d.prepareAnswer n = (d.endPrepare n false).stopDomain n := by
  simp only [Dev.prepareAnswer, hp, ← hv, ha, hw, Bool.not_true, Bool.false_eq_true, if_false, ne_eq, not_true_eq_false,
    if_neg (Nat.not_lt.2 hle)]

end Answer

theorem Dev.prepareTimeout_refused {t : Nat} (hv : tget pairDflt d.power.prep n = (v, t))
    (hdue : t + d.f R.PWR_PREPTMO 0 16 * us ≤ d.clk) : d.prepareTimeout n = d.refuseStop n v 3 := by
  simp only [Dev.prepareTimeout, hv, hp, hdue, decide_true, Bool.and_self, if_true]

end Prepare

theorem Dev.stopRetry_begins {v : Nat} (hr : d.b (R.PWR_PD_STAT n) 29 = true) (hp : d.pdPrep n = false)
    (hv : tget zeroDflt d.power.refuser n = v + 1) (ha : d.voterAnswer n v = none) : d.stopRetry n =
      { d with power := { d.power with refuser := tdel n d.power.refuser } }.beginPrepare n := by
  simp only [Dev.stopRetry, hr, hp, hv, Nat.add_sub_cancel, ha, Option.isNone_none, Bool.not_false, Bool.or_true,
    Bool.and_self, if_true]

section RunEntry
variable {d0 : Dev} {tcxo : Bool} (hl : d.power.inReset = false) (hentry : tget zeroDflt d.power.entry n ≠ 0)
  (hrun : d.pdRun n = false)
  (hd0 : d0 = ({ d with power := { d.power with entry := tdel n d.power.entry } }.clearRegs n).setB (R.PWR_PD_STAT n) 31 true)
  (he : e = (d0.enterRun n tcxo).ringsStart n)
include hl hentry hrun hd0 he

theorem Dev.runEntryDone_eq : d.runEntryDone n tcxo =
    if e.reg (R.PWR_PD_VOTES n) = 0#32 && decide (2 ≤ n) then e.beginPrepare n else e := by
  subst hd0 he
  simp only [Dev.runEntryDone, hentry, hrun, hl, decide_false, Bool.or_self, Bool.false_eq_true, if_false]

theorem Dev.runEntryDone_runs (h : e.reg (R.PWR_PD_VOTES n) ≠ 0#32 ∨ n < 2) : d.runEntryDone n tcxo = e := by
  rw [Dev.runEntryDone_eq hl hentry hrun hd0 he]
  rcases h with h | h
  · simp [h]
  · simp [Nat.not_le.2 h]

theorem Dev.runEntryDone_stops (h : e.reg (R.PWR_PD_VOTES n) = 0#32) (hn : 2 ≤ n) :
    d.runEntryDone n tcxo = e.beginPrepare n := by
  rw [Dev.runEntryDone_eq hl hentry hrun hd0 he]
  simp [h, hn]

end RunEntry

/-- Settles O50. What each voter answers in Prepare is the model's choice (log 50). -/
theorem powerDomains : Obligations.PowerDomains := by
  refine fun s n hl => ⟨fun r w hw => ⟨fun i hr hn => acted_byWrite_eq hl hw (Dev.swvWrite_votes hr hn),
      fun hn => acted_byWrite_eq hl hw (Dev.swvWrite_beyond hn), fun hr => acted_byWrite_eq hl hw (Dev.swvWrite_other hr)⟩,
    fun v hp hv => ⟨fun reason ha => acted_eq hl (Dev.prepareAnswer_refused hp hv ha),
      fun ha hw => acted_eq hl (Dev.prepareAnswer_voted hp hv ha hw),
      fun ha hw => ⟨fun hlt => acted_eq hl (Dev.prepareAnswer_next hp hv ha hw hlt),
        fun hle => acted_eq hl (Dev.prepareAnswer_stops hp hv ha hw hle)⟩⟩,
    fun v t hp hv hdue => acted_eq hl (Dev.prepareTimeout_refused hp hv hdue),
    fun v hr hp hv ha => acted_eq hl (Dev.stopRetry_begins hr hp hv ha),
    fun tcxo d e hentry hrun hd he => ⟨fun h => acted_eq hl (Dev.runEntryDone_runs hl hentry hrun hd he h),
      fun h hn => acted_eq hl (Dev.runEntryDone_stops hl hentry hrun hd he h hn)⟩⟩

/-! ## Sentinels and the margin planner (R360 to R369) -/

theorem Dev.sentinelBurst_engine {k burst mv : Nat} {temp : Int} (hp : d.pdRun (ringPd k) = true) (hk : k < 70)
    (he : e = (d.setReg (R.MGN_SN_MEAS k) (pack [(16, burst), (0, burst)])).setReg (R.MGN_SN_ENV k)
      (pack [(16, mv % 1024), (8, patt 8 temp)])) :
    d.sentinelBurst k burst mv temp = (e.setRing k { e.ring k with began := e.clk, valid := true }).replan k := by
  have hlane : ¬ (70 ≤ k ∧ k < 86) := by omega
  have hacr : ¬ (k = 86 ∨ k = 88) := by omega
  simp only [Dev.sentinelBurst, hp, Bool.not_true, Bool.false_eq_true, if_false, ← he, if_neg hlane, if_neg hacr]

theorem Dev.burstTimeout_faults {k : Nat} (hp : d.pdRun (ringPd k) = true) (hdue : (d.ring k).began + 65535 ≤ d.clk)
    (he : e = (d.setF (R.MGN_SN_MEAS k) 0 16 65535).setB (R.MGN_SN_ENV k) 31 true) : d.burstTimeout k =
      ((((e.setRing k { e.ring k with began := e.clk, valid := true }).mgnRecord 10 k 0 65535).mgnNotice 5).replan k) := by
  simp only [Dev.burstTimeout, hp, hdue, decide_true, Bool.and_self, if_true, ← he]

/-- A minute's sum of one ring: what a completed burst adds to its week (R366). -/
theorem Dev.minute_eq : d.minute = (List.range 96).foldl (fun d k =>
    if d.burst k = 0 ∨ d.f (R.MGN_SN_MEAS k) 16 16 = 0 then d else d.setRing k { d.ring k with
      weekSum := (d.ring k).weekSum + slowdown k (d.f (R.MGN_SN_MEAS k) 16 16) (d.f (R.MGN_SN_ENV k) 16 10)
        (sfld (d.reg (R.MGN_SN_ENV k)) 8 8)
      weekN := (d.ring k).weekN + 1
      tempSum := (d.ring k).tempSum + sfld (d.reg (R.MGN_SN_ENV k)) 8 8 }) d := by
  simp only [Dev.minute, Dev.forEach, Bool.or_eq_true, decide_eq_true_eq, beq_iff_eq]

theorem Dev.weekEnd_early (h : d.mgn.onTicks < (d.mgn.week + 1) * weekTicks) : d.weekEnd = d := by
  rw [Dev.weekEnd, if_neg (Nat.not_le.2 h)]

theorem Dev.weekEnd_due (h : (d.mgn.week + 1) * weekTicks ≤ d.mgn.onTicks) : d.weekEnd = d.weekly := by
  rw [Dev.weekEnd, if_pos h]

theorem Dev.setpointLower_lowers {t : Nat} (ht : d.mgn.highSince = some t) (hbar : d.stepBarred = false)
    (hdue : t + max 1 (d.f R.MGN_POLICY 0 8) * 160000000 ≤ d.clk) (hno : d.mgn.noLower ≤ d.clk)
    (hmin : d.vmin + 5 ≤ d.setpoint) : d.setpointLower =
      { d with mgn := { d.mgn with lowered := true, highSince := none } }.avsSend (min d.vmax (d.setpoint - 5)) := by
  simp only [Dev.setpointLower, ht, hbar, hdue, hno, hmin, and_self, decide_true, Bool.not_false, Bool.and_self, if_true]

/-- Settles O51. That a setpoint above its limit goes there in one step is the model's choice (log 53). -/
theorem margin : Obligations.Margin := by
  refine fun s hl => ⟨fun k burst mv temp d hp hk hd => acted_eq hl (Dev.sentinelBurst_engine hp hk hd),
    fun k d hp hdue hd => acted_eq hl (Dev.burstTimeout_faults hp hdue hd), acted_eq hl Dev.minute_eq,
    fun h => acted_eq hl (Dev.weekEnd_early h), fun h => acted_eq hl (Dev.weekEnd_due h),
    fun t ht hbar hdue hno hmin => acted_eq hl (Dev.setpointLower_lowers ht hbar hdue hno hmin)⟩

/-! ## Events and performance counters (R390 to R398) -/

theorem Dev.eventStep_held {ch : Nat} (hp : d.pdRun 3 = true) (h : tget falseDflt d.skein.held ch = true)
    (he : e = { d with skein := { d.skein with held := tput falseDflt d.skein.held ch false } }) : d.eventStep ch =
      (List.range 8).foldl (fun d j => d.actSlot ch j) ((List.range 8).foldl (fun d j => d.latchSlot ch j) e) := by
  simp only [Dev.eventStep, hp, h, Bool.not_true, Bool.or_self, Bool.false_eq_true, if_false, ← he, Dev.forEach]

theorem Dev.eventStep_idle {ch : Nat} (h : tget falseDflt d.skein.held ch = false) : d.eventStep ch = d := by
  simp only [Dev.eventStep, h, Bool.not_false, Bool.true_or, if_true]

theorem Dev.filterExpiry_posts {c : Nat} (hne : tget zeroDflt d.skein.filt c ≠ 0)
    (hdue : tget zeroDflt d.skein.filt c ≤ d.clk) : d.filterExpiry c =
      ({ d with skein := { d.skein with filt := tput zeroDflt d.skein.filt c 0 } }.post (d.f (R.EVR_SC_CFG c) 16 8)) := by
  simp only [Dev.filterExpiry, hne, hdue, ne_eq, not_false_eq_true, and_self, if_true]
  rfl

theorem Dev.pmcWindowEnd_ends (hmode : d.f (R.PMC_CFG n) 0 3 = 2) (hcount : d.count % 2 ^ d.pmcK n = 0)
    (hrun : d.b R.PMC_CTRL 0 = false) (hwin : tget zeroDflt d.skein.wins n ≠ d.count + 1)
    (he : e = (d.setReg (R.PMC_LAST_LO n) (d.reg (R.PMC_CNT_LO n))).setReg (R.PMC_LAST_HI n) (d.reg (R.PMC_CNT_HI n))) :
    d.pmcWindowEnd n = { e.setPair (R.PMC_CNT_LO n) (R.PMC_CNT_HI n) 0 with
      skein := { d.skein with wins := tput zeroDflt d.skein.wins n (d.count + 1) } } := by
  have hends : d.f (R.PMC_CFG n) 0 3 = 2 ∧ d.count % 2 ^ d.pmcK n = 0 ∧ (!d.b R.PMC_CTRL 0) = true ∧
      tget zeroDflt d.skein.wins n ≠ d.count + 1 := ⟨hmode, hcount, by rw [hrun]; rfl, hwin⟩
  subst he
  rw [Dev.pmcWindowEnd, if_pos hends]
  rfl

theorem Dev.pmcSample_triggers {t : Nat} (ht : t = tget zeroDflt d.skein.due n) (hne : t ≠ 0)
    (he : e = { d with skein := { d.skein with due := tput zeroDflt d.skein.due n 0 } })
    (hfull : e.b (R.PMC_SAMP n) 31 = false) :
    d.pmcSample n = (e.setB (R.PMC_SAMP n) 31 true).setReg (R.PMC_SADDR n) (wd (t - 1)) := by
  simp only [Dev.pmcSample, ← ht, if_neg hne, ← he, hfull, Bool.false_eq_true, if_false]

theorem pmcCntLo_ne {i : Nat} (n : Fin 64) (h : i < 0xc0108 ∨ 0xc0108 + 0x20 * 64 ≤ i) : R.PMC_CNT_LO n ≠ i := by
  unfold R.PMC_CNT_LO
  omega

theorem Dev.latchingRead_pmcCntLo (d : Dev) (r : Nat) (n : Fin 64) :
    d.latchingRead r (R.PMC_CNT_LO n) = some (d.pmcCntRead n r) := by
  have hi : idx (R.PMC_CNT_LO 0) 0x20 64 (R.PMC_CNT_LO n) = some n.val := idx_add_mul (by decide) n.isLt
  have ht : idx (R.TMR_CAP_LO 0) 0x20 32 (R.PMC_CNT_LO n) = none := by
    unfold idx R.TMR_CAP_LO R.PMC_CNT_LO
    rw [if_neg]
    simp only [Bool.and_eq_true, decide_eq_true_eq, beq_iff_eq]
    omega
  simp only [Dev.latchingRead, hi, ht, if_neg (pmcCntLo_ne n (i := R.TBG_COUNT_LO) (by decide)),
    if_neg (pmcCntLo_ne n (i := R.RTC_FRAC) (by decide)), if_neg (pmcCntLo_ne n (i := R.MGN_NOTICE) (by decide)),
    if_neg (pmcCntLo_ne n (i := R.CLP_TAGLOG) (by decide)),
    decide_eq_false (pmcCntLo_ne n (i := R.RIMX_TOKEN) (by decide)),
    decide_eq_false (pmcCntLo_ne n (i := R.RIMX_FLTLAST) (by decide)),
    decide_eq_false (pmcCntLo_ne n (i := R.ETH_RAWRX_CTL) (by decide)), Bool.false_and, Bool.false_eq_true, if_false]

/-- Settles O54. -/
theorem eventFabric : Obligations.EventFabric := by
  refine fun s hl => ⟨fun ch d hp hd => ⟨fun h => acted_eq hl (Dev.eventStep_held hp h hd),
      fun h => acted_eq hl (Dev.eventStep_idle h)⟩, fun c hne hdue => acted_eq hl (Dev.filterExpiry_posts hne hdue),
    fun r w hw => acted_byWrite_eq hl hw rfl, fun n d hmode hcount hrun hwin hd => acted_eq hl ?_,
    fun n t d ht hne hd hfull => acted_eq hl (Dev.pmcSample_triggers ht hne hd hfull),
    fun r n w hw => acted_byWrite_eq hl hw rfl, fun r n h => acted_byRead h (Dev.latchingRead_pmcCntLo ..) hl⟩
  have hapart : R.PMC_CNT_HI n ≠ R.PMC_LAST_LO n := by
    unfold R.PMC_CNT_HI R.PMC_LAST_LO
    omega
  rw [Dev.reg_setReg_ne _ _ hapart] at hd
  exact Dev.pmcWindowEnd_ends hmode hcount hrun hwin hd

end Sys2Proof.Machine

/-! # Proofs: activation of the contactless tag (R409 to R424) -/

namespace Sys2Proof.Machine

variable {d e : Dev} {c : Clp}

/-! ## The field -/

section Field
variable (hc : c = d.clp)
include hc

theorem Dev.fieldActivation_wakes {wp : Nat} (hf : c.field = false) (hen : d.tagCfg.1 = true) (hwp : wp = d.tagCfg.2)
    (hr : d.rdField = false) : d.fieldActivation = d.setClp { (c.draw 3).2.endSession 1 with
      field := true, tagEn := true, wp := wp, uid := 0x08#8 :: (c.draw 3).1 } := by
  simp only [Dev.fieldActivation, ← hc, hf, hen, ← hwp, hr, Bool.not_true, Bool.or_self, Bool.false_eq_true, if_false]

theorem Dev.fieldActivation_inactive {en : Bool} {wp : Nat} (hf : c.field = false) (hcfg : (en, wp) = d.tagCfg)
    (h : en = false ∨ d.rdField = true) :
    d.fieldActivation = d.setClp { c with field := true, tagEn := en, wp := wp } := by
  have hoff : (!en || d.rdField) = true := by rcases h with h | h <;> simp [h]
  simp only [Dev.fieldActivation, ← hc, hf, ← hcfg, hoff, Bool.false_eq_true, if_false, if_true]

theorem Dev.fieldGone_idle (hf : c.field = true) (hw : ∀ w ∈ c.wrs, w.tag = true → w.step d.clk = 0) : d.fieldGone =
    d.setClp { c.endSession 0 with field := false, uid := [], fieldLost := d.clk, lastReply := [] } := by
  have hnone : (c.wrs.any fun w => w.tag && w.step d.clk != 0) = false := by
    rw [List.any_eq_false]
    intro w hmem hstep
    obtain ⟨htag, hne⟩ := by simpa using hstep
    exact hne (hw w hmem htag)
  simp only [Dev.fieldGone, ← hc, hf, hnone, Bool.false_eq_true, if_false, if_true]

theorem Dev.fieldGone_collapses (hf : c.field = true) (hw : ∃ w ∈ c.wrs, w.tag = true ∧ w.step d.clk ≠ 0)
    (he : e = d.caCollapse true d.clk) : d.fieldGone = e.setClp { e.clp.endSession 0 with
      firstDone := false, field := false, uid := [], fieldLost := e.clk, lastReply := [] } := by
  have hsome : (c.wrs.any fun w => w.tag && w.step d.clk != 0) = true := by
    rw [List.any_eq_true]
    obtain ⟨w, hmem, htag, hne⟩ := hw
    exact ⟨w, hmem, by simp [htag, hne]⟩
  simp only [Dev.fieldGone, ← hc, hf, hsome, if_true, ← he]
  rfl

theorem Dev.lockoutEnd_ends (hlock : c.lockout = true) (hf : c.field = false) (hdue : c.fieldLost + 100 * ms ≤ d.clk) :
    d.lockoutEnd = d.setClp { c with lockout := false } := by
  simp only [Dev.lockoutEnd, ← hc, hlock, hf, hdue, decide_true, Bool.not_false, Bool.and_self, if_true]

end Field

/-! ## Frames of ISO/IEC 14443-3 and -4 -/

theorem Clp.hears_active {n : Nat} (hlock : c.lockout = false) (hst : c.st = n + 1) : c.hears = true := by
  simp [Clp.hears, hlock, hst]

theorem Clp.hears_lockout (hlock : c.lockout = true) : c.hears = false := by
  simp [Clp.hears, hlock]

theorem Dev.clpReqa_lockout {wupa : Bool} (hc : c = d.clp) (hlock : c.lockout = true) : d.clpReqa wupa = d := by
  simp only [Dev.clpReqa, ← hc, Clp.hears_lockout hlock, Bool.not_false, Bool.true_or, if_true]

section Frames
variable (hc : c = d.clp) (hlock : c.lockout = false)
include hc hlock

theorem Dev.clpReqa_answers {wupa : Bool} (h : c.st = 1 ∨ (c.st = 4 ∧ wupa = true)) :
    d.clpReqa wupa = d.setClp { c with st := 2, lastReply := [0x04#8, 0x00#8] } := by
  have hears : (!c.hears || decide (c.st = 5)) = false := by
    rcases h with h | ⟨h, -⟩ <;> simp [Clp.hears, hlock, h]
  simp only [Dev.clpReqa, ← hc, hears, Bool.false_eq_true, if_false, if_pos h]

theorem Dev.clpReqa_halted (hst : c.st = 4) : d.clpReqa false = d := by
  simp [Dev.clpReqa, ← hc, Clp.hears_active hlock hst, hst]

section Ready
variable (hst : c.st = 2)
include hst

theorem Dev.clpAnticoll_answers {known : List Bool} (hk : (airBits (c.uid ++ [bcc c.uid])).take known.length = known) :
    d.clpAnticoll known = d.setClp { c with lastReply := (c.uid ++ [bcc c.uid]).drop (known.length / 8) } := by
  simp only [Dev.clpAnticoll, ← hc, Clp.hears_active hlock hst, hst, hk, beq_self_eq_true, Bool.and_self, if_true]

theorem Dev.clpSelect_eq {uid : List Byte} : d.clpSelect uid =
    if uid = c.uid ++ [bcc c.uid] then d.setClp { c with st := 3, lastReply := [0x20#8] }
    else d.setClp { c with st := 1 } := by
  simp only [Dev.clpSelect, ← hc, Clp.hears_active hlock hst, hst, Bool.not_true, ne_eq, not_true_eq_false, decide_false,
    Bool.or_self, Bool.false_eq_true, if_false]

end Ready

theorem Dev.clpRats_opens {fsdi : Nat} (hst : c.st = 3) : d.clpRats fsdi =
    d.setClp { c.endSession 5 with fsd := fsdOf fsdi, lastReply := [0x05#8, 0x75#8, 0x00#8, 0x40#8, 0x00#8] } := by
  simp only [Dev.clpRats, ← hc, Clp.hears_active hlock hst, hst, beq_self_eq_true, Bool.and_self, if_true]

theorem Dev.clpHlta_halts (h : c.st = 3 ∨ c.st = 5) : d.clpHlta = d.setClp (c.endSession 4) := by
  have hears : c.hears = true := by
    rcases h with h | h
    · exact Clp.hears_active hlock h
    · exact Clp.hears_active hlock h
  simp only [Dev.clpHlta, ← hc, hears, Bool.not_true, Bool.false_eq_true, if_false, if_pos h]

section Session
variable (hst : c.st = 5)
include hst

theorem Dev.clpDeselect_ends : d.clpDeselect = d.setClp { c.endSession 4 with lastReply := [0xC2#8] } := by
  simp only [Dev.clpDeselect, ← hc, Clp.hears_active hlock hst, hst, beq_self_eq_true, Bool.and_self, if_true]

theorem Dev.clpRBlock_ack {x : List Byte} {r : List (List Byte)} (hchain : c.chain = x :: r) :
    d.clpRBlock 0 = d.setClp { c with lastReply := x, chain := r } := by
  simp only [Dev.clpRBlock, ← hc, Clp.hears_active hlock hst, hst, beq_self_eq_true, Bool.and_self, if_true, hchain]

theorem Dev.clpRBlock_wtx {m : Nat} {r : List Nat} (hwtx : c.wtx = m :: r) :
    d.clpRBlock 2 = d.setClp { c with wtx := r, waits := m * 4833 * us } := by
  have hkind : (2 == 0) = false := rfl
  simp only [Dev.clpRBlock, ← hc, Clp.hears_active hlock hst, hst, hkind, beq_self_eq_true, Bool.and_self, Bool.and_false,
    Bool.false_eq_true, if_false, if_true, hwtx]

end Session
end Frames

/-! ## The first access to the commissioning area (R418) -/

theorem Dev.caFirst_done {cut : Bool} (h : d.clp.firstDone = true) : d.caFirst cut = d := by
  simp only [Dev.caFirst, h, if_true]

section FirstAccess
variable (h : d.clp.firstDone = false) (he : e = d.caLost)
include h he

theorem Dev.caFirst_whole {cut : Bool} (hs : e.caSel.2.1 ≠ 1) :
    d.caFirst cut = e.setClp { e.clp with firstDone := true } := by
  simp only [Dev.caFirst, h, ← he, hs, false_and, Bool.false_eq_true, if_false, Dev.setClp]

theorem Dev.caFirst_cut (hs : e.caSel.2.1 = 1) : d.caFirst true = e := by
  simp only [Dev.caFirst, h, ← he, hs, and_self, Bool.false_eq_true, if_false, if_true]

theorem Dev.caFirst_copiesBack {x : Dev} {g p : Nat} (hg : g = e.caSel.1) (hs : e.caSel.2.1 = 1) (hp : p = e.caSel.2.2)
    (hx : x = (e.wrBytes (caBase + 256 * p) (e.rdBytes caShadow 256)).caFlip (g + 1) 0 p) :
    d.caFirst false = x.setClp { x.clp with firstDone := true } := by
  have hback : e.caCopyBack = x := by
    subst hx hg hp
    rfl
  simp only [Dev.caFirst, h, ← he, hs, and_false, Bool.false_eq_true, if_false, if_true, hback, Dev.setClp]

end FirstAccess

/-- Settles O55. What ISO/IEC 14443 gives beyond the spec is presumed (log 75); the selector's records and the collapse of
a write in its step are the model's readings (logs 71 and 72). -/
theorem tagActivation : Obligations.TagActivation := by
  refine fun s c hc => ⟨?_, ?_, ?_, ?_, ?_, ?_, ?_, ?_, ?_, ?_, ?_, ?_, ?_, ?_, ?_, ?_, ?_⟩
  · exact fun wp hf hen hwp hr => always_eq (Dev.fieldActivation_wakes hc hf hen hwp hr)
  · exact fun en wp hf hcfg h => always_eq (Dev.fieldActivation_inactive hc hf hcfg h)
  · exact fun hf hw => always_eq (Dev.fieldGone_idle hc hf hw)
  · exact fun d hf hw hd => always_eq (Dev.fieldGone_collapses hc hf hw hd)
  · exact fun wupa hlock h => always_eq (f := fun d => d.clpReqa wupa) (Dev.clpReqa_answers hc hlock h)
  · exact fun hlock hst => always_eq (f := fun d => d.clpReqa false) (Dev.clpReqa_halted hc hlock hst)
  · exact fun hlock wupa => always_eq (f := fun d => d.clpReqa wupa) (Dev.clpReqa_lockout hc hlock)
  · exact fun known hlock hst hk => always_eq (f := fun d => d.clpAnticoll known) (Dev.clpAnticoll_answers hc hlock hst hk)
  · exact fun uid hlock hst =>
      ⟨fun h => always_eq (f := fun d => d.clpSelect uid) ((Dev.clpSelect_eq hc hlock hst).trans (if_pos h)),
      fun h => always_eq (f := fun d => d.clpSelect uid) ((Dev.clpSelect_eq hc hlock hst).trans (if_neg h))⟩
  · exact fun fsdi hlock hst => always_eq (f := fun d => d.clpRats fsdi) (Dev.clpRats_opens hc hlock hst)
  · exact fun hlock h => always_eq (Dev.clpHlta_halts hc hlock h)
  · exact fun hlock hst => always_eq (Dev.clpDeselect_ends hc hlock hst)
  · exact fun x r hlock hst hchain => always_eq (f := fun d => d.clpRBlock 0) (Dev.clpRBlock_ack hc hlock hst hchain)
  · exact fun m r hlock hst hwtx => always_eq (f := fun d => d.clpRBlock 2) (Dev.clpRBlock_wtx hc hlock hst hwtx)
  · exact fun hlock hf hdue => always_eq (Dev.lockoutEnd_ends hc hlock hf hdue)
  · exact fun h cut => always_eq (f := fun d => d.caFirst cut) (Dev.caFirst_done (hc ▸ h))
  · intro e h he
    rw [hc] at h
    exact ⟨fun hs cut => always_eq (f := fun d => d.caFirst cut) (Dev.caFirst_whole h he hs),
      fun hs => always_eq (f := fun d => d.caFirst true) (Dev.caFirst_cut h he hs),
      fun g p d hg hs hp hd => always_eq (f := fun d => d.caFirst false) (Dev.caFirst_copiesBack h he hg hs hp hd)⟩

end Sys2Proof.Machine

/-! # Proofs: tag commands in an open session (R409 to R420) -/

namespace Sys2Proof.Machine

variable {d e : Dev} {c k : Clp}

/-! ## Blocks and messages -/

section Blocks
variable {code : Byte} {msg x : List Byte} {more low : Bool} {step mism : Nat} (hc : c = d.clp) (hlock : c.lockout = false)
  (hst : c.st = 5) (hx : x = if c.part = [] ∧ c.authed ≠ 2 then code :: msg else msg)
include hc hlock hst hx

theorem Dev.tagBlock_eq : d.tagBlock code msg more low step mism =
    if 61 < x.length then d
    else if more then d.setClp { c with part := c.part ++ x, lastReply := [0xA2#8] }
    else (d.setClp { c with part := [] }).tagCmd low step mism (c.part ++ x) := by
  have hoctets : d.blockOctets code msg = x := by
    simp only [Dev.blockOctets, ← hc, hx, Bool.and_eq_true, List.isEmpty_iff, bne_iff_ne, ne_eq]
  simp only [Dev.tagBlock, hoctets, ← hc, Clp.hears_active hlock hst, hst, Bool.not_true, ne_eq, not_true_eq_false,
    decide_false, Bool.or_self, Bool.false_or, decide_eq_true_eq]

theorem Dev.tagBlock_long (hlen : 61 < x.length) : d.tagBlock code msg more low step mism = d := by
  rw [Dev.tagBlock_eq hc hlock hst hx, if_pos hlen]

variable (hlen : x.length ≤ 61)
include hlen

theorem Dev.tagBlock_chains (hmore : more = true) : d.tagBlock code msg more low step mism =
    d.setClp { c with part := c.part ++ x, lastReply := [0xA2#8] } := by
  rw [Dev.tagBlock_eq hc hlock hst hx, if_neg (Nat.not_lt.2 hlen), if_pos hmore]

theorem Dev.tagBlock_last (hmore : more = false) (hk : k = { c with part := [] }) (he : e = d.setClp k) :
    d.tagBlock code msg more low step mism = e.tagCmd low step mism (c.part ++ x) := by
  rw [Dev.tagBlock_eq hc hlock hst hx, if_neg (Nat.not_lt.2 hlen), if_neg (ne_true_of_eq_false hmore), ← hk, ← he]

end Blocks

theorem Dev.tagOpen_plain {l : List Byte} (h : d.clp.authed ≠ 2) : d.tagOpen l = some l := by
  rw [Dev.tagOpen, if_pos h]

section Commands
variable {l m : List Byte} {code : Byte} {low : Bool} {step mism : Nat}

theorem Dev.tagCmd_unopened (ho : d.tagOpen l = none) (he : e = d.authFail) : d.tagCmd low step mism l =
    e.setClp { e.clp.endSession 4 with lockout := e.clp.lockout } := by
  simp only [Dev.tagCmd, ho, ← he]

theorem Dev.tagCmd_empty (ho : d.tagOpen l = some []) : d.tagCmd low step mism l = d.tagReply 0xFF [] := by
  simp only [Dev.tagCmd, ho]

variable (ho : d.tagOpen l = some (code :: m))
include ho

/-- The commands that need no authentication, and a code without a command. -/
theorem Dev.tagCmd_open (h : code = 0x10#8 ∨ code = 0x20#8 ∨ code = 0x21#8 ∨
      code ∉ [0x10#8, 0x20#8, 0x21#8, 0x30#8, 0x40#8, 0x50#8, 0x60#8]) : d.tagCmd low step mism l =
    if code = 0x10#8 then d.clpGetInfo m else if code = 0x20#8 then d.clpAuth1 m
    else if code = 0x21#8 then d.clpAuth2 m else d.tagReply 0xFF [] := by
  rcases h with rfl | rfl | rfl | h
  · simp only [Dev.tagCmd, ho, if_true]
  · simp only [Dev.tagCmd, ho]
    rfl
  · simp only [Dev.tagCmd, ho]
    rfl
  · simp only [List.mem_cons, List.not_mem_nil, or_false, not_or] at h
    obtain ⟨h10, h20, h21, h30, h40, h50, h60⟩ := h
    have hlist : [0x30#8, 0x40#8, 0x50#8, 0x60#8].contains code = false := by simp [h30, h40, h50, h60]
    simp only [Dev.tagCmd, ho, if_neg h10, if_neg h20, if_neg h21, hlist, Bool.not_false, if_true]

/-- The commands that need authentication. -/
theorem Dev.tagCmd_protected (h : code ∈ [0x30#8, 0x40#8, 0x50#8, 0x60#8]) : d.tagCmd low step mism l =
    if d.clp.authed ≠ 2 then d.tagReply 1 []
    else if code = 0x30#8 then d.clpIdent m
    else if code = 0x40#8 then d.clpRead m
    else if code = 0x50#8 then d.clpWrite m low step mism
    else d.clpGeneration m := by
  have hlist : [0x30#8, 0x40#8, 0x50#8, 0x60#8].contains code = true := List.contains_iff_mem.2 h
  have hcodes : code ≠ 0x10#8 ∧ code ≠ 0x20#8 ∧ code ≠ 0x21#8 := by
    simp only [List.mem_cons, List.not_mem_nil, or_false] at h
    rcases h with rfl | rfl | rfl | rfl <;> decide
  obtain ⟨h10, h20, h21⟩ := hcodes
  simp only [Dev.tagCmd, ho, if_neg h10, if_neg h20, if_neg h21, hlist, Bool.not_true, Bool.false_eq_true, if_false]

theorem Dev.tagCmd_getInfo (h : code = 0x10#8) : d.tagCmd low step mism l = d.clpGetInfo m := by
  rw [Dev.tagCmd_open ho (.inl h), if_pos h]

theorem Dev.tagCmd_auth1 (h : code = 0x20#8) : d.tagCmd low step mism l = d.clpAuth1 m := by
  subst h
  exact Dev.tagCmd_open ho (.inr (.inl rfl))

theorem Dev.tagCmd_auth2 (h : code = 0x21#8) : d.tagCmd low step mism l = d.clpAuth2 m := by
  subst h
  exact Dev.tagCmd_open ho (.inr (.inr (.inl rfl)))

theorem Dev.tagCmd_unknown (h : code ∉ [0x10#8, 0x20#8, 0x21#8, 0x30#8, 0x40#8, 0x50#8, 0x60#8]) :
    d.tagCmd low step mism l = d.tagReply 0xFF [] := by
  rw [Dev.tagCmd_open ho (.inr (.inr (.inr h))), if_neg (fun h10 => h (by simp [h10])), if_neg (fun h20 => h (by simp [h20])),
    if_neg (fun h21 => h (by simp [h21]))]

theorem Dev.tagCmd_unauthenticated (h : code ∈ [0x30#8, 0x40#8, 0x50#8, 0x60#8]) (ha : d.clp.authed ≠ 2) :
    d.tagCmd low step mism l = d.tagReply 1 [] := by
  rw [Dev.tagCmd_protected ho h, if_pos ha]

section Authenticated
variable (ha : d.clp.authed = 2)
include ha

theorem Dev.tagCmd_ident (h : code = 0x30#8) : d.tagCmd low step mism l = d.clpIdent m := by
  rw [Dev.tagCmd_protected ho (by simp [h]), if_neg (not_not_intro ha), if_pos h]

theorem Dev.tagCmd_read (h : code = 0x40#8) : d.tagCmd low step mism l = d.clpRead m := by
  subst h
  rw [Dev.tagCmd_protected ho (by simp), if_neg (not_not_intro ha)]
  rfl

theorem Dev.tagCmd_write (h : code = 0x50#8) : d.tagCmd low step mism l = d.clpWrite m low step mism := by
  subst h
  rw [Dev.tagCmd_protected ho (by simp), if_neg (not_not_intro ha)]
  rfl

theorem Dev.tagCmd_generation (h : code = 0x60#8) : d.tagCmd low step mism l = d.clpGeneration m := by
  subst h
  rw [Dev.tagCmd_protected ho (by simp), if_neg (not_not_intro ha)]
  rfl

end Authenticated
end Commands

/-! ## The commands -/

section Each
variable {m : List Byte}

theorem Dev.clpGetInfo_answers (hm : m = []) : d.clpGetInfo m =
    d.tagReply 0 ([0x01#8] ++ natBytes 2 4096 ++ natBytes 2 256 ++ natBytes 2 d.clp.wp) := by
  subst hm
  rfl

theorem Dev.clpGetInfo_form (hm : m ≠ []) : d.clpGetInfo m = d.tagReply 2 [] := by
  rw [Dev.clpGetInfo, if_pos (by simpa using hm)]

theorem Dev.clpAuth1_form (hm : m.length ≠ 18) : d.clpAuth1 m = d.tagReply 2 [] := by
  rw [Dev.clpAuth1, if_pos hm]

section Auth1
variable {n : Nat} {t : List Byte} (hm : m.length = 18) (hn : n = leNat (m.take 2)) (hk : k = d.clp)
  (ht : t = (k.draw 16).1)
include hm hn hk ht

theorem Dev.clpAuth1_slot (hs : d.authSlot n = true)
    (he : e = (d.setClp { (k.draw 16).2 with slot := n, rndR := m.drop 2 }).tagReply 0
      (t ++ Config.aesBlock (d.slotKey n) (xorBytes (m.drop 2) t))) :
    d.clpAuth1 m = e.setClp { e.clp with rndT := t, authed := 1, counter := 0, key := d.slotKey n } := by
  subst he ht hk
  simp only [Dev.clpAuth1, hm, ← hn, hs, ne_eq, not_true_eq_false, if_false, if_true]

theorem Dev.clpAuth1_random (hs : d.authSlot n = false)
    (he : e = (d.setClp { ((k.draw 16).2.draw 16).2 with slot := n, rndR := m.drop 2 }).tagReply 0
      (t ++ ((k.draw 16).2.draw 16).1)) :
    d.clpAuth1 m = e.setClp { e.clp with rndT := t, authed := 1, counter := 0, key := [] } := by
  subst he ht hk
  simp only [Dev.clpAuth1, hm, ← hn, hs, ne_eq, not_true_eq_false, Bool.false_eq_true, if_false]

end Auth1

theorem Dev.clpAuth2_early (ha : d.clp.authed ≠ 1) : d.clpAuth2 m = d.tagReply 1 [] := by
  rw [Dev.clpAuth2, if_pos ha]

section Auth2
variable (ha : d.clp.authed = 1)
include ha

theorem Dev.clpAuth2_form (hm : m.length ≠ 16) : d.clpAuth2 m = d.tagReply 2 [] := by
  simp only [Dev.clpAuth2, ha, ne_eq, not_true_eq_false, if_false, hm, not_false_eq_true, if_true]

variable (hm : m.length = 16) {good : Bool} (hk : k = d.clp)
  (hgood : good = (!k.key.isEmpty && m == Config.aesBlock k.key (xorBytes k.rndT (k.rndR.drop 1 ++ k.rndR.take 1))))
include hm hk hgood

theorem Dev.clpAuth2_opens (hg : good = true) (he : e = d.tagReply 0 []) : d.clpAuth2 m = e.setClp { e.clp with
    authed := 2, counter := 0, key := Config.aesBlock k.key (k.rndR.take 8 ++ k.rndT.take 8) } := by
  rw [hg] at hgood
  subst he hk
  simp only [Dev.clpAuth2, ha, hm, ← hgood, ne_eq, not_true_eq_false, if_false, if_true]

theorem Dev.clpAuth2_fails (hg : good = false) : d.clpAuth2 m = d.authFail := by
  rw [hg] at hgood
  subst hk
  simp only [Dev.clpAuth2, ha, hm, ← hgood, ne_eq, not_true_eq_false, Bool.false_eq_true, if_false]

end Auth2

theorem Dev.clpIdent_answers (hm : m = []) : d.clpIdent m = d.tagReply 0 (natBytes 8 Config.eui64.toNat ++
    natBytes 4 (d.reg R.DEV_ID).toNat ++ natBytes 4 (d.hdr (weaveBase d.fw.weave.confirmed) 0x10)) := by
  subst hm
  rfl

theorem Dev.clpIdent_form (hm : m ≠ []) : d.clpIdent m = d.tagReply 2 [] := by
  rw [Dev.clpIdent, if_pos (by simpa using hm)]

theorem Dev.clpGeneration_answers (hm : m = []) (he : e = d.caFirst false) :
    d.clpGeneration m = e.tagReply 0 (natBytes 4 e.caNow.caGen) := by
  subst hm he
  rfl

theorem Dev.clpGeneration_form (hm : m ≠ []) : d.clpGeneration m = d.tagReply 2 [] := by
  rw [Dev.clpGeneration, if_pos (by simpa using hm)]

section Range
variable {o n : Nat} (ho : o = leNat (m.take 2)) (hn : n = leNat ((m.drop 2).take 2))
include ho hn

theorem Dev.clpRead_answers (he : e = d.caFirst false) (h : m.length = 4 ∧ 1 ≤ n ∧ n ≤ 256 ∧ o + n ≤ 4096) :
    d.clpRead m = e.tagReply 0 (e.caNow.caRead o n) := by
  obtain ⟨hm, hlow, hhigh, hin⟩ := h
  simp only [Dev.clpRead, ← ho, ← hn, hm, Nat.not_lt.2 hlow, Nat.not_lt.2 hhigh, Nat.not_lt.2 hin, ne_eq, not_true_eq_false,
    or_self, if_false, ← he]

theorem Dev.clpRead_form (h : ¬ (m.length = 4 ∧ 1 ≤ n ∧ n ≤ 256 ∧ o + n ≤ 4096)) : d.clpRead m = d.tagReply 2 [] := by
  have hbad : m.length ≠ 4 ∨ n < 1 ∨ 256 < n ∨ 4096 < o + n := by omega
  simp only [Dev.clpRead, ← ho, ← hn, if_pos hbad]

end Range

section Write
variable {o n step mism : Nat} {l : List Byte} {low : Bool} (ho : o = leNat (m.take 2))
  (hn : n = leNat ((m.drop 2).take 2)) (hl : l = m.drop 4)
include ho hn hl

theorem Dev.clpWrite_form (h : l.length ≠ n ∨ caOnePage o n = false) :
    d.clpWrite m low step mism = d.tagReply 2 [] := by
  have hbad : (decide (l.length ≠ n) || !caOnePage o n) = true := by rcases h with h | h <;> simp [h]
  simp only [Dev.clpWrite, ← ho, ← hn, ← hl, if_pos hbad]

variable (hlen : l.length = n) (hpage : caOnePage o n = true)
include hlen hpage

theorem Dev.clpWrite_protected (hwp : d.clp.wp.testBit (o / 256) = true) :
    d.clpWrite m low step mism = d.tagReply 1 [] := by
  simp only [Dev.clpWrite, ← ho, ← hn, ← hl, hlen, hpage, hwp, ne_eq, not_true_eq_false, decide_false, Bool.not_true,
    Bool.or_self, Bool.false_eq_true, if_false, if_true]

variable (hwp : d.clp.wp.testBit (o / 256) = false) (he : e = d.caFirst false)
include hwp he

theorem Dev.clpWrite_allowed : d.clpWrite m low step mism =
    if low && step != 1 then e.tagReply 3 [] else
    if 1 ≤ step ∧ step ≤ 5 then
      let a := if step = 1 then e else e.askWtx (writeAsks ((e.caFree - e.clk) / us) step mism)
      let z := (a.caWrite (o / 256) (a.caPage o l) step mism).1
      (z.setClp { z.clp with firstDone := false }).fieldGone
    else
      let a := e.askWtx (writeAsks ((e.caFree - e.clk) / us) 0 mism)
      let z := a.caTurn true (o / 256) (a.caPage o l) mism
      if z.2 ≠ 0 then z.1.tagReply z.2 []
      else
        let w := if z.1.rimRuns then (z.1.setClp { z.1.clp with tagIrq := true }).bumpF R.CLP_TAGLOG 16 16 1 else z.1
        w.tagReply 0 (natBytes 4 w.caGen) := by
  simp only [Dev.clpWrite, ← ho, ← hn, ← hl, hlen, hpage, hwp, ne_eq, not_true_eq_false, decide_false, Bool.not_true,
    Bool.or_self, Bool.false_eq_true, if_false, ← he]

theorem Dev.clpWrite_lowField (hlow : low = true) (hstep : step ≠ 1) : d.clpWrite m low step mism = e.tagReply 3 [] := by
  rw [Dev.clpWrite_allowed ho hn hl hlen hpage hwp he, if_pos (by simp [hlow, hstep])]

theorem Dev.clpWrite_collapses {a z : Dev} (hlow : low = false ∨ step = 1) (hfrom : 1 ≤ step) (hto : step ≤ 5)
    (ha : a = (if step = 1 then e else e.askWtx (writeAsks ((e.caFree - e.clk) / us) step mism)))
    (hz : z = (a.caWrite (o / 256) (a.caPage o l) step mism).1) :
    d.clpWrite m low step mism = (z.setClp { z.clp with firstDone := false }).fieldGone := by
  have hfield : (low && step != 1) = false := by rcases hlow with h | h <;> simp [h]
  rw [Dev.clpWrite_allowed ho hn hl hlen hpage hwp he, hfield, if_neg Bool.false_ne_true, if_pos ⟨hfrom, hto⟩, ← ha]
  simp only [← hz]

section Turn
variable {a : Dev} {z : Dev × Nat} (hlow : low = false) (hstep : step = 0)
  (ha : a = e.askWtx (writeAsks ((e.caFree - e.clk) / us) 0 mism))
  (hz : z = a.caTurn true (o / 256) (a.caPage o l) mism)
include hlow hstep ha hz

theorem Dev.clpWrite_turn : d.clpWrite m low step mism = if z.2 ≠ 0 then z.1.tagReply z.2 [] else
    let w := if z.1.rimRuns then (z.1.setClp { z.1.clp with tagIrq := true }).bumpF R.CLP_TAGLOG 16 16 1 else z.1
    w.tagReply 0 (natBytes 4 w.caGen) := by
  subst hlow hstep
  rw [Dev.clpWrite_allowed ho hn hl hlen hpage hwp he, Bool.false_and, if_neg Bool.false_ne_true,
    if_neg (show ¬ (1 ≤ 0 ∧ 0 ≤ 5) by decide)]
  simp only [← ha, ← hz]

theorem Dev.clpWrite_fails (hr : z.2 ≠ 0) : d.clpWrite m low step mism = z.1.tagReply z.2 [] := by
  rw [Dev.clpWrite_turn ho hn hl hlen hpage hwp he hlow hstep ha hz, if_pos hr]

theorem Dev.clpWrite_quiet (hr : z.2 = 0) (hrim : z.1.rimRuns = false) :
    d.clpWrite m low step mism = z.1.tagReply 0 (natBytes 4 z.1.caGen) := by
  rw [Dev.clpWrite_turn ho hn hl hlen hpage hwp he hlow hstep ha hz, if_neg (not_not_intro hr)]
  simp only [hrim, Bool.false_eq_true, if_false]

theorem Dev.clpWrite_tellsRim {w : Dev} (hr : z.2 = 0) (hrim : z.1.rimRuns = true)
    (hw : w = (z.1.setClp { z.1.clp with tagIrq := true }).bumpF R.CLP_TAGLOG 16 16 1) :
    d.clpWrite m low step mism = w.tagReply 0 (natBytes 4 w.caGen) := by
  rw [Dev.clpWrite_turn ho hn hl hlen hpage hwp he hlow hstep ha hz, if_neg (not_not_intro hr)]
  simp only [hrim, if_true, ← hw]

end Turn
end Write
end Each

/-- Settles O56. GET_INFO's layout, the forms of commands, the waiting times and a collapse in its step are the model's
readings (logs 72, 73, 74 and 115). -/
theorem tagCommands : Obligations.TagCommands := by
  intro s c k e hc hlock hst hk he msg x more low step mism p hp hx
  have hexec : exec p.1 s = always s fun d => d.tagBlock p.2.1 msg more p.2.2.1 p.2.2.2.1 p.2.2.2.2 := by
    simp only [List.mem_cons, List.not_mem_nil, or_false] at hp
    rcases hp with rfl | rfl | rfl | rfl | rfl | rfl | rfl <;> rfl
  have heclp : e.clp = k := by rw [he, Dev.setClp]
  rw [hexec]
  refine ⟨fun hlen => always_eq (Dev.tagBlock_long hc hlock hst hx hlen),
    fun hlen hmore => always_eq (Dev.tagBlock_chains hc hlock hst hx hlen hmore), fun y hlen hmore hy => ?_⟩
  have hlast := Dev.tagBlock_last (low := p.2.2.1) (step := p.2.2.2.1) (mism := p.2.2.2.2) hc hlock hst hx hlen hmore hk he
  have hauthed : e.clp.authed = c.authed := by rw [heclp, hk]
  have hwp : e.clp.wp = c.wp := by rw [heclp, hk]
  have hkey : k.key = c.key ∧ k.rndT = c.rndT ∧ k.rndR = c.rndR := by simp only [hk, and_self]
  obtain ⟨hkey, hrndT, hrndR⟩ := hkey
  refine ⟨fun ha => hy.trans (Dev.tagOpen_plain (hauthed ▸ ha)), fun d hnone hd =>
      always_eq (hlast.trans (Dev.tagCmd_unopened (hy ▸ hnone) hd)),
    fun hempty => always_eq (hlast.trans (Dev.tagCmd_empty (hy ▸ hempty))), fun code m hsome => ?_⟩
  have ho := hy.symm.trans hsome
  refine ⟨fun hcode => ?_, fun hcode => ?_, fun hcode => ?_, fun hcode => ?_, fun hcode ha => ?_, fun hcode ha => ?_,
    fun o n d hcode ha hoff hn hd => ?_, fun d hcode ha hd => ?_, fun o n l hcode ha hoff hn hbytes => ?_⟩
  · have hcmd := hlast.trans (Dev.tagCmd_getInfo ho hcode)
    exact ⟨fun hm => always_eq (hcmd.trans (hwp ▸ Dev.clpGetInfo_answers hm)),
      fun hm => always_eq (hcmd.trans (Dev.clpGetInfo_form hm))⟩
  · have hcmd := hlast.trans (Dev.tagCmd_auth1 ho hcode)
    exact ⟨fun hm => always_eq (hcmd.trans (Dev.clpAuth1_form hm)), fun n t d hm hn ht =>
      ⟨fun hs hd => always_eq (hcmd.trans (Dev.clpAuth1_slot hm hn heclp.symm ht hs hd)),
      fun hs hd => always_eq (hcmd.trans (Dev.clpAuth1_random hm hn heclp.symm ht hs hd))⟩⟩
  · have hcmd := hlast.trans (Dev.tagCmd_auth2 ho hcode)
    refine ⟨fun ha => always_eq (hcmd.trans (Dev.clpAuth2_early (hauthed ▸ ha))),
      fun ha hm => always_eq (hcmd.trans (Dev.clpAuth2_form (hauthed.trans ha) hm)), fun good d ha hm hd hgood => ?_⟩
    rw [← hkey, ← hrndT, ← hrndR] at hgood ⊢
    exact ⟨fun hg => always_eq (hcmd.trans (Dev.clpAuth2_opens (hauthed.trans ha) hm heclp.symm hgood hg hd)),
      fun hg => always_eq (hcmd.trans (Dev.clpAuth2_fails (hauthed.trans ha) hm heclp.symm hgood hg))⟩
  · exact always_eq (hlast.trans (Dev.tagCmd_unknown ho hcode))
  · exact always_eq (hlast.trans (Dev.tagCmd_unauthenticated ho hcode (hauthed ▸ ha)))
  · have hcmd := hlast.trans (Dev.tagCmd_ident ho (hauthed.trans ha) hcode)
    refine ⟨fun hm => always_eq (hcmd.trans ?_), fun hm => always_eq (hcmd.trans (Dev.clpIdent_form hm))⟩
    rw [Dev.clpIdent_answers hm, he]
    rfl
  · have hcmd := hlast.trans (Dev.tagCmd_read ho (hauthed.trans ha) hcode)
    exact ⟨fun h => always_eq (hcmd.trans (Dev.clpRead_answers hoff hn hd h)),
      fun h => always_eq (hcmd.trans (Dev.clpRead_form hoff hn h))⟩
  · have hcmd := hlast.trans (Dev.tagCmd_generation ho (hauthed.trans ha) hcode)
    exact ⟨fun hm => always_eq (hcmd.trans (Dev.clpGeneration_answers hm hd)),
      fun hm => always_eq (hcmd.trans (Dev.clpGeneration_form hm))⟩
  · have hcmd := hlast.trans (Dev.tagCmd_write ho (hauthed.trans ha) hcode)
    refine ⟨fun h => always_eq (hcmd.trans (Dev.clpWrite_form hoff hn hbytes h)), fun hlen hpage hprot =>
        always_eq (hcmd.trans (Dev.clpWrite_protected hoff hn hbytes hlen hpage (hwp ▸ hprot))),
      fun d hlen hpage hprot hd => ?_⟩
    rw [← hwp] at hprot
    refine ⟨fun hlow hstep => always_eq (hcmd.trans (Dev.clpWrite_lowField hoff hn hbytes hlen hpage hprot hd hlow hstep)),
      fun a z hlow hstep ha hz => ⟨fun hr => always_eq (hcmd.trans ?_), fun hr hrim => always_eq (hcmd.trans ?_),
        fun w hr hrim hw => always_eq (hcmd.trans ?_)⟩,
      fun a z hlow hfrom hto ha hz => always_eq (hcmd.trans ?_)⟩
    · exact Dev.clpWrite_fails hoff hn hbytes hlen hpage hprot hd hlow hstep ha hz hr
    · exact Dev.clpWrite_quiet hoff hn hbytes hlen hpage hprot hd hlow hstep ha hz hr hrim
    · exact Dev.clpWrite_tellsRim hoff hn hbytes hlen hpage hprot hd hlow hstep ha hz hr hrim hw
    · exact Dev.clpWrite_collapses hoff hn hbytes hlen hpage hprot hd hlow hfrom hto ha hz

end Sys2Proof.Machine

/-! # Proofs: the contactless reader (R421 to R426) -/

namespace Sys2Proof.Machine

variable {d e o : Dev} {c : Clp}

/-! ## Measuring, polling and exchanging -/

section Wake
variable {count : Nat} (hc : c = d.clp) (hen : d.rdEnabled = true) (hwake : d.b R.CLP_RDCTRL 30 = true)
  (hoff : d.rdField = false) (hdue : c.nextMeas ≤ d.clk)
  (he : e = (d.setClp { c with nextMeas := d.clk + max 1 (d.f R.CLP_RDCTRL 8 8) * ms }).setF R.CLP_RDCAP 16 16 count)
include hc hen hwake hoff hdue he

theorem Dev.wakeMeasure_eq : d.wakeMeasure count =
    if e.f R.CLP_RDWAKE 16 16 < ((count : Int) - d.f R.CLP_RDCAP 0 16).natAbs then
      (e.setClp { e.clp with rdWake := true }).rdOn.1
    else e.setF R.CLP_RDCAP 0 16
      ((d.f R.CLP_RDCAP 0 16 : Int) + ((count : Int) - d.f R.CLP_RDCAP 0 16).tdiv 64).toNat := by
  subst he hc
  simp only [Dev.wakeMeasure, hen, hwake, hoff, Nat.not_lt.2 hdue, decide_false, Bool.not_true, Bool.or_self,
    Bool.false_eq_true, if_false]
  rfl

theorem Dev.wakeMeasure_wakes (h : e.f R.CLP_RDWAKE 16 16 < ((count : Int) - d.f R.CLP_RDCAP 0 16).natAbs) :
    d.wakeMeasure count = (e.setClp { e.clp with rdWake := true }).rdOn.1 := by
  rw [Dev.wakeMeasure_eq hc hen hwake hoff hdue he, if_pos h]

theorem Dev.wakeMeasure_follows (h : ((count : Int) - d.f R.CLP_RDCAP 0 16).natAbs ≤ e.f R.CLP_RDWAKE 16 16) :
    d.wakeMeasure count = e.setF R.CLP_RDCAP 0 16
      ((d.f R.CLP_RDCAP 0 16 : Int) + ((count : Int) - d.f R.CLP_RDCAP 0 16).tdiv 64).toNat := by
  rw [Dev.wakeMeasure_eq hc hen hwake hoff hdue he, if_neg (Nat.not_lt.2 h)]

end Wake

section Poll
variable {tags found : List (List Byte)} (hen : d.rdEnabled = true) (hfree : c.rdActive = none)
  (hask : c.rdWake = true ∨ d.rdFront 1 ≠ none)
include hen hfree hask

theorem Dev.rdPoll_asked : (!d.rdEnabled || c.rdActive.isSome || (!c.rdWake && (d.rdFront 1).isNone)) = false := by
  rcases hask with h | h
  · simp [hen, hfree, h]
  · simp [hen, hfree, Option.isNone_eq_false_iff.2 (Option.isSome_iff_ne_none.2 h)]

variable (hc : c = d.clp)
include hc

theorem Dev.rdPoll_deferred (hon : d.rdOn = (o, false)) : d.rdPoll tags = o := by
  have hasked := Dev.rdPoll_asked hen hfree hask
  simp only [Dev.rdPoll, ← hc, hasked, hon, Bool.not_false, Bool.true_or, Bool.false_eq_true, if_false, if_true]

variable (hon : d.rdOn = (o, true))
include hon

theorem Dev.rdPoll_settling (hwake : c.rdWake = true) (hclk : o.clk < o.clp.rdOnAt + 5 * ms) : d.rdPoll tags = o := by
  have hasked := Dev.rdPoll_asked hen hfree hask
  have hwait : (!true || (c.rdWake && decide (o.clk < o.clp.rdOnAt + 5 * ms))) = true := by simp [hwake, hclk]
  simp only [Dev.rdPoll, ← hc, hasked, hon, hwait, Bool.false_eq_true, if_false, if_true]

variable {x : Dev} (hready : c.rdWake = false ∨ o.clp.rdOnAt + 5 * ms ≤ o.clk)
  (hx : x = (if c.rdWake then o.setClp { o.clp with rdWake := false } else o.rdPopCmd))
  (hfound : found = (tags.foldl (fun l u => walkInsert u l) []).take (max 1 (x.f R.CLP_RDCTRL 0 8)))
  (he : e = (x.setClp { x.clp with rdTags := found, rdRats := [] }).forEach (List.range found.length)
    fun d i => d.rdRecord 1 i (found.getD i []))
include hready hx hfound he

theorem Dev.rdPoll_polls : d.rdPoll tags =
    ((if found.length = max 1 (x.f R.CLP_RDCTRL 0 8) then e.rdRecord 4 0 [] else e).setF R.CLP_RDSTAT 0 8
      (min 255 found.length)).rdRest := by
  have hasked := Dev.rdPoll_asked hen hfree hask
  have hgo : (!true || (c.rdWake && decide (o.clk < o.clp.rdOnAt + 5 * ms))) = false := by
    rcases hready with h | h <;> simp [h]
  simp only [Dev.rdPoll, ← hc, hasked, hon, hgo, Bool.false_eq_true, if_false, ← hx, ← hfound, ← he]

theorem Dev.rdPoll_limit (h : found.length = max 1 (x.f R.CLP_RDCTRL 0 8)) :
    d.rdPoll tags = ((e.rdRecord 4 0 []).setF R.CLP_RDSTAT 0 8 (min 255 found.length)).rdRest := by
  rw [Dev.rdPoll_polls hen hfree hask hc hon hready hx hfound he, if_pos h]

theorem Dev.rdPoll_below (h : found.length ≠ max 1 (x.f R.CLP_RDCTRL 0 8)) :
    d.rdPoll tags = (e.setF R.CLP_RDSTAT 0 8 (min 255 found.length)).rdRest := by
  rw [Dev.rdPoll_polls hen hfree hask hc hon hready hx hfound he, if_neg h]

end Poll

section Exchange
variable {fwi t : Nat} {l : List Byte} (hc : c = d.clp) (hfront : d.rdFront 2 = some (t, l)) (hen : d.rdEnabled = true)
  (hfree : c.rdActive = none)
include hc hfront hen hfree

theorem Dev.exchangeBlock_deferred (hon : d.rdOn = (o, false)) : d.exchangeBlock fwi = o := by
  simp only [Dev.exchangeBlock, hfront, hen, ← hc, hfree, hon, Option.isSome_none, Bool.not_true, Bool.not_false, Bool.or_self,
    Bool.false_eq_true, if_false, if_true]

variable (hon : d.rdOn = (o, true)) (he : e = o.rdPopCmd)
include hon he

theorem Dev.exchangeBlock_noTag (ht : e.clp.rdTags.length ≤ t) : d.exchangeBlock fwi = (e.rdRecord 5 t []).rdRest := by
  simp only [Dev.exchangeBlock, hfront, hen, ← hc, hfree, hon, Option.isSome_none, Bool.not_true, Bool.or_self,
    Bool.false_eq_true, if_false, ← he, if_pos ht]

variable (ht : t < e.clp.rdTags.length)
include ht

theorem Dev.exchangeBlock_begins : d.exchangeBlock fwi = e.setClp { e.clp with
    rdRats := if e.clp.rdRats.contains t then e.clp.rdRats else t :: e.clp.rdRats
    rdActive := some t, rdFwt := fwt fwi
    rdWait := some (e.clk + (if e.clp.rdRats.contains t then 0 else e.ansWait) + fwt fwi), rdNaks := 0, rdWtx := 0
    rdWaitFrom := e.clk } := by
  simp only [Dev.exchangeBlock, hfront, hen, ← hc, hfree, hon, Option.isSome_none, Bool.not_true, Bool.or_self,
    Bool.false_eq_true, if_false, ← he, if_neg (Nat.not_le.2 ht)]

theorem Dev.exchangeBlock_known (hr : e.clp.rdRats.contains t = true) : d.exchangeBlock fwi = e.setClp { e.clp with
    rdActive := some t, rdFwt := fwt fwi, rdWait := some (e.clk + fwt fwi), rdNaks := 0, rdWtx := 0
    rdWaitFrom := e.clk } := by
  rw [Dev.exchangeBlock_begins hc hfront hen hfree hon he ht]
  simp only [hr, if_true, Nat.add_zero]

theorem Dev.exchangeBlock_activates (hr : e.clp.rdRats.contains t = false) : d.exchangeBlock fwi = e.setClp { e.clp with
    rdRats := t :: e.clp.rdRats
    rdActive := some t, rdFwt := fwt fwi, rdWait := some (e.clk + e.ansWait + fwt fwi), rdNaks := 0, rdWtx := 0
    rdWaitFrom := e.clk } := by
  rw [Dev.exchangeBlock_begins hc hfront hen hfree hon he ht]
  simp only [hr, Bool.false_eq_true, if_false]

end Exchange

/-! ## Replies and expiries (R423) -/

section Replies
variable {t : Nat} {l : List Byte} (hc : c = d.clp) (ht : c.rdActive = some t)
include hc ht

theorem Dev.readerReply_data :
    d.readerReply 0 l = ((d.setClp { c with rdActive := none, rdWait := none }).rdRecord 2 t l).rdRest := by
  simp only [Dev.readerReply, ← hc, ht, if_true, Dev.setClp]

section Wtx
variable {wait : Nat} (hwait : wait = c.rdFwt * (l.headD 1#8).toNat)
include hwait

theorem Dev.readerReply_wtx : d.readerReply 1 l =
    if c.rdWtx < d.f R.CLP_RDTMO 8 8 ∧ d.clk + wait ≤ c.rdWaitFrom + d.f R.CLP_RDTMO 16 16 * ms then
      d.setClp { c with rdWtx := c.rdWtx + 1, rdWait := some (d.clk + wait) }
    else d := by
  simp only [Dev.readerReply, ← hc, ht, ← hwait, Nat.one_ne_zero, if_false, if_true]

theorem Dev.readerReply_waits (hwtx : c.rdWtx < d.f R.CLP_RDTMO 8 8)
    (hin : d.clk + wait ≤ c.rdWaitFrom + d.f R.CLP_RDTMO 16 16 * ms) :
    d.readerReply 1 l = d.setClp { c with rdWtx := c.rdWtx + 1, rdWait := some (d.clk + wait) } := by
  rw [Dev.readerReply_wtx hc ht hwait, if_pos ⟨hwtx, hin⟩]

theorem Dev.readerReply_beyond (h : d.f R.CLP_RDTMO 8 8 ≤ c.rdWtx ∨
    c.rdWaitFrom + d.f R.CLP_RDTMO 16 16 * ms < d.clk + wait) : d.readerReply 1 l = d := by
  rw [Dev.readerReply_wtx hc ht hwait, if_neg]
  rintro ⟨hwtx, hin⟩
  rcases h with h | h
  · exact absurd hwtx (Nat.not_lt.2 h)
  · exact absurd hin (Nat.not_le.2 h)

end Wtx

theorem Dev.readerReply_error : d.readerReply 2 l = ((d.rdRelease t).rdRecord 5 t []).rdRest := by
  simp only [Dev.readerReply, ← hc, ht, show ¬ 2 = 0 by decide, show ¬ 2 = 1 by decide, if_false]

section Expiry
variable {w : Nat} (hw : c.rdWait = some w) (hdue : w ≤ d.clk)
include hw hdue

theorem Dev.readerExpiry_nak (hn : c.rdNaks = 0) :
    d.readerExpiry = d.setClp { c with rdNaks := 1, rdWait := some (d.clk + c.rdFwt) } := by
  simp only [Dev.readerExpiry, ← hc, ht, hw, if_neg (Nat.not_lt.2 hdue), hn, if_true]

theorem Dev.readerExpiry_ends (hn : c.rdNaks ≠ 0) : d.readerExpiry = ((d.rdRecord 3 t []).rdRelease t).rdRest := by
  simp only [Dev.readerExpiry, ← hc, ht, hw, if_neg (Nat.not_lt.2 hdue), if_neg hn]

end Expiry
end Replies

theorem Dev.readerRelease_releases {t : Nat} {l : List Byte} (hfront : d.rdFront 3 = some (t, l)) (hen : d.rdEnabled = true) :
    d.readerRelease = (d.rdPopCmd.rdRelease t).rdRest := by
  simp only [Dev.readerRelease, hfront, hen, if_true]

theorem Dev.readerFieldOff_off {x : Nat × List Byte} (hfront : d.rdFront 4 = some x) (hp : d.pdRun 15 = true) :
    d.readerFieldOff = d.rdPopCmd.rdOff := by
  simp only [Dev.readerFieldOff, hfront, hp, Option.isSome_some, Bool.and_self, if_true]

theorem Dev.deferralEnd_turnsOn (hdef : d.b R.CLP_RDSTAT 30 = true) (hf : d.clp.field = false)
    (hdue : d.clp.fieldLost + 5 * ms ≤ d.clk) (hen : d.rdEnabled = true) :
    d.deferralEnd = ((d.setB R.CLP_RDSTAT 30 false).rdOn).1 := by
  simp only [Dev.deferralEnd, hdef, hf, hdue, hen, decide_true, Bool.not_false, Bool.and_self, if_true]

/-- Settles O57. When the reader's field goes off and how a measurement follows its base are the model's choices (logs 76
and 77). -/
theorem reader : Obligations.Reader := by
  refine fun s c hc hl => ⟨?_, ?_, ?_, ?_, ?_, ?_, ?_, ?_, ?_⟩
  · exact fun count d hen hwake hoff hdue hd => ⟨fun h => acted_eq hl (Dev.wakeMeasure_wakes hc hen hwake hoff hdue hd h),
      fun h => acted_eq hl (Dev.wakeMeasure_follows hc hen hwake hoff hdue hd h)⟩
  · exact fun tags found o d e hen hfree hask => ⟨fun hon => acted_eq hl (Dev.rdPoll_deferred hen hfree hask hc hon),
      fun hon hwake hclk => acted_eq hl (Dev.rdPoll_settling hen hfree hask hc hon hwake hclk),
      fun hon hready hd hfound he =>
        ⟨fun h => acted_eq hl (Dev.rdPoll_limit hen hfree hask hc hon hready hd hfound he h),
        fun h => acted_eq hl (Dev.rdPoll_below hen hfree hask hc hon hready hd hfound he h)⟩⟩
  · exact fun fwi t l o d hfront hen hfree =>
      ⟨fun hon => acted_eq hl (Dev.exchangeBlock_deferred hc hfront hen hfree hon), fun hon hd =>
        ⟨fun ht => acted_eq hl (Dev.exchangeBlock_noTag hc hfront hen hfree hon hd ht),
        fun ht hr => acted_eq hl (Dev.exchangeBlock_known hc hfront hen hfree hon hd ht hr),
        fun ht hr => acted_eq hl (Dev.exchangeBlock_activates hc hfront hen hfree hon hd ht hr)⟩⟩
  · exact fun t l wait ht hwait => ⟨acted_eq hl (Dev.readerReply_data hc ht),
      fun hwtx hin => acted_eq hl (Dev.readerReply_waits hc ht hwait hwtx hin),
      fun h => acted_eq hl (Dev.readerReply_beyond hc ht hwait h), acted_eq hl (Dev.readerReply_error hc ht)⟩
  · exact fun t w ht hw hdue => ⟨fun hn => acted_eq hl (Dev.readerExpiry_nak hc ht hw hdue hn),
      fun hn => acted_eq hl (Dev.readerExpiry_ends hc ht hw hdue hn)⟩
  · exact fun t l hfront hen => acted_eq hl (Dev.readerRelease_releases hfront hen)
  · exact fun x hfront hp => acted_eq hl (Dev.readerFieldOff_off hfront hp)
  · subst hc
    exact fun hdef hf hdue hen => acted_eq hl (Dev.deferralEnd_turnsOn hdef hf hdue hen)
  · exact fun r w hw => acted_byWrite_eq hl hw rfl

end Sys2Proof.Machine

/-! # Proofs: the test access port, debug access and register access (R432 to R460) -/

namespace Sys2Proof.Machine

variable {d e : Dev}

/-! ## The test access port (R439 to R449) -/

theorem Dev.setIr_core {ir : Nat} {tlr : Bool} (hpin : (pinOpcode ir && !tlr) = false) : d.setIr ir tlr =
    { d with tap := { d.tap with ir := ir, tlr := tlr } }.setReg R.TST_STATUS (pack [(31, 0), (30, b2n tlr), (16, ir)]) := by
  simp only [Dev.setIr, hpin, Bool.not_false, if_true]
  rfl

section Tap
variable (hon : d.tapOn = true)
include hon

theorem Dev.updateIr_on {ir : Nat} {cells : List Bool} :
    d.updateIr ir cells = ({ d with tap := { d.tap with boundary := cells } } : Dev).setIr ir false := by
  simp only [Dev.updateIr, hon, Bool.not_true, Bool.false_eq_true, if_false]

theorem Dev.updateIr_core {ir : Nat} {cells : List Bool} (hpin : pinOpcode ir = false) : d.updateIr ir cells =
    { d with tap := { d.tap with boundary := cells, ir := ir, tlr := false } }.setReg R.TST_STATUS
      (pack [(31, 0), (30, 0), (16, ir)]) := by
  rw [Dev.updateIr_on hon, Dev.setIr_core (by rw [hpin, Bool.false_and])]
  rfl

theorem Dev.trst_resets : d.trst = { d with tap := { d.tap with ir := 2, tlr := true } }.setReg R.TST_STATUS
    (pack [(31, 0), (30, 1), (16, 2)]) := by
  simp only [Dev.trst, hon, Bool.not_true, Bool.false_eq_true, if_false]
  exact Dev.setIr_core rfl

section Idle
variable {edges : Nat} (htlr : d.tap.tlr = false)
include htlr

theorem Dev.runTestIdle_pulse (hir : d.tap.ir = 5) :
    d.runTestIdle edges = { d with tap := { d.tap with pulses := d.tap.pulses + 2 } } := by
  simp only [Dev.runTestIdle, hon, htlr, Bool.not_true, Bool.or_self, Bool.false_eq_true, if_false, if_pos hir]

theorem Dev.runTestIdle_train (hir : d.tap.ir = 6) :
    d.runTestIdle edges = { d with tap := { d.tap with pulses := d.tap.pulses + edges } } := by
  have hpulse : ¬ d.tap.ir = 5 := by omega
  simp only [Dev.runTestIdle, hon, htlr, Bool.not_true, Bool.or_self, Bool.false_eq_true, if_false, if_neg hpulse, if_pos hir]

end Idle

section Access
variable {write : Bool} {off : Nat} {v : Word} (hir : d.tap.ir = 0x20)
include hir

theorem Dev.csAccess_barred (h : d.b R.TST_DBGCTL 0 = false ∨ off % 4 ≠ 0) :
    d.csAccess write off v = d.csEnd true 0#32 := by
  have hbar : (!d.b R.TST_DBGCTL 0 || off % 4 != 0 || decide (0x1000000 ≤ off)) = true := by
    rcases h with h | h <;> simp [h]
  have hsel : (d.tap.ir != 0x20) = false := by rw [hir, bne_self_eq_false]
  simp only [Dev.csAccess, hon, hsel, hbar, Bool.not_true, Bool.or_self, Bool.false_eq_true, if_false, if_true]

variable (hen : d.b R.TST_DBGCTL 0 = true) (halign : off % 4 = 0) (hin : off < 0x1000000)
include hen halign hin

theorem Dev.csAccess_enabled : d.csAccess write off v =
    match (if write then d.regWrite 68 off v else d.regRead 68 off) with
    | .done e w => e.csEnd (decide (d.gate 68 off write = .denied)) w
    | .wait => d
    | .fail e => e.csEnd true 0#32 := by
  have hsel : (d.tap.ir != 0x20) = false := by rw [hir, bne_self_eq_false]
  have hgo : (!d.b R.TST_DBGCTL 0 || off % 4 != 0 || decide (0x1000000 ≤ off)) = false := by
    simp [hen, halign, hin]
  simp only [Dev.csAccess, hon, hsel, hgo, Bool.not_true, Bool.or_self, Bool.false_eq_true, if_false] <;> rfl

theorem Dev.csAccess_unassigned (hg : d.gate 68 off write = .unassigned) :
    d.csAccess write off v = d.csEnd true 0#32 := by
  rw [Dev.csAccess_enabled hon hir hen halign hin]
  cases write with
  | false => simp only [Dev.regRead, hg, Bool.false_eq_true, if_false]
  | true => simp only [Dev.regWrite, Dev.writeWith, hg, if_true]

theorem Dev.csAccess_reads {row : RegRow} {x : Dev × Word} (hw : write = false) (hg : d.gate 68 off false = .go row)
    (hx : x = d.readReg 68 off row) : d.csAccess write off v = x.1.csEnd false x.2 := by
  subst hw hx
  rw [Dev.csAccess_enabled hon hir hen halign hin]
  simp only [Dev.regRead, hg, Bool.false_eq_true, if_false, reduceCtorEq, decide_false]

theorem Dev.csAccess_writes {row : RegRow} (hw : write = true) (hg : d.gate 68 off true = .go row) :
    d.csAccess write off v = (d.writeEffect 68 off row v).csEnd false 0#32 := by
  subst hw
  rw [Dev.csAccess_enabled hon hir hen halign hin]
  simp only [Dev.regWrite, Dev.writeWith, hg, if_true, reduceCtorEq, decide_false]

end Access
end Tap

theorem Dev.tapOn_eq (hl : d.power.inReset = false) : d.tapOn = d.pdRun 7 := by
  rw [Dev.tapOn, hl, Bool.not_false, Bool.true_and]

theorem Dev.csAccess_off {write : Bool} {off : Nat} {v : Word} (h : d.tapOn = false) : d.csAccess write off v = d := by
  simp only [Dev.csAccess, h, Bool.not_false, Bool.true_or, if_true]

/-- Settles O58. What the port answers where the spec leaves it open, ERR with CS_EN = 0 among it, is the model's choice
(log 83). -/
theorem testAccess : Obligations.TestAccess := by
  intro s hl
  have htap := Dev.tapOn_eq hl
  refine ⟨fun ir cells hp => ⟨acted_eq hl (Dev.updateIr_on (htap.trans hp)),
      fun hpin => acted_eq hl (Dev.updateIr_core (htap.trans hp) hpin)⟩, fun hp => acted_eq hl (Dev.trst_resets (htap.trans hp)),
    fun edges hp htlr => ⟨fun hir => acted_eq hl (Dev.runTestIdle_pulse (htap.trans hp) htlr hir),
      fun hir => acted_eq hl (Dev.runTestIdle_train (htap.trans hp) htlr hir)⟩,
    fun wr off v hp hir => ⟨fun h => acted_eq hl (Dev.csAccess_barred (htap.trans hp) hir h), fun hen halign => ?_⟩,
    fun hp wr off v => acted_eq hl (Dev.csAccess_off (htap.trans hp))⟩
  have hin : off.toNat < 0x1000000 := off.isLt
  exact ⟨fun hg => acted_eq hl (Dev.csAccess_unassigned (htap.trans hp) hir hen halign hin hg),
    fun row x hw hg hx => acted_eq hl (Dev.csAccess_reads (htap.trans hp) hir hen halign hin hw hg hx),
    fun row hw hg => acted_eq hl (Dev.csAccess_writes (htap.trans hp) hir hen halign hin hw hg)⟩

/-! ## Debug access (R450) -/

section Debug
variable {p : Fin 3} {halt : Bool} {op : Dev → Option (Dev × Word)} (hon : d.tapOn = true) (hir : d.tap.ir = 0x21)
include hon hir

theorem Dev.dbgOp_selected : d.dbgOp p halt op =
    if !d.b R.TST_DBGCTL (if p = 2 then 2 else 1) || (halt && (d.cpu (64 + p.val)).run != .halted) then d.dbgEnd p true 0#32
    else match op d with
      | some (e, v) => e.dbgEnd p false v
      | none => d.dbgEnd p true 0#32 := by
  have hsel : (d.tap.ir != 0x21) = false := by rw [hir, bne_self_eq_false]
  simp only [Dev.dbgOp, hon, hsel, Bool.not_true, Bool.or_self, Bool.false_eq_true, if_false] <;> rfl

theorem Dev.dbgOp_disabled (hen : d.b R.TST_DBGCTL (if p = 2 then 2 else 1) = false) :
    d.dbgOp p halt op = d.dbgEnd p true 0#32 := by
  rw [Dev.dbgOp_selected hon hir, hen, Bool.not_false, Bool.true_or, if_pos rfl]

theorem Dev.dbgOp_notHalted (hrun : (d.cpu (64 + p.val)).run ≠ .halted) : d.dbgOp p true op = d.dbgEnd p true 0#32 := by
  rw [Dev.dbgOp_selected hon hir, if_pos (by simp [hrun])]

theorem Dev.dbgOp_does {v : Word} (hen : d.b R.TST_DBGCTL (if p = 2 then 2 else 1) = true)
    (hrun : halt = false ∨ (d.cpu (64 + p.val)).run = .halted) (hop : op d = some (e, v)) :
    d.dbgOp p halt op = e.dbgEnd p false v := by
  have hgo : (halt && (d.cpu (64 + p.val)).run != .halted) = false := by rcases hrun with h | h <;> simp [h]
  rw [Dev.dbgOp_selected hon hir, hen, hgo, hop]
  rfl

end Debug

/-- Settles O59. -/
theorem debugAccess : Obligations.DebugAccess := by
  rintro s p en c hl hp hir rfl rfl
  have hon : s.dev.tapOn = true := (Dev.tapOn_eq hl).trans hp
  refine ⟨fun hen a v arg => ?_, fun hen hrun a v arg => ?_, fun hen => ⟨?_, fun hrun => ?_⟩,
    fun hen hrun => ⟨?_, ?_, fun arg v harg => ⟨?_, ?_⟩, fun arg v m hlow hhigh hm => ?_, fun a f hf hecc => ?_,
      fun a v f hf => ?_⟩⟩
  · exact ⟨acted_eq hl (Dev.dbgOp_disabled hon hir hen), acted_eq hl (Dev.dbgOp_disabled hon hir hen),
      acted_eq hl (Dev.dbgOp_disabled hon hir hen), acted_eq hl (Dev.dbgOp_disabled hon hir hen),
      acted_eq hl (Dev.dbgOp_disabled hon hir hen), acted_eq hl (Dev.dbgOp_disabled hon hir hen),
      acted_eq hl (Dev.dbgOp_disabled hon hir hen), acted_eq hl (Dev.dbgOp_disabled hon hir hen)⟩
  · exact ⟨acted_eq hl (Dev.dbgOp_notHalted hon hir hrun), acted_eq hl (Dev.dbgOp_notHalted hon hir hrun),
      acted_eq hl (Dev.dbgOp_notHalted hon hir hrun), acted_eq hl (Dev.dbgOp_notHalted hon hir hrun),
      acted_eq hl (Dev.dbgOp_notHalted hon hir hrun), acted_eq hl (Dev.dbgOp_notHalted hon hir hrun)⟩
  · exact acted_eq hl (Dev.dbgOp_does hon hir hen (.inl rfl) rfl)
  · exact acted_eq hl (Dev.dbgOp_does hon hir hen (.inl rfl) (by rw [if_pos hrun]))
  · exact acted_eq hl (Dev.dbgOp_does hon hir hen (.inr hrun) rfl)
  · exact acted_eq hl (Dev.dbgOp_does hon hir hen (.inr hrun) rfl)
  · exact acted_eq hl (Dev.dbgOp_does hon hir hen (.inr hrun) (if_pos harg))
  · exact acted_eq hl (Dev.dbgOp_does hon hir hen (.inr hrun) (if_pos harg))
  · exact acted_eq hl (Dev.dbgOp_does hon hir hen (.inr hrun) (by
      rw [if_neg (Nat.not_lt.2 hlow), if_pos hhigh, hm]
      rfl))
  · exact acted_eq hl (Dev.dbgOp_does hon hir hen (.inr hrun) (by
      have hload : s.dev.loadAt (dbgProc p) a 4 (.mem f) = .ok (s.dev.loaded f 4) (wd (leNat (s.dev.rdBytes f 4))) :=
        Dev.memLoad_good hecc
      simp only [hf, hload]
      rfl))
  · exact acted_eq hl (Dev.dbgOp_does hon hir hen (.inr hrun) (by
      simp only [hf, Dev.storeAt]
      rfl))

/-! ## Register access (R396, R454 to R460) -/

theorem Req.num_eq_host (r : Req) : r.num = 67 ↔ r = .host := by
  cases r with
  | eng n =>
    have hn := n.isLt
    simp only [Req.num, reduceCtorEq, iff_false]
    omega
  | mp h => cases h <;> decide
  | custody => decide
  | host => decide
  | tap => decide

section Write
variable {r : Req} {off : Nat} {v : Word}

section Block
variable (halign : off % 4 = 0) (hin : off < 0x1000000)
  (he : e = (if r = .host ∧ d.pdRun 13 = true then d.pmcOctets 0 1 4 else d))
include halign hin he

theorem Dev.anyWrite_register : d.anyWrite r off v = (e.regWrite r.num off v).dev e := by
  have hsent : (if (r.num = 67 && d.pdRun 13) = true then d.pmcOctets 0 1 4 else d) = e := by
    simp only [he, Bool.and_eq_true, decide_eq_true_eq, Req.num_eq_host]
  have hbar : ¬ (r.num = 67 ∧ 0x2000000 ≤ off) := by omega
  have hbad : ¬ (off % 4 ≠ 0 ∨ 0x1000000 ≤ off) := by omega
  simp only [Dev.anyWrite, hsent, if_neg hbar, if_neg hbad]

theorem Dev.anyWrite_undefined (hg : e.gate r.num off true = .undefined) : d.anyWrite r off v = e := by
  rw [Dev.anyWrite_register halign hin he]
  simp only [Dev.regWrite, Dev.writeWith, hg, Acc1.dev]

theorem Dev.anyWrite_waits (hg : e.gate r.num off true = .waits) : d.anyWrite r off v = e := by
  rw [Dev.anyWrite_register halign hin he]
  simp only [Dev.regWrite, Dev.writeWith, hg, Acc1.dev]

theorem Dev.anyWrite_stopped (hg : e.gate r.num off true = .stopped) :
    d.anyWrite r off v = e.writeStopped r.num off := by
  rw [Dev.anyWrite_register halign hin he]
  simp only [Dev.regWrite, Dev.writeWith, hg, Acc1.dev]

theorem Dev.anyWrite_denied (hg : e.gate r.num off true = .denied) (hlock : e.lockedAt off = false) :
    d.anyWrite r off v = e.accErr r.num off 2 true := by
  rw [Dev.anyWrite_register halign hin he]
  simp only [Dev.regWrite, Dev.writeWith, hg, hlock, Bool.and_false, Bool.false_eq_true, if_false, Acc1.dev]

theorem Dev.anyWrite_locked (hg : e.gate r.num off true = .denied) (hlock : e.lockedAt off = true) (hlow : 0xB0000 ≤ off)
    (hhigh : off < 0xC0000) : d.anyWrite r off v = (e.setB R.EVR_STATUS 1 true).accErr r.num off 2 true := by
  rw [Dev.anyWrite_register halign hin he]
  simp only [Dev.regWrite, Dev.writeWith, hg, hlock, hlow, hhigh, and_self, decide_true, Bool.and_self, if_true, Acc1.dev]

theorem Dev.anyWrite_effect {row : RegRow} (hg : e.gate r.num off true = .go row) :
    d.anyWrite r off v = e.writeEffect r.num off row v := by
  rw [Dev.anyWrite_register halign hin he, Dev.regWrite_lets hg]

end Block

theorem Dev.writeStopped_plain {n : Nat} (h : gateCmdUnit off = none ∨ n ≠ 64 ∧ n ≠ 65) :
    d.writeStopped n off = d.accErr n off 1 true := by
  unfold Dev.writeStopped
  rcases h with h | ⟨h64, h65⟩
  · rw [h]
  · split
    · exact if_neg (by simp [h64, h65])
    · rfl

theorem Dev.writeStopped_gateCommand {n u : Nat} (hu : gateCmdUnit off = some u) (h : n = 64 ∨ n = 65) :
    d.writeStopped n off = d.armResult (n - 64) u 0 gNOTPERM := by
  simp only [Dev.writeStopped, hu, if_pos h]

theorem Dev.beside_pmcOctets (d : Dev) (port dir n : Nat) : d.Beside (d.pmcOctets port dir n) :=
  d.beside_onFab fun f => by
    dsimp only
    split
    · exact f.apart_refl
    · refine Fab.apart_foldl _ (fun k hk g => ?_) f
      split
      · exact Fab.apart_pmcAdd (fun f _ hch => f.apart_fabPost hch) g (Fab.pmcs_lt hk) n
      · exact g.apart_refl

theorem Dev.bar2Write_entry {i : Nat} (hi : i < 256) (hpend : d.host.msixPend.contains (i / 4) = false) :
    d.bar2Write (0x1000 + 4 * i) v = { d with host := { d.host with
      msix := tput msixDflt d.host.msix i
        (if i % 4 = 3 then v &&& 1#32 else if i % 4 = 0 then v &&& 0xFFFFFFFC#32 else v) } } := by
  have htable : ¬ ((0x1000 + 4 * i) % 4 ≠ 0 ∨ 0x1000 + 4 * i < 0x1000 ∨ 0x1400 ≤ 0x1000 + 4 * i) := by omega
  have hindex : (0x1000 + 4 * i - 0x1000) / 4 = i := by omega
  rw [Dev.bar2Write, if_neg htable, hindex]
  simp only [hpend, Bool.false_and, Bool.false_eq_true, if_false]

theorem Dev.anyWrite_bar2 (hp : d.pdRun 13 = true) (he : e = d.pmcOctets 0 1 4) (hp13 : e.pdRun 13 = true) {x : Nat}
    (hoff : off = 0x2000000 + x) : d.anyWrite .host off v = e.bar2Write x v := by
  have hnum : Req.host.num = 67 := rfl
  have hbar : 0x2000000 ≤ off := by omega
  have hx : off - 0x2000000 = x := by omega
  simp only [Dev.anyWrite, hnum, hp, decide_true, Bool.and_self, if_true, true_and, if_pos hbar, ← he, hp13, hx]

end Write

section Read
variable {off : Nat} (he : e = (if d.pdRun 13 then d.pmcOctets 0 2 4 else d))
include he

theorem Dev.hostRead_parts : d.hostRead off false = { e with bus := some (67, off, none) } := by
  simp only [Dev.hostRead, ← he, Bool.and_false, Bool.false_and, Bool.not_false, Bool.true_or, Bool.false_eq_true, if_false,
    if_true]

variable (halign : off % 4 = 0)
include halign

theorem Dev.hostRead_bar2 (hp : e.pdRun 13 = true) (hlow : 0x2000000 ≤ off) (hhigh : off < 0x2002000) :
    d.hostRead off true = { e with bus := some (67, off, some (e.bar2Word (off - 0x2000000))) } := by
  simp only [Dev.hostRead, ← he, hp, halign, hlow, hhigh, and_self, decide_true, beq_self_eq_true, Bool.and_self, if_true]

variable (hin : off < 0x1000000)
include hin

theorem Dev.hostRead_register : d.hostRead off true = e.byRead .host off := by
  have hbar : ¬ (0x2000000 ≤ off ∧ off < 0x2002000) := by omega
  simp only [Dev.hostRead, ← he, halign, decide_eq_false hbar, decide_eq_false (Nat.not_le.2 hin), bne_self_eq_false,
    Bool.and_false, Bool.not_true, Bool.or_self, Bool.false_eq_true, if_false]

theorem Dev.hostRead_unassigned (hg : e.gate 67 off false = .unassigned) :
    d.hostRead off true = { e with bus := some (67, off, none) } := by
  rw [Dev.hostRead_register he halign hin]
  simp only [Dev.byRead, Dev.regRead, Req.num, hg]

theorem Dev.hostRead_undefined (hg : e.gate 67 off false = .undefined) :
    d.hostRead off true = { e with bus := some (67, off, some 0#32) } := by
  rw [Dev.hostRead_register he halign hin]
  simp only [Dev.byRead, Dev.regRead, Req.num, hg]

theorem Dev.hostRead_stopped (hg : e.gate 67 off false = .stopped) :
    d.hostRead off true = { e.accErr 67 off 1 false with bus := some (67, off, some 0xFFFFFFFF#32) } := by
  rw [Dev.hostRead_register he halign hin]
  simp only [Dev.byRead, Dev.regRead, Req.num, hg]

theorem Dev.hostRead_answers {row : RegRow} (hg : e.gate 67 off false = .go row) : d.hostRead off true =
    { (e.readReg 67 off row).1 with bus := some (67, off, some (e.readReg 67 off row).2) } := by
  rw [Dev.hostRead_register he halign hin]
  exact Dev.byRead_answers (r := .host) hg

end Read

theorem Dev.lockReg_locks {r : Req} {x : LockReg} {row : RegRow} {bit : Nat} (hg : d.gate r.num (lockOff x) true = .go row)
    (hchannel : ∀ k, x = .channel k → bit = 30) (hother : (∀ k, x ≠ .channel k) → bit = 31) :
    d.lockReg r x = d.writeEffect r.num (lockOff x) row (setBit (d.reg (lockOff x)) bit true) := by
  cases x with
  | channel k =>
    obtain rfl := hchannel k rfl
    exact Dev.regWrite_lets hg _
  | cell c =>
    obtain rfl := hother nofun
    exact Dev.regWrite_lets hg _
  | dbgctl =>
    obtain rfl := hother nofun
    exact Dev.regWrite_lets hg _

/-- Settles O60. The answer to a Main Processor's command of a stopped Gate Unit, and what waits while its domain
prepares, are the model's choices (logs 88 and 118). -/
theorem registerAccess : Obligations.RegisterAccess := by
  refine fun s r hl => ⟨fun off v e halign hin he => ?_, fun off v i d hr hp hi hoff hd hpend => ?_,
    fun off e halign he => ⟨fun hin => ?_, fun hp hlow hhigh => acted_eq hl (Dev.hostRead_bar2 he halign hp hlow hhigh),
      acted_eq hl (Dev.hostRead_parts he)⟩,
    fun x row bit hg hchannel hother => acted_eq hl (Dev.lockReg_locks hg hchannel hother)⟩
  · exact ⟨fun hg => acted_eq hl (Dev.anyWrite_undefined halign hin he hg),
      fun hg => acted_eq hl (Dev.anyWrite_waits halign hin he hg),
      fun hg h => acted_eq hl ((Dev.anyWrite_stopped halign hin he hg).trans (Dev.writeStopped_plain h)),
      fun u hg hu h => acted_eq hl ((Dev.anyWrite_stopped halign hin he hg).trans (Dev.writeStopped_gateCommand hu h)),
      fun hg hlock => acted_eq hl (Dev.anyWrite_denied halign hin he hg hlock),
      fun hg hlock hlow hhigh => acted_eq hl (Dev.anyWrite_locked halign hin he hg hlock hlow hhigh),
      fun row hg => acted_eq hl (Dev.anyWrite_effect halign hin he hg)⟩
  · subst hr
    have hp13 : d.pdRun 13 = true := by
      rw [hd, (s.dev.beside_pmcOctets 0 1 4).pdRun_eq (by decide)]
      exact hp
    exact acted_eq hl ((Dev.anyWrite_bar2 hp hd hp13 (by omega)).trans (Dev.bar2Write_entry hi hpend))
  · exact ⟨fun hg => acted_eq hl (Dev.hostRead_unassigned he halign hin hg),
      fun hg => acted_eq hl (Dev.hostRead_undefined he halign hin hg),
      fun hg => acted_eq hl (Dev.hostRead_stopped he halign hin hg),
      fun row hg => acted_eq hl (Dev.hostRead_answers he halign hin hg)⟩

end Sys2Proof.Machine
